-- ==== Sys2Proof/Word.lean ====
section
/-!
DEFINITION. The register word of the QX880 (R7: every register is 32 bits wide) and its byte.
-/
namespace Sys2Proof

/-- A register word: 32 bits (R7). -/
abbrev Word := BitVec 32

/-- One byte on a wire or in a frame. -/
abbrev Byte := BitVec 8

end Sys2Proof
end

