-- ==== Sys2Proof/Syntax.lean ====
section
/-!
DEFINITION. The commands of the block: one constructor for each row of the table of operations and events. The
table gives no operand; the operands are the data that the event brings from outside (samples, frames,
records, pin levels, the instance concerned), as the rule of each row names it.
-/
namespace Sys2Proof

/-- What a resolver interface latches at TICK (R68, R69): angle, speed in 1/256 LSB per tick, and the sine and cosine
amplitudes of the excitation period. -/
structure ResSample where
  angle : BitVec 16
  speed : Int
  sin : Int
  cos : Int
  deriving DecidableEq, Repr

/-- What TICK samples (R57, R68, R82): 96 raw codes, the spare core's code, 8 resolvers, and the fault returns of the
retarder stages (bit s set: asserted); and the baseplate temperature at its sensor, 0.1 °C (R485). -/
structure Snap where
  ain : List Int
  spare : Int
  res : List ResSample
  fltRet : Nat
  temp : Int := 0
  deriving DecidableEq, Repr

/-- A physical bit error: bits `mask` of word `word` of an axis are inverted. -/
structure BitErr where
  axis : Fin 16
  word : Nat
  mask : Nat
  deriving DecidableEq, Repr

/-- What goes wrong in a pass: axes whose run has not ended at the window's end, wrong result words, wrong words of the
state of record in the pass's bank, words of the plain record whose bank parity fails, and wrong hold-store words
(bit 24 is the parity bit). -/
structure PassEnv where
  unfinished : List (Fin 16)
  result : List BitErr
  record : List BitErr
  parity : List BitErr
  hold : List BitErr
  deriving DecidableEq, Repr

/-- What one comparator rail reports (R182): its code, and the cause and word that its own logic has found. -/
structure RailRep where
  code : BitVec 2
  found : Option (Fin 4 × Fin 64)
  deriving DecidableEq, Repr

/-- What the two rails report. -/
structure RailPair where
  a : RailRep
  b : RailRep
  deriving DecidableEq, Repr

/-- An axis whose rails do not both report what the comparison finds. -/
structure RailOut where
  axis : Fin 16
  rails : RailPair
  deriving DecidableEq, Repr

/-- What the off-state diagnosis measures at one half-bridge, mV: sink step, source step (R241). -/
structure NodeMeas where
  sink : Nat
  source : Nat
  deriving DecidableEq, Repr

/-- The last three samples of a bus comparator, the oldest first (R227, R229). -/
structure Samples where
  x : Int
  y : Int
  z : Int
  deriving DecidableEq, Repr

/-- The last three samples of the comparator of a bus. -/
structure BusSamples where
  bus : Fin 4
  samples : Samples
  deriving DecidableEq, Repr

/-- A scan of the data register ends in its update (R500, R501): what is shifted in for the data cells of the gate outputs, GH_hh at 2·hh
and GL_hh at 2·hh + 1, and for the other cells; what each BV_g reads, mV; and the levels that the other cells find at their contacts as
the scan begins. -/
structure ScanUpdate where
  gates : List Bool
  cells : List Bool
  bv : List Nat
  pins : List Bool := []
  deriving DecidableEq, Repr

/-- Verdict over an axis (R182-R187). -/
inductive Verdict where
  | none | match_ | plain | rerun | noVerdict | waiting
  deriving DecidableEq, Repr

/-- One axis in an exchange record (R298): 8 bytes per enabled axis. -/
structure XAxis where
  slot : Fin 16
  state : Nat
  verdict : Verdict
  contrib : Bool
  lost : Bool
  u : Int
  deriving DecidableEq, Repr

/-- One shared input in an exchange record. -/
structure XInput where
  k : Nat
  invalid : Bool
  value : Int
  deriving DecidableEq, Repr

/-- A command carried in an exchange record with its cycle counter (R286). -/
structure XCmd where
  cycle : Nat
  fields : List Int
  deriving DecidableEq, Repr

/-- A copy of a record on one link (R289, R310): its CRC is correct, the invalid code groups in it, and whether it comes after the
other link's copy. -/
structure XCopy where
  ok : Bool
  code : Nat
  second : Bool
  deriving DecidableEq, Repr

/-- The types of frame on a link (R291, R298): a record with every section, one of header and lane status only, as a TERMINAL module
sends it, and an idle frame, which carries nothing. -/
inductive RecType where
  | full | status | idle
  deriving DecidableEq, Repr

/-- An exchange record (R298): spans coded as MM_SPAN, the four links as LK_STAT.STATE; `wait` and `meet` say how the sender stands with the admission
conditions (log entry 17): header, lane status, commands, axes, shared inputs, chain state. -/
structure XRec where
  kind : RecType
  lsys : Nat
  pos : Nat
  letter : Nat
  state : Nat
  tick : Nat
  len : Nat
  crc : BitVec 32
  hold : Nat
  release : Nat
  ready : Nat
  parkGrant : Bool
  tqGrant : Bool
  phase : Nat
  esc : Bool
  sel : Nat
  still : Nat
  aReq : Nat
  sitil : Nat
  inputs : List Nat
  axesLost : List Nat
  west : Nat
  east : Nat
  links : List Nat
  cand : Bool
  leaving : Bool
  excl : Nat
  wait : Nat
  meet : Nat
  braking : Option XCmd
  steering : Option XCmd
  axes : List XAxis
  shared : List XInput
  chain : Option (List Int)
  deriving DecidableEq, Repr

/-- A host port request frame without its CMD byte, which the command's row stands for (R449). -/
structure HostReq where
  tag : BitVec 8
  addr : BitVec 24
  len : BitVec 16
  data : List (BitVec 32)
  crc : BitVec 16
  deriving DecidableEq, Repr

/-- A remote request as it arrives (R455, R456): the port, the frame's NODE_ID, which is the requester, the entry's BCAST flag, and the
bytes of the REMOTE payload. -/
structure RemoteReq where
  port : Fin 4
  node : BitVec 16
  bcast : Bool
  payload : List (BitVec 8)
  deriving DecidableEq, Repr

/-- How one self-test step ended (R391-R399): passed, with or without an edge of the output of a driver-slice item (R395); failed,
with the driver slice that failed; skipped with the causes that BIST_SKIP shows (bit 0 clock, 1 D2, 2 AFE); or discarded with its
shadow (R394); or it waits, because its port's line is in use (R396). -/
inductive BistOut where
  | wait
  | pass (edge : Bool)
  | fail (slice : Fin 8)
  | skip (causes : BitVec 3)
  | discard
  deriving DecidableEq, Repr

/-- A failure that the start-up sweep confirms (R403, R404): the part of *Start-up sweep* that found it, from 0, kind and index of
*Resource kinds*; the spare comparator windows, which have no index there, stand as 0x3C to 0x3F of kind 3. -/
structure Finding where
  part : Fin 6
  kind : Fin 8
  res : Nat
  deriving DecidableEq, Repr

/-- The commands (R7 and the table of operations and events). -/
inductive Instr where
  /-- POR (R488). -/
  | por (offMs : Nat) (pos : BitVec 4) (laneId : BitVec 2)
  /-- POWER_GOOD_FALL (R488). -/
  | powerGoodFall
  /-- HOLDUP_EXHAUSTED (R488). -/
  | holdupExhausted
  /-- LRST_N (R492). -/
  | lrstN
  /-- LRST_CMD (R472). -/
  | lrstCmd
  /-- LRST (R14). -/
  | lrst
  /-- SOFT_RST (R509). -/
  | softRst (pg : BitVec 14)
  /-- SOFT_RST_END (R509). -/
  | softRstEnd (pg : BitVec 14)
  /-- PRESENT_N_DEASSERT (R497). -/
  | presentNDeassert
  /-- PRESENT_N_REASSERT (R497). -/
  | presentNReassert
  /-- TAP_INSTRUCTION (R501). -/
  | tapInstruction (ir : BitVec 8)
  /-- TEST_LOGIC_RESET (R501). -/
  | testLogicReset
  /-- TICK (R33). -/
  | tick (snap : Snap)
  /-- SERVICE_MODE_ENTRY (R464). -/
  | serviceModeEntry
  /-- SSI_BURST (R71). -/
  | ssiBurst (e : Fin 8) (highBefore : Bool) (lowAfter : Bool) (bits : BitVec 32) (parity : Bool)
  /-- INPUT_FREEZE_END (R62). -/
  | inputFreezeEnd (late : List (Fin 96))
  /-- SENSE_LOST (R144). -/
  | senseLost (h : Fin 48)
  /-- PLAIN_PASS (R39). -/
  | plainPass (x : PassEnv)
  /-- JANUS_PASS (R178). -/
  | janusPass (x : PassEnv)
  /-- COMPARE_AND_EXCHANGE (R298). -/
  | compareAndExchange (rails : List RailOut)
  /-- ARBITRATION_RESERVE (R185). -/
  | arbitrationReserve
  /-- RERUN_COMPLETE (R187). -/
  | rerunComplete (n : Fin 16) (err : List BitErr)
  /-- SLICE_TEST_COMPLETE (R190). -/
  | sliceTestComplete (sl : Fin 9) (pass : Bool)
  /-- VOTE_AND_COMMIT (R269). -/
  | voteAndCommit (missed : List (Fin 16))
  /-- LN_TAKEBACK (R281). -/
  | lnTakeback
  /-- FB_XCHK (R78). -/
  | fbXchk (k : Fin 124)
  /-- FB_FREEZE (R77). -/
  | fbFreeze (k : Fin 124)
  /-- CH_RANGE (R76). -/
  | chRange (k : Fin 96)
  /-- SELF_TEST_SLICE (R43). -/
  | selfTestSlice (inj : Option RailPair) (man : Option RailPair) (late : Bool)
  /-- BIST_STEP (R391). -/
  | bistStep (r : BistOut)
  /-- BIST_STALL (R400). -/
  | bistStall
  /-- GUARD (R41). -/
  | guardWindow
  /-- MARCH_TEST_COMPLETE (R191). -/
  | marchTestComplete (pass : Bool) (row : Fin 1024)
  /-- AXIS_COAST_LOST (R105). -/
  | axisCoastLost (n : Fin 16)
  /-- AXIS_SHUTDOWN_TIMEOUT (R116). -/
  | axisShutdownTimeout (n : Fin 16)
  /-- RES_EXCITATION_FAULT (R519). -/
  | resExcitationFault (r : Fin 8)
  /-- WS_OPEN (R74). -/
  | wsOpen (w : Fin 12)
  /-- WS_SHORT (R74). -/
  | wsShort (w : Fin 12)
  /-- WS_EDGE (R73). -/
  | wsEdge (w : Fin 12)
  /-- WINDOW_STATE_CHANGE (R129): the newest sample and the two before it, the older first. -/
  | windowStateChange (h : Fin 48) (before : Int × Int) (now : Int)
  /-- MIN_PULSE_EXPIRY (R134). -/
  | minPulseExpiry (h : Fin 48)
  /-- HELD_OFF (R138). -/
  | heldOff (u : Fin 16)
  /-- REFRESH_REQUEST (R214). -/
  | refreshRequest (h : Fin 48)
  /-- REFRESH_END (R136). -/
  | refreshEnd (u : Fin 16)
  /-- SHOOT_THROUGH_LOCKOUT (R206). -/
  | shootThroughLockout (h : Fin 48)
  /-- DEAD_TIME_EXPIRY (R205). -/
  | deadTimeExpiry (h : Fin 48) (high : Bool)
  /-- EDGE_MEASURED (R210). -/
  | edgeMeasured (h : Fin 48) (high : Bool) (node : List Nat)
  /-- BOOT_UV (R213). -/
  | bootUv (h : Fin 48) (v : BitVec 8)
  /-- BOOT_UV_END (R213). -/
  | bootUvEnd (h : Fin 48) (v : BitVec 8)
  /-- PRECHARGE_END (R200). -/
  | prechargeEnd (g : Fin 8)
  /-- GROUP_SHUTDOWN_TIMEOUT (R203). -/
  | groupShutdownTimeout (g : Fin 8)
  /-- GD_EN_FALL (R201). -/
  | gdEnFall (g : Fin 8)
  /-- GD_EN_RISE (R238). -/
  | gdEnRise (g : Fin 8) (long : Bool)
  /-- OFFDIAG_RUN_START (R241). -/
  | offdiagRunStart
  /-- OFFDIAG_RUN_END (R243). -/
  | offdiagRunEnd (nodes : List NodeMeas) (pairsA : List Nat) (pairsB : List Nat)
  /-- DESAT_BLANKING_END (R234). -/
  | desatBlankingEnd (h : Fin 48) (high : Bool)
  /-- DESATURATION (R235). -/
  | desaturation (h : Fin 48) (high : Bool)
  /-- DESAT_2L_END (R235). -/
  | desat2lEnd (h : Fin 48) (high : Bool)
  /-- DESAT_GATE_LOW (R235). -/
  | desatGateLow (h : Fin 48) (high : Bool)
  /-- CHOP_ON_COMPARATOR (R229). -/
  | chopOnComparator (k : Fin 4) (v : Samples)
  /-- CHOP_OFF_COMPARATOR (R229). -/
  | chopOffComparator (v : BusSamples)
  /-- CHOP_LONG (R230). -/
  | chopLong (c : Fin 2)
  /-- BUS_HOV (R231). -/
  | busHov (k : Fin 4) (v : Samples)
  /-- BUS_UV (R232). -/
  | busUv (k : Fin 4)
  /-- GSUP_UV (R233). -/
  | gsupUv (j : Fin 5)
  /-- GSUP_OV (R233). -/
  | gsupOv (j : Fin 5)
  /-- GSUP_RETURN (R233). -/
  | gsupReturn (j : Fin 5)
  /-- SUP_LATCH_READ (R237). -/
  | supLatchRead (g : Fin 8)
  /-- AUX_FLT_ASSERT (R218). -/
  | auxFltAssert (k : Fin 4)
  /-- AUX_RB (R219). -/
  | auxRb (x : Fin 8)
  /-- TQOFF_RB (R221). -/
  | tqoffRb (x : Fin 2)
  /-- PARK_I (R220). -/
  | parkI (k : Fin 2)
  /-- LINK_MISMATCH (R161). -/
  | linkMismatch
  /-- RET_HOLD_EXPIRY (R162). -/
  | retHoldExpiry
  /-- TRIM_LIMIT (R157). -/
  | trimLimit
  /-- STEER_TRACK (R172). -/
  | steerTrack (k : Fin 4)
  /-- SAFE_STOP_PIN (R246). -/
  | safeStopPin
  /-- SS_HOST_TRIG (R246). -/
  | ssHostTrig
  /-- SS_EXIT_REQUEST (R260). -/
  | ssExitRequest
  /-- SS_ESCALATE (R252). -/
  | ssEscalate
  /-- STANDSTILL_CONFIRMED (R254). -/
  | standstillConfirmed
  /-- PARK_APPLICATION_COMPLETE (R256). -/
  | parkApplicationComplete
  /-- SS_PARK_TMO (R256). -/
  | ssParkTmo
  /-- LINK_TRAINED (R290). -/
  | linkTrained (m : Fin 4) (pos : BitVec 4) (ringN : BitVec 5) (lsys : BitVec 3) (delayNs : BitVec 16)
  /-- LK_DOWN (R291). -/
  | lkDown (m : Fin 4)
  /-- SPAN_BREAK_CLEARED (R292). -/
  | spanBreakCleared (east : Bool)
  /-- EXCHANGE_RECORD (R299). -/
  | exchangeRecord (east : Bool) (a : XCopy) (b : XCopy) (r : XRec) (atNs : Nat)
  /-- SYNC_N_EDGE (R304). -/
  | syncNEdge (offNs : Int)
  /-- SYNC_PULSE_END (R304). -/
  | syncPulseEnd
  /-- MM_SYNC_LOSS (R306). -/
  | mmSyncLoss
  /-- MM_ALARM_IN (R307). -/
  | mmAlarmIn
  /-- SITIL_FRAME_SEND (R320). -/
  | sitilFrameSend (e : BitVec 13) (ch : Fin 2) (rb0 : Bool) (rb1 : Bool)
  /-- SITIL_FRAME_RECEIVE (R312, R324): the code groups heard, delimiters included: the first, and those after it. -/
  | sitilFrameReceive (p : Fin 4) (first : BitVec 10) (groups : List (BitVec 10)) (start : Nat) (residence : Nat)
  /-- LISTEN_TIMEOUT (R327). -/
  | listenTimeout (ch : Fin 2)
  /-- COLDSTART_TIMEOUT (R327). -/
  | coldstartTimeout (ch : Fin 2)
  /-- BACKOFF_END (R329). -/
  | backoffEnd (ch : Fin 2)
  /-- NT_CORRECTION (R359). -/
  | ntCorrection
  /-- SIT_LOST (R332). -/
  | sitLost (ch : Fin 2)
  /-- SIT_LOSS_END (R332). -/
  | sitLossEnd (ch : Fin 2)
  /-- CHARON_STROBE (R337). -/
  | charonStrobe (devNs : Int)
  /-- CHARON_WINDOW (R336). -/
  | charonWindow (e : BitVec 13) (opens : Bool)
  /-- CH_BLOCK (R336). -/
  | chBlock (p : Fin 4)
  /-- CH_FWD_CUT (R338). -/
  | chFwdCut (p : Fin 4)
  /-- CH_CLK (R339). -/
  | chClk (ppm : Int)
  /-- CH_SUPPLY (R339). -/
  | chSupply
  /-- CH_TABLE_CHECK (R339). -/
  | chTableCheck (same : Bool)
  /-- REMOTE_REQUEST (R457). -/
  | remoteRequest (r : RemoteReq)
  /-- FAULT_EVENT (R367). -/
  | faultEvent
  /-- FAULT_SOURCE_EXPIRY (R369). -/
  | faultSourceExpiry (id : BitVec 10)
  /-- LOG_ENTRY_WRITE (R382). -/
  | logEntryWrite
  /-- PG_FORCE (R377). -/
  | pgForce (pg : BitVec 14) (k : Fin 32)
  /-- FS_FORCE (R377). -/
  | fsForce
  /-- CLR_FIRST (R376). -/
  | clrFirst
  /-- UNFREEZE (R384). -/
  | unfreeze
  /-- LOG_RPTR_WRITE (R385). -/
  | logRptrWrite (v : BitVec 32)
  /-- FS_WIN_WRITE (R388). -/
  | fsWinWrite (v : BitVec 32)
  /-- SCH_IDX_WRITE (R342). -/
  | schIdxWrite (v : BitVec 32)
  /-- SCH_W2_WRITE (R342). -/
  | schW2Write (v : BitVec 32)
  /-- JAN_INJ_GO (R196). -/
  | janInjGo (idx : BitVec 7)
  /-- REPAIR_WRITE_COMPLETE (R406). -/
  | repairWriteComplete (ok : Bool)
  /-- WAIT (R414). -/
  | waitCmd (q : HostReq)
  /-- POWER_REQUEST_EVALUATE (R414). -/
  | powerRequestEvaluate
  /-- AP1 (R415). -/
  | ap1
  /-- AP2 (R415). -/
  | ap2
  /-- AP3 (R429). -/
  | ap3
  /-- AP4 (R415). -/
  | ap4
  /-- WAKE_N (R422). -/
  | wakeN (slow : Nat) (bad : BitVec 3)
  /-- HALLEY (R423). -/
  | halley (wave : List (Int × Nat)) (slow : Nat)
  /-- SITIL_WAKE (R422). -/
  | sitilWake (p : Fin 4) (slow : Nat) (bad : BitVec 3)
  /-- MOAMEL_WAKE (R422). -/
  | moamelWake (m : Fin 4) (slow : Nat) (bad : BitVec 3)
  /-- WHEEL_WAKE (R422). -/
  | wheelWake (w : Fin 12)
  /-- PWR_PAD_REL (R427). -/
  | pwrPadRel (v : BitVec 32)
  /-- PAD_CHECK (R428). -/
  | padCheck (g : Fin 8) (pass : Bool)
  /-- DVFS_REQUEST (R426). -/
  | dvfsRequest (point : BitVec 2)
  /-- DVFS_CLOCK_SWITCH (R426). -/
  | dvfsClockSwitch
  /-- DVFS_TMO (R426). -/
  | dvfsTmo
  /-- DOM_SUPPLY (R411). -/
  | domSupply (d : Fin 8)
  /-- TCXO_CHECK (R434). -/
  | tcxoCheck (chrPpm : Int) (aonPpm : Int)
  /-- PLL_LOCK_LOSS (R435). -/
  | pllLockLoss (i : Fin 4)
  /-- PLL_LOCK (R435). -/
  | pllLock (i : Fin 4)
  /-- CLK_FREQ (R436). -/
  | clkFreq (i : Fin 16) (meas : BitVec 32)
  /-- CDC_TIMEOUT (R440). -/
  | cdcTimeout (i : Fin 32)
  /-- CDC_RESUME (R440). -/
  | cdcResume (i : Fin 32)
  /-- READ (R449). -/
  | readCmd (q : HostReq)
  /-- WRITE (R10). -/
  | writeCmd (q : HostReq)
  /-- RMW (R451). -/
  | rmw (q : HostReq)
  /-- NEGOTIATE (R458). -/
  | negotiate (q : HostReq)
  /-- UNLOCK (R461). -/
  | unlock (q : HostReq)
  /-- COMMIT (R466). -/
  | commit (q : HostReq)
  /-- COMMIT_COMPLETE (R466). -/
  | commitComplete (ok : Bool)
  /-- STATUS (R451). -/
  | status (q : HostReq)
  /-- LOGPULL (R385). -/
  | logpull (q : HostReq)
  /-- UNKNOWN_COMMAND (R450). -/
  | unknownCommand (cmd : BitVec 8) (q : HostReq)
  /-- REQUEST_ABORT (R448). -/
  | requestAbort
  /-- RESULT_EXPIRY (R454). -/
  | resultExpiry (tag : BitVec 8)
  /-- TAG_CACHE_EXPIRY (R453). -/
  | tagCacheExpiry (tag : BitVec 8)
  /-- NEGOTIATION_WINDOW_CLOSE (R458). -/
  | negotiationWindowClose
  /-- LOCKOUT_END (R462). -/
  | lockoutEnd
  /-- IDLE_RELOCK (R463). -/
  | idleRelock
  /-- CS_LOCK (R463). -/
  | csLock
  /-- CS_DISCARD (R463). -/
  | csDiscard
  /-- SERVICE_REQ (R464). -/
  | serviceReq
  /-- SERVICE_EXIT (R464). -/
  | serviceExit
  /-- LOG_ACK (R471). -/
  | logAck (v : BitVec 32)
  /-- CS_CFG_CRC (R468). -/
  | csCfgCrc (same : Bool)
  /-- PG_CTL_EN (R508). -/
  | pgCtlEn (pg : BitVec 14) (en : Bool)
  /-- PG_CTL_MODE (R510). -/
  | pgCtlMode (pg : BitVec 14) (mode : Bool)
  /-- NT_TIME_LO_READ (R366). -/
  | ntTimeLoRead
  /-- NT_TICK_LO_READ (R366). -/
  | ntTickLoRead
  /-- REGISTER_WRITE (R7). -/
  | registerWrite (addr : BitVec 24) (v : BitVec 32)
  /-- TICK_CLR_HOLD (R54). -/
  | tickClrHold
  /-- TICK_CLR_OVR (R54). -/
  | tickClrOvr
  /-- VDU_CLR_CNT (R147). -/
  | vduClrCnt (u : Fin 16)
  /-- BLD_CLR_CNT (R173). -/
  | bldClrCnt
  /-- STR_CLR_ERR (R174). -/
  | strClrErr
  /-- JAN_CLR_CAP (R198). -/
  | janClrCap
  /-- JAN_CLR_CNT (R198). -/
  | janClrCnt
  /-- BG_CLR_CNT (R223). -/
  | bgClrCnt (g : Fin 8)
  /-- AUX_CLR_CNT (R224). -/
  | auxClrCnt
  /-- SUP_CLR_CNT (R244). -/
  | supClrCnt
  /-- OD_CLR_CNT (R245). -/
  | odClrCnt
  /-- SS_CLR_CNT (R264). -/
  | ssClrCnt
  /-- CLR_MAINT (R284). -/
  | clrMaint
  /-- LN_CLR_CNT (R288). -/
  | lnClrCnt
  /-- MM_CLR_CNT (R309). -/
  | mmClrCnt
  /-- LK_CLR_CNT (R310). -/
  | lkClrCnt (m : Fin 4)
  /-- SIT_CLR_CNT (R340). -/
  | sitClrCnt
  /-- SP_CLR_CNT (R341). -/
  | spClrCnt (p : Fin 4)
  /-- CH_CLR_CNT (R343). -/
  | chClrCnt
  /-- SL_CLR_CNT (R365). -/
  | slClrCnt
  /-- NT_CLR_CNT (R366). -/
  | ntClrCnt
  /-- FLT_CLR_CNT (R387). -/
  | fltClrCnt
  /-- LOG_CLR_CNT (R389). -/
  | logClrCnt
  /-- BIST_CLR_CNT (R409). -/
  | bistClrCnt
  /-- PWR_CLR_CNT (R431). -/
  | pwrClrCnt
  /-- CLK_CLR_CNT (R445). -/
  | clkClrCnt
  /-- CDC_CLR_CNT (R446). -/
  | cdcClrCnt
  /-- HP_CLR_CNT (R472). -/
  | hpClrCnt
  /-- STARTUP_POWER_UP (R473). -/
  | startupPowerUp (bad : BitVec 8)
  /-- STARTUP_REPAIR_MAP (R405). -/
  | startupRepairMap (crcOk : Bool)
  /-- STARTUP_CONFIGURATION (R475). -/
  | startupConfiguration (crcOk : Bool)
  /-- STARTUP_INJECTION (R194). -/
  | startupInjection (rails : List (Nat × RailPair))
  /-- FAST_BIST (R404). -/
  | fastBist (found : List Finding) (transient : Nat) (skips : List (BitVec 3))
  /-- STARTUP_NETWORKS (R477). -/
  | startupNetworks
  /-- STARTUP_DIAGNOSTICS (R478). -/
  | startupDiagnostics
  /-- DIAG_RETRY (R478). -/
  | diagRetry (g : Fin 8)
  /-- STARTUP_OVERDUE (R481). -/
  | startupOverdue
  /-- HOURS_STORE (R499). -/
  | hoursStore (hours : Nat) (temp : Int)
  /-- CHARON_RAIL_RETURN (R339). -/
  | charonRailReturn
  /-- SAFE_STOP_N_RELEASE (R247). -/
  | safeStopNRelease
  /-- ALARM_N_RELEASE (R307). -/
  | alarmNRelease
  /-- UPDATE_DR (R501). -/
  | updateDr (u : ScanUpdate)
  deriving DecidableEq, Repr

end Sys2Proof
end

