-- ==== Sys2Proof/Decode.lean ====
section
/-!
DEFINITION. The command that a word of the table's bits spells: the table of operations and events gives no row
any bits, so no word spells a command.
-/
namespace Sys2Proof

/-- The command spelled by `w` (no row of the table has an encoding). -/
def decodeTableWord (_nbits _w : Nat) : Option Instr := none

end Sys2Proof
end

