-- ==== Sys2Proof/Config.lean ====
section
/-!
DEFINITION. What the specification leaves open (free values, no body) and what a chip fixes.
-/
namespace Sys2Proof.Config

/-- A 32-bit value the specification leaves open, one for each use: the model applies it to a counter that
every use advances (`State.freeSeq`). Nothing is known of it. -/
opaque freeWord : Nat → Word

/-- Serial number of the module (R514: fixed by the part; the specification prints none). -/
opaque serial : BitVec 64

/-- Date of manufacture as ID_DATE shows it (R514: fixed by the part). -/
opaque date : Word

/-- The data word of LN_FAULT2, which carries the two lowest category codes (R285): how it packs them is not stated (log entry 109). -/
opaque fault2Data : Nat → Nat → Word

/-- CRC-32 of a repair map as RP_CRC shows it (R410): over which bytes it runs is not stated (log entry 121). -/
opaque mapCrc : List (Word × Word) → Word

/-- Where the indices of the four spare comparator windows lie, which *Resource kinds* does not give (log entry 121). -/
opaque spareBase : BitVec 11

end Sys2Proof.Config
end

