-- ==== Sys2Proof/Machine/Bits.lean ====
section
/-!
DEFINITION. Bit fields of register words, two's complement numbers, saturation, byte order and the
three cyclic redundancy checks the specification names.
-/
namespace Sys2Proof.Machine

/-- The mask of the `wd` bits from bit `lo` upwards. -/
def fieldMask (lo wd : Nat) : Word := BitVec.ofNat 32 ((2 ^ wd - 1) * 2 ^ lo)

/-- The value of the `wd`-bit field at bit `lo`. -/
def fieldGet (w : Word) (lo wd : Nat) : Nat := w.toNat / 2 ^ lo % 2 ^ wd

/-- `w` with its `wd`-bit field at bit `lo` holding `v` (modulo `2 ^ wd`). -/
def fieldSet (w : Word) (lo wd v : Nat) : Word :=
  (w &&& ~~~ fieldMask lo wd) ||| (BitVec.ofNat 32 (v % 2 ^ wd * 2 ^ lo))

/-- The two's complement number in the low `wd` bits of `v`. -/
def toSigned (wd v : Nat) : Int :=
  if v % 2 ^ wd < 2 ^ (wd - 1) then ((v % 2 ^ wd : Nat) : Int) else ((v % 2 ^ wd : Nat) : Int) - 2 ^ wd

/-- The low `wd` bits of an integer, as two's complement. -/
def ofSigned (wd : Nat) (x : Int) : Nat := (x % 2 ^ wd).toNat

/-- `x` limited to `lo … hi`. -/
def clampI (lo hi x : Int) : Int := if x < lo then lo else if hi < x then hi else x

/-- `x` limited to the range of a signed `wd`-bit number (R94). -/
def satSigned (wd : Nat) (x : Int) : Int := clampI (-(2 ^ (wd - 1))) (2 ^ (wd - 1) - 1) x

/-- `n` limited to what `wd` bits hold. -/
def satU (wd n : Nat) : Nat := if n < 2 ^ wd then n else 2 ^ wd - 1

/-- A truth value as a bit. -/
def b2n (b : Bool) : Nat := if b then 1 else 0

/-- Bit `k` of a number. -/
def bitOf (n k : Nat) : Bool := n / 2 ^ k % 2 == 1

/-- `n` with bit `k` set to `b`. -/
def withBit (n k : Nat) (b : Bool) : Nat :=
  if bitOf n k == b then n else if b then n + 2 ^ k else n - 2 ^ k

/-- The number whose bit `k` is `f k`, for `k < n`. -/
def packBits : Nat → (Nat → Bool) → Nat
  | 0, _ => 0
  | n + 1, f => packBits n f + (if f n then 2 ^ n else 0)

/-- How many bits below `n` of `v` are set. -/
def popCount : Nat → Nat → Nat
  | 0, _ => 0
  | n + 1, v => popCount n v + b2n (bitOf v n)

/-- The bytes of a number, least significant first. -/
def bytesLE : Nat → Nat → List Nat
  | 0, _ => []
  | n + 1, v => v % 256 :: bytesLE n (v / 256)

/-- The number that bytes spell, least significant first. -/
def ofBytesLE : List Nat → Nat
  | [] => 0
  | b :: bs => b % 256 + 256 * ofBytesLE bs

/-- The bytes of a number, most significant first. -/
def bytesBE (n v : Nat) : List Nat := (bytesLE n v).reverse

/-- `n` shift steps of a non-reflected CRC register of `wd` bits. -/
def crcShift (wd poly : Nat) : Nat → Nat → Nat
  | 0, c => c
  | n + 1, c =>
    crcShift wd poly n
      (if 2 ^ (wd - 1) ≤ c then Nat.xor (c * 2 % 2 ^ wd) poly else c * 2 % 2 ^ wd)

/-- A non-reflected CRC of `wd` bits (`8 ≤ wd`) over bytes, from the register value `c`. -/
def crcMsb (wd poly : Nat) : List Nat → Nat → Nat
  | [], c => c
  | b :: bs, c => crcMsb wd poly bs (crcShift wd poly 8 (Nat.xor c (b % 256 * 2 ^ (wd - 8))))

/-- `n` shift steps of a reflected CRC register. -/
def crcShiftR (poly : Nat) : Nat → Nat → Nat
  | 0, c => c
  | n + 1, c => crcShiftR poly n (if c % 2 = 1 then Nat.xor (c / 2) poly else c / 2)

/-- A reflected CRC over bytes, from the register value `c`. -/
def crcLsb (poly : Nat) : List Nat → Nat → Nat
  | [], c => c
  | b :: bs, c => crcLsb poly bs (crcShiftR poly 8 (Nat.xor c (b % 256)))

/-- The CRC-16 of the host port (R449): polynomial 0x1021, start 0xFFFF, not reflected. -/
def crc16 (bs : List Nat) : Nat := crcMsb 16 0x1021 bs 0xFFFF

/-- The CRC-32 of IEEE 802.3 (R467, R468), in its usual reflected form. -/
def crc32 (bs : List Nat) : Nat := Nat.xor (crcLsb 0xEDB88320 bs 0xFFFFFFFF) 0xFFFFFFFF

/-- Floor square root by bisection over `k` bits. -/
def sqrtBits : Nat → Nat → Nat → Nat
  | 0, _, r => r
  | k + 1, n, r =>
    let c := r + 2 ^ k
    sqrtBits k n (if c * c ≤ n then c else r)

/-- Floor of the square root. -/
def isqrt (n : Nat) : Nat := sqrtBits (n.log2 / 2 + 1) n 0

/-- Floor cube root by bisection over `k` bits. -/
def cbrtBits : Nat → Nat → Nat → Nat
  | 0, _, r => r
  | k + 1, n, r =>
    let c := r + 2 ^ k
    cbrtBits k n (if c * c * c ≤ n then c else r)

/-- Floor of the cube root. -/
def icbrt (n : Nat) : Nat := cbrtBits (n.log2 / 3 + 1) n 0

/-- Replace element `i` of a list. -/
def listSet {α : Type} : List α → Nat → α → List α
  | [], _, _ => []
  | _ :: xs, 0, y => y :: xs
  | x :: xs, i + 1, y => x :: listSet xs i y

end Sys2Proof.Machine
end

