-- ==== Sys2Proof/Machine/RegMap.lean ====
section
/-!
DEFINITION. The register map: every register table of the specification as data (R6-R8, R11, R14, R503-R505),
the page index (R504), and the value each register holds after POR and after LRST.
-/
namespace Sys2Proof.Machine

/-- *Access codes* (R8). The codes W1S and ROS name no field of revision B1. -/
inductive Acc where
  | ro | rw | wo | w1c | rwl | rwn | wol
  deriving DecidableEq, Repr

/-- The weakest reset that applies a field's reset value (R14). No Reset column names SOFT (R509). -/
inductive Scope where
  | lrst | por
  deriving DecidableEq, Repr

/-- *Takes-effect codes* (R11). `tick` is `cyc` in the port pages for PG_CTL.EN (R505). -/
inductive Eff where
  | imm | tick | commit | pwr
  deriving DecidableEq, Repr

/-- One field row of a register table. -/
structure FDef where
  hi : Nat
  lo : Nat
  acc : Acc
  reset : Nat
  scope : Scope
  eff : Eff
  deriving DecidableEq, Repr

/-- One register row: offset in the page, stride and number of instances, fields. -/
structure RegDef where
  off : Nat
  stride : Nat
  count : Nat
  fields : List FDef
  deriving DecidableEq, Repr

/-- A field of a register at a fixed address: where software and the block find it. -/
structure Fld where
  addr : Nat
  lo : Nat
  width : Nat
  deriving DecidableEq, Repr

/-- A configuration field: RWL, set by POR, in force at COMMIT. -/
def fC (hi lo r : Nat) : FDef := ⟨hi, lo, .rwl, r, .por, .commit⟩
/-- A status field: RO, set by LRST. -/
def fS (hi lo r : Nat) : FDef := ⟨hi, lo, .ro, r, .lrst, .imm⟩
/-- A status field that only POR sets. -/
def fP (hi lo r : Nat) : FDef := ⟨hi, lo, .ro, r, .por, .imm⟩

/-- Registers of a page of kind `tick` (spec tables: *TICK page registers*; rules R54). -/
def tickRegs : List RegDef := [
  ⟨0x40, 4, 1, [fC 15 8 0x14, fC 3 2 0, fC 1 0 1]⟩,  -- TICK_CFG
  ⟨0x44, 4, 1, [fC 31 0 0]⟩,  -- TICK_PHASE
  ⟨0x48, 4, 1, [fS 8 8 0, fS 7 7 0, fS 6 6 0, fS 3 2 0, fS 1 0 1]⟩,  -- TICK_STAT
  ⟨0x4c, 4, 1, [fS 31 0 0]⟩,  -- TICK_COUNT
  ⟨0x50, 4, 1, [fS 31 16 0, fS 7 0 0]⟩,  -- TICK_POS
  ⟨0x54, 4, 1, [fS 15 0 0]⟩,  -- TICK_ALIGN
  ⟨0x58, 4, 1, [fS 27 24 0, fS 23 20 0, fS 19 19 0, fS 17 16 0, fS 15 0 0]⟩,  -- TICK_BUDGET
  ⟨0x5c, 4, 8, [fS 31 16 0, fS 15 0 0]⟩,  -- SLICE_LOAD
  ⟨0x7c, 4, 1, [fS 15 0 0]⟩,  -- SPARE_LOAD
  ⟨0x80, 4, 1, [fS 31 24 0, fS 23 16 0, fS 15 8 0, fS 7 0 0]⟩,  -- TICK_OVR
  ⟨0x84, 4, 1, [⟨1, 1, .wo, 0, .lrst, .imm⟩, ⟨0, 0, .wo, 0, .lrst, .imm⟩]⟩,  -- TICK_CLR
  ⟨0x88, 4, 1, [fS 31 0 0xffffffff]⟩,  -- OUT_AGE
  ⟨0x8c, 4, 1, [fS 15 0 0]⟩,  -- AXIS_LOST
  ⟨0x90, 4, 1, [fS 15 0 0]⟩,  -- HOLD_CNT
  ⟨0x94, 4, 1, [fS 23 20 0, fS 19 16 0, fS 15 0 0]⟩,  -- OVR_LAST
  ⟨0x98, 4, 1, [fS 7 0 0]⟩ ]  -- TICK_OVR2

/-- Registers of a page of kind `afe` (spec tables: *AFE global page*; rules R85). -/
def afeRegs : List RegDef := [
  ⟨0x40, 4, 1, [fC 31 16 0x51e, fC 15 8 0x10, fC 0 0 1]⟩,  -- AFE_CFG
  ⟨0x44, 4, 1, [⟨7, 7, .ro, 0, .por, .pwr⟩, ⟨4, 0, .ro, 0, .por, .pwr⟩]⟩,  -- CORE_MAP
  ⟨0x48, 4, 1, [fS 31 0 0]⟩,  -- SNAP_TIME
  ⟨0x4c, 4, 1, [fS 15 8 0, fS 7 0 0]⟩,  -- SNAP_STAT
  ⟨0x50, 4, 1, [fS 20 16 0, fS 15 0 0]⟩ ]  -- XCHK_LAST

/-- Registers of a page of kind `afeCh` (spec tables: *AIN channel block*; rules R85). -/
def afeChRegs : List RegDef := [
  ⟨0x40, 0x20, 16, [fC 31 31 0, fC 30 30 0, fC 29 29 0, fC 23 16 8, fC 15 12 2, fC 11 4 0xa]⟩,  -- CH_CFG
  ⟨0x44, 0x20, 16, [fC 15 0 0]⟩,  -- CH_OFFSET
  ⟨0x48, 0x20, 16, [fC 23 0 0x400000]⟩,  -- CH_GAIN
  ⟨0x4c, 0x20, 16, [fC 31 16 0x7f00, fC 15 0 0x8100]⟩,  -- CH_LIM
  ⟨0x50, 0x20, 16, [fC 31 16 8, fC 15 0 0x290]⟩,  -- CH_TOL
  ⟨0x54, 0x20, 16, [fS 15 0 0]⟩,  -- CH_RAW
  ⟨0x58, 0x20, 16, [fS 31 31 0, fS 23 0 0]⟩,  -- CH_VAL
  ⟨0x5c, 0x20, 16, [fS 31 31 0, fS 30 28 0, ⟨27, 27, .w1c, 0, .lrst, .imm⟩, fS 15 8 0, fS 7 0 0]⟩ ]  -- CH_STAT

/-- Registers of a page of kind `afeRes` (spec tables: *Resolver block*; rules R85). -/
def afeResRegs : List RegDef := [
  ⟨0x40, 0x20, 8, [fC 31 31 0, fC 30 30 0, fC 29 29 0, fC 28 27 1, fC 26 23 0xa, fC 22 15 8, fC 14 7 0xa]⟩,  -- RES_CFG
  ⟨0x44, 0x20, 8, [fC 31 16 0x5c29, fC 15 0 0x28f6]⟩,  -- RES_AMP
  ⟨0x48, 0x20, 8, [fC 15 0 0x4000]⟩,  -- RES_NOM
  ⟨0x4c, 0x20, 8, [fC 31 16 8, fC 15 0 0xb6]⟩,  -- RES_TOL
  ⟨0x50, 0x20, 8, [fS 15 0 0]⟩,  -- RES_ANGLE
  ⟨0x54, 0x20, 8, [fS 23 0 0]⟩,  -- RES_SPEED
  ⟨0x58, 0x20, 8, [fS 15 0 0]⟩,  -- RES_AMPM
  ⟨0x5c, 0x20, 8, [fS 31 31 0, fS 30 28 0, fS 15 8 0, fS 7 0 0]⟩ ]  -- RES_STAT

/-- Registers of a page of kind `afeEnc` (spec tables: *Encoder block*; rules R85). -/
def afeEncRegs : List RegDef := [
  ⟨0x40, 0x20, 8, [fC 31 31 0, fC 30 30 0, fC 29 29 0, fC 28 28 0, fC 27 26 0, fC 25 20 0x19, fC 19 12 0x13, fC 11 6 0x14]⟩,  -- ENC_CFG
  ⟨0x44, 0x20, 8, [fC 31 16 8, fC 15 0 0x10]⟩,  -- ENC_TOL
  ⟨0x48, 0x20, 8, [fC 21 16 0, fC 15 8 8, fC 7 0 0xa]⟩,  -- ENC_N
  ⟨0x4c, 0x20, 8, [fS 15 0 0]⟩,  -- ENC_LEAD
  ⟨0x50, 0x20, 8, [fS 31 0 0]⟩,  -- ENC_POS
  ⟨0x54, 0x20, 8, [fS 15 0 0]⟩,  -- ENC_ERR
  ⟨0x5c, 0x20, 8, [fS 31 31 0, fS 30 28 0, fS 15 8 0, fS 7 0 0]⟩ ]  -- ENC_STAT

/-- Registers of a page of kind `afeWs` (spec tables: *Wheel-speed block*; rules R85). -/
def afeWsRegs : List RegDef := [
  ⟨0x40, 0x20, 12, [fC 31 31 0, fC 30 30 0, fC 27 20 0x64, fC 15 0 0x1f4]⟩,  -- WS_CFG
  ⟨0x44, 0x20, 12, [fC 15 0 0x2710]⟩,  -- WS_CIRC
  ⟨0x48, 0x20, 12, [fC 17 0 0x186a0]⟩,  -- WS_FS
  ⟨0x4c, 0x20, 12, [fC 31 24 0xa, fC 15 0 0x1f4]⟩,  -- WS_TOL
  ⟨0x50, 0x20, 12, [fS 23 0 0]⟩,  -- WS_VAL
  ⟨0x54, 0x20, 12, [fS 31 0 0]⟩,  -- WS_EDGE
  ⟨0x58, 0x20, 12, [fS 31 0 0]⟩,  -- WS_PER
  ⟨0x5c, 0x20, 12, [fS 31 31 0, fS 30 28 0, fS 27 27 0, fS 7 0 0]⟩ ]  -- WS_STAT

/-- Registers of a page of kind `axis` (spec tables: *AXIS page registers*; rules R120). -/
def axisRegs : List RegDef := [
  ⟨0x40, 4, 1, [fC 31 28 0, fC 27 27 0, fC 26 24 0, fC 23 18 0, fC 17 16 0, fC 15 0 0xa]⟩,  -- AX_CFG
  ⟨0x44, 4, 1, [fC 23 16 0xff, fC 15 8 0xff]⟩,  -- AX_FB
  ⟨0x48, 4, 1, [fC 20 17 4, fC 16 16 0, fC 15 0 0]⟩,  -- AX_COMM
  ⟨0x4c, 4, 1, [fC 31 0 0]⟩,  -- AX_FS_X
  ⟨0x50, 4, 1, [fC 31 0 0]⟩,  -- AX_FS_V
  ⟨0x54, 4, 1, [fC 31 16 0, fC 15 0 0]⟩,  -- AX_IMAX
  ⟨0x58, 4, 1, [fC 31 0 0]⟩,  -- AX_VMAX
  ⟨0x5c, 4, 1, [fC 31 0 0]⟩,  -- AX_AMAX
  ⟨0x60, 4, 1, [fC 31 0 0]⟩,  -- AX_JMAX
  ⟨0x64, 4, 1, [fC 31 16 0x3e8, fC 15 0 0x32]⟩,  -- AX_OBS
  ⟨0x68, 4, 1, [⟨23, 0, .rwl, 0, .por, .tick⟩]⟩,  -- AX_SP
  ⟨0x70, 4, 8, [fC 31 0 0]⟩,  -- AX_PAR
  ⟨0x90, 4, 1, [fS 31 29 0, fS 28 28 0, fS 27 27 0, fS 26 26 0, fS 25 24 0, fS 23 21 0, fS 20 18 0, fS 16 16 0, fS 15 0 0x4000]⟩,  -- AX_STAT
  ⟨0x94, 4, 1, [fS 21 16 0, fS 13 8 0, ⟨5, 0, .w1c, 0, .lrst, .imm⟩]⟩,  -- AX_SAT
  ⟨0x98, 4, 1, [fS 23 0 0]⟩,  -- AX_XSP
  ⟨0x9c, 4, 1, [fS 23 0 0]⟩,  -- AX_VSP
  ⟨0xa0, 4, 1, [fS 23 0 0]⟩,  -- AX_XHAT
  ⟨0xa4, 4, 1, [fS 23 0 0]⟩,  -- AX_VHAT
  ⟨0xa8, 4, 1, [fS 23 0 0]⟩,  -- AX_U
  ⟨0xac, 4, 1, [fS 31 16 0, fS 15 0 0]⟩,  -- AX_COAST
  ⟨0xb0, 4, 1, [fS 31 16 0, fS 15 0 0]⟩,  -- AX_CNT
  ⟨0xb4, 4, 1, [⟨31, 16, .ro, 0, .por, .commit⟩, ⟨15, 0, .ro, 0, .por, .commit⟩]⟩ ]  -- AX_WC

/-- Registers of a page of kind `bg` (spec tables: *Half-bridge loop registers*; *Vector decision unit registers*; *Half-bridge gate registers*; *Bridge group registers*; rules R147, R223). -/
def bgRegs : List RegDef := [
  ⟨0x58, 0x20, 6, [fS 27 16 0, fS 11 0 0]⟩,  -- HB_WIN
  ⟨0x5c, 0x20, 6, [fS 31 30 0, fS 29 29 0, fS 28 28 1, fS 15 0 0]⟩,  -- HB_LOOP
  ⟨0x200, 0x40, 2, [fC 31 26 0x14, fC 23 16 0x10, fC 15 0 0x4000]⟩,  -- VDU_CFG
  ⟨0x204, 0x40, 2, [fC 31 16 0x1000, fC 15 0 0x20]⟩,  -- VDU_BAND
  ⟨0x208, 0x40, 2, [fC 31 31 0, fC 24 16 0x50, fC 15 8 0xc8]⟩,  -- VDU_FF
  ⟨0x20c, 0x40, 2, [fC 15 0 0]⟩,  -- VDU_L
  ⟨0x210, 0x40, 2, [fC 11 0 0xfa]⟩,  -- VDU_MINP
  ⟨0x214, 0x40, 2, [fS 31 29 0, fS 28 27 0, fS 26 23 0, fS 22 22 0, fS 13 8 0, fS 2 0 0]⟩,  -- VDU_STAT
  ⟨0x218, 0x40, 2, [fS 31 16 0, fS 15 0 0]⟩,  -- VDU_H
  ⟨0x21c, 0x40, 2, [fS 15 0 0]⟩,  -- VDU_FREQ
  ⟨0x220, 0x40, 2, [fS 31 16 0, fS 15 0 0]⟩,  -- VDU_CNT_A
  ⟨0x224, 0x40, 2, [fS 31 16 0, fS 15 0 0]⟩,  -- VDU_CNT_B
  ⟨0x228, 0x40, 2, [⟨0, 0, .wo, 0, .lrst, .imm⟩]⟩,  -- VDU_CLR
  ⟨0x40, 0x20, 6, [fC 31 31 0, fC 30 29 0, fC 23 16 0x20, fC 10 0 0x50]⟩,  -- HB_CFG
  ⟨0x44, 0x20, 6, [fC 24 16 0x64, fC 5 0 0xa]⟩,  -- HB_TGT
  ⟨0x48, 0x20, 6, [fS 31 28 0, fS 27 24 0, fS 23 20 0, fS 19 16 0, fC 3 0 8]⟩,  -- HB_STEP
  ⟨0x4c, 0x20, 6, [fS 31 24 0, fS 23 16 0, fS 15 8 0, fS 7 0 0]⟩,  -- HB_MEAS
  ⟨0x50, 0x20, 6, [fS 31 31 0, fS 30 30 0, fS 29 29 0, ⟨28, 26, .ro, 0, .por, .pwr⟩, ⟨25, 23, .ro, 0, .por, .pwr⟩, fS 7 0 0]⟩,  -- HB_STAT
  ⟨0x54, 0x20, 6, [fS 31 24 0, fS 23 16 0, fS 15 8 0, fS 7 0 0]⟩,  -- HB_CNT
  ⟨0x100, 4, 1, [fC 15 8 0x14]⟩,  -- BG_CFG
  ⟨0x104, 4, 1, [fS 31 29 0, fS 28 28 0, fS 27 27 0, ⟨6, 6, .ro, 0, .por, .pwr⟩, ⟨5, 0, .ro, 0, .por, .pwr⟩]⟩,  -- BG_STAT
  ⟨0x108, 4, 1, [⟨0, 0, .wo, 0, .lrst, .imm⟩]⟩ ]  -- BG_CLR

/-- Registers of a page of kind `blend` (spec tables: *BLEND page registers*; rules R173). -/
def blendRegs0 : List RegDef := [
  ⟨0x40, 4, 1, [fC 31 31 0, fC 30 30 1, fC 29 26 0, fC 15 0 0x7d0]⟩,  -- BLD_CFG
  ⟨0x44, 4, 1, [fC 31 16 0x1770, fC 15 0 0x2710]⟩,  -- BLD_LIM
  ⟨0x48, 4, 1, [fC 31 16 0xc350, fC 15 0 0x14]⟩,  -- BLD_LIM2
  ⟨0x4c, 4, 1, [fC 31 16 0x8000, fC 15 0 0x3e8]⟩,  -- BLD_ELEC
  ⟨0x50, 4, 1, [fC 31 16 0x672, fC 15 0 0x6a4]⟩,  -- BLD_LINK
  ⟨0x54, 4, 1, [fC 31 16 0x32, fC 11 0 0xc8]⟩,  -- BLD_LINK2
  ⟨0x58, 4, 1, [fC 31 0 0x28f]⟩,  -- BLD_RKP
  ⟨0x5c, 4, 1, [fC 31 0 0x1999]⟩,  -- BLD_RKI
  ⟨0x60, 4, 1, [fC 31 16 0x7d0, fC 15 0 0x1f4]⟩,  -- BLD_PWM
  ⟨0x64, 4, 1, [fC 31 24 0x1f, fC 23 16 5, fC 15 8 0x40, fC 7 0 0xcd]⟩,  -- BLD_SLIP
  ⟨0x68, 4, 1, [fC 31 24 0x32, fC 23 16 0x14, fC 15 8 0xf]⟩,  -- BLD_SLIP2
  ⟨0x6c, 4, 1, [fC 31 16 0x3e8, fC 15 0 0x1388]⟩,  -- BLD_REF
  ⟨0x70, 4, 1, [fC 31 24 0x40, fC 23 16 0x20, fC 15 0 0x100]⟩,  -- BLD_TRIM
  ⟨0x74, 4, 1, [fC 31 16 0x4e20]⟩,  -- BLD_ACC
  ⟨0x78, 4, 1, [fC 15 0 0x14]⟩,  -- BLD_SHARE
  ⟨0x80, 8, 6, [fC 31 24 0xff, fC 15 0 0]⟩,  -- BLD_AXLE
  ⟨0x84, 8, 6, [fC 15 0 0]⟩,  -- BLD_AXK
  ⟨0xc0, 4, 12, [fC 31 31 0, fC 30 30 0, fC 29 26 0, fC 25 23 0, fC 22 19 0, fC 15 0 0x400]⟩,  -- BLD_WHL
  ⟨0x100, 4, 1, [fS 31 31 0, fS 30 30 0, fS 29 29 0, fS 28 28 0, fS 27 24 0, fS 15 0 0]⟩,  -- BLD_STAT
  ⟨0x104, 4, 1, [fS 31 16 0, fS 15 0 0]⟩,  -- BLD_DEC
  ⟨0x108, 4, 1, [fS 31 16 0, fS 15 0 0]⟩,  -- BLD_MASS
  ⟨0x10c, 4, 1, [fS 31 16 0, fS 15 0 0]⟩,  -- BLD_FRC
  ⟨0x110, 4, 1, [fS 31 16 0, fS 15 0 0xffff]⟩,  -- BLD_FAV
  ⟨0x114, 4, 1, [fS 31 16 0, fS 15 0 0]⟩ ]  -- BLD_LINKM

def blendRegs1 : List RegDef := [
  ⟨0x118, 4, 1, [fS 15 0 0]⟩,  -- BLD_VREF
  ⟨0x11c, 4, 1, [fS 31 16 0, fS 15 0 0]⟩,  -- BLD_CNT
  ⟨0x140, 8, 12, [fS 27 16 0x800, fS 7 0 0]⟩,  -- BLD_WST
  ⟨0x144, 8, 12, [fS 15 0 0]⟩,  -- BLD_WF
  ⟨0x1a0, 4, 1, [⟨0, 0, .wo, 0, .lrst, .imm⟩]⟩ ]  -- BLD_CLR

/-- All registers of kind `blend`. -/
def blendRegs : List RegDef := blendRegs0 ++ blendRegs1

/-- Registers of a page of kind `steer` (spec tables: *STEER page registers*; rules R174). -/
def steerRegs : List RegDef := [
  ⟨0x40, 4, 4, [fC 31 31 0, fC 30 27 0, fC 15 0 0x4000]⟩,  -- STR_AX
  ⟨0x50, 4, 1, [fC 31 16 0x5dc, fC 15 0 0x1f4]⟩,  -- STR_VLIM
  ⟨0x54, 4, 1, [fC 31 16 0x88b8, fC 15 0 0x2710]⟩,  -- STR_XLIM
  ⟨0x58, 4, 1, [fC 31 16 0x7d0, fC 15 0 0x64]⟩,  -- STR_TRACK
  ⟨0x80, 4, 1, [fS 31 28 0, fS 27 24 0, fS 15 0 0]⟩,  -- STR_STAT
  ⟨0x84, 4, 1, [fS 31 0 0]⟩,  -- STR_CMD
  ⟨0x88, 4, 1, [fS 15 0 0]⟩,  -- STR_LIM
  ⟨0x8c, 4, 1, [fS 15 0 0]⟩,  -- STR_ERRMAX
  ⟨0x90, 4, 1, [⟨0, 0, .wo, 0, .lrst, .imm⟩]⟩ ]  -- STR_CLR

/-- Registers of a page of kind `janus` (spec tables: *JANUS page registers*; rules R198). -/
def janusRegs : List RegDef := [
  ⟨0x40, 4, 1, [fC 1 1 0, fC 0 0 1]⟩,  -- JAN_CFG
  ⟨0x44, 4, 1, [fS 31 16 0, fS 7 7 0, fS 6 6 0, fS 3 0 8]⟩,  -- JAN_STAT
  ⟨0x48, 4, 1, [fP 15 0 0]⟩,  -- JAN_FENCE
  ⟨0x4c, 4, 1, [fS 15 0 0]⟩,  -- JAN_PEND
  ⟨0x50, 4, 1, [fS 31 16 0, fS 15 0 0]⟩,  -- JAN_CNT_A
  ⟨0x54, 4, 1, [fS 31 24 0, fS 23 16 0, fS 15 8 0, fS 7 0 0]⟩,  -- JAN_CNT_B
  ⟨0x58, 4, 1, [fS 31 16 0, fS 15 0 0]⟩,  -- JAN_CNT_C
  ⟨0x5c, 4, 1, [fS 31 16 0, fS 15 0 0]⟩,  -- JAN_CNT_D
  ⟨0x60, 4, 1, [fS 31 24 0, fS 19 18 0, fS 17 16 0, fS 15 8 0, fS 7 0 0]⟩,  -- JAN_INJ_STAT
  ⟨0x64, 4, 1, [⟨31, 31, .wo, 0, .lrst, .tick⟩, ⟨6, 0, .wo, 0, .lrst, .tick⟩]⟩,  -- JAN_INJ_CTL
  ⟨0x68, 4, 1, [fS 31 30 0, fS 29 28 0, fS 27 26 0, fS 25 23 0, fS 22 19 0, fS 18 16 0, fS 15 12 0, fS 5 0 0]⟩,  -- JAN_CAP_AX
  ⟨0x6c, 4, 1, [fS 23 0 0]⟩,  -- JAN_CAP_PLAIN
  ⟨0x70, 4, 1, [fS 29 0 0]⟩,  -- JAN_CAP_CODED
  ⟨0x74, 4, 1, [fS 23 0 0]⟩,  -- JAN_CAP_RERUN
  ⟨0x78, 4, 1, [fS 13 8 0, fS 5 0 0]⟩,  -- JAN_CAP_FLAGS
  ⟨0x7c, 4, 1, [fS 31 0 0]⟩,  -- JAN_CAP_TIME
  ⟨0x80, 4, 8, [fS 31 16 0, fS 15 0 0]⟩,  -- JAN_AXCNT
  ⟨0xa0, 4, 1, [⟨1, 1, .wo, 0, .lrst, .imm⟩, ⟨0, 0, .wo, 0, .lrst, .imm⟩]⟩ ]  -- JAN_CLR

/-- Registers of a page of kind `aux` (spec tables: *AUX page registers*; rules R224). -/
def auxRegs : List RegDef := [
  ⟨0x40, 4, 1, [fC 1 0 0]⟩,  -- AUX_CFG
  ⟨0x44, 4, 2, [fC 31 31 0, fC 30 28 0, fC 23 12 0, fC 11 0 0]⟩,  -- PK_CFG
  ⟨0x4c, 4, 2, [fC 31 16 0x64, fC 15 0 0]⟩,  -- PK_TIME
  ⟨0x54, 4, 1, [fC 31 16 0x100, fC 15 0 0x200]⟩,  -- PK_GAIN
  ⟨0x80, 4, 1, [fS 31 30 0, fS 29 28 0, fS 27 24 0, fS 23 20 0, fS 19 18 0, fS 17 16 0, fS 15 14 0]⟩,  -- AUX_STAT
  ⟨0x84, 4, 2, [fS 31 16 0, fS 11 0 0]⟩,  -- PK_STAT
  ⟨0x8c, 4, 1, [fS 31 24 0, fS 23 16 0, fS 15 8 0, fS 7 0 0]⟩,  -- AUX_CNT
  ⟨0x90, 4, 1, [⟨0, 0, .wo, 0, .lrst, .imm⟩]⟩ ]  -- AUX_CLR

/-- Registers of a page of kind `supply` (spec tables: *SUPPLY page registers*; rules R244). -/
def supplyRegs : List RegDef := [
  ⟨0x40, 4, 1, [fC 15 0 0]⟩,  -- SUP_MAP
  ⟨0x80, 16, 4, [fC 31 31 0, fC 30 29 0, fC 23 16 5, fC 15 8 0xc8, fC 7 0 0x64]⟩,  -- SUP_BCFG
  ⟨0x84, 16, 4, [fC 31 16 0x672, fC 15 0 0x640]⟩,  -- SUP_BTH
  ⟨0x88, 16, 4, [fC 31 16 0x73a, fC 15 0 0xf0]⟩,  -- SUP_BTH2
  ⟨0x8c, 16, 4, [fS 31 31 0, fS 30 30 0, fS 29 29 0, fS 15 0 0]⟩,  -- SUP_BSTAT
  ⟨0x100, 16, 8, [fC 31 31 1, fC 23 16 0x14, fC 15 8 0x46]⟩,  -- SUP_DCFG
  ⟨0x104, 16, 8, [fC 15 8 0x64, fC 7 0 0xa]⟩,  -- SUP_D2L
  ⟨0x180, 4, 8, [fS 31 31 0, fS 30 28 0, fS 27 24 0, fS 23 23 0, fS 22 20 0, fS 19 19 0, fS 13 8 0, fS 5 0 0]⟩,  -- SUP_LATCH
  ⟨0x1c0, 4, 1, [fS 12 8 0, fS 4 0 0]⟩,  -- SUP_GSTAT
  ⟨0x1c4, 4, 1, [fS 31 16 0, fS 15 0 0]⟩,  -- SUP_CHOP
  ⟨0x1c8, 4, 1, [fS 31 24 0, fS 23 16 0, fS 15 8 0, fS 7 0 0]⟩,  -- SUP_CNT
  ⟨0x1cc, 4, 1, [⟨0, 0, .wo, 0, .lrst, .imm⟩]⟩ ]  -- SUP_CLR

/-- Registers of a page of kind `offdiag` (spec tables: *OFFDIAG page registers*; rules R245). -/
def offdiagRegs : List RegDef := [
  ⟨0x40, 4, 3, [fC 31 0 0]⟩,  -- OD_MODE
  ⟨0x80, 4, 8, [fS 31 29 0, fS 17 0 0]⟩,  -- OD_RES
  ⟨0xc0, 4, 1, [fS 31 16 0, fS 15 0 0]⟩,  -- OD_CNT
  ⟨0xc4, 4, 1, [⟨0, 0, .wo, 0, .lrst, .imm⟩]⟩ ]  -- OD_CLR

/-- Registers of a page of kind `safestop` (spec tables: *SAFESTOP page registers*; rules R264). -/
def safestopRegs : List RegDef := [
  ⟨0x40, 4, 1, [fC 31 16 0x3e8, fC 15 8 0xa, fC 1 0 1]⟩,  -- SS_CFG
  ⟨0x44, 4, 4, [fC 15 0 0]⟩,  -- SS_TGT
  ⟨0x54, 4, 1, [fC 31 16 0x1388, fC 15 0 0xc350]⟩,  -- SS_LIM
  ⟨0x58, 4, 1, [fC 31 24 0xc0, fC 23 16 0x60, fC 15 0 0x12c]⟩,  -- SS_MON
  ⟨0x5c, 4, 1, [fC 31 16 0x1e, fC 15 0 0x1f4]⟩,  -- SS_STOP
  ⟨0x60, 4, 1, [fC 15 0 0x12c]⟩,  -- SS_PARK
  ⟨0x64, 4, 1, [⟨1, 1, .wo, 0, .lrst, .tick⟩, ⟨0, 0, .wo, 0, .lrst, .tick⟩]⟩,  -- SS_CTL
  ⟨0x80, 4, 1, [fS 31 29 0, fS 28 28 0, fS 27 24 0, fS 23 22 0, fS 21 21 0, fS 20 20 0, fS 19 19 0, fS 18 18 0, fS 15 0 0]⟩,  -- SS_STAT
  ⟨0x84, 4, 1, [fS 15 8 0, fS 7 0 0]⟩,  -- SS_TRIG
  ⟨0x88, 4, 1, [fS 31 16 0, fS 15 0 0]⟩,  -- SS_MEAS
  ⟨0x8c, 4, 1, [fS 31 0 0]⟩,  -- SS_TIME
  ⟨0x90, 4, 1, [fS 31 16 0, fS 15 0 0]⟩,  -- SS_TMR
  ⟨0x94, 4, 1, [fS 31 24 0, fS 23 16 0, fS 15 0 0]⟩,  -- SS_CNT
  ⟨0x98, 4, 1, [⟨0, 0, .wo, 0, .lrst, .imm⟩]⟩ ]  -- SS_CLR

/-- Registers of a page of kind `lane` (spec tables: *LANE page registers*; rules R288). -/
def laneRegs : List RegDef := [
  ⟨0x40, 4, 1, [fC 31 30 3, fC 23 16 0x3c, fC 0 0 1]⟩,  -- LN_CFG
  ⟨0x48, 4, 1, [fS 31 29 0, ⟨28, 27, .ro, 0, .por, .pwr⟩, fS 26 26 0, fS 25 25 0, fS 24 24 0, fS 23 23 0, fS 22 20 0, fS 19 17 0, fS 16 14 0, fS 11 8 0, fS 3 0 0]⟩,  -- LN_STAT
  ⟨0x4c, 4, 1, [fS 31 28 0, fS 27 24 0, fS 23 20 0, fP 19 16 0, fS 15 8 0xff, fS 7 4 0]⟩,  -- LN_ROLE
  ⟨0x50, 4, 1, [fS 31 30 0, fS 29 28 0, fS 27 25 0, fS 15 8 0, fS 7 0 0]⟩,  -- LN_FCAT
  ⟨0x54, 4, 1, [fS 31 16 0, fP 15 14 0, fP 13 13 0, fP 7 0 0]⟩,  -- LN_TB
  ⟨0x58, 4, 1, [fS 31 31 0, fS 17 16 0, fS 15 0 0]⟩,  -- LN_COORD
  ⟨0x80, 4, 16, [fC 31 24 0xa, fC 15 0 0xccd]⟩,  -- LN_AXTOL
  ⟨0xc0, 4, 16, [fS 31 24 0, fS 23 16 0, fS 15 14 3, fS 13 0 0]⟩,  -- LN_AXST
  ⟨0x100, 4, 1, [fS 31 24 0, fS 23 16 0, fS 15 8 0, fS 7 0 0]⟩,  -- LN_CNT
  ⟨0x104, 4, 1, [⟨1, 1, .wo, 0, .lrst, .tick⟩, ⟨0, 0, .wo, 0, .lrst, .imm⟩]⟩ ]  -- LN_CTL

/-- Registers of a page of kind `moamel` (spec tables: *MOAMEL page registers*; rules R309). -/
def moamelRegs : List RegDef := [
  ⟨0x40, 4, 1, [fC 31 27 3, fC 26 24 0, fC 23 16 0, fC 15 0 0]⟩,  -- MM_CFG
  ⟨0x44, 4, 1, [⟨31, 28, .ro, 0, .por, .pwr⟩, fS 27 26 0, fS 25 22 0, fS 21 21 0, fS 20 20 0, fS 19 19 0, fS 18 18 0, fS 17 17 0, fS 16 16 0, fS 15 12 0]⟩,  -- MM_STAT
  ⟨0x48, 4, 1, [fS 31 30 0, fS 29 28 0, fS 15 0 0]⟩,  -- MM_SPAN
  ⟨0x4c, 4, 1, [fS 31 16 0, fS 15 0 0]⟩,  -- MM_REACH
  ⟨0x50, 4, 1, [fS 31 16 0, fS 15 0 0]⟩,  -- MM_CAND
  ⟨0x54, 4, 1, [fS 31 31 0, fS 30 16 0, fS 15 0 0]⟩,  -- MM_BUDGET
  ⟨0x58, 4, 1, [fS 31 16 0, fS 15 0 0]⟩,  -- MM_TIMING
  ⟨0x5c, 4, 1, [fS 31 24 0, fS 23 16 0, fS 15 8 0, fS 7 0 0]⟩,  -- MM_CNT
  ⟨0x60, 4, 1, [⟨0, 0, .wo, 0, .lrst, .imm⟩]⟩ ]  -- MM_CLR

/-- Registers of a page of kind `link` (spec tables: *Link page registers*; rules R310). -/
def linkRegs : List RegDef := [
  ⟨0x40, 4, 1, [fC 31 31 1]⟩,  -- LK_CFG
  ⟨0x44, 4, 1, [fS 31 29 0, fS 28 25 0, fS 24 20 0, fS 19 17 0, fS 15 0 0]⟩,  -- LK_STAT
  ⟨0x48, 4, 1, [fS 31 16 0, fS 15 0 0]⟩,  -- LK_ERR
  ⟨0x4c, 4, 1, [fS 31 24 0, fS 23 0 0]⟩,  -- LK_CNT
  ⟨0x50, 4, 1, [⟨0, 0, .wo, 0, .lrst, .imm⟩]⟩ ]  -- LK_CLR

/-- Registers of a page of kind `sitil` (spec tables: *SITIL page registers*; rules R340). -/
def sitilRegs : List RegDef := [
  ⟨0x40, 4, 1, [fC 15 0 0]⟩,  -- SIT_ID
  ⟨0x44, 4, 1, [fC 31 24 0x32, fC 23 16 0x14, fC 15 8 0x14, fC 7 7 0, fC 3 0 3]⟩,  -- SIT_CFG
  ⟨0x48, 4, 1, [fC 31 16 0, fC 15 0 0]⟩,  -- SIT_CS_01
  ⟨0x4c, 4, 1, [fC 31 16 0, fC 15 0 0]⟩,  -- SIT_CS_23
  ⟨0x50, 4, 1, [fC 31 16 0, fC 15 12 0, fC 11 10 0]⟩,  -- SIT_CFG2
  ⟨0x54, 4, 1, [fC 31 16 0, fC 15 0 0]⟩,  -- SIT_PROP
  ⟨0x58, 4, 1, [fS 31 29 0, fS 28 26 0, fS 25 25 1, fS 24 24 1, fS 23 23 0, fS 22 21 0, fS 19 16 0, fS 15 0 0]⟩,  -- SIT_STAT
  ⟨0x5c, 4, 1, [⟨31, 0, .ro, 0, .por, .commit⟩]⟩,  -- SIT_SCRC
  ⟨0x60, 4, 1, [fS 31 16 0, fS 15 0 0]⟩,  -- SIT_DEV
  ⟨0x64, 4, 1, [fS 31 16 0, fS 15 0 0]⟩,  -- SIT_CNT_X
  ⟨0x68, 4, 1, [fS 31 16 0, fS 15 0 0]⟩,  -- SIT_CNT_Y
  ⟨0x6c, 4, 1, [fS 31 24 0, fS 23 16 0, fS 15 8 0, fS 7 0 0]⟩,  -- SIT_CNT2
  ⟨0x70, 4, 1, [⟨0, 0, .wo, 0, .lrst, .imm⟩]⟩ ]  -- SIT_CLR

/-- Registers of a page of kind `port` (spec tables: *Port page registers*; rules R341). -/
def portRegs : List RegDef := [
  ⟨0x40, 4, 1, [fS 31 30 0, fS 29 29 0, fS 28 28 0, fS 12 0 0]⟩,  -- SP_STAT
  ⟨0x44, 4, 1, [fS 31 0 0]⟩,  -- SP_RX
  ⟨0x48, 4, 1, [fS 31 0 0]⟩,  -- SP_TX
  ⟨0x4c, 4, 1, [fS 31 16 0, fS 15 0 0]⟩,  -- SP_ERR
  ⟨0x50, 4, 1, [fS 31 24 0, fS 23 16 0, fS 15 0 0]⟩,  -- SP_ERR2
  ⟨0x54, 4, 1, [fS 31 0 0]⟩,  -- SP_FWD
  ⟨0x58, 4, 1, [⟨0, 0, .wo, 0, .lrst, .imm⟩]⟩ ]  -- SP_CLR

/-- Registers of a page of kind `sched` (spec tables: *SCHED page registers*; rules R342). -/
def schedRegs : List RegDef := [
  ⟨0x40, 4, 1, [⟨31, 31, .rw, 1, .por, .imm⟩, fC 13 0 0]⟩,  -- SCH_CFG
  ⟨0x44, 4, 1, [⟨12, 0, .rw, 0, .lrst, .imm⟩]⟩,  -- SCH_IDX
  ⟨0x48, 4, 1, [fC 31 0 0]⟩,  -- SCH_W0
  ⟨0x4c, 4, 1, [fC 31 0 0]⟩,  -- SCH_W1
  ⟨0x50, 4, 1, [fC 31 0 0]⟩,  -- SCH_W2
  ⟨0x54, 4, 1, [fS 31 31 0, fS 15 13 0, fS 12 0 0]⟩,  -- SCH_STAT
  ⟨0x58, 4, 1, [fS 31 31 0, fS 30 30 0, fS 29 28 0, fS 27 24 0xf, fS 15 0 0]⟩ ]  -- SCH_RXST

/-- Registers of a page of kind `charon` (spec tables: *CHARON page registers*; rules R343). -/
def charonRegs : List RegDef := [
  ⟨0x40, 4, 1, [fC 15 8 5, fC 7 0 0x14]⟩,  -- CHN_CFG
  ⟨0x44, 4, 1, [fS 31 28 0, fS 27 27 0, fS 26 26 1, fS 25 25 0, fS 24 24 0, ⟨10, 0, .ro, 0, .por, .commit⟩]⟩,  -- CHN_STAT
  ⟨0x48, 4, 1, [⟨31, 0, .ro, 0, .por, .commit⟩]⟩,  -- CH_TCRC
  ⟨0x4c, 4, 1, [fS 15 0 0]⟩,  -- CH_FREQ
  ⟨0x50, 4, 1, [fS 31 16 0, fS 15 0 0]⟩,  -- CH_BLK_01
  ⟨0x54, 4, 1, [fS 31 16 0, fS 15 0 0]⟩,  -- CH_BLK_23
  ⟨0x58, 4, 1, [fS 31 24 0, fS 23 16 0, fS 15 0 0]⟩,  -- CH_CNT
  ⟨0x5c, 4, 1, [⟨0, 0, .wo, 0, .lrst, .imm⟩]⟩ ]  -- CH_CLR

/-- Registers of a page of kind `safelayer` (spec tables: *SAFELAYER page registers*; rules R365). -/
def safelayerRegs : List RegDef := [
  ⟨0x40, 4, 1, [fS 31 31 0, fS 30 30 0]⟩,  -- SL_STAT
  ⟨0x44, 4, 1, [fS 31 0 0]⟩,  -- SL_VALID
  ⟨0x48, 4, 1, [fS 31 16 0, fS 15 0 0]⟩,  -- SL_CNT_A
  ⟨0x4c, 4, 1, [fS 31 16 0, fS 15 0 0]⟩,  -- SL_CNT_B
  ⟨0x50, 4, 1, [fS 31 16 0, fS 15 0 0]⟩,  -- SL_CNT_C
  ⟨0x54, 4, 1, [fS 31 16 0, fS 15 0 0]⟩,  -- SL_CNT_D
  ⟨0x58, 4, 1, [⟨0, 0, .wo, 0, .lrst, .imm⟩]⟩,  -- SL_CLR
  ⟨0x80, 12, 32, [fC 31 31 0, fC 30 27 0, fC 25 25 0, fC 15 0 0]⟩,  -- SL_CONN0
  ⟨0x84, 12, 32, [fC 31 16 0, fC 15 0 0]⟩,  -- SL_CONN1
  ⟨0x88, 12, 32, [fC 15 0 0xbb8]⟩,  -- SL_CONN2
  ⟨0x200, 4, 32, [fS 31 31 0, fS 30 30 0, fS 29 16 0x3fff, fS 15 0 0]⟩ ]  -- SL_CST

/-- Registers of a page of kind `nettime` (spec tables: *NETTIME page registers*; rules R366). -/
def nettimeRegs : List RegDef := [
  ⟨0x40, 4, 1, [fC 31 31 1, fC 2 0 3]⟩,  -- NT_CFG
  ⟨0x44, 4, 1, [fP 31 29 0, fP 28 28 0, fP 27 27 0, fP 26 26 0, fP 25 25 0, fP 15 0 0]⟩,  -- NT_STAT
  ⟨0x48, 4, 1, [fP 31 0 0]⟩,  -- NT_TIME_LO
  ⟨0x4c, 4, 1, [fP 31 0 0]⟩,  -- NT_TIME_HI
  ⟨0x50, 4, 1, [fP 31 0 0]⟩,  -- NT_TICK_LO
  ⟨0x54, 4, 1, [fP 31 0 0]⟩,  -- NT_TICK_HI
  ⟨0x58, 4, 1, [fP 31 0 0]⟩,  -- NT_CYC_LO
  ⟨0x5c, 4, 1, [fP 13 0 0]⟩,  -- NT_CYC_HI
  ⟨0x60, 4, 1, [fP 31 0 0]⟩,  -- NT_RATE
  ⟨0x64, 4, 1, [fS 31 0 0]⟩,  -- NT_OFS
  ⟨0x68, 4, 1, [fS 31 0 0]⟩,  -- NT_HOLD
  ⟨0x6c, 4, 1, [fS 31 24 0, fS 23 16 0, fS 15 8 0, fS 7 0 0]⟩,  -- NT_CNT
  ⟨0x70, 4, 1, [⟨0, 0, .wo, 0, .lrst, .imm⟩]⟩ ]  -- NT_CLR

/-- Registers of a page of kind `fault` (spec tables: *FAULT page registers*; rules R387). -/
def faultRegs : List RegDef := [
  ⟨0x40, 4, 1, [fS 31 29 0, fS 28 28 0, fS 19 10 0, fS 9 0 0]⟩,  -- FLT_STAT
  ⟨0x44, 4, 1, [fP 31 31 0, fP 30 30 0, fP 29 29 0, fP 21 20 0, fP 9 0 0]⟩,  -- FLT_FIRST
  ⟨0x48, 4, 1, [fP 31 0 0]⟩,  -- FLT_FIRST_T_LO
  ⟨0x4c, 4, 1, [fP 31 0 0]⟩,  -- FLT_FIRST_T_HI
  ⟨0x50, 4, 1, [fP 31 0 0]⟩,  -- FLT_FIRST_DATA
  ⟨0x54, 4, 1, [fP 31 31 0, fP 9 0 0]⟩,  -- FLT_TERM
  ⟨0x58, 4, 1, [fS 11 11 0, fS 10 10 0, fS 9 9 0, fS 8 8 0, fS 7 0 0]⟩,  -- FLT_REACT
  ⟨0x5c, 4, 1, [fS 31 16 0, fS 15 0 0]⟩,  -- FLT_CNT
  ⟨0x60, 4, 1, [⟨1, 1, .wo, 0, .lrst, .imm⟩, ⟨0, 0, .wo, 0, .lrst, .imm⟩]⟩,  -- FLT_CTL
  ⟨0x80, 4, 32, [fS 31 0 0]⟩ ]  -- FLT_ACT

/-- Registers of a page of kind `faultsrc` (spec tables: *FAULTSRC page registers*; rules R388). -/
def faultsrcRegs : List RegDef := [
  ⟨0x40, 4, 1, [⟨31, 31, .rw, 0, .lrst, .imm⟩, ⟨9, 0, .rw, 0, .lrst, .imm⟩]⟩,  -- FS_IDX
  ⟨0x44, 4, 1, [fC 31 30 0, fC 29 28 0, fC 27 20 0, fC 19 19 1, fC 7 7 0, fC 4 0 0]⟩,  -- FS_CFG; MASK bits 6:5 are reserved
  ⟨0x48, 4, 1, [fC 19 0 0]⟩,  -- FS_WIN
  ⟨0x4c, 4, 1, [fS 31 31 0, fS 30 30 0, fS 29 28 0, fS 23 16 0, fS 15 0 0]⟩,  -- FS_STAT
  ⟨0x50, 4, 1, [fS 31 0 0]⟩,  -- FS_LAST
  ⟨0x54, 4, 1, [fS 31 0 0]⟩,  -- FS_DATA
  ⟨0x58, 4, 1, [⟨0, 0, .wo, 0, .lrst, .imm⟩]⟩ ]  -- FS_FORCE

/-- Registers of a page of kind `log` (spec tables: *LOG page registers*; rules R389). -/
def logRegs : List RegDef := [
  ⟨0x40, 4, 1, [fC 1 1 0, fC 0 0 0]⟩,  -- LOG_CFG
  ⟨0x44, 4, 1, [fP 31 31 0, fP 30 30 0, fP 12 0 0]⟩,  -- LOG_STAT
  ⟨0x48, 4, 1, [fP 11 0 0]⟩,  -- LOG_WPTR
  ⟨0x4c, 4, 1, [⟨11, 0, .rw, 0, .por, .imm⟩]⟩,  -- LOG_RPTR
  ⟨0x50, 4, 1, [fP 31 0 0]⟩,  -- LOG_TOTAL
  ⟨0x54, 4, 1, [fP 31 16 0, fP 15 0 0]⟩,  -- LOG_CNT
  ⟨0x58, 4, 1, [⟨1, 1, .wo, 0, .lrst, .imm⟩, ⟨0, 0, .wo, 0, .lrst, .imm⟩]⟩,  -- LOG_CTL
  ⟨0x60, 4, 1, [⟨11, 0, .rw, 0, .lrst, .imm⟩]⟩,  -- LOG_IDX
  ⟨0x64, 4, 4, [fP 31 0 0]⟩ ]  -- LOG_E

/-- Registers of a page of kind `bist` (spec tables: *BIST page registers*; rules R409). -/
def bistRegs : List RegDef := [
  ⟨0x40, 4, 1, [fC 15 8 0x19, fC 3 0 2]⟩,  -- BIST_CFG
  ⟨0x44, 4, 1, [fS 31 30 0, fS 29 29 0, fS 28 25 0, fS 24 14 0, fS 13 0 0]⟩,  -- BIST_STAT
  ⟨0x48, 4, 1, [fS 31 16 0, fS 15 0 0]⟩,  -- BIST_SWEEP
  ⟨0x4c, 4, 1, [fS 31 24 0, fS 23 16 0, fS 15 8 0]⟩,  -- BIST_COV
  ⟨0x50, 4, 1, [fS 31 16 0, fS 15 0 0]⟩,  -- BIST_CNT_A
  ⟨0x54, 4, 1, [fS 31 24 0, fS 23 16 0, fS 15 8 0, fS 7 0 0]⟩,  -- BIST_CNT_B
  ⟨0x58, 4, 1, [fS 31 28 0, fS 27 16 0, fS 13 0 0]⟩,  -- BIST_LAST
  ⟨0x5c, 4, 1, [fS 2 2 0, fS 1 1 0, fS 0 0 0]⟩,  -- BIST_SKIP
  ⟨0x60, 4, 1, [fS 31 28 0, fS 27 24 0]⟩,  -- BIST_SHADOW
  ⟨0x64, 4, 1, [fS 31 28 0]⟩,  -- BIST_SLC
  ⟨0x68, 4, 1, [⟨0, 0, .wo, 0, .lrst, .imm⟩]⟩ ]  -- BIST_CLR

/-- Registers of a page of kind `repair` (spec tables: *REPAIR page registers*; rules R410). -/
def repairRegs : List RegDef := [
  ⟨0x40, 4, 1, [⟨31, 31, .ro, 0, .por, .pwr⟩, fP 30 30 0, fP 29 29 0, fP 24 16 0, ⟨15, 8, .ro, 0, .por, .pwr⟩, fP 7 0 0]⟩,  -- RP_STAT
  ⟨0x44, 4, 1, [⟨31, 31, .ro, 0, .por, .tick⟩, fP 30 30 0, fP 29 27 0, fP 15 8 0, fP 7 0 0]⟩,  -- RP_SPARE
  ⟨0x48, 4, 1, [⟨31, 0, .ro, 0, .por, .tick⟩]⟩,  -- RP_SLICE
  ⟨0x4c, 4, 1, [⟨31, 0, .ro, 0, .por, .pwr⟩]⟩,  -- RP_WIN
  ⟨0x50, 4, 1, [⟨7, 0, .rw, 0, .lrst, .imm⟩]⟩,  -- RP_IDX
  ⟨0x54, 4, 1, [fP 31 0 0]⟩,  -- RP_E0
  ⟨0x58, 4, 1, [fP 31 0 0]⟩,  -- RP_E1
  ⟨0x5c, 4, 1, [fP 31 0 0]⟩,  -- RP_CRC
  ⟨0x60, 4, 1, [⟨15, 0, .ro, 0, .por, .pwr⟩]⟩,  -- RP_PORS
  ⟨0x64, 4, 1, [fP 7 0 0]⟩ ]  -- RP_PEND

/-- Registers of a page of kind `power` (spec tables: *POWER page registers*; rules R431). -/
def powerRegs : List RegDef := [
  ⟨0x40, 4, 1, [⟨1, 0, .rw, 0, .lrst, .imm⟩]⟩,  -- PWR_MODE
  ⟨0x44, 4, 1, [fS 31 30 0, fS 29 29 0, fS 28 26 0, fS 25 25 0, fS 24 23 0, fS 22 20 0, fS 16 16 0, fS 7 0 0xff]⟩,  -- PWR_STAT
  ⟨0x48, 4, 1, [fS 31 29 0, fS 28 27 0, fS 26 24 0, fS 20 16 0, fS 15 1 0]⟩,  -- PWR_LAST
  ⟨0x4c, 4, 1, [fC 8 8 0, fC 4 0 0x1f]⟩,  -- PWR_CFG
  ⟨0x50, 4, 1, [fC 15 0 0x5a3c]⟩,  -- PWR_HALLEY
  ⟨0x54, 4, 1, [fS 12 12 0, fS 9 8 3, fS 5 4 3, ⟨1, 0, .rw, 3, .por, .imm⟩]⟩,  -- PWR_DVFS
  ⟨0x58, 4, 1, [fP 31 16 0, fP 4 0 0]⟩,  -- PWR_WAKE
  ⟨0x5c, 4, 1, [fP 31 0 0]⟩,  -- PWR_SLEEP
  ⟨0x60, 4, 1, [fP 15 0 0]⟩,  -- PWR_PAD
  ⟨0x64, 4, 1, [⟨15, 0, .wo, 0, .lrst, .imm⟩]⟩,  -- PWR_PAD_REL
  ⟨0x68, 4, 1, [fS 15 8 0, fS 7 0 0]⟩,  -- PWR_PADCHK
  ⟨0x6c, 4, 1, [⟨2, 0, .w1c, 0, .por, .imm⟩]⟩,  -- PWR_RET
  ⟨0x70, 4, 1, [fS 31 24 0, fS 23 16 0, fS 15 8 0, fS 7 0 0]⟩,  -- PWR_CNT
  ⟨0x74, 4, 1, [⟨0, 0, .wo, 0, .lrst, .imm⟩]⟩,  -- PWR_CLR
  ⟨0x80, 4, 8, [fS 31 24 0, fS 23 16 0, fS 15 8 0, fS 7 0 0]⟩ ]  -- PWR_REF

/-- Registers of a page of kind `clock` (spec tables: *CLOCK page registers*; rules R445). -/
def clockRegs : List RegDef := [
  ⟨0x40, 4, 1, [fS 31 16 0, fS 15 0 0]⟩,  -- CLK_STAT
  ⟨0x44, 4, 1, [fS 2 0 0]⟩,  -- CLK_PLL_ST
  ⟨0x48, 4, 1, [fS 31 31 0, fS 15 8 0, fS 7 0 0]⟩,  -- CLK_TCXO_ST
  ⟨0x4c, 4, 1, [⟨31, 28, .rw, 0, .lrst, .imm⟩, fS 27 0 0]⟩,  -- CLK_MEAS
  ⟨0x50, 4, 1, [fS 31 24 0, fS 23 16 0]⟩,  -- CLK_CNT
  ⟨0x54, 4, 1, [⟨0, 0, .wo, 0, .lrst, .imm⟩]⟩ ]  -- CLK_CLR

/-- Registers of a page of kind `cdc` (spec tables: *CDC page registers*; rules R446). -/
def cdcRegs : List RegDef := [
  ⟨0x40, 4, 1, [fS 17 0 0]⟩,  -- CDC_TMO
  ⟨0x44, 4, 1, [⟨17, 0, .w1c, 0, .lrst, .imm⟩]⟩,  -- CDC_PEER
  ⟨0x80, 4, 18, [fS 31 31 0, fS 30 30 0, fS 29 29 0, fS 28 24 0, fS 23 16 0, fS 15 8 0, fS 7 0 0]⟩,  -- CDC_XST
  ⟨0xd0, 4, 1, [⟨0, 0, .wo, 0, .lrst, .imm⟩]⟩ ]  -- CDC_CLR

/-- Registers of a page of kind `hostport` (spec tables: *HOSTPORT page registers*; rules R472). -/
def hostportRegs : List RegDef := [
  ⟨0x40, 4, 1, [⟨0, 0, .rw, 1, .por, .imm⟩]⟩,  -- HP_CFG
  ⟨0x44, 4, 1, [fS 31 27 0, fS 26 22 0, fS 21 16 0]⟩,  -- HP_STAT
  ⟨0x48, 4, 1, [fS 31 24 0, fS 23 16 0, fS 15 8 0, fS 7 0 0]⟩,  -- HP_CNT
  ⟨0x4c, 4, 1, [fS 31 24 0, fS 23 16 0, fS 15 8 0, fS 7 0 0]⟩,  -- HP_CNT2
  ⟨0x50, 4, 1, [⟨1, 1, .wo, 0, .lrst, .imm⟩, ⟨0, 0, .wo, 0, .lrst, .imm⟩]⟩ ]  -- HP_CTL

/-- Registers of a page of kind `feature` (spec tables: *FEATURE page registers*; rules R472). -/
def featureRegs : List RegDef := [
  ⟨0x40, 4, 1, [⟨31, 0, .ro, 0xff, .por, .pwr⟩]⟩,  -- FEAT_OFFER_LO
  ⟨0x44, 4, 1, [⟨31, 0, .ro, 0, .por, .pwr⟩]⟩,  -- FEAT_OFFER_HI
  ⟨0x48, 4, 1, [⟨31, 0, .rwn, 0, .lrst, .imm⟩]⟩,  -- FEAT_ACCEPT_LO
  ⟨0x4c, 4, 1, [⟨31, 0, .rwn, 0, .lrst, .imm⟩]⟩,  -- FEAT_ACCEPT_HI
  ⟨0x50, 4, 1, [fS 31 0 0]⟩,  -- FEAT_ACTIVE_LO
  ⟨0x54, 4, 1, [fS 31 0 0]⟩,  -- FEAT_ACTIVE_HI
  ⟨0x58, 4, 1, [fS 31 31 1, fS 30 29 0, fS 15 0 0x3e8]⟩ ]  -- FEAT_STAT

/-- Registers of a page of kind `confsec` (spec tables: *CONFSEC page registers*; rules R472). -/
def confsecRegs : List RegDef := [
  ⟨0x40, 4, 1, [fC 15 0 0x12c]⟩,  -- CS_CFG
  ⟨0x44, 4, 1, [fS 31 31 1, fS 30 30 0, fS 29 29 0, fS 28 28 0, fS 27 27 1, fS 26 26 0, fP 23 22 0, fP 21 12 0]⟩,  -- CS_STAT
  ⟨0x48, 4, 1, [fS 15 0 0]⟩,  -- CS_OP
  ⟨0x4c, 4, 1, [⟨31, 0, .ro, 0, .por, .commit⟩]⟩,  -- CS_CRC
  ⟨0x50, 4, 1, [⟨31, 0, .ro, 0, .por, .commit⟩]⟩,  -- CS_SETCRC
  ⟨0x54, 4, 1, [⟨3, 3, .wo, 0, .lrst, .imm⟩, ⟨2, 2, .wo, 0, .lrst, .tick⟩, ⟨1, 1, .wo, 0, .lrst, .tick⟩, ⟨0, 0, .wo, 0, .lrst, .imm⟩]⟩,  -- CS_CTL
  ⟨0x58, 4, 1, [fS 31 16 0, fS 15 8 0, fS 7 0 0]⟩,  -- CS_CNT
  ⟨0x60, 4, 4, [⟨31, 0, .wol, 0, .lrst, .commit⟩]⟩,  -- CS_PWD
  ⟨0x80, 4, 1, [fP 31 0 0]⟩,  -- CL_NEXT
  ⟨0x84, 4, 1, [fP 31 0 0]⟩,  -- CL_ACKED
  ⟨0x88, 4, 1, [fP 31 31 0, fP 10 0 0]⟩,  -- CL_STAT
  ⟨0x8c, 4, 1, [⟨31, 0, .wo, 0, .lrst, .imm⟩]⟩,  -- LOG_ACK
  ⟨0x90, 4, 1, [⟨9, 0, .rw, 0, .lrst, .imm⟩]⟩,  -- CL_IDX
  ⟨0x94, 4, 8, [fP 31 0 0]⟩ ]  -- CL_E

/-- Registers of a page of kind `ident` (spec tables: *Start-up registers*; *IDENT page registers*; rules R483, R514). -/
def identRegs : List RegDef := [
  ⟨0x100, 4, 1, [fS 31 28 0, fS 27 26 0, fS 25 25 0, fS 24 24 0, fS 23 23 0, fP 22 22 0, fP 21 21 0, fS 19 16 0xf, fS 15 8 0]⟩,  -- SU_STAT
  ⟨0x104, 4, 1, [fS 14 0 0x7fff]⟩,  -- SU_WAIT
  ⟨0x108, 4, 1, [fS 31 16 0xffff, fS 15 0 0]⟩,  -- SU_TIME
  ⟨0x10c, 4, 1, [fS 31 16 0xffff, fS 15 0 0xffff]⟩,  -- SU_MARK
  ⟨0x110, 4, 1, [fS 7 0 0]⟩,  -- SU_GROUPS
  ⟨0x40, 4, 1, [⟨15, 0, .ro, 0, .por, .pwr⟩]⟩,  -- ID_PART
  ⟨0x44, 4, 1, [⟨23, 16, .ro, 0xb1, .por, .pwr⟩, ⟨15, 8, .ro, 0xb1, .por, .pwr⟩, ⟨7, 0, .ro, 1, .por, .pwr⟩]⟩,  -- ID_REV
  ⟨0x48, 4, 1, [⟨31, 24, .ro, 0, .por, .pwr⟩, ⟨23, 16, .ro, 0x45, .por, .pwr⟩]⟩,  -- ID_ORDER
  ⟨0x4c, 4, 1, [⟨31, 0, .ro, 0, .por, .pwr⟩]⟩,  -- ID_SERIAL_LO
  ⟨0x50, 4, 1, [⟨31, 0, .ro, 0, .por, .pwr⟩]⟩,  -- ID_SERIAL_HI
  ⟨0x54, 4, 1, [⟨31, 16, .ro, 0, .por, .pwr⟩, ⟨15, 8, .ro, 0, .por, .pwr⟩, ⟨7, 0, .ro, 0, .por, .pwr⟩]⟩,  -- ID_DATE
  ⟨0x58, 4, 1, [⟨5, 4, .ro, 0, .por, .pwr⟩, ⟨3, 0, .ro, 0, .por, .pwr⟩]⟩,  -- ID_STRAPS
  ⟨0x5c, 4, 1, [⟨31, 0, .ro, 0, .por, .pwr⟩]⟩ ]  -- ID_IDCODE

/-- Registers of a page of kind `hotplug` (spec tables: *HOTPLUG page registers*; rules R502). -/
def hotplugRegs : List RegDef := [
  ⟨0x40, 4, 1, [fP 31 31 0, fP 30 30 0, fP 29 29 0, fS 28 28 0]⟩,  -- HPL_STAT
  ⟨0x44, 4, 1, [fP 31 16 0, fP 15 0 0]⟩,  -- HPL_CNT
  ⟨0x48, 4, 1, [fP 31 0 0]⟩,  -- HPL_HOURS
  ⟨0x4c, 4, 1, [fP 31 0 0]⟩,  -- HPL_KM
  ⟨0x50, 4, 1, [fP 31 16 0, fP 15 0 0]⟩,  -- HPL_TEMP
  ⟨0x54, 4, 1, [fP 31 31 0]⟩ ]  -- HPL_LIFE

/-- Registers of a page of kind `hdr` (spec tables: *Common page header*; rules R505). -/
def hdrRegs : List RegDef := [
  ⟨0x0, 4, 1, [⟨31, 24, .ro, 0, .por, .pwr⟩, ⟨23, 16, .ro, 0, .por, .pwr⟩, ⟨15, 0, .ro, 0, .por, .pwr⟩]⟩,  -- PG_ID
  ⟨0x4, 4, 1, [⟨15, 8, .ro, 1, .por, .pwr⟩, ⟨7, 0, .ro, 0, .por, .pwr⟩]⟩,  -- PG_VER
  ⟨0x8, 4, 1, [fS 31 16 0, ⟨15, 0, .ro, 0, .por, .pwr⟩]⟩,  -- PG_FEAT
  ⟨0xc, 4, 1, [⟨5, 4, .rw, 0, .lrst, .tick⟩, ⟨1, 1, .wo, 0, .lrst, .imm⟩, ⟨0, 0, .rw, 0, .por, .tick⟩]⟩,  -- PG_CTL
  ⟨0x10, 4, 1, [fS 31 28 0, fS 3 3 1, fS 2 2 0, fS 1 1 0, fS 0 0 0]⟩,  -- PG_STAT
  ⟨0x14, 4, 1, [⟨31, 0, .w1c, 0, .lrst, .imm⟩]⟩,  -- PG_FLT
  ⟨0x18, 4, 1, [⟨31, 0, .wo, 0, .lrst, .imm⟩]⟩,  -- PG_FORCE
  ⟨0x1c, 4, 1, [⟨9, 0, .ro, 0, .por, .pwr⟩]⟩,  -- PG_FMAP
  ⟨0x20, 4, 1, [fS 15 8 0, fS 2 2 0, fS 1 1 0, fS 0 0 1]⟩ ]  -- PG_LOCK

/-- The registers a block's chapter gives its page, by page number (R504); the header not included. -/
def pageRegs (pg : Nat) : List RegDef :=
  if pg < 0x010 then
    match pg with
    | 0x000 => identRegs
    | 0x001 => hostportRegs
    | 0x002 => featureRegs
    | 0x003 => confsecRegs
    | 0x004 => tickRegs
    | 0x005 => powerRegs
    | 0x006 => clockRegs
    | 0x007 => cdcRegs
    | 0x008 => faultRegs
    | 0x009 => faultsrcRegs
    | 0x00A => logRegs
    | 0x00B => bistRegs
    | 0x00C => repairRegs
    | 0x00D => janusRegs
    | 0x00E => laneRegs
    | _ => safestopRegs
  else if pg < 0x020 then axisRegs
  else if pg < 0x028 then bgRegs
  else if pg = 0x028 then auxRegs
  else if pg = 0x029 then supplyRegs
  else if pg = 0x02A then offdiagRegs
  else if pg = 0x030 then afeRegs
  else if 0x031 ≤ pg ∧ pg < 0x037 then afeChRegs
  else if pg = 0x037 then afeResRegs
  else if pg = 0x038 then afeEncRegs
  else if pg = 0x039 then afeWsRegs
  else if pg = 0x040 then sitilRegs
  else if 0x041 ≤ pg ∧ pg < 0x045 then portRegs
  else if pg = 0x045 then schedRegs
  else if pg = 0x046 then charonRegs
  else if pg = 0x047 then safelayerRegs
  else if pg = 0x048 then nettimeRegs
  else if pg = 0x050 then moamelRegs
  else if 0x051 ≤ pg ∧ pg < 0x055 then linkRegs
  else if pg = 0x060 then blendRegs
  else if pg = 0x061 then steerRegs
  else if pg = 0x070 then hotplugRegs
  else []

/-- The page is listed in *Page index* (R503, R504). -/
def pageListed (pg : Nat) : Bool :=
  decide (pg < 0x02B ∨ (0x030 ≤ pg ∧ pg < 0x03A) ∨ (0x040 ≤ pg ∧ pg < 0x049) ∨
    (0x050 ≤ pg ∧ pg < 0x055) ∨ pg = 0x060 ∨ pg = 0x061 ∨ pg = 0x070)

/-- PG_ID.TYPE of a listed page (*Page index*). -/
def pageType (pg : Nat) : Nat :=
  if pg < 0x010 then pg + 1
  else if pg < 0x020 then 0x11
  else if pg < 0x028 then 0x12
  else if pg < 0x02B then 0x13 + (pg - 0x028)
  else if pg = 0x030 then 0x16
  else if pg < 0x037 then 0x17
  else if pg < 0x03A then 0x18 + (pg - 0x037)
  else if pg = 0x040 then 0x20
  else if pg < 0x045 then 0x21
  else if pg < 0x049 then 0x22 + (pg - 0x045)
  else if pg = 0x050 then 0x28
  else if pg < 0x055 then 0x29
  else if pg < 0x062 then 0x30 + (pg - 0x060)
  else 0x38

/-- PG_ID.INSTANCE of a listed page (*Page index*). -/
def pageInstance (pg : Nat) : Nat :=
  if 0x010 ≤ pg ∧ pg < 0x020 then pg - 0x010
  else if 0x020 ≤ pg ∧ pg < 0x028 then pg - 0x020
  else if 0x031 ≤ pg ∧ pg < 0x037 then pg - 0x031
  else if 0x041 ≤ pg ∧ pg < 0x045 then pg - 0x041
  else if 0x051 ≤ pg ∧ pg < 0x055 then pg - 0x051
  else 0

/-- PG_FMAP.BASE_ID: the identity of PG_FLT bit 0 (the chapters' page paragraphs; 0 where a page has no sources). -/
def pageFmap (pg : Nat) : Nat :=
  if 0x010 ≤ pg ∧ pg < 0x020 then 0x020 + 2 * (pg - 0x010)
  else if 0x020 ≤ pg ∧ pg < 0x028 then 0x080 + 0x20 * (pg - 0x020)
  else if 0x031 ≤ pg ∧ pg < 0x037 then 0x200 + 0x10 * (pg - 0x031)
  else if 0x041 ≤ pg ∧ pg < 0x045 then 0x290 + 4 * (pg - 0x041)
  else if 0x051 ≤ pg ∧ pg < 0x055 then 0x310 + 2 * (pg - 0x051)
  else
    match pg with
    | 0x001 => 0x3C8
    | 0x002 => 0x3D0
    | 0x003 => 0x3D8
    | 0x005 => 0x340
    | 0x006 => 0x360
    | 0x007 => 0x370
    | 0x00A => 0x3C0
    | 0x00B => 0x3E0
    | 0x00C => 0x3F0
    | 0x00D => 0x040
    | 0x00E => 0x380
    | 0x00F => 0x3B0
    | 0x028 => 0x180
    | 0x029 => 0x1A0
    | 0x02A => 0x1C0
    | 0x030 => 0x27C
    | 0x037 => 0x260
    | 0x038 => 0x268
    | 0x039 => 0x270
    | 0x040 => 0x280
    | 0x046 => 0x2A0
    | 0x047 => 0x2C0
    | 0x048 => 0x2E0
    | 0x050 => 0x300
    | 0x060 => 0x3A0
    | 0x061 => 0x3A8
    | _ => 0

/-- The PG_FLT bits of a page that carry a source (the chapters' fault-source tables), as a 32-bit mask. -/
def pageFltMask (pg : Nat) : Nat :=
  if 0x010 ≤ pg ∧ pg < 0x020 then 0x3
  else if 0x020 ≤ pg ∧ pg < 0x028 then 0xFFFFFFFF
  else if 0x031 ≤ pg ∧ pg < 0x037 then 0xFFFF
  else if 0x041 ≤ pg ∧ pg < 0x045 then 0x3
  else if 0x051 ≤ pg ∧ pg < 0x055 then 0x3
  else
    match pg with
    | 0x001 => 0x1
    | 0x002 => 0x1
    | 0x003 => 0x1F
    | 0x004 => 0xFFFF000F
    | 0x005 => 0xF
    | 0x006 => 0x7
    | 0x007 => 0x3
    | 0x00A => 0x7
    | 0x00B => 0x1FF
    | 0x00C => 0xFFF
    | 0x00D => 0xFFFFFF
    | 0x00E => 0x1FFF
    | 0x00F => 0x3F
    | 0x028 => 0xFFF
    | 0x029 => 0x1FFFF
    | 0x02A => 0xFF
    | 0x030 => 0xF
    | 0x037 => 0xFF
    | 0x038 => 0xFF
    | 0x039 => 0xFFF
    | 0x040 => 0xFF
    | 0x046 => 0xFF
    | 0x047 => 0x7F
    | 0x048 => 0x1F
    | 0x050 => 0x1FF
    | 0x060 => 0x7F
    | 0x061 => 0xF
    | _ => 0

/-- Every page of *Page index*, ascending. -/
def listedPages : List Nat := (List.range 0x071).filter pageListed

/-- The row of a register table that holds offset `off`, if one does. -/
def findReg : List RegDef → Nat → Option RegDef
  | [], _ => none
  | r :: rs, off =>
    if r.off ≤ off ∧ (off - r.off) % r.stride = 0 ∧ (off - r.off) / r.stride < r.count then some r
    else findReg rs off

/-- The register at a byte address, header included; none at a reserved offset or page (R503). -/
def regAt (a : Nat) : Option RegDef :=
  if pageListed (a / 0x400) then
    if a % 0x400 < 0x040 then findReg hdrRegs (a % 0x400) else findReg (pageRegs (a / 0x400)) (a % 0x400)
  else none

/-- The fields of the register at an address; none where it is reserved. -/
def fieldsAt (a : Nat) : List FDef :=
  match regAt a with
  | some r => r.fields
  | none => []

/-- The mask of a field row. -/
def FDef.mask (f : FDef) : Word := fieldMask f.lo (f.hi + 1 - f.lo)

/-- The union of the masks of the field rows that `p` picks. -/
def maskWhere (p : FDef → Bool) : List FDef → Word
  | [] => 0
  | f :: fs => (if p f then f.mask else 0) ||| maskWhere p fs

/-- The reset values of the field rows that `p` picks, each in its place. -/
def resetWhere (p : FDef → Bool) : List FDef → Word
  | [] => 0
  | f :: fs => (if p f then BitVec.ofNat 32 (f.reset * 2 ^ f.lo) else 0) ||| resetWhere p fs

/-- First pseudo-address of the FAULTSRC window entries: entry i has FS_CFG at `fsBase + 8 i` and FS_WIN 4 above. -/
def fsBase : Nat := 0x1000000

/-- First pseudo-address of the SCHED window entries: entry e has word k at `schBase + 16 e + 4 k`. -/
def schBase : Nat := 0x1100000

/-- Identities some chapter assigns (R367): a bit of a page's PG_FLT leads to it. -/
def srcAssigned (id : Nat) : Bool :=
  listedPages.any (fun pg =>
    decide (pageFmap pg ≤ id) && decide (id < pageFmap pg + 32) && bitOf (pageFltMask pg) (id - pageFmap pg))

/-- FS_CFG of *Default source configuration*: base, promoted, N, mask; LOG_EN is 1 (R386). -/
def fsCfgWord (base n prom mask : Nat) : Word :=
  BitVec.ofNat 32 (base * 2 ^ 30 + prom * 2 ^ 28 + n * 2 ^ 20 + 2 ^ 19 + mask)

/-- One second of 50 µs ticks less one, and 2^20 less one: the two usual W_M1 values of the default tables. -/
def wSec : Nat := 19999
def wLong : Nat := 2 ^ 20 - 1

/-- Default class, count and window of a source (R386, R408, R430, R444, R472): (base, N, W - 1, promoted, mask). -/
def srcDefault (id : Nat) : Nat × Nat × Nat × Nat × Nat :=
  let lost : Nat × Nat × Nat × Nat × Nat := (1, 1, wSec, 1, 0)
  let other : Nat × Nat × Nat × Nat × Nat := (0, 10, wSec, 1, 0)
  let hard : Nat × Nat × Nat × Nat × Nat := (1, 3, wLong, 2, 0)
  let conf : Nat × Nat × Nat × Nat × Nat := (1, 1, wLong, 1, 0)
  if id = 0x000 then (0, 3, wSec, 2, 0)
  else if id = 0x001 then (0, 2, wSec, 2, 0)
  else if id = 0x003 then lost
  else if 0x010 ≤ id ∧ id < 0x020 then hard
  else if 0x040 ≤ id ∧ id < 0x050 then (0, 1, 0, 0, 0)
  else if id = 0x050 then (0, 5, wSec, 2, 0)
  else if id = 0x051 ∨ id = 0x052 then (1, 2, wLong, 2, 0)
  else if id = 0x054 ∨ id = 0x055 then (2, 2, wLong, 3, 0)
  else if 0x080 ≤ id ∧ id < 0x180 ∧ id % 32 < 30 then
    match id % 32 % 5 with
    | 0 => hard
    | 1 => hard
    | 2 => (0, 100, wSec, 1, 0)
    | 3 => (1, 2, wLong, 2, 0x81)
    | _ => lost
  else if id = 0x18A ∨ id = 0x18B then lost
  else if 0x1A0 ≤ id ∧ id < 0x1A4 then hard
  else if 0x1AA ≤ id ∧ id < 0x1B0 then hard
  else if 0x200 ≤ id ∧ id < 0x230 then lost
  else if id = 0x280 ∨ id = 0x281 then lost
  else if id = 0x2C0 ∨ id = 0x2C1 ∨ id = 0x2C5 then other
  else if id = 0x340 ∨ id = 0x342 then lost
  else if id = 0x341 then (0, 2, wSec, 2, 0)
  else if id = 0x343 then (0, 3, wSec, 2, 0)
  else if id = 0x360 ∨ id = 0x361 then (2, 1, wLong, 2, 0)
  else if id = 0x362 then (1, 3, wSec, 2, 0)
  else if id = 0x370 then (0, 3, wSec, 2, 0)
  else if id = 0x3A2 then lost
  else if id = 0x3D0 then (2, 1, wLong, 2, 0)
  else if id = 0x3D8 ∨ id = 0x3DC then (0, 1, 0, 0, 0)
  else if id = 0x3D9 then (2, 1, wLong, 3, 0)
  else if id = 0x3DA ∨ id = 0x3DB then lost
  else if id = 0x3E0 ∨ id = 0x3F8 then (2, 1, wLong, 3, 0)
  else if 0x3E1 ≤ id ∧ id < 0x3E7 then conf
  else if id = 0x3E7 then other
  else if id = 0x3E8 ∨ id = 0x3F9 ∨ id = 0x3FA then lost
  else if id = 0x3F0 then (0, 1, 0, 0, 0)
  else if id = 0x3F1 ∨ id = 0x3F7 ∨ id = 0x3FB then (2, 1, wLong, 2, 0)
  else if 0x3F2 ≤ id ∧ id < 0x3F7 then conf
  else other

/-- A window word at its POR value: FS_CFG or FS_WIN of an assigned source, 0 of a reserved one (R367);
a schedule word is 0. -/
def windowPor (a : Nat) : Word :=
  if a < schBase then
    let id := (a - fsBase) / 8
    if srcAssigned id then
      let d := srcDefault id
      if a % 8 = 0 then fsCfgWord d.1 d.2.1 d.2.2.2.1 d.2.2.2.2 else BitVec.ofNat 32 d.2.2.1
    else 0
  else 0

/-- What a register's table does not give as one number: AX_CFG.SLICE and AX_STAT.SLICE_ACT are nn mod 8 (R120),
SS_TGT_s has four defaults (R264), the first
change-log entry has SEQ 1 (R470), and CORE_MAP and the REPAIR registers are those of an empty repair map (R85, R410; log
entry 3). -/
def porSpecial (a : Nat) : Word :=
  if 0x010 * 0x400 ≤ a ∧ a < 0x020 * 0x400 then
    let n := a / 0x400 - 0x010
    if a % 0x400 = 0x040 then BitVec.ofNat 32 (n % 8 * 2 ^ 24)
    else if a % 0x400 = 0x090 then BitVec.ofNat 32 (n % 8 * 2 ^ 21)
    else 0
  else if a = 0x030 * 0x400 + 0x044 then 0x1F
  else if a = 0x003 * 0x400 + 0x080 then 1
  else if a = 0x00C * 0x400 + 0x040 then 0x80000000
  else if a = 0x00C * 0x400 + 0x044 then 0xE0004800
  else if a = 0x00C * 0x400 + 0x048 then 0x76543210
  else if a = 0x00C * 0x400 + 0x04C then 0xFFFFFFFF
  else if a = 0x00F * 0x400 + 0x044 then 0x05DC
  else if a = 0x00F * 0x400 + 0x048 then 0x09C4
  else if a = 0x00F * 0x400 + 0x04C then 0x0DAC
  else if a = 0x00F * 0x400 + 0x050 then 0x1388
  else 0

/-- The word a register holds after POR: the default of an unlisted address. -/
def porWord (a : Nat) : Word :=
  if fsBase ≤ a then windowPor a
  else resetWhere (fun _ => true) (fieldsAt a) ||| porSpecial a

/-- The word a register holds after LRST, from the word it held: fields whose Reset column names LRST are set. -/
def lrstWord (a : Nat) (w : Word) : Word :=
  let fs := fieldsAt a
  let m := maskWhere (fun f => f.scope == .lrst) fs
  (w &&& ~~~ m) ||| (porWord a &&& m)

end Sys2Proof.Machine
end

