-- ==== Sys2Proof/Machine/Fields.lean ====
section
/-!
DEFINITION. The registers of the register tables by name: `<REG>_A` is a register's address (R6) and
`<REG>_<FIELD>` one of its fields. An index argument is the instance: c an AIN channel, r a resolver, e an
encoder, w a wheel-speed input, n an axis slot, h a half-bridge 0-47, u a vector decision unit 0-15,
g a bridge group, m a Moamel link, p a Sitil port, pg a page, i an index within a register array.
The CHARON page's CH_CFG and CH_STAT are named CHN_CFG and CHN_STAT here, since the AIN channel block
has registers of those names too.
-/
namespace Sys2Proof.Machine

/-- TICK_CFG, R54. -/
def TICK_CFG_A : Nat := (0x004 * 0x400 + 0x40)
def TICK_CFG_CYCLE_TICKS : Fld := ⟨TICK_CFG_A, 8, 8⟩
def TICK_CFG_SRC : Fld := ⟨TICK_CFG_A, 2, 2⟩
def TICK_CFG_LEN : Fld := ⟨TICK_CFG_A, 0, 2⟩
/-- TICK_PHASE, R54. -/
def TICK_PHASE_A : Nat := (0x004 * 0x400 + 0x44)
def TICK_PHASE_PHASE_NS : Fld := ⟨TICK_PHASE_A, 0, 32⟩
/-- TICK_STAT, R54. -/
def TICK_STAT_A : Nat := (0x004 * 0x400 + 0x48)
def TICK_STAT_RING_REF : Fld := ⟨TICK_STAT_A, 8, 1⟩
def TICK_STAT_SLEWING : Fld := ⟨TICK_STAT_A, 7, 1⟩
def TICK_STAT_ALIGNED : Fld := ⟨TICK_STAT_A, 6, 1⟩
def TICK_STAT_SRC_ACT : Fld := ⟨TICK_STAT_A, 2, 2⟩
def TICK_STAT_LEN_ACT : Fld := ⟨TICK_STAT_A, 0, 2⟩
/-- TICK_COUNT, R54. -/
def TICK_COUNT_A : Nat := (0x004 * 0x400 + 0x4c)
def TICK_COUNT_N_LOW : Fld := ⟨TICK_COUNT_A, 0, 32⟩
/-- TICK_POS, R54. -/
def TICK_POS_A : Nat := (0x004 * 0x400 + 0x50)
def TICK_POS_CYCLE : Fld := ⟨TICK_POS_A, 16, 16⟩
def TICK_POS_TICK_IN_CYCLE : Fld := ⟨TICK_POS_A, 0, 8⟩
/-- TICK_ALIGN, R54. -/
def TICK_ALIGN_A : Nat := (0x004 * 0x400 + 0x54)
def TICK_ALIGN_OFFSET : Fld := ⟨TICK_ALIGN_A, 0, 16⟩
/-- TICK_BUDGET, R54. -/
def TICK_BUDGET_A : Nat := (0x004 * 0x400 + 0x58)
def TICK_BUDGET_FAIL_WIN : Fld := ⟨TICK_BUDGET_A, 24, 4⟩
def TICK_BUDGET_FAIL_SLICE : Fld := ⟨TICK_BUDGET_A, 20, 4⟩
def TICK_BUDGET_NONE : Fld := ⟨TICK_BUDGET_A, 19, 1⟩
def TICK_BUDGET_MIN_DVFS : Fld := ⟨TICK_BUDGET_A, 16, 2⟩
def TICK_BUDGET_SLACK : Fld := ⟨TICK_BUDGET_A, 0, 16⟩
/-- SLICE_LOAD, R54. -/
def SLICE_LOAD_A (i : Nat) : Nat := (0x004 * 0x400 + 0x5c + 4 * i)
def SLICE_LOAD_CODED (i : Nat) : Fld := ⟨SLICE_LOAD_A i, 16, 16⟩
def SLICE_LOAD_PLAIN (i : Nat) : Fld := ⟨SLICE_LOAD_A i, 0, 16⟩
/-- SPARE_LOAD, R54. -/
def SPARE_LOAD_A : Nat := (0x004 * 0x400 + 0x7c)
def SPARE_LOAD_RERUN : Fld := ⟨SPARE_LOAD_A, 0, 16⟩
/-- TICK_OVR, R54. -/
def TICK_OVR_A : Nat := (0x004 * 0x400 + 0x80)
def TICK_OVR_PLAIN : Fld := ⟨TICK_OVR_A, 24, 8⟩
def TICK_OVR_JANUS : Fld := ⟨TICK_OVR_A, 16, 8⟩
def TICK_OVR_COMMIT : Fld := ⟨TICK_OVR_A, 8, 8⟩
def TICK_OVR_BIST : Fld := ⟨TICK_OVR_A, 0, 8⟩
/-- TICK_CLR, R54. -/
def TICK_CLR_A : Nat := (0x004 * 0x400 + 0x84)
def TICK_CLR_CLR_HOLD : Fld := ⟨TICK_CLR_A, 1, 1⟩
def TICK_CLR_CLR_OVR : Fld := ⟨TICK_CLR_A, 0, 1⟩
/-- OUT_AGE, R54. -/
def OUT_AGE_A : Nat := (0x004 * 0x400 + 0x88)
def OUT_AGE_AGE_nn : Fld := ⟨OUT_AGE_A, 0, 32⟩
/-- AXIS_LOST, R54. -/
def AXIS_LOST_A : Nat := (0x004 * 0x400 + 0x8c)
def AXIS_LOST_LOST : Fld := ⟨AXIS_LOST_A, 0, 16⟩
/-- HOLD_CNT, R54. -/
def HOLD_CNT_A : Nat := (0x004 * 0x400 + 0x90)
def HOLD_CNT_COUNT : Fld := ⟨HOLD_CNT_A, 0, 16⟩
/-- OVR_LAST, R54. -/
def OVR_LAST_A : Nat := (0x004 * 0x400 + 0x94)
def OVR_LAST_WIN : Fld := ⟨OVR_LAST_A, 20, 4⟩
def OVR_LAST_SLICE : Fld := ⟨OVR_LAST_A, 16, 4⟩
def OVR_LAST_TICK : Fld := ⟨OVR_LAST_A, 0, 16⟩
/-- TICK_OVR2, R54. -/
def TICK_OVR2_A : Nat := (0x004 * 0x400 + 0x98)
def TICK_OVR2_RESERVE : Fld := ⟨TICK_OVR2_A, 0, 8⟩
/-- AFE_CFG, R85. -/
def AFE_CFG_A : Nat := (0x030 * 0x400 + 0x40)
def AFE_CFG_KCL_TOL : Fld := ⟨AFE_CFG_A, 16, 16⟩
def AFE_CFG_XCHK_TOL : Fld := ⟨AFE_CFG_A, 8, 8⟩
def AFE_CFG_XCHK_EN : Fld := ⟨AFE_CFG_A, 0, 1⟩
/-- CORE_MAP, R85. -/
def CORE_MAP_A : Nat := (0x030 * 0x400 + 0x44)
def CORE_MAP_SPARE_USED : Fld := ⟨CORE_MAP_A, 7, 1⟩
def CORE_MAP_SPARE_FOR : Fld := ⟨CORE_MAP_A, 0, 5⟩
/-- SNAP_TIME, R85. -/
def SNAP_TIME_A : Nat := (0x030 * 0x400 + 0x48)
def SNAP_TIME_TIME : Fld := ⟨SNAP_TIME_A, 0, 32⟩
/-- SNAP_STAT, R85. -/
def SNAP_STAT_A : Nat := (0x030 * 0x400 + 0x4c)
def SNAP_STAT_LATE_CNT : Fld := ⟨SNAP_STAT_A, 8, 8⟩
def SNAP_STAT_XCHK_CH : Fld := ⟨SNAP_STAT_A, 0, 8⟩
/-- XCHK_LAST, R85. -/
def XCHK_LAST_A : Nat := (0x030 * 0x400 + 0x50)
def XCHK_LAST_CORE : Fld := ⟨XCHK_LAST_A, 16, 5⟩
def XCHK_LAST_DIFF : Fld := ⟨XCHK_LAST_A, 0, 16⟩
/-- CH_CFG, R85. -/
def CH_CFG_A (c : Nat) : Nat := ((0x031 + c / 16) * 0x400 + 0x040 + 0x20 * (c % 16) + 0x0)
def CH_CFG_EN (c : Nat) : Fld := ⟨CH_CFG_A c, 31, 1⟩
def CH_CFG_SHARED (c : Nat) : Fld := ⟨CH_CFG_A c, 30, 1⟩
def CH_CFG_FRZ_EN (c : Nat) : Fld := ⟨CH_CFG_A c, 29, 1⟩
def CH_CFG_FRZ_N (c : Nat) : Fld := ⟨CH_CFG_A c, 16, 8⟩
def CH_CFG_RANGE_N (c : Nat) : Fld := ⟨CH_CFG_A c, 12, 4⟩
def CH_CFG_XL_N (c : Nat) : Fld := ⟨CH_CFG_A c, 4, 8⟩
/-- CH_OFFSET, R85. -/
def CH_OFFSET_A (c : Nat) : Nat := ((0x031 + c / 16) * 0x400 + 0x040 + 0x20 * (c % 16) + 0x4)
def CH_OFFSET_OFFSET (c : Nat) : Fld := ⟨CH_OFFSET_A c, 0, 16⟩
/-- CH_GAIN, R85. -/
def CH_GAIN_A (c : Nat) : Nat := ((0x031 + c / 16) * 0x400 + 0x040 + 0x20 * (c % 16) + 0x8)
def CH_GAIN_GAIN (c : Nat) : Fld := ⟨CH_GAIN_A c, 0, 24⟩
/-- CH_LIM, R85. -/
def CH_LIM_A (c : Nat) : Nat := ((0x031 + c / 16) * 0x400 + 0x040 + 0x20 * (c % 16) + 0xc)
def CH_LIM_HI (c : Nat) : Fld := ⟨CH_LIM_A c, 16, 16⟩
def CH_LIM_LO (c : Nat) : Fld := ⟨CH_LIM_A c, 0, 16⟩
/-- CH_TOL, R85. -/
def CH_TOL_A (c : Nat) : Nat := ((0x031 + c / 16) * 0x400 + 0x040 + 0x20 * (c % 16) + 0x10)
def CH_TOL_FRZ_DELTA (c : Nat) : Fld := ⟨CH_TOL_A c, 16, 16⟩
def CH_TOL_XL_TOL (c : Nat) : Fld := ⟨CH_TOL_A c, 0, 16⟩
/-- CH_RAW, R85. -/
def CH_RAW_A (c : Nat) : Nat := ((0x031 + c / 16) * 0x400 + 0x040 + 0x20 * (c % 16) + 0x14)
def CH_RAW_RAW (c : Nat) : Fld := ⟨CH_RAW_A c, 0, 16⟩
/-- CH_VAL, R85. -/
def CH_VAL_A (c : Nat) : Nat := ((0x031 + c / 16) * 0x400 + 0x040 + 0x20 * (c % 16) + 0x18)
def CH_VAL_VALID (c : Nat) : Fld := ⟨CH_VAL_A c, 31, 1⟩
def CH_VAL_VALUE (c : Nat) : Fld := ⟨CH_VAL_A c, 0, 24⟩
/-- CH_STAT, R85. -/
def CH_STAT_A (c : Nat) : Nat := ((0x031 + c / 16) * 0x400 + 0x040 + 0x20 * (c % 16) + 0x1c)
def CH_STAT_INVALID (c : Nat) : Fld := ⟨CH_STAT_A c, 31, 1⟩
def CH_STAT_CAUSE (c : Nat) : Fld := ⟨CH_STAT_A c, 28, 3⟩
def CH_STAT_SAT (c : Nat) : Fld := ⟨CH_STAT_A c, 27, 1⟩
def CH_STAT_FRZ_CNT (c : Nat) : Fld := ⟨CH_STAT_A c, 8, 8⟩
def CH_STAT_XL_CNT (c : Nat) : Fld := ⟨CH_STAT_A c, 0, 8⟩
/-- RES_CFG, R85. -/
def RES_CFG_A (r : Nat) : Nat := (0x037 * 0x400 + 0x040 + 0x20 * r + 0x0)
def RES_CFG_EN (r : Nat) : Fld := ⟨RES_CFG_A r, 31, 1⟩
def RES_CFG_SHARED (r : Nat) : Fld := ⟨RES_CFG_A r, 30, 1⟩
def RES_CFG_FRZ_EN (r : Nat) : Fld := ⟨RES_CFG_A r, 29, 1⟩
def RES_CFG_BW (r : Nat) : Fld := ⟨RES_CFG_A r, 27, 2⟩
def RES_CFG_EXC_AMP (r : Nat) : Fld := ⟨RES_CFG_A r, 23, 4⟩
def RES_CFG_FRZ_N (r : Nat) : Fld := ⟨RES_CFG_A r, 15, 8⟩
def RES_CFG_XL_N (r : Nat) : Fld := ⟨RES_CFG_A r, 7, 8⟩
/-- RES_AMP, R85. -/
def RES_AMP_A (r : Nat) : Nat := (0x037 * 0x400 + 0x040 + 0x20 * r + 0x4)
def RES_AMP_AMP_HI (r : Nat) : Fld := ⟨RES_AMP_A r, 16, 16⟩
def RES_AMP_AMP_LO (r : Nat) : Fld := ⟨RES_AMP_A r, 0, 16⟩
/-- RES_NOM, R85. -/
def RES_NOM_A (r : Nat) : Nat := (0x037 * 0x400 + 0x040 + 0x20 * r + 0x8)
def RES_NOM_NOM (r : Nat) : Fld := ⟨RES_NOM_A r, 0, 16⟩
/-- RES_TOL, R85. -/
def RES_TOL_A (r : Nat) : Nat := (0x037 * 0x400 + 0x040 + 0x20 * r + 0xc)
def RES_TOL_FRZ_DELTA (r : Nat) : Fld := ⟨RES_TOL_A r, 16, 16⟩
def RES_TOL_XL_TOL (r : Nat) : Fld := ⟨RES_TOL_A r, 0, 16⟩
/-- RES_ANGLE, R85. -/
def RES_ANGLE_A (r : Nat) : Nat := (0x037 * 0x400 + 0x040 + 0x20 * r + 0x10)
def RES_ANGLE_ANGLE (r : Nat) : Fld := ⟨RES_ANGLE_A r, 0, 16⟩
/-- RES_SPEED, R85. -/
def RES_SPEED_A (r : Nat) : Nat := (0x037 * 0x400 + 0x040 + 0x20 * r + 0x14)
def RES_SPEED_SPEED (r : Nat) : Fld := ⟨RES_SPEED_A r, 0, 24⟩
/-- RES_AMPM, R85. -/
def RES_AMPM_A (r : Nat) : Nat := (0x037 * 0x400 + 0x040 + 0x20 * r + 0x18)
def RES_AMPM_AMP (r : Nat) : Fld := ⟨RES_AMPM_A r, 0, 16⟩
/-- RES_STAT, R85. -/
def RES_STAT_A (r : Nat) : Nat := (0x037 * 0x400 + 0x040 + 0x20 * r + 0x1c)
def RES_STAT_INVALID (r : Nat) : Fld := ⟨RES_STAT_A r, 31, 1⟩
def RES_STAT_CAUSE (r : Nat) : Fld := ⟨RES_STAT_A r, 28, 3⟩
def RES_STAT_FRZ_CNT (r : Nat) : Fld := ⟨RES_STAT_A r, 8, 8⟩
def RES_STAT_XL_CNT (r : Nat) : Fld := ⟨RES_STAT_A r, 0, 8⟩
/-- ENC_CFG, R85. -/
def ENC_CFG_A (e : Nat) : Nat := (0x038 * 0x400 + 0x040 + 0x20 * e + 0x0)
def ENC_CFG_EN (e : Nat) : Fld := ⟨ENC_CFG_A e, 31, 1⟩
def ENC_CFG_SHARED (e : Nat) : Fld := ⟨ENC_CFG_A e, 30, 1⟩
def ENC_CFG_FRZ_EN (e : Nat) : Fld := ⟨ENC_CFG_A e, 29, 1⟩
def ENC_CFG_GRAY (e : Nat) : Fld := ⟨ENC_CFG_A e, 28, 1⟩
def ENC_CFG_PARITY (e : Nat) : Fld := ⟨ENC_CFG_A e, 26, 2⟩
def ENC_CFG_BITS (e : Nat) : Fld := ⟨ENC_CFG_A e, 20, 6⟩
def ENC_CFG_DIV (e : Nat) : Fld := ⟨ENC_CFG_A e, 12, 8⟩
def ENC_CFG_MONO (e : Nat) : Fld := ⟨ENC_CFG_A e, 6, 6⟩
/-- ENC_TOL, R85. -/
def ENC_TOL_A (e : Nat) : Nat := (0x038 * 0x400 + 0x040 + 0x20 * e + 0x4)
def ENC_TOL_FRZ_DELTA (e : Nat) : Fld := ⟨ENC_TOL_A e, 16, 16⟩
def ENC_TOL_XL_TOL (e : Nat) : Fld := ⟨ENC_TOL_A e, 0, 16⟩
/-- ENC_N, R85. -/
def ENC_N_A (e : Nat) : Nat := (0x038 * 0x400 + 0x040 + 0x20 * e + 0x8)
def ENC_N_TURN_BITS (e : Nat) : Fld := ⟨ENC_N_A e, 16, 6⟩
def ENC_N_FRZ_N (e : Nat) : Fld := ⟨ENC_N_A e, 8, 8⟩
def ENC_N_XL_N (e : Nat) : Fld := ⟨ENC_N_A e, 0, 8⟩
/-- ENC_LEAD, R85. -/
def ENC_LEAD_A (e : Nat) : Nat := (0x038 * 0x400 + 0x040 + 0x20 * e + 0xc)
def ENC_LEAD_LEAD_NS (e : Nat) : Fld := ⟨ENC_LEAD_A e, 0, 16⟩
/-- ENC_POS, R85. -/
def ENC_POS_A (e : Nat) : Nat := (0x038 * 0x400 + 0x040 + 0x20 * e + 0x10)
def ENC_POS_POS (e : Nat) : Fld := ⟨ENC_POS_A e, 0, 32⟩
/-- ENC_ERR, R85. -/
def ENC_ERR_A (e : Nat) : Nat := (0x038 * 0x400 + 0x040 + 0x20 * e + 0x14)
def ENC_ERR_COUNT (e : Nat) : Fld := ⟨ENC_ERR_A e, 0, 16⟩
/-- ENC_STAT, R85. -/
def ENC_STAT_A (e : Nat) : Nat := (0x038 * 0x400 + 0x040 + 0x20 * e + 0x1c)
def ENC_STAT_INVALID (e : Nat) : Fld := ⟨ENC_STAT_A e, 31, 1⟩
def ENC_STAT_CAUSE (e : Nat) : Fld := ⟨ENC_STAT_A e, 28, 3⟩
def ENC_STAT_FRZ_CNT (e : Nat) : Fld := ⟨ENC_STAT_A e, 8, 8⟩
def ENC_STAT_XL_CNT (e : Nat) : Fld := ⟨ENC_STAT_A e, 0, 8⟩
/-- WS_CFG, R85. -/
def WS_CFG_A (w : Nat) : Nat := (0x039 * 0x400 + 0x040 + 0x20 * w + 0x0)
def WS_CFG_EN (w : Nat) : Fld := ⟨WS_CFG_A w, 31, 1⟩
def WS_CFG_SHARED (w : Nat) : Fld := ⟨WS_CFG_A w, 30, 1⟩
def WS_CFG_TEETH (w : Nat) : Fld := ⟨WS_CFG_A w, 20, 8⟩
def WS_CFG_TMO_MS (w : Nat) : Fld := ⟨WS_CFG_A w, 0, 16⟩
/-- WS_CIRC, R85. -/
def WS_CIRC_A (w : Nat) : Nat := (0x039 * 0x400 + 0x040 + 0x20 * w + 0x4)
def WS_CIRC_CIRC_MM (w : Nat) : Fld := ⟨WS_CIRC_A w, 0, 16⟩
/-- WS_FS, R85. -/
def WS_FS_A (w : Nat) : Nat := (0x039 * 0x400 + 0x040 + 0x20 * w + 0x8)
def WS_FS_FS_MMS (w : Nat) : Fld := ⟨WS_FS_A w, 0, 18⟩
/-- WS_TOL, R85. -/
def WS_TOL_A (w : Nat) : Nat := (0x039 * 0x400 + 0x040 + 0x20 * w + 0xc)
def WS_TOL_XL_N (w : Nat) : Fld := ⟨WS_TOL_A w, 24, 8⟩
def WS_TOL_XL_TOL (w : Nat) : Fld := ⟨WS_TOL_A w, 0, 16⟩
/-- WS_VAL, R85. -/
def WS_VAL_A (w : Nat) : Nat := (0x039 * 0x400 + 0x040 + 0x20 * w + 0x10)
def WS_VAL_VALUE (w : Nat) : Fld := ⟨WS_VAL_A w, 0, 24⟩
/-- WS_EDGE, R85. -/
def WS_EDGE_A (w : Nat) : Nat := (0x039 * 0x400 + 0x040 + 0x20 * w + 0x14)
def WS_EDGE_EDGES (w : Nat) : Fld := ⟨WS_EDGE_A w, 0, 32⟩
/-- WS_PER, R85. -/
def WS_PER_A (w : Nat) : Nat := (0x039 * 0x400 + 0x040 + 0x20 * w + 0x18)
def WS_PER_PERIOD (w : Nat) : Fld := ⟨WS_PER_A w, 0, 32⟩
/-- WS_STAT, R85. -/
def WS_STAT_A (w : Nat) : Nat := (0x039 * 0x400 + 0x040 + 0x20 * w + 0x1c)
def WS_STAT_INVALID (w : Nat) : Fld := ⟨WS_STAT_A w, 31, 1⟩
def WS_STAT_CAUSE (w : Nat) : Fld := ⟨WS_STAT_A w, 28, 3⟩
def WS_STAT_SUP_OFF (w : Nat) : Fld := ⟨WS_STAT_A w, 27, 1⟩
def WS_STAT_XL_CNT (w : Nat) : Fld := ⟨WS_STAT_A w, 0, 8⟩
/-- AX_CFG, R120. -/
def AX_CFG_A (n : Nat) : Nat := ((0x010 + n) * 0x400 + 0x40)
def AX_CFG_STRUCT (n : Nat) : Fld := ⟨AX_CFG_A n, 28, 4⟩
def AX_CFG_SIX (n : Nat) : Fld := ⟨AX_CFG_A n, 27, 1⟩
def AX_CFG_SLICE (n : Nat) : Fld := ⟨AX_CFG_A n, 24, 3⟩
def AX_CFG_HB_BASE (n : Nat) : Fld := ⟨AX_CFG_A n, 18, 6⟩
def AX_CFG_SP_SRC (n : Nat) : Fld := ⟨AX_CFG_A n, 16, 2⟩
def AX_CFG_SHUT_MS (n : Nat) : Fld := ⟨AX_CFG_A n, 0, 16⟩
/-- AX_FB, R120. -/
def AX_FB_A (n : Nat) : Nat := ((0x010 + n) * 0x400 + 0x44)
def AX_FB_SRC_X (n : Nat) : Fld := ⟨AX_FB_A n, 16, 8⟩
def AX_FB_SRC_C (n : Nat) : Fld := ⟨AX_FB_A n, 8, 8⟩
/-- AX_COMM, R120. -/
def AX_COMM_A (n : Nat) : Nat := ((0x010 + n) * 0x400 + 0x48)
def AX_COMM_POLE_PAIRS (n : Nat) : Fld := ⟨AX_COMM_A n, 17, 4⟩
def AX_COMM_SET2_SHIFT (n : Nat) : Fld := ⟨AX_COMM_A n, 16, 1⟩
def AX_COMM_OFFSET (n : Nat) : Fld := ⟨AX_COMM_A n, 0, 16⟩
/-- AX_FS_X, R120. -/
def AX_FS_X_A (n : Nat) : Nat := ((0x010 + n) * 0x400 + 0x4c)
def AX_FS_X_FS_X (n : Nat) : Fld := ⟨AX_FS_X_A n, 0, 32⟩
/-- AX_FS_V, R120. -/
def AX_FS_V_A (n : Nat) : Nat := ((0x010 + n) * 0x400 + 0x50)
def AX_FS_V_FS_V (n : Nat) : Fld := ⟨AX_FS_V_A n, 0, 32⟩
/-- AX_IMAX, R120. -/
def AX_IMAX_A (n : Nat) : Nat := ((0x010 + n) * 0x400 + 0x54)
def AX_IMAX_FS_I (n : Nat) : Fld := ⟨AX_IMAX_A n, 16, 16⟩
def AX_IMAX_IMAX (n : Nat) : Fld := ⟨AX_IMAX_A n, 0, 16⟩
/-- AX_VMAX, R120. -/
def AX_VMAX_A (n : Nat) : Nat := ((0x010 + n) * 0x400 + 0x58)
def AX_VMAX_VMAX (n : Nat) : Fld := ⟨AX_VMAX_A n, 0, 32⟩
/-- AX_AMAX, R120. -/
def AX_AMAX_A (n : Nat) : Nat := ((0x010 + n) * 0x400 + 0x5c)
def AX_AMAX_AMAX (n : Nat) : Fld := ⟨AX_AMAX_A n, 0, 32⟩
/-- AX_JMAX, R120. -/
def AX_JMAX_A (n : Nat) : Nat := ((0x010 + n) * 0x400 + 0x60)
def AX_JMAX_JMAX (n : Nat) : Fld := ⟨AX_JMAX_A n, 0, 32⟩
/-- AX_OBS, R120. -/
def AX_OBS_A (n : Nat) : Nat := ((0x010 + n) * 0x400 + 0x64)
def AX_OBS_T_ACC (n : Nat) : Fld := ⟨AX_OBS_A n, 16, 16⟩
def AX_OBS_OBS_BW (n : Nat) : Fld := ⟨AX_OBS_A n, 0, 16⟩
/-- AX_SP, R120. -/
def AX_SP_A (n : Nat) : Nat := ((0x010 + n) * 0x400 + 0x68)
def AX_SP_SP (n : Nat) : Fld := ⟨AX_SP_A n, 0, 24⟩
/-- AX_PAR, R120. -/
def AX_PAR_A (n i : Nat) : Nat := ((0x010 + n) * 0x400 + 0x70 + 4 * i)
def AX_PAR_PAR (n i : Nat) : Fld := ⟨AX_PAR_A n i, 0, 32⟩
/-- AX_STAT, R120. -/
def AX_STAT_A (n : Nat) : Nat := ((0x010 + n) * 0x400 + 0x90)
def AX_STAT_STATE (n : Nat) : Fld := ⟨AX_STAT_A n, 29, 3⟩
def AX_STAT_COAST (n : Nat) : Fld := ⟨AX_STAT_A n, 28, 1⟩
def AX_STAT_SP_LIMITED (n : Nat) : Fld := ⟨AX_STAT_A n, 27, 1⟩
def AX_STAT_SAFE_SP (n : Nat) : Fld := ⟨AX_STAT_A n, 26, 1⟩
def AX_STAT_MODE (n : Nat) : Fld := ⟨AX_STAT_A n, 24, 2⟩
def AX_STAT_SLICE_ACT (n : Nat) : Fld := ⟨AX_STAT_A n, 21, 3⟩
def AX_STAT_START_FAIL (n : Nat) : Fld := ⟨AX_STAT_A n, 18, 3⟩
def AX_STAT_SP_SVC (n : Nat) : Fld := ⟨AX_STAT_A n, 16, 1⟩
def AX_STAT_SHARE (n : Nat) : Fld := ⟨AX_STAT_A n, 0, 16⟩
/-- AX_SAT, R120. -/
def AX_SAT_A (n : Nat) : Nat := ((0x010 + n) * 0x400 + 0x94)
def AX_SAT_LAST_CODED (n : Nat) : Fld := ⟨AX_SAT_A n, 16, 6⟩
def AX_SAT_LAST_PLAIN (n : Nat) : Fld := ⟨AX_SAT_A n, 8, 6⟩
def AX_SAT_STICKY (n : Nat) : Fld := ⟨AX_SAT_A n, 0, 6⟩
/-- AX_XSP, R120. -/
def AX_XSP_A (n : Nat) : Nat := ((0x010 + n) * 0x400 + 0x98)
def AX_XSP_X_SP (n : Nat) : Fld := ⟨AX_XSP_A n, 0, 24⟩
/-- AX_VSP, R120. -/
def AX_VSP_A (n : Nat) : Nat := ((0x010 + n) * 0x400 + 0x9c)
def AX_VSP_V_SP (n : Nat) : Fld := ⟨AX_VSP_A n, 0, 24⟩
/-- AX_XHAT, R120. -/
def AX_XHAT_A (n : Nat) : Nat := ((0x010 + n) * 0x400 + 0xa0)
def AX_XHAT_X_HAT (n : Nat) : Fld := ⟨AX_XHAT_A n, 0, 24⟩
/-- AX_VHAT, R120. -/
def AX_VHAT_A (n : Nat) : Nat := ((0x010 + n) * 0x400 + 0xa4)
def AX_VHAT_V_HAT (n : Nat) : Fld := ⟨AX_VHAT_A n, 0, 24⟩
/-- AX_U, R120. -/
def AX_U_A (n : Nat) : Nat := ((0x010 + n) * 0x400 + 0xa8)
def AX_U_U (n : Nat) : Fld := ⟨AX_U_A n, 0, 24⟩
/-- AX_COAST, R120. -/
def AX_COAST_A (n : Nat) : Nat := ((0x010 + n) * 0x400 + 0xac)
def AX_COAST_EPISODES (n : Nat) : Fld := ⟨AX_COAST_A n, 16, 16⟩
def AX_COAST_TICKS (n : Nat) : Fld := ⟨AX_COAST_A n, 0, 16⟩
/-- AX_CNT, R120. -/
def AX_CNT_A (n : Nat) : Nat := ((0x010 + n) * 0x400 + 0xb0)
def AX_CNT_LIM_TICKS (n : Nat) : Fld := ⟨AX_CNT_A n, 16, 16⟩
def AX_CNT_SAT_TICKS (n : Nat) : Fld := ⟨AX_CNT_A n, 0, 16⟩
/-- AX_WC, R120. -/
def AX_WC_A (n : Nat) : Nat := ((0x010 + n) * 0x400 + 0xb4)
def AX_WC_CODED_WC (n : Nat) : Fld := ⟨AX_WC_A n, 16, 16⟩
def AX_WC_PLAIN_WC (n : Nat) : Fld := ⟨AX_WC_A n, 0, 16⟩
/-- HB_WIN, R147. -/
def HB_WIN_A (h : Nat) : Nat := ((0x020 + h / 6) * 0x400 + 0x040 + 0x20 * (h % 6) + 0x18)
def HB_WIN_UE (h : Nat) : Fld := ⟨HB_WIN_A h, 16, 12⟩
def HB_WIN_LE (h : Nat) : Fld := ⟨HB_WIN_A h, 0, 12⟩
/-- HB_LOOP, R147. -/
def HB_LOOP_A (h : Nat) : Nat := ((0x020 + h / 6) * 0x400 + 0x040 + 0x20 * (h % 6) + 0x1c)
def HB_LOOP_FILT (h : Nat) : Fld := ⟨HB_LOOP_A h, 30, 2⟩
def HB_LOOP_SW (h : Nat) : Fld := ⟨HB_LOOP_A h, 29, 1⟩
def HB_LOOP_OFF (h : Nat) : Fld := ⟨HB_LOOP_A h, 28, 1⟩
def HB_LOOP_TRANS (h : Nat) : Fld := ⟨HB_LOOP_A h, 0, 16⟩
/-- VDU_CFG, R147. -/
def VDU_CFG_A (u : Nat) : Nat := ((0x020 + u / 2) * 0x400 + 0x200 + 0x40 * (u % 2) + 0x0)
def VDU_CFG_F_TGT (u : Nat) : Fld := ⟨VDU_CFG_A u, 26, 6⟩
def VDU_CFG_SERVO_W (u : Nat) : Fld := ⟨VDU_CFG_A u, 16, 8⟩
def VDU_CFG_KB (u : Nat) : Fld := ⟨VDU_CFG_A u, 0, 16⟩
/-- VDU_BAND, R147. -/
def VDU_BAND_A (u : Nat) : Nat := ((0x020 + u / 2) * 0x400 + 0x200 + 0x40 * (u % 2) + 0x4)
def VDU_BAND_H_MAX (u : Nat) : Fld := ⟨VDU_BAND_A u, 16, 16⟩
def VDU_BAND_H_MIN (u : Nat) : Fld := ⟨VDU_BAND_A u, 0, 16⟩
/-- VDU_FF, R147. -/
def VDU_FF_A (u : Nat) : Nat := ((0x020 + u / 2) * 0x400 + 0x200 + 0x40 * (u % 2) + 0x8)
def VDU_FF_FF_EN (u : Nat) : Fld := ⟨VDU_FF_A u, 31, 1⟩
def VDU_FF_T_DLY (u : Nat) : Fld := ⟨VDU_FF_A u, 16, 9⟩
def VDU_FF_BUS_FS (u : Nat) : Fld := ⟨VDU_FF_A u, 8, 8⟩
/-- VDU_L, R147. -/
def VDU_L_A (u : Nat) : Nat := ((0x020 + u / 2) * 0x400 + 0x200 + 0x40 * (u % 2) + 0xc)
def VDU_L_L_UH (u : Nat) : Fld := ⟨VDU_L_A u, 0, 16⟩
/-- VDU_MINP, R147. -/
def VDU_MINP_A (u : Nat) : Nat := ((0x020 + u / 2) * 0x400 + 0x200 + 0x40 * (u % 2) + 0x10)
def VDU_MINP_MIN_PULSE (u : Nat) : Fld := ⟨VDU_MINP_A u, 0, 12⟩
/-- VDU_STAT, R147. -/
def VDU_STAT_A (u : Nat) : Nat := ((0x020 + u / 2) * 0x400 + 0x200 + 0x40 * (u % 2) + 0x14)
def VDU_STAT_STATE (u : Nat) : Fld := ⟨VDU_STAT_A u, 29, 3⟩
def VDU_STAT_MODE (u : Nat) : Fld := ⟨VDU_STAT_A u, 27, 2⟩
def VDU_STAT_AXIS (u : Nat) : Fld := ⟨VDU_STAT_A u, 23, 4⟩
def VDU_STAT_SET2 (u : Nat) : Fld := ⟨VDU_STAT_A u, 22, 1⟩
def VDU_STAT_PATTERN (u : Nat) : Fld := ⟨VDU_STAT_A u, 8, 6⟩
def VDU_STAT_VEC (u : Nat) : Fld := ⟨VDU_STAT_A u, 0, 3⟩
/-- VDU_H, R147. -/
def VDU_H_A (u : Nat) : Nat := ((0x020 + u / 2) * 0x400 + 0x200 + 0x40 * (u % 2) + 0x18)
def VDU_H_DELTA (u : Nat) : Fld := ⟨VDU_H_A u, 16, 16⟩
def VDU_H_H (u : Nat) : Fld := ⟨VDU_H_A u, 0, 16⟩
/-- VDU_FREQ, R147. -/
def VDU_FREQ_A (u : Nat) : Nat := ((0x020 + u / 2) * 0x400 + 0x200 + 0x40 * (u % 2) + 0x1c)
def VDU_FREQ_F_MEAS (u : Nat) : Fld := ⟨VDU_FREQ_A u, 0, 16⟩
/-- VDU_CNT_A, R147. -/
def VDU_CNT_A_A (u : Nat) : Nat := ((0x020 + u / 2) * 0x400 + 0x200 + 0x40 * (u % 2) + 0x20)
def VDU_CNT_A_IMPL (u : Nat) : Fld := ⟨VDU_CNT_A_A u, 16, 16⟩
def VDU_CNT_A_REFRESH (u : Nat) : Fld := ⟨VDU_CNT_A_A u, 0, 16⟩
/-- VDU_CNT_B, R147. -/
def VDU_CNT_B_A (u : Nat) : Nat := ((0x020 + u / 2) * 0x400 + 0x200 + 0x40 * (u % 2) + 0x24)
def VDU_CNT_B_EDGE_SAT (u : Nat) : Fld := ⟨VDU_CNT_B_A u, 16, 16⟩
def VDU_CNT_B_SERVO_LIM (u : Nat) : Fld := ⟨VDU_CNT_B_A u, 0, 16⟩
/-- VDU_CLR, R147. -/
def VDU_CLR_A (u : Nat) : Nat := ((0x020 + u / 2) * 0x400 + 0x200 + 0x40 * (u % 2) + 0x28)
def VDU_CLR_CLR_CNT (u : Nat) : Fld := ⟨VDU_CLR_A u, 0, 1⟩
/-- BLD_CFG, R173. -/
def BLD_CFG_A : Nat := (0x060 * 0x400 + 0x40)
def BLD_CFG_RET_EN : Fld := ⟨BLD_CFG_A, 31, 1⟩
def BLD_CFG_TRIM_EN : Fld := ⟨BLD_CFG_A, 30, 1⟩
def BLD_CFG_RET_STAGES : Fld := ⟨BLD_CFG_A, 26, 4⟩
def BLD_CFG_R_DYN_MM : Fld := ⟨BLD_CFG_A, 0, 16⟩
/-- BLD_LIM, R173. -/
def BLD_LIM_A : Nat := (0x060 * 0x400 + 0x44)
def BLD_LIM_A_MAX : Fld := ⟨BLD_LIM_A, 16, 16⟩
def BLD_LIM_R_MAX : Fld := ⟨BLD_LIM_A, 0, 16⟩
/-- BLD_LIM2, R173. -/
def BLD_LIM2_A : Nat := (0x060 * 0x400 + 0x48)
def BLD_LIM2_J_MAX : Fld := ⟨BLD_LIM2_A, 16, 16⟩
def BLD_LIM2_TJ_MS : Fld := ⟨BLD_LIM2_A, 0, 16⟩
/-- BLD_ELEC, R173. -/
def BLD_ELEC_A : Nat := (0x060 * 0x400 + 0x4c)
def BLD_ELEC_ELEC_CAP : Fld := ⟨BLD_ELEC_A, 16, 16⟩
def BLD_ELEC_DERATE_RATE : Fld := ⟨BLD_ELEC_A, 0, 16⟩
/-- BLD_LINK, R173. -/
def BLD_LINK_A : Nat := (0x060 * 0x400 + 0x50)
def BLD_LINK_U_REF : Fld := ⟨BLD_LINK_A, 16, 16⟩
def BLD_LINK_U_HI : Fld := ⟨BLD_LINK_A, 0, 16⟩
/-- BLD_LINK2, R173. -/
def BLD_LINK2_A : Nat := (0x060 * 0x400 + 0x54)
def BLD_LINK2_LINK_TOL : Fld := ⟨BLD_LINK2_A, 16, 16⟩
def BLD_LINK2_HOLD_MS : Fld := ⟨BLD_LINK2_A, 0, 12⟩
/-- BLD_RKP, R173. -/
def BLD_RKP_A : Nat := (0x060 * 0x400 + 0x58)
def BLD_RKP_KP_RET : Fld := ⟨BLD_RKP_A, 0, 32⟩
/-- BLD_RKI, R173. -/
def BLD_RKI_A : Nat := (0x060 * 0x400 + 0x5c)
def BLD_RKI_KI_RET : Fld := ⟨BLD_RKI_A, 0, 32⟩
/-- BLD_PWM, R173. -/
def BLD_PWM_A : Nat := (0x060 * 0x400 + 0x60)
def BLD_PWM_U_FS : Fld := ⟨BLD_PWM_A, 16, 16⟩
def BLD_PWM_F_PWM : Fld := ⟨BLD_PWM_A, 0, 16⟩
/-- BLD_SLIP, R173. -/
def BLD_SLIP_A : Nat := (0x060 * 0x400 + 0x64)
def BLD_SLIP_LAMBDA_TGT : Fld := ⟨BLD_SLIP_A, 24, 8⟩
def BLD_SLIP_HYST : Fld := ⟨BLD_SLIP_A, 16, 8⟩
def BLD_SLIP_K_MIN : Fld := ⟨BLD_SLIP_A, 8, 8⟩
def BLD_SLIP_K_BLIND : Fld := ⟨BLD_SLIP_A, 0, 8⟩
/-- BLD_SLIP2, R173. -/
def BLD_SLIP2_A : Nat := (0x060 * 0x400 + 0x68)
def BLD_SLIP2_KS : Fld := ⟨BLD_SLIP2_A, 24, 8⟩
def BLD_SLIP2_RECOV : Fld := ⟨BLD_SLIP2_A, 16, 8⟩
def BLD_SLIP2_V_MIN : Fld := ⟨BLD_SLIP2_A, 8, 8⟩
/-- BLD_REF, R173. -/
def BLD_REF_A : Nat := (0x060 * 0x400 + 0x6c)
def BLD_REF_REF_MARGIN : Fld := ⟨BLD_REF_A, 16, 16⟩
def BLD_REF_A_UP : Fld := ⟨BLD_REF_A, 0, 16⟩
/-- BLD_TRIM, R173. -/
def BLD_TRIM_A : Nat := (0x060 * 0x400 + 0x70)
def BLD_TRIM_TRIM_HI : Fld := ⟨BLD_TRIM_A, 24, 8⟩
def BLD_TRIM_TRIM_LO : Fld := ⟨BLD_TRIM_A, 16, 8⟩
def BLD_TRIM_KI_TRIM : Fld := ⟨BLD_TRIM_A, 0, 16⟩
/-- BLD_ACC, R173. -/
def BLD_ACC_A : Nat := (0x060 * 0x400 + 0x74)
def BLD_ACC_ACC_FS : Fld := ⟨BLD_ACC_A, 16, 16⟩
/-- BLD_SHARE, R173. -/
def BLD_SHARE_A : Nat := (0x060 * 0x400 + 0x78)
def BLD_SHARE_RAMP_TICKS : Fld := ⟨BLD_SHARE_A, 0, 16⟩
/-- BLD_AXLE, R173. -/
def BLD_AXLE_A (i : Nat) : Nat := (0x060 * 0x400 + 0x80 + 8 * i)
def BLD_AXLE_SRC (i : Nat) : Fld := ⟨BLD_AXLE_A i, 24, 8⟩
def BLD_AXLE_LOAD_FIX (i : Nat) : Fld := ⟨BLD_AXLE_A i, 0, 16⟩
/-- BLD_AXK, R173. -/
def BLD_AXK_A (i : Nat) : Nat := (0x060 * 0x400 + 0x84 + 8 * i)
def BLD_AXK_K_LOAD (i : Nat) : Fld := ⟨BLD_AXK_A i, 0, 16⟩
/-- BLD_WHL, R173. -/
def BLD_WHL_A (i : Nat) : Nat := (0x060 * 0x400 + 0xc0 + 4 * i)
def BLD_WHL_EN (i : Nat) : Fld := ⟨BLD_WHL_A i, 31, 1⟩
def BLD_WHL_DRIVEN (i : Nat) : Fld := ⟨BLD_WHL_A i, 30, 1⟩
def BLD_WHL_AXIS (i : Nat) : Fld := ⟨BLD_WHL_A i, 26, 4⟩
def BLD_WHL_AXLE (i : Nat) : Fld := ⟨BLD_WHL_A i, 23, 3⟩
def BLD_WHL_WS (i : Nat) : Fld := ⟨BLD_WHL_A i, 19, 4⟩
def BLD_WHL_C_W (i : Nat) : Fld := ⟨BLD_WHL_A i, 0, 16⟩
/-- BLD_STAT, R173. -/
def BLD_STAT_A : Nat := (0x060 * 0x400 + 0x100)
def BLD_STAT_LINK_OK : Fld := ⟨BLD_STAT_A, 31, 1⟩
def BLD_STAT_DERATING : Fld := ⟨BLD_STAT_A, 30, 1⟩
def BLD_STAT_RET_ROLE : Fld := ⟨BLD_STAT_A, 29, 1⟩
def BLD_STAT_SAFE : Fld := ⟨BLD_STAT_A, 28, 1⟩
def BLD_STAT_STAGES_OK : Fld := ⟨BLD_STAT_A, 24, 4⟩
def BLD_STAT_CMD_CLIP : Fld := ⟨BLD_STAT_A, 0, 16⟩
/-- BLD_DEC, R173. -/
def BLD_DEC_A : Nat := (0x060 * 0x400 + 0x104)
def BLD_DEC_A_C : Fld := ⟨BLD_DEC_A, 16, 16⟩
def BLD_DEC_A_MEAS : Fld := ⟨BLD_DEC_A, 0, 16⟩
/-- BLD_MASS, R173. -/
def BLD_MASS_A : Nat := (0x060 * 0x400 + 0x108)
def BLD_MASS_MASS : Fld := ⟨BLD_MASS_A, 16, 16⟩
def BLD_MASS_TRIM : Fld := ⟨BLD_MASS_A, 0, 16⟩
/-- BLD_FRC, R173. -/
def BLD_FRC_A : Nat := (0x060 * 0x400 + 0x10c)
def BLD_FRC_F_REQ : Fld := ⟨BLD_FRC_A, 16, 16⟩
def BLD_FRC_F_E : Fld := ⟨BLD_FRC_A, 0, 16⟩
/-- BLD_FAV, R173. -/
def BLD_FAV_A : Nat := (0x060 * 0x400 + 0x110)
def BLD_FAV_F_AV : Fld := ⟨BLD_FAV_A, 16, 16⟩
def BLD_FAV_CAP : Fld := ⟨BLD_FAV_A, 0, 16⟩
/-- BLD_LINKM, R173. -/
def BLD_LINKM_A : Nat := (0x060 * 0x400 + 0x114)
def BLD_LINKM_U_LINK : Fld := ⟨BLD_LINKM_A, 16, 16⟩
def BLD_LINKM_DUTY : Fld := ⟨BLD_LINKM_A, 0, 16⟩
/-- BLD_VREF, R173. -/
def BLD_VREF_A : Nat := (0x060 * 0x400 + 0x118)
def BLD_VREF_V_REF : Fld := ⟨BLD_VREF_A, 0, 16⟩
/-- BLD_CNT, R173. -/
def BLD_CNT_A : Nat := (0x060 * 0x400 + 0x11c)
def BLD_CNT_SLIP_TICKS : Fld := ⟨BLD_CNT_A, 16, 16⟩
def BLD_CNT_DERATE_TICKS : Fld := ⟨BLD_CNT_A, 0, 16⟩
/-- BLD_WST, R173. -/
def BLD_WST_A (i : Nat) : Nat := (0x060 * 0x400 + 0x140 + 8 * i)
def BLD_WST_K (i : Nat) : Fld := ⟨BLD_WST_A i, 16, 12⟩
def BLD_WST_LAMBDA (i : Nat) : Fld := ⟨BLD_WST_A i, 0, 8⟩
/-- BLD_WF, R173. -/
def BLD_WF_A (i : Nat) : Nat := (0x060 * 0x400 + 0x144 + 8 * i)
def BLD_WF_F_W (i : Nat) : Fld := ⟨BLD_WF_A i, 0, 16⟩
/-- BLD_CLR, R173. -/
def BLD_CLR_A : Nat := (0x060 * 0x400 + 0x1a0)
def BLD_CLR_CLR_CNT : Fld := ⟨BLD_CLR_A, 0, 1⟩
/-- STR_AX, R174. -/
def STR_AX_A (i : Nat) : Nat := (0x061 * 0x400 + 0x40 + 4 * i)
def STR_AX_EN (i : Nat) : Fld := ⟨STR_AX_A i, 31, 1⟩
def STR_AX_AXIS (i : Nat) : Fld := ⟨STR_AX_A i, 27, 4⟩
def STR_AX_RATIO (i : Nat) : Fld := ⟨STR_AX_A i, 0, 16⟩
/-- STR_VLIM, R174. -/
def STR_VLIM_A : Nat := (0x061 * 0x400 + 0x50)
def STR_VLIM_V2 : Fld := ⟨STR_VLIM_A, 16, 16⟩
def STR_VLIM_V1 : Fld := ⟨STR_VLIM_A, 0, 16⟩
/-- STR_XLIM, R174. -/
def STR_XLIM_A : Nat := (0x061 * 0x400 + 0x54)
def STR_XLIM_X_HI : Fld := ⟨STR_XLIM_A, 16, 16⟩
def STR_XLIM_X_LO : Fld := ⟨STR_XLIM_A, 0, 16⟩
/-- STR_TRACK, R174. -/
def STR_TRACK_A : Nat := (0x061 * 0x400 + 0x58)
def STR_TRACK_TRACK_TOL : Fld := ⟨STR_TRACK_A, 16, 16⟩
def STR_TRACK_TRACK_MS : Fld := ⟨STR_TRACK_A, 0, 16⟩
/-- STR_STAT, R174. -/
def STR_STAT_A : Nat := (0x061 * 0x400 + 0x80)
def STR_STAT_ACT : Fld := ⟨STR_STAT_A, 28, 4⟩
def STR_STAT_TRACK : Fld := ⟨STR_STAT_A, 24, 4⟩
def STR_STAT_CLIPPED : Fld := ⟨STR_STAT_A, 0, 16⟩
/-- STR_CMD, R174. -/
def STR_CMD_A : Nat := (0x061 * 0x400 + 0x84)
def STR_CMD_ANGLE : Fld := ⟨STR_CMD_A, 0, 32⟩
/-- STR_LIM, R174. -/
def STR_LIM_A : Nat := (0x061 * 0x400 + 0x88)
def STR_LIM_X_LIM : Fld := ⟨STR_LIM_A, 0, 16⟩
/-- STR_ERRMAX, R174. -/
def STR_ERRMAX_A : Nat := (0x061 * 0x400 + 0x8c)
def STR_ERRMAX_ERR_MAX : Fld := ⟨STR_ERRMAX_A, 0, 16⟩
/-- STR_CLR, R174. -/
def STR_CLR_A : Nat := (0x061 * 0x400 + 0x90)
def STR_CLR_CLR_ERR : Fld := ⟨STR_CLR_A, 0, 1⟩
/-- JAN_CFG, R198. -/
def JAN_CFG_A : Nat := (0x00D * 0x400 + 0x40)
def JAN_CFG_CAP_FIRST : Fld := ⟨JAN_CFG_A, 1, 1⟩
def JAN_CFG_LOG_CONT : Fld := ⟨JAN_CFG_A, 0, 1⟩
/-- JAN_STAT, R198. -/
def JAN_STAT_A : Nat := (0x00D * 0x400 + 0x44)
def JAN_STAT_MIS_LAST : Fld := ⟨JAN_STAT_A, 16, 16⟩
def JAN_STAT_START_OK : Fld := ⟨JAN_STAT_A, 7, 1⟩
def JAN_STAT_SPARE_SPENT : Fld := ⟨JAN_STAT_A, 6, 1⟩
def JAN_STAT_RERUN_SLICE : Fld := ⟨JAN_STAT_A, 0, 4⟩
/-- JAN_FENCE, R198. -/
def JAN_FENCE_A : Nat := (0x00D * 0x400 + 0x48)
def JAN_FENCE_FENCED : Fld := ⟨JAN_FENCE_A, 0, 16⟩
/-- JAN_PEND, R198. -/
def JAN_PEND_A : Nat := (0x00D * 0x400 + 0x4c)
def JAN_PEND_PENDING : Fld := ⟨JAN_PEND_A, 0, 16⟩
/-- JAN_CNT_A, R198. -/
def JAN_CNT_A_A : Nat := (0x00D * 0x400 + 0x50)
def JAN_CNT_A_MISMATCH : Fld := ⟨JAN_CNT_A_A, 16, 16⟩
def JAN_CNT_A_TRANSIENT : Fld := ⟨JAN_CNT_A_A, 0, 16⟩
/-- JAN_CNT_B, R198. -/
def JAN_CNT_B_A : Nat := (0x00D * 0x400 + 0x54)
def JAN_CNT_B_SLICE_FAIL : Fld := ⟨JAN_CNT_B_A, 24, 8⟩
def JAN_CNT_B_HOLD_FAIL : Fld := ⟨JAN_CNT_B_A, 16, 8⟩
def JAN_CNT_B_RAIL : Fld := ⟨JAN_CNT_B_A, 8, 8⟩
def JAN_CNT_B_NO_VERDICT : Fld := ⟨JAN_CNT_B_A, 0, 8⟩
/-- JAN_CNT_C, R198. -/
def JAN_CNT_C_A : Nat := (0x00D * 0x400 + 0x58)
def JAN_CNT_C_PARITY : Fld := ⟨JAN_CNT_C_A, 16, 16⟩
def JAN_CNT_C_INJ_RUN : Fld := ⟨JAN_CNT_C_A, 0, 16⟩
/-- JAN_CNT_D, R198. -/
def JAN_CNT_D_A : Nat := (0x00D * 0x400 + 0x5c)
def JAN_CNT_D_RECORD : Fld := ⟨JAN_CNT_D_A, 16, 16⟩
def JAN_CNT_D_RERUN : Fld := ⟨JAN_CNT_D_A, 0, 16⟩
/-- JAN_INJ_STAT, R198. -/
def JAN_INJ_STAT_A : Nat := (0x00D * 0x400 + 0x60)
def JAN_INJ_STAT_FAIL : Fld := ⟨JAN_INJ_STAT_A, 24, 8⟩
def JAN_INJ_STAT_MAN_RESULT : Fld := ⟨JAN_INJ_STAT_A, 18, 2⟩
def JAN_INJ_STAT_FAIL_RAILS : Fld := ⟨JAN_INJ_STAT_A, 16, 2⟩
def JAN_INJ_STAT_LAST_FAIL : Fld := ⟨JAN_INJ_STAT_A, 8, 8⟩
def JAN_INJ_STAT_NEXT : Fld := ⟨JAN_INJ_STAT_A, 0, 8⟩
/-- JAN_INJ_CTL, R198. -/
def JAN_INJ_CTL_A : Nat := (0x00D * 0x400 + 0x64)
def JAN_INJ_CTL_GO : Fld := ⟨JAN_INJ_CTL_A, 31, 1⟩
def JAN_INJ_CTL_IDX : Fld := ⟨JAN_INJ_CTL_A, 0, 7⟩
/-- JAN_CAP_AX, R198. -/
def JAN_CAP_AX_A : Nat := (0x00D * 0x400 + 0x68)
def JAN_CAP_AX_CAUSE : Fld := ⟨JAN_CAP_AX_A, 30, 2⟩
def JAN_CAP_AX_RAILS : Fld := ⟨JAN_CAP_AX_A, 28, 2⟩
def JAN_CAP_AX_VERDICT : Fld := ⟨JAN_CAP_AX_A, 26, 2⟩
def JAN_CAP_AX_CLASS : Fld := ⟨JAN_CAP_AX_A, 23, 3⟩
def JAN_CAP_AX_AXIS : Fld := ⟨JAN_CAP_AX_A, 19, 4⟩
def JAN_CAP_AX_SLICE_P : Fld := ⟨JAN_CAP_AX_A, 16, 3⟩
def JAN_CAP_AX_SLICE_R : Fld := ⟨JAN_CAP_AX_A, 12, 4⟩
def JAN_CAP_AX_WORD : Fld := ⟨JAN_CAP_AX_A, 0, 6⟩
/-- JAN_CAP_PLAIN, R198. -/
def JAN_CAP_PLAIN_A : Nat := (0x00D * 0x400 + 0x6c)
def JAN_CAP_PLAIN_PLAIN : Fld := ⟨JAN_CAP_PLAIN_A, 0, 24⟩
/-- JAN_CAP_CODED, R198. -/
def JAN_CAP_CODED_A : Nat := (0x00D * 0x400 + 0x70)
def JAN_CAP_CODED_CODED : Fld := ⟨JAN_CAP_CODED_A, 0, 30⟩
/-- JAN_CAP_RERUN, R198. -/
def JAN_CAP_RERUN_A : Nat := (0x00D * 0x400 + 0x74)
def JAN_CAP_RERUN_RERUN : Fld := ⟨JAN_CAP_RERUN_A, 0, 24⟩
/-- JAN_CAP_FLAGS, R198. -/
def JAN_CAP_FLAGS_A : Nat := (0x00D * 0x400 + 0x78)
def JAN_CAP_FLAGS_CODED : Fld := ⟨JAN_CAP_FLAGS_A, 8, 6⟩
def JAN_CAP_FLAGS_PLAIN : Fld := ⟨JAN_CAP_FLAGS_A, 0, 6⟩
/-- JAN_CAP_TIME, R198. -/
def JAN_CAP_TIME_A : Nat := (0x00D * 0x400 + 0x7c)
def JAN_CAP_TIME_TIME : Fld := ⟨JAN_CAP_TIME_A, 0, 32⟩
/-- JAN_AXCNT, R198. -/
def JAN_AXCNT_A (i : Nat) : Nat := (0x00D * 0x400 + 0x80 + 4 * i)
def JAN_AXCNT_ODD (i : Nat) : Fld := ⟨JAN_AXCNT_A i, 16, 16⟩
def JAN_AXCNT_EVEN (i : Nat) : Fld := ⟨JAN_AXCNT_A i, 0, 16⟩
/-- JAN_CLR, R198. -/
def JAN_CLR_A : Nat := (0x00D * 0x400 + 0xa0)
def JAN_CLR_CLR_CAP : Fld := ⟨JAN_CLR_A, 1, 1⟩
def JAN_CLR_CLR_CNT : Fld := ⟨JAN_CLR_A, 0, 1⟩
/-- HB_CFG, R223. -/
def HB_CFG_A (h : Nat) : Nat := ((0x020 + h / 6) * 0x400 + 0x040 + 0x20 * (h % 6) + 0x0)
def HB_CFG_ADAPT (h : Nat) : Fld := ⟨HB_CFG_A h, 31, 1⟩
def HB_CFG_BOOT_MODE (h : Nat) : Fld := ⟨HB_CFG_A h, 29, 2⟩
def HB_CFG_REF_W (h : Nat) : Fld := ⟨HB_CFG_A h, 16, 8⟩
def HB_CFG_DT (h : Nat) : Fld := ⟨HB_CFG_A h, 0, 11⟩
/-- HB_TGT, R223. -/
def HB_TGT_A (h : Nat) : Nat := ((0x020 + h / 6) * 0x400 + 0x040 + 0x20 * (h % 6) + 0x4)
def HB_TGT_T_TGT (h : Nat) : Fld := ⟨HB_TGT_A h, 16, 9⟩
def HB_TGT_TOL (h : Nat) : Fld := ⟨HB_TGT_A h, 0, 6⟩
/-- HB_STEP, R223. -/
def HB_STEP_A (h : Nat) : Nat := ((0x020 + h / 6) * 0x400 + 0x040 + 0x20 * (h % 6) + 0x8)
def HB_STEP_HS_ON (h : Nat) : Fld := ⟨HB_STEP_A h, 28, 4⟩
def HB_STEP_HS_OFF (h : Nat) : Fld := ⟨HB_STEP_A h, 24, 4⟩
def HB_STEP_LS_ON (h : Nat) : Fld := ⟨HB_STEP_A h, 20, 4⟩
def HB_STEP_LS_OFF (h : Nat) : Fld := ⟨HB_STEP_A h, 16, 4⟩
def HB_STEP_AD_INIT (h : Nat) : Fld := ⟨HB_STEP_A h, 0, 4⟩
/-- HB_MEAS, R223. -/
def HB_MEAS_A (h : Nat) : Nat := ((0x020 + h / 6) * 0x400 + 0x040 + 0x20 * (h % 6) + 0xc)
def HB_MEAS_T_HS_ON (h : Nat) : Fld := ⟨HB_MEAS_A h, 24, 8⟩
def HB_MEAS_T_HS_OFF (h : Nat) : Fld := ⟨HB_MEAS_A h, 16, 8⟩
def HB_MEAS_T_LS_ON (h : Nat) : Fld := ⟨HB_MEAS_A h, 8, 8⟩
def HB_MEAS_T_LS_OFF (h : Nat) : Fld := ⟨HB_MEAS_A h, 0, 8⟩
/-- HB_STAT, R223. -/
def HB_STAT_A (h : Nat) : Nat := ((0x020 + h / 6) * 0x400 + 0x040 + 0x20 * (h % 6) + 0x10)
def HB_STAT_BOOT_OK (h : Nat) : Fld := ⟨HB_STAT_A h, 31, 1⟩
def HB_STAT_BOOT_BLOCK (h : Nat) : Fld := ⟨HB_STAT_A h, 30, 1⟩
def HB_STAT_LOCKOUT (h : Nat) : Fld := ⟨HB_STAT_A h, 29, 1⟩
def HB_STAT_SLICE_H (h : Nat) : Fld := ⟨HB_STAT_A h, 26, 3⟩
def HB_STAT_SLICE_L (h : Nat) : Fld := ⟨HB_STAT_A h, 23, 3⟩
def HB_STAT_BOOT_V (h : Nat) : Fld := ⟨HB_STAT_A h, 0, 8⟩
/-- HB_CNT, R223. -/
def HB_CNT_A (h : Nat) : Nat := ((0x020 + h / 6) * 0x400 + 0x040 + 0x20 * (h % 6) + 0x14)
def HB_CNT_SHOOT (h : Nat) : Fld := ⟨HB_CNT_A h, 24, 8⟩
def HB_CNT_BOOT_UV (h : Nat) : Fld := ⟨HB_CNT_A h, 16, 8⟩
def HB_CNT_ADP_MISS (h : Nat) : Fld := ⟨HB_CNT_A h, 8, 8⟩
def HB_CNT_ADP_LIM (h : Nat) : Fld := ⟨HB_CNT_A h, 0, 8⟩
/-- BG_CFG, R223. -/
def BG_CFG_A (g : Nat) : Nat := ((0x020 + g) * 0x400 + 0x100)
def BG_CFG_BOOT_PRE (g : Nat) : Fld := ⟨BG_CFG_A g, 8, 8⟩
/-- BG_STAT, R223. -/
def BG_STAT_A (g : Nat) : Nat := ((0x020 + g) * 0x400 + 0x104)
def BG_STAT_STATE (g : Nat) : Fld := ⟨BG_STAT_A g, 29, 3⟩
def BG_STAT_GD_EN (g : Nat) : Fld := ⟨BG_STAT_A g, 28, 1⟩
def BG_STAT_HELD (g : Nat) : Fld := ⟨BG_STAT_A g, 27, 1⟩
def BG_STAT_NO_ENABLE (g : Nat) : Fld := ⟨BG_STAT_A g, 6, 1⟩
def BG_STAT_LOST (g : Nat) : Fld := ⟨BG_STAT_A g, 0, 6⟩
/-- BG_CLR, R223. -/
def BG_CLR_A (g : Nat) : Nat := ((0x020 + g) * 0x400 + 0x108)
def BG_CLR_CLR_CNT (g : Nat) : Fld := ⟨BG_CLR_A g, 0, 1⟩
/-- AUX_CFG, R224. -/
def AUX_CFG_A : Nat := (0x028 * 0x400 + 0x40)
def AUX_CFG_CHOP_EN : Fld := ⟨AUX_CFG_A, 0, 2⟩
/-- PK_CFG, R224. -/
def PK_CFG_A (i : Nat) : Nat := (0x028 * 0x400 + 0x44 + 4 * i)
def PK_CFG_EN (i : Nat) : Fld := ⟨PK_CFG_A i, 31, 1⟩
def PK_CFG_SRC (i : Nat) : Fld := ⟨PK_CFG_A i, 28, 3⟩
def PK_CFG_I_PULL (i : Nat) : Fld := ⟨PK_CFG_A i, 12, 12⟩
def PK_CFG_I_HOLD (i : Nat) : Fld := ⟨PK_CFG_A i, 0, 12⟩
/-- PK_TIME, R224. -/
def PK_TIME_A (i : Nat) : Nat := (0x028 * 0x400 + 0x4c + 4 * i)
def PK_TIME_T_PULL (i : Nat) : Fld := ⟨PK_TIME_A i, 16, 16⟩
def PK_TIME_FS (i : Nat) : Fld := ⟨PK_TIME_A i, 0, 16⟩
/-- PK_GAIN, R224. -/
def PK_GAIN_A : Nat := (0x028 * 0x400 + 0x54)
def PK_GAIN_KP_PK : Fld := ⟨PK_GAIN_A, 16, 16⟩
def PK_GAIN_KI_PK : Fld := ⟨PK_GAIN_A, 0, 16⟩
/-- AUX_STAT, R224. -/
def AUX_STAT_A : Nat := (0x028 * 0x400 + 0x80)
def AUX_STAT_TQ_CMD : Fld := ⟨AUX_STAT_A, 30, 2⟩
def AUX_STAT_TQ_RB : Fld := ⟨AUX_STAT_A, 28, 2⟩
def AUX_STAT_FLT_RET : Fld := ⟨AUX_STAT_A, 24, 4⟩
def AUX_STAT_RET_ACT : Fld := ⟨AUX_STAT_A, 20, 4⟩
def AUX_STAT_PK_ON : Fld := ⟨AUX_STAT_A, 18, 2⟩
def AUX_STAT_PK_HOLDER : Fld := ⟨AUX_STAT_A, 16, 2⟩
def AUX_STAT_CHOP_ACT : Fld := ⟨AUX_STAT_A, 14, 2⟩
/-- PK_STAT, R224. -/
def PK_STAT_A (i : Nat) : Nat := (0x028 * 0x400 + 0x84 + 4 * i)
def PK_STAT_I_MEAS (i : Nat) : Fld := ⟨PK_STAT_A i, 16, 16⟩
def PK_STAT_DUTY (i : Nat) : Fld := ⟨PK_STAT_A i, 0, 12⟩
/-- AUX_CNT, R224. -/
def AUX_CNT_A : Nat := (0x028 * 0x400 + 0x8c)
def AUX_CNT_FLT_RET : Fld := ⟨AUX_CNT_A, 24, 8⟩
def AUX_CNT_TQ_RB : Fld := ⟨AUX_CNT_A, 16, 8⟩
def AUX_CNT_PARK_I : Fld := ⟨AUX_CNT_A, 8, 8⟩
def AUX_CNT_AUX_RB : Fld := ⟨AUX_CNT_A, 0, 8⟩
/-- AUX_CLR, R224. -/
def AUX_CLR_A : Nat := (0x028 * 0x400 + 0x90)
def AUX_CLR_CLR_CNT : Fld := ⟨AUX_CLR_A, 0, 1⟩
/-- SUP_MAP, R244. -/
def SUP_MAP_A : Nat := (0x029 * 0x400 + 0x40)
def SUP_MAP_BUS_g : Fld := ⟨SUP_MAP_A, 0, 16⟩
/-- SUP_BCFG, R244. -/
def SUP_BCFG_A (i : Nat) : Nat := (0x029 * 0x400 + 0x80 + 16 * i)
def SUP_BCFG_EN (i : Nat) : Fld := ⟨SUP_BCFG_A i, 31, 1⟩
def SUP_BCFG_CHOP (i : Nat) : Fld := ⟨SUP_BCFG_A i, 29, 2⟩
def SUP_BCFG_FILT (i : Nat) : Fld := ⟨SUP_BCFG_A i, 16, 8⟩
def SUP_BCFG_BUS_FS (i : Nat) : Fld := ⟨SUP_BCFG_A i, 8, 8⟩
def SUP_BCFG_TMAX (i : Nat) : Fld := ⟨SUP_BCFG_A i, 0, 8⟩
/-- SUP_BTH, R244. -/
def SUP_BTH_A (i : Nat) : Nat := (0x029 * 0x400 + 0x84 + 16 * i)
def SUP_BTH_U_CH_ON (i : Nat) : Fld := ⟨SUP_BTH_A i, 16, 16⟩
def SUP_BTH_U_CH_OFF (i : Nat) : Fld := ⟨SUP_BTH_A i, 0, 16⟩
/-- SUP_BTH2, R244. -/
def SUP_BTH2_A (i : Nat) : Nat := (0x029 * 0x400 + 0x88 + 16 * i)
def SUP_BTH2_U_HOV (i : Nat) : Fld := ⟨SUP_BTH2_A i, 16, 16⟩
def SUP_BTH2_U_UV (i : Nat) : Fld := ⟨SUP_BTH2_A i, 0, 16⟩
/-- SUP_BSTAT, R244. -/
def SUP_BSTAT_A (i : Nat) : Nat := (0x029 * 0x400 + 0x8c + 16 * i)
def SUP_BSTAT_CHOP_ACT (i : Nat) : Fld := ⟨SUP_BSTAT_A i, 31, 1⟩
def SUP_BSTAT_HOV (i : Nat) : Fld := ⟨SUP_BSTAT_A i, 30, 1⟩
def SUP_BSTAT_UV (i : Nat) : Fld := ⟨SUP_BSTAT_A i, 29, 1⟩
def SUP_BSTAT_U_BUS (i : Nat) : Fld := ⟨SUP_BSTAT_A i, 0, 16⟩
/-- SUP_DCFG, R244. -/
def SUP_DCFG_A (i : Nat) : Nat := (0x029 * 0x400 + 0x100 + 16 * i)
def SUP_DCFG_EN (i : Nat) : Fld := ⟨SUP_DCFG_A i, 31, 1⟩
def SUP_DCFG_T_BLANK (i : Nat) : Fld := ⟨SUP_DCFG_A i, 16, 8⟩
def SUP_DCFG_V_DESAT (i : Nat) : Fld := ⟨SUP_DCFG_A i, 8, 8⟩
/-- SUP_D2L, R244. -/
def SUP_D2L_A (i : Nat) : Nat := (0x029 * 0x400 + 0x104 + 16 * i)
def SUP_D2L_V_2L (i : Nat) : Fld := ⟨SUP_D2L_A i, 8, 8⟩
def SUP_D2L_T_2L (i : Nat) : Fld := ⟨SUP_D2L_A i, 0, 8⟩
/-- SUP_LATCH, R244. -/
def SUP_LATCH_A (i : Nat) : Nat := (0x029 * 0x400 + 0x180 + 4 * i)
def SUP_LATCH_LATCHED (i : Nat) : Fld := ⟨SUP_LATCH_A i, 31, 1⟩
def SUP_LATCH_FIRST (i : Nat) : Fld := ⟨SUP_LATCH_A i, 28, 3⟩
def SUP_LATCH_CAUSES (i : Nat) : Fld := ⟨SUP_LATCH_A i, 24, 4⟩
def SUP_LATCH_ARMED (i : Nat) : Fld := ⟨SUP_LATCH_A i, 23, 1⟩
def SUP_LATCH_FIRST_HB (i : Nat) : Fld := ⟨SUP_LATCH_A i, 20, 3⟩
def SUP_LATCH_FIRST_GATE (i : Nat) : Fld := ⟨SUP_LATCH_A i, 19, 1⟩
def SUP_LATCH_DSAT_H (i : Nat) : Fld := ⟨SUP_LATCH_A i, 8, 6⟩
def SUP_LATCH_DSAT_L (i : Nat) : Fld := ⟨SUP_LATCH_A i, 0, 6⟩
/-- SUP_GSTAT, R244. -/
def SUP_GSTAT_A : Nat := (0x029 * 0x400 + 0x1c0)
def SUP_GSTAT_OV : Fld := ⟨SUP_GSTAT_A, 8, 5⟩
def SUP_GSTAT_UV : Fld := ⟨SUP_GSTAT_A, 0, 5⟩
/-- SUP_CHOP, R244. -/
def SUP_CHOP_A : Nat := (0x029 * 0x400 + 0x1c4)
def SUP_CHOP_ON_0 : Fld := ⟨SUP_CHOP_A, 16, 16⟩
def SUP_CHOP_ON_1 : Fld := ⟨SUP_CHOP_A, 0, 16⟩
/-- SUP_CNT, R244. -/
def SUP_CNT_A : Nat := (0x029 * 0x400 + 0x1c8)
def SUP_CNT_DESAT : Fld := ⟨SUP_CNT_A, 24, 8⟩
def SUP_CNT_HOV : Fld := ⟨SUP_CNT_A, 16, 8⟩
def SUP_CNT_CLR_SHORT : Fld := ⟨SUP_CNT_A, 8, 8⟩
def SUP_CNT_CLR_REF : Fld := ⟨SUP_CNT_A, 0, 8⟩
/-- SUP_CLR, R244. -/
def SUP_CLR_A : Nat := (0x029 * 0x400 + 0x1cc)
def SUP_CLR_CLR_CNT : Fld := ⟨SUP_CLR_A, 0, 1⟩
/-- OD_MODE, R245. -/
def OD_MODE_A (i : Nat) : Nat := (0x02A * 0x400 + 0x40 + 4 * i)
def OD_MODE_MODE (i : Nat) : Fld := ⟨OD_MODE_A i, 0, 32⟩
/-- OD_RES, R245. -/
def OD_RES_A (i : Nat) : Nat := (0x02A * 0x400 + 0x80 + 4 * i)
def OD_RES_STATE (i : Nat) : Fld := ⟨OD_RES_A i, 29, 3⟩
def OD_RES_VERD (i : Nat) : Fld := ⟨OD_RES_A i, 0, 18⟩
/-- OD_CNT, R245. -/
def OD_CNT_A : Nat := (0x02A * 0x400 + 0xc0)
def OD_CNT_RUNS : Fld := ⟨OD_CNT_A, 16, 16⟩
def OD_CNT_FAILS : Fld := ⟨OD_CNT_A, 0, 16⟩
/-- OD_CLR, R245. -/
def OD_CLR_A : Nat := (0x02A * 0x400 + 0xc4)
def OD_CLR_CLR_CNT : Fld := ⟨OD_CLR_A, 0, 1⟩
/-- SS_CFG, R264. -/
def SS_CFG_A : Nat := (0x00F * 0x400 + 0x40)
def SS_CFG_EXIT_MS : Fld := ⟨SS_CFG_A, 16, 16⟩
def SS_CFG_PIN_FILT : Fld := ⟨SS_CFG_A, 8, 8⟩
def SS_CFG_DEF_SEL : Fld := ⟨SS_CFG_A, 0, 2⟩
/-- SS_TGT, R264. -/
def SS_TGT_A (i : Nat) : Nat := (0x00F * 0x400 + 0x44 + 4 * i)
def SS_TGT_A_TGT (i : Nat) : Fld := ⟨SS_TGT_A i, 0, 16⟩
/-- SS_LIM, R264. -/
def SS_LIM_A : Nat := (0x00F * 0x400 + 0x54)
def SS_LIM_RATE : Fld := ⟨SS_LIM_A, 16, 16⟩
def SS_LIM_JERK : Fld := ⟨SS_LIM_A, 0, 16⟩
/-- SS_MON, R264. -/
def SS_MON_A : Nat := (0x00F * 0x400 + 0x58)
def SS_MON_LO_FRAC : Fld := ⟨SS_MON_A, 24, 8⟩
def SS_MON_HI_FRAC : Fld := ⟨SS_MON_A, 16, 8⟩
def SS_MON_T_ESC : Fld := ⟨SS_MON_A, 0, 16⟩
/-- SS_STOP, R264. -/
def SS_STOP_A : Nat := (0x00F * 0x400 + 0x5c)
def SS_STOP_V_STOP : Fld := ⟨SS_STOP_A, 16, 16⟩
def SS_STOP_T_HOLD : Fld := ⟨SS_STOP_A, 0, 16⟩
/-- SS_PARK, R264. -/
def SS_PARK_A : Nat := (0x00F * 0x400 + 0x60)
def SS_PARK_T_APPLY : Fld := ⟨SS_PARK_A, 0, 16⟩
/-- SS_CTL, R264. -/
def SS_CTL_A : Nat := (0x00F * 0x400 + 0x64)
def SS_CTL_EXIT : Fld := ⟨SS_CTL_A, 1, 1⟩
def SS_CTL_TRIG : Fld := ⟨SS_CTL_A, 0, 1⟩
/-- SS_STAT, R264. -/
def SS_STAT_A : Nat := (0x00F * 0x400 + 0x80)
def SS_STAT_PHASE : Fld := ⟨SS_STAT_A, 29, 3⟩
def SS_STAT_ESC : Fld := ⟨SS_STAT_A, 28, 1⟩
def SS_STAT_FIRST : Fld := ⟨SS_STAT_A, 24, 4⟩
def SS_STAT_SEL : Fld := ⟨SS_STAT_A, 22, 2⟩
def SS_STAT_PARK_DONE : Fld := ⟨SS_STAT_A, 21, 1⟩
def SS_STAT_TQ_OPEN : Fld := ⟨SS_STAT_A, 20, 1⟩
def SS_STAT_MOVE : Fld := ⟨SS_STAT_A, 19, 1⟩
def SS_STAT_NO_MEAS : Fld := ⟨SS_STAT_A, 18, 1⟩
def SS_STAT_A_REQ : Fld := ⟨SS_STAT_A, 0, 16⟩
/-- SS_TRIG, R264. -/
def SS_TRIG_A : Nat := (0x00F * 0x400 + 0x84)
def SS_TRIG_ACTIVE : Fld := ⟨SS_TRIG_A, 8, 8⟩
def SS_TRIG_LATCHED : Fld := ⟨SS_TRIG_A, 0, 8⟩
/-- SS_MEAS, R264. -/
def SS_MEAS_A : Nat := (0x00F * 0x400 + 0x88)
def SS_MEAS_A_MON : Fld := ⟨SS_MEAS_A, 16, 16⟩
def SS_MEAS_A_LO : Fld := ⟨SS_MEAS_A, 0, 16⟩
/-- SS_TIME, R264. -/
def SS_TIME_A : Nat := (0x00F * 0x400 + 0x8c)
def SS_TIME_TIME : Fld := ⟨SS_TIME_A, 0, 32⟩
/-- SS_TMR, R264. -/
def SS_TMR_A : Nat := (0x00F * 0x400 + 0x90)
def SS_TMR_BELOW : Fld := ⟨SS_TMR_A, 16, 16⟩
def SS_TMR_STILL : Fld := ⟨SS_TMR_A, 0, 16⟩
/-- SS_CNT, R264. -/
def SS_CNT_A : Nat := (0x00F * 0x400 + 0x94)
def SS_CNT_ENTRIES : Fld := ⟨SS_CNT_A, 24, 8⟩
def SS_CNT_ESC : Fld := ⟨SS_CNT_A, 16, 8⟩
def SS_CNT_OVER : Fld := ⟨SS_CNT_A, 0, 16⟩
/-- SS_CLR, R264. -/
def SS_CLR_A : Nat := (0x00F * 0x400 + 0x98)
def SS_CLR_CLR_CNT : Fld := ⟨SS_CLR_A, 0, 1⟩
/-- LN_CFG, R288. -/
def LN_CFG_A : Nat := (0x00E * 0x400 + 0x40)
def LN_CFG_N_CFG : Fld := ⟨LN_CFG_A, 30, 2⟩
def LN_CFG_DEG_SPEED : Fld := ⟨LN_CFG_A, 16, 8⟩
def LN_CFG_TB_EN : Fld := ⟨LN_CFG_A, 0, 1⟩
/-- LN_STAT, R288. -/
def LN_STAT_A : Nat := (0x00E * 0x400 + 0x48)
def LN_STAT_STATE : Fld := ⟨LN_STAT_A, 29, 3⟩
def LN_STAT_LETTER : Fld := ⟨LN_STAT_A, 27, 2⟩
def LN_STAT_LAST_LANE : Fld := ⟨LN_STAT_A, 26, 1⟩
def LN_STAT_ISOLATED : Fld := ⟨LN_STAT_A, 25, 1⟩
def LN_STAT_DEGRADED : Fld := ⟨LN_STAT_A, 24, 1⟩
def LN_STAT_MAINT : Fld := ⟨LN_STAT_A, 23, 1⟩
def LN_STAT_ACTIVE : Fld := ⟨LN_STAT_A, 20, 3⟩
def LN_STAT_PRESENT : Fld := ⟨LN_STAT_A, 17, 3⟩
def LN_STAT_UNREACH : Fld := ⟨LN_STAT_A, 14, 3⟩
def LN_STAT_FAULTS : Fld := ⟨LN_STAT_A, 8, 4⟩
def LN_STAT_EXCL_CAUSE : Fld := ⟨LN_STAT_A, 0, 4⟩
/-- LN_ROLE, R288. -/
def LN_ROLE_A : Nat := (0x00E * 0x400 + 0x4c)
def LN_ROLE_HELD : Fld := ⟨LN_ROLE_A, 28, 4⟩
def LN_ROLE_RELEASING : Fld := ⟨LN_ROLE_A, 24, 4⟩
def LN_ROLE_READY : Fld := ⟨LN_ROLE_A, 20, 4⟩
def LN_ROLE_BARRED : Fld := ⟨LN_ROLE_A, 16, 4⟩
def LN_ROLE_HOLDER : Fld := ⟨LN_ROLE_A, 8, 8⟩
def LN_ROLE_DOUBLE : Fld := ⟨LN_ROLE_A, 4, 4⟩
/-- LN_FCAT, R288. -/
def LN_FCAT_A : Nat := (0x00E * 0x400 + 0x50)
def LN_FCAT_SITIL : Fld := ⟨LN_FCAT_A, 30, 2⟩
def LN_FCAT_MOAMEL : Fld := ⟨LN_FCAT_A, 28, 2⟩
def LN_FCAT_LANES : Fld := ⟨LN_FCAT_A, 25, 3⟩
def LN_FCAT_INPUTS : Fld := ⟨LN_FCAT_A, 8, 8⟩
def LN_FCAT_AXES : Fld := ⟨LN_FCAT_A, 0, 8⟩
/-- LN_TB, R288. -/
def LN_TB_A : Nat := (0x00E * 0x400 + 0x54)
def LN_TB_CLEAN : Fld := ⟨LN_TB_A, 16, 16⟩
def LN_TB_LANE_RET : Fld := ⟨LN_TB_A, 14, 2⟩
def LN_TB_BARRED : Fld := ⟨LN_TB_A, 13, 1⟩
def LN_TB_ROLE_RET : Fld := ⟨LN_TB_A, 0, 8⟩
/-- LN_COORD, R288. -/
def LN_COORD_A : Nat := (0x00E * 0x400 + 0x58)
def LN_COORD_COORD : Fld := ⟨LN_COORD_A, 31, 1⟩
def LN_COORD_SRC : Fld := ⟨LN_COORD_A, 16, 2⟩
def LN_COORD_CYCLE : Fld := ⟨LN_COORD_A, 0, 16⟩
/-- LN_AXTOL, R288. -/
def LN_AXTOL_A (i : Nat) : Nat := (0x00E * 0x400 + 0x80 + 4 * i)
def LN_AXTOL_VOTE_N (i : Nat) : Fld := ⟨LN_AXTOL_A i, 24, 8⟩
def LN_AXTOL_TOL (i : Nat) : Fld := ⟨LN_AXTOL_A i, 0, 16⟩
/-- LN_AXST, R288. -/
def LN_AXST_A (i : Nat) : Nat := (0x00E * 0x400 + 0xc0 + 4 * i)
def LN_AXST_DEV_CNT (i : Nat) : Fld := ⟨LN_AXST_A i, 24, 8⟩
def LN_AXST_DIS_CNT (i : Nat) : Fld := ⟨LN_AXST_A i, 16, 8⟩
def LN_AXST_VOTE (i : Nat) : Fld := ⟨LN_AXST_A i, 14, 2⟩
def LN_AXST_DEV (i : Nat) : Fld := ⟨LN_AXST_A i, 0, 14⟩
/-- LN_CNT, R288. -/
def LN_CNT_A : Nat := (0x00E * 0x400 + 0x100)
def LN_CNT_VOTE_OUT : Fld := ⟨LN_CNT_A, 24, 8⟩
def LN_CNT_HANDOVER : Fld := ⟨LN_CNT_A, 16, 8⟩
def LN_CNT_DOUBLE : Fld := ⟨LN_CNT_A, 8, 8⟩
def LN_CNT_TAKEBACK : Fld := ⟨LN_CNT_A, 0, 8⟩
/-- LN_CTL, R288. -/
def LN_CTL_A : Nat := (0x00E * 0x400 + 0x104)
def LN_CTL_CLR_MAINT : Fld := ⟨LN_CTL_A, 1, 1⟩
def LN_CTL_CLR_CNT : Fld := ⟨LN_CTL_A, 0, 1⟩
/-- MM_CFG, R309. -/
def MM_CFG_A : Nat := (0x050 * 0x400 + 0x40)
def MM_CFG_RING_N : Fld := ⟨MM_CFG_A, 27, 5⟩
def MM_CFG_LSYS : Fld := ⟨MM_CFG_A, 24, 3⟩
def MM_CFG_SYNC_DLY : Fld := ⟨MM_CFG_A, 16, 8⟩
def MM_CFG_L_MAX : Fld := ⟨MM_CFG_A, 0, 16⟩
/-- MM_STAT, R309. -/
def MM_STAT_A : Nat := (0x050 * 0x400 + 0x44)
def MM_STAT_POS : Fld := ⟨MM_STAT_A, 28, 4⟩
def MM_STAT_TOPO : Fld := ⟨MM_STAT_A, 26, 2⟩
def MM_STAT_MASTER_POS : Fld := ⟨MM_STAT_A, 22, 4⟩
def MM_STAT_MASTER : Fld := ⟨MM_STAT_A, 21, 1⟩
def MM_STAT_SYNC_DRV : Fld := ⟨MM_STAT_A, 20, 1⟩
def MM_STAT_SYNC_OK : Fld := ⟨MM_STAT_A, 19, 1⟩
def MM_STAT_ALARM_IN : Fld := ⟨MM_STAT_A, 18, 1⟩
def MM_STAT_ALARM_OUT : Fld := ⟨MM_STAT_A, 17, 1⟩
def MM_STAT_LEAVING : Fld := ⟨MM_STAT_A, 16, 1⟩
def MM_STAT_BREAKS : Fld := ⟨MM_STAT_A, 12, 4⟩
/-- MM_SPAN, R309. -/
def MM_SPAN_A : Nat := (0x050 * 0x400 + 0x48)
def MM_SPAN_WEST : Fld := ⟨MM_SPAN_A, 30, 2⟩
def MM_SPAN_EAST : Fld := ⟨MM_SPAN_A, 28, 2⟩
def MM_SPAN_UP_TICKS : Fld := ⟨MM_SPAN_A, 0, 16⟩
/-- MM_REACH, R309. -/
def MM_REACH_A : Nat := (0x050 * 0x400 + 0x4c)
def MM_REACH_REACH : Fld := ⟨MM_REACH_A, 16, 16⟩
def MM_REACH_RECORD : Fld := ⟨MM_REACH_A, 0, 16⟩
/-- MM_CAND, R309. -/
def MM_CAND_A : Nat := (0x050 * 0x400 + 0x50)
def MM_CAND_DEPARTED : Fld := ⟨MM_CAND_A, 16, 16⟩
def MM_CAND_CAND : Fld := ⟨MM_CAND_A, 0, 16⟩
/-- MM_BUDGET, R309. -/
def MM_BUDGET_A : Nat := (0x050 * 0x400 + 0x54)
def MM_BUDGET_FAIL : Fld := ⟨MM_BUDGET_A, 31, 1⟩
def MM_BUDGET_T_X : Fld := ⟨MM_BUDGET_A, 16, 15⟩
def MM_BUDGET_LEN : Fld := ⟨MM_BUDGET_A, 0, 16⟩
/-- MM_TIMING, R309. -/
def MM_TIMING_A : Nat := (0x050 * 0x400 + 0x58)
def MM_TIMING_MAX_NS : Fld := ⟨MM_TIMING_A, 16, 16⟩
def MM_TIMING_LAST_NS : Fld := ⟨MM_TIMING_A, 0, 16⟩
/-- MM_CNT, R309. -/
def MM_CNT_A : Nat := (0x050 * 0x400 + 0x5c)
def MM_CNT_LATE : Fld := ⟨MM_CNT_A, 24, 8⟩
def MM_CNT_BREAKS : Fld := ⟨MM_CNT_A, 16, 8⟩
def MM_CNT_MASTER_CHG : Fld := ⟨MM_CNT_A, 8, 8⟩
def MM_CNT_SYNC_CONF : Fld := ⟨MM_CNT_A, 0, 8⟩
/-- MM_CLR, R309. -/
def MM_CLR_A : Nat := (0x050 * 0x400 + 0x60)
def MM_CLR_CLR_CNT : Fld := ⟨MM_CLR_A, 0, 1⟩
/-- LK_CFG, R310. -/
def LK_CFG_A (m : Nat) : Nat := ((0x051 + m) * 0x400 + 0x40)
def LK_CFG_EN (m : Nat) : Fld := ⟨LK_CFG_A m, 31, 1⟩
/-- LK_STAT, R310. -/
def LK_STAT_A (m : Nat) : Nat := ((0x051 + m) * 0x400 + 0x44)
def LK_STAT_STATE (m : Nat) : Fld := ⟨LK_STAT_A m, 29, 3⟩
def LK_STAT_PEER_POS (m : Nat) : Fld := ⟨LK_STAT_A m, 25, 4⟩
def LK_STAT_PEER_RING_N (m : Nat) : Fld := ⟨LK_STAT_A m, 20, 5⟩
def LK_STAT_PEER_LSYS (m : Nat) : Fld := ⟨LK_STAT_A m, 17, 3⟩
def LK_STAT_DELAY_NS (m : Nat) : Fld := ⟨LK_STAT_A m, 0, 16⟩
/-- LK_ERR, R310. -/
def LK_ERR_A (m : Nat) : Nat := ((0x051 + m) * 0x400 + 0x48)
def LK_ERR_CRC (m : Nat) : Fld := ⟨LK_ERR_A m, 16, 16⟩
def LK_ERR_CODE (m : Nat) : Fld := ⟨LK_ERR_A m, 0, 16⟩
/-- LK_CNT, R310. -/
def LK_CNT_A (m : Nat) : Nat := ((0x051 + m) * 0x400 + 0x4c)
def LK_CNT_DOWNS (m : Nat) : Fld := ⟨LK_CNT_A m, 24, 8⟩
def LK_CNT_FRAMES (m : Nat) : Fld := ⟨LK_CNT_A m, 0, 24⟩
/-- LK_CLR, R310. -/
def LK_CLR_A (m : Nat) : Nat := ((0x051 + m) * 0x400 + 0x50)
def LK_CLR_CLR_CNT (m : Nat) : Fld := ⟨LK_CLR_A m, 0, 1⟩
/-- SIT_ID, R340. -/
def SIT_ID_A : Nat := (0x040 * 0x400 + 0x40)
def SIT_ID_NODE_ID : Fld := ⟨SIT_ID_A, 0, 16⟩
/-- SIT_CFG, R340. -/
def SIT_CFG_A : Nat := (0x040 * 0x400 + 0x44)
def SIT_CFG_ACC_WIN : Fld := ⟨SIT_CFG_A, 24, 8⟩
def SIT_CFG_OFS_LIM : Fld := ⟨SIT_CFG_A, 16, 8⟩
def SIT_CFG_RATE_LIM : Fld := ⟨SIT_CFG_A, 8, 8⟩
def SIT_CFG_LONE_OK : Fld := ⟨SIT_CFG_A, 7, 1⟩
def SIT_CFG_LOST_CYC : Fld := ⟨SIT_CFG_A, 0, 4⟩
/-- SIT_CS_01, R340. -/
def SIT_CS_01_A : Nat := (0x040 * 0x400 + 0x48)
def SIT_CS_01_CS_1 : Fld := ⟨SIT_CS_01_A, 16, 16⟩
def SIT_CS_01_CS_0 : Fld := ⟨SIT_CS_01_A, 0, 16⟩
/-- SIT_CS_23, R340. -/
def SIT_CS_23_A : Nat := (0x040 * 0x400 + 0x4c)
def SIT_CS_23_CS_3 : Fld := ⟨SIT_CS_23_A, 16, 16⟩
def SIT_CS_23_CS_2 : Fld := ⟨SIT_CS_23_A, 0, 16⟩
/-- SIT_CFG2, R340. -/
def SIT_CFG2_A : Nat := (0x040 * 0x400 + 0x50)
def SIT_CFG2_SPAN_NS : Fld := ⟨SIT_CFG2_A, 16, 16⟩
def SIT_CFG2_CS_VALID : Fld := ⟨SIT_CFG2_A, 12, 4⟩
def SIT_CFG2_BRIDGE : Fld := ⟨SIT_CFG2_A, 10, 2⟩
/-- SIT_PROP, R340. -/
def SIT_PROP_A : Nat := (0x040 * 0x400 + 0x54)
def SIT_PROP_PROP_Y : Fld := ⟨SIT_PROP_A, 16, 16⟩
def SIT_PROP_PROP_X : Fld := ⟨SIT_PROP_A, 0, 16⟩
/-- SIT_STAT, R340. -/
def SIT_STAT_A : Nat := (0x040 * 0x400 + 0x58)
def SIT_STAT_STATE_X : Fld := ⟨SIT_STAT_A, 29, 3⟩
def SIT_STAT_STATE_Y : Fld := ⟨SIT_STAT_A, 26, 3⟩
def SIT_STAT_LOST_X : Fld := ⟨SIT_STAT_A, 25, 1⟩
def SIT_STAT_LOST_Y : Fld := ⟨SIT_STAT_A, 24, 1⟩
def SIT_STAT_CS_NODE : Fld := ⟨SIT_STAT_A, 23, 1⟩
def SIT_STAT_RANK : Fld := ⟨SIT_STAT_A, 21, 2⟩
def SIT_STAT_BACKOFF : Fld := ⟨SIT_STAT_A, 16, 4⟩
def SIT_STAT_CYCLE : Fld := ⟨SIT_STAT_A, 0, 16⟩
/-- SIT_SCRC, R340. -/
def SIT_SCRC_A : Nat := (0x040 * 0x400 + 0x5c)
def SIT_SCRC_SCHED_CRC : Fld := ⟨SIT_SCRC_A, 0, 32⟩
/-- SIT_DEV, R340. -/
def SIT_DEV_A : Nat := (0x040 * 0x400 + 0x60)
def SIT_DEV_DEV_Y : Fld := ⟨SIT_DEV_A, 16, 16⟩
def SIT_DEV_DEV_X : Fld := ⟨SIT_DEV_A, 0, 16⟩
/-- SIT_CNT_X, R340. -/
def SIT_CNT_X_A : Nat := (0x040 * 0x400 + 0x64)
def SIT_CNT_X_EARLY : Fld := ⟨SIT_CNT_X_A, 16, 16⟩
def SIT_CNT_X_LATE : Fld := ⟨SIT_CNT_X_A, 0, 16⟩
/-- SIT_CNT_Y, R340. -/
def SIT_CNT_Y_A : Nat := (0x040 * 0x400 + 0x68)
def SIT_CNT_Y_EARLY : Fld := ⟨SIT_CNT_Y_A, 16, 16⟩
def SIT_CNT_Y_LATE : Fld := ⟨SIT_CNT_Y_A, 0, 16⟩
/-- SIT_CNT2, R340. -/
def SIT_CNT2_A : Nat := (0x040 * 0x400 + 0x6c)
def SIT_CNT2_REINT_X : Fld := ⟨SIT_CNT2_A, 24, 8⟩
def SIT_CNT2_REINT_Y : Fld := ⟨SIT_CNT2_A, 16, 8⟩
def SIT_CNT2_CS_COLL : Fld := ⟨SIT_CNT2_A, 8, 8⟩
def SIT_CNT2_SCHED_MIS : Fld := ⟨SIT_CNT2_A, 0, 8⟩
/-- SIT_CLR, R340. -/
def SIT_CLR_A : Nat := (0x040 * 0x400 + 0x70)
def SIT_CLR_CLR_CNT : Fld := ⟨SIT_CLR_A, 0, 1⟩
/-- SP_STAT, R341. -/
def SP_STAT_A (p : Nat) : Nat := ((0x041 + p) * 0x400 + 0x40)
def SP_STAT_LINE (p : Nat) : Fld := ⟨SP_STAT_A p, 30, 2⟩
def SP_STAT_OPEN (p : Nat) : Fld := ⟨SP_STAT_A p, 29, 1⟩
def SP_STAT_ACT (p : Nat) : Fld := ⟨SP_STAT_A p, 28, 1⟩
def SP_STAT_LAST_SLOT (p : Nat) : Fld := ⟨SP_STAT_A p, 0, 13⟩
/-- SP_RX, R341. -/
def SP_RX_A (p : Nat) : Nat := ((0x041 + p) * 0x400 + 0x44)
def SP_RX_FRAMES (p : Nat) : Fld := ⟨SP_RX_A p, 0, 32⟩
/-- SP_TX, R341. -/
def SP_TX_A (p : Nat) : Nat := ((0x041 + p) * 0x400 + 0x48)
def SP_TX_FRAMES (p : Nat) : Fld := ⟨SP_TX_A p, 0, 32⟩
/-- SP_ERR, R341. -/
def SP_ERR_A (p : Nat) : Nat := ((0x041 + p) * 0x400 + 0x4c)
def SP_ERR_CRC (p : Nat) : Fld := ⟨SP_ERR_A p, 16, 16⟩
def SP_ERR_CODE (p : Nat) : Fld := ⟨SP_ERR_A p, 0, 16⟩
/-- SP_ERR2, R341. -/
def SP_ERR2_A (p : Nat) : Nat := ((0x041 + p) * 0x400 + 0x50)
def SP_ERR2_RB (p : Nat) : Fld := ⟨SP_ERR2_A p, 24, 8⟩
def SP_ERR2_CLASH (p : Nat) : Fld := ⟨SP_ERR2_A p, 16, 8⟩
def SP_ERR2_FMT (p : Nat) : Fld := ⟨SP_ERR2_A p, 0, 16⟩
/-- SP_FWD, R341. -/
def SP_FWD_A (p : Nat) : Nat := ((0x041 + p) * 0x400 + 0x54)
def SP_FWD_FRAMES (p : Nat) : Fld := ⟨SP_FWD_A p, 0, 32⟩
/-- SP_CLR, R341. -/
def SP_CLR_A (p : Nat) : Nat := ((0x041 + p) * 0x400 + 0x58)
def SP_CLR_CLR_CNT (p : Nat) : Fld := ⟨SP_CLR_A p, 0, 1⟩
/-- SCH_CFG, R342. -/
def SCH_CFG_A : Nat := (0x045 * 0x400 + 0x40)
def SCH_CFG_AUTO_INC : Fld := ⟨SCH_CFG_A, 31, 1⟩
def SCH_CFG_N : Fld := ⟨SCH_CFG_A, 0, 14⟩
/-- SCH_IDX, R342. -/
def SCH_IDX_A : Nat := (0x045 * 0x400 + 0x44)
def SCH_IDX_IDX : Fld := ⟨SCH_IDX_A, 0, 13⟩
/-- SCH_W0, R342. -/
def SCH_W0_A : Nat := (0x045 * 0x400 + 0x48)
def SCH_W0_W0 : Fld := ⟨SCH_W0_A, 0, 32⟩
/-- SCH_W1, R342. -/
def SCH_W1_A : Nat := (0x045 * 0x400 + 0x4c)
def SCH_W1_W1 : Fld := ⟨SCH_W1_A, 0, 32⟩
/-- SCH_W2, R342. -/
def SCH_W2_A : Nat := (0x045 * 0x400 + 0x50)
def SCH_W2_W2 : Fld := ⟨SCH_W2_A, 0, 32⟩
/-- SCH_STAT, R342. -/
def SCH_STAT_A : Nat := (0x045 * 0x400 + 0x54)
def SCH_STAT_FAIL : Fld := ⟨SCH_STAT_A, 31, 1⟩
def SCH_STAT_CHECK : Fld := ⟨SCH_STAT_A, 13, 3⟩
def SCH_STAT_ENTRY : Fld := ⟨SCH_STAT_A, 0, 13⟩
/-- SCH_RXST, R342. -/
def SCH_RXST_A : Nat := (0x045 * 0x400 + 0x58)
def SCH_RXST_VALID : Fld := ⟨SCH_RXST_A, 31, 1⟩
def SCH_RXST_NULL : Fld := ⟨SCH_RXST_A, 30, 1⟩
def SCH_RXST_CH : Fld := ⟨SCH_RXST_A, 28, 2⟩
def SCH_RXST_AGE : Fld := ⟨SCH_RXST_A, 24, 4⟩
def SCH_RXST_CYCLE : Fld := ⟨SCH_RXST_A, 0, 16⟩
/-- CHN_CFG, R343. -/
def CHN_CFG_A : Nat := (0x046 * 0x400 + 0x40)
def CHN_CFG_GUARD : Fld := ⟨CHN_CFG_A, 8, 8⟩
def CHN_CFG_STROBE_TOL : Fld := ⟨CHN_CFG_A, 0, 8⟩
/-- CHN_STAT, R343. -/
def CHN_STAT_A : Nat := (0x046 * 0x400 + 0x44)
def CHN_STAT_OPEN : Fld := ⟨CHN_STAT_A, 28, 4⟩
def CHN_STAT_ALIGNED : Fld := ⟨CHN_STAT_A, 27, 1⟩
def CHN_STAT_CLOSED : Fld := ⟨CHN_STAT_A, 26, 1⟩
def CHN_STAT_CLK_OK : Fld := ⟨CHN_STAT_A, 25, 1⟩
def CHN_STAT_TABLE_OK : Fld := ⟨CHN_STAT_A, 24, 1⟩
def CHN_STAT_NWIN : Fld := ⟨CHN_STAT_A, 0, 11⟩
/-- CH_TCRC, R343. -/
def CH_TCRC_A : Nat := (0x046 * 0x400 + 0x48)
def CH_TCRC_CRC : Fld := ⟨CH_TCRC_A, 0, 32⟩
/-- CH_FREQ, R343. -/
def CH_FREQ_A : Nat := (0x046 * 0x400 + 0x4c)
def CH_FREQ_DEV_PPM : Fld := ⟨CH_FREQ_A, 0, 16⟩
/-- CH_BLK_01, R343. -/
def CH_BLK_01_A : Nat := (0x046 * 0x400 + 0x50)
def CH_BLK_01_PORT_1 : Fld := ⟨CH_BLK_01_A, 16, 16⟩
def CH_BLK_01_PORT_0 : Fld := ⟨CH_BLK_01_A, 0, 16⟩
/-- CH_BLK_23, R343. -/
def CH_BLK_23_A : Nat := (0x046 * 0x400 + 0x54)
def CH_BLK_23_PORT_3 : Fld := ⟨CH_BLK_23_A, 16, 16⟩
def CH_BLK_23_PORT_2 : Fld := ⟨CH_BLK_23_A, 0, 16⟩
/-- CH_CNT, R343. -/
def CH_CNT_A : Nat := (0x046 * 0x400 + 0x58)
def CH_CNT_STROBE_REJ : Fld := ⟨CH_CNT_A, 24, 8⟩
def CH_CNT_CLOSE : Fld := ⟨CH_CNT_A, 16, 8⟩
def CH_CNT_FWD_CUT : Fld := ⟨CH_CNT_A, 0, 16⟩
/-- CH_CLR, R343. -/
def CH_CLR_A : Nat := (0x046 * 0x400 + 0x5c)
def CH_CLR_CLR_CNT : Fld := ⟨CH_CLR_A, 0, 1⟩
/-- SL_STAT, R365. -/
def SL_STAT_A : Nat := (0x047 * 0x400 + 0x40)
def SL_STAT_DUAL_ACT : Fld := ⟨SL_STAT_A, 31, 1⟩
def SL_STAT_DUAL_SUSP : Fld := ⟨SL_STAT_A, 30, 1⟩
/-- SL_VALID, R365. -/
def SL_VALID_A : Nat := (0x047 * 0x400 + 0x44)
def SL_VALID_VALID : Fld := ⟨SL_VALID_A, 0, 32⟩
/-- SL_CNT_A, R365. -/
def SL_CNT_A_A : Nat := (0x047 * 0x400 + 0x48)
def SL_CNT_A_CRC : Fld := ⟨SL_CNT_A_A, 16, 16⟩
def SL_CNT_A_ID : Fld := ⟨SL_CNT_A_A, 0, 16⟩
/-- SL_CNT_B, R365. -/
def SL_CNT_B_A : Nat := (0x047 * 0x400 + 0x4c)
def SL_CNT_B_SEQ : Fld := ⟨SL_CNT_B_A, 16, 16⟩
def SL_CNT_B_DUP : Fld := ⟨SL_CNT_B_A, 0, 16⟩
/-- SL_CNT_C, R365. -/
def SL_CNT_C_A : Nat := (0x047 * 0x400 + 0x50)
def SL_CNT_C_EXPIRED : Fld := ⟨SL_CNT_C_A, 16, 16⟩
def SL_CNT_C_TIME : Fld := ⟨SL_CNT_C_A, 0, 16⟩
/-- SL_CNT_D, R365. -/
def SL_CNT_D_A : Nat := (0x047 * 0x400 + 0x54)
def SL_CNT_D_DUAL_MIS : Fld := ⟨SL_CNT_D_A, 16, 16⟩
def SL_CNT_D_SINGLE : Fld := ⟨SL_CNT_D_A, 0, 16⟩
/-- SL_CLR, R365. -/
def SL_CLR_A : Nat := (0x047 * 0x400 + 0x58)
def SL_CLR_CLR_CNT : Fld := ⟨SL_CLR_A, 0, 1⟩
/-- SL_CONN0, R365. -/
def SL_CONN0_A (i : Nat) : Nat := (0x047 * 0x400 + 0x80 + 12 * i)
def SL_CONN0_EN (i : Nat) : Fld := ⟨SL_CONN0_A i, 31, 1⟩
def SL_CONN0_TYPE (i : Nat) : Fld := ⟨SL_CONN0_A i, 27, 4⟩
def SL_CONN0_DUAL (i : Nat) : Fld := ⟨SL_CONN0_A i, 25, 1⟩
def SL_CONN0_PDU_ID (i : Nat) : Fld := ⟨SL_CONN0_A i, 0, 16⟩
/-- SL_CONN1, R365. -/
def SL_CONN1_A (i : Nat) : Nat := (0x047 * 0x400 + 0x84 + 12 * i)
def SL_CONN1_SRC (i : Nat) : Fld := ⟨SL_CONN1_A i, 16, 16⟩
def SL_CONN1_CONN (i : Nat) : Fld := ⟨SL_CONN1_A i, 0, 16⟩
/-- SL_CONN2, R365. -/
def SL_CONN2_A (i : Nat) : Nat := (0x047 * 0x400 + 0x88 + 12 * i)
def SL_CONN2_DL (i : Nat) : Fld := ⟨SL_CONN2_A i, 0, 16⟩
/-- SL_CST, R365. -/
def SL_CST_A (i : Nat) : Nat := (0x047 * 0x400 + 0x200 + 4 * i)
def SL_CST_VALID (i : Nat) : Fld := ⟨SL_CST_A i, 31, 1⟩
def SL_CST_RUN (i : Nat) : Fld := ⟨SL_CST_A i, 30, 1⟩
def SL_CST_AGE (i : Nat) : Fld := ⟨SL_CST_A i, 16, 14⟩
def SL_CST_SEQ (i : Nat) : Fld := ⟨SL_CST_A i, 0, 16⟩
/-- NT_CFG, R366. -/
def NT_CFG_A : Nat := (0x048 * 0x400 + 0x40)
def NT_CFG_TC_EN : Fld := ⟨NT_CFG_A, 31, 1⟩
def NT_CFG_KR : Fld := ⟨NT_CFG_A, 0, 3⟩
/-- NT_STAT, R366. -/
def NT_STAT_A : Nat := (0x048 * 0x400 + 0x44)
def NT_STAT_STATE : Fld := ⟨NT_STAT_A, 29, 3⟩
def NT_STAT_LOCKED : Fld := ⟨NT_STAT_A, 28, 1⟩
def NT_STAT_TM : Fld := ⟨NT_STAT_A, 27, 1⟩
def NT_STAT_TC : Fld := ⟨NT_STAT_A, 26, 1⟩
def NT_STAT_MASTER_VALID : Fld := ⟨NT_STAT_A, 25, 1⟩
def NT_STAT_MASTER_ID : Fld := ⟨NT_STAT_A, 0, 16⟩
/-- NT_TIME_LO, R366. -/
def NT_TIME_LO_A : Nat := (0x048 * 0x400 + 0x48)
def NT_TIME_LO_TIME : Fld := ⟨NT_TIME_LO_A, 0, 32⟩
/-- NT_TIME_HI, R366. -/
def NT_TIME_HI_A : Nat := (0x048 * 0x400 + 0x4c)
def NT_TIME_HI_TIME : Fld := ⟨NT_TIME_HI_A, 0, 32⟩
/-- NT_TICK_LO, R366. -/
def NT_TICK_LO_A : Nat := (0x048 * 0x400 + 0x50)
def NT_TICK_LO_TIME : Fld := ⟨NT_TICK_LO_A, 0, 32⟩
/-- NT_TICK_HI, R366. -/
def NT_TICK_HI_A : Nat := (0x048 * 0x400 + 0x54)
def NT_TICK_HI_TIME : Fld := ⟨NT_TICK_HI_A, 0, 32⟩
/-- NT_CYC_LO, R366. -/
def NT_CYC_LO_A : Nat := (0x048 * 0x400 + 0x58)
def NT_CYC_LO_N_C : Fld := ⟨NT_CYC_LO_A, 0, 32⟩
/-- NT_CYC_HI, R366. -/
def NT_CYC_HI_A : Nat := (0x048 * 0x400 + 0x5c)
def NT_CYC_HI_N_C : Fld := ⟨NT_CYC_HI_A, 0, 14⟩
/-- NT_RATE, R366. -/
def NT_RATE_A : Nat := (0x048 * 0x400 + 0x60)
def NT_RATE_RATE : Fld := ⟨NT_RATE_A, 0, 32⟩
/-- NT_OFS, R366. -/
def NT_OFS_A : Nat := (0x048 * 0x400 + 0x64)
def NT_OFS_OFS : Fld := ⟨NT_OFS_A, 0, 32⟩
/-- NT_HOLD, R366. -/
def NT_HOLD_A : Nat := (0x048 * 0x400 + 0x68)
def NT_HOLD_CYCLES : Fld := ⟨NT_HOLD_A, 0, 32⟩
/-- NT_CNT, R366. -/
def NT_CNT_A : Nat := (0x048 * 0x400 + 0x6c)
def NT_CNT_STEPS : Fld := ⟨NT_CNT_A, 24, 8⟩
def NT_CNT_MASTER_CHG : Fld := ⟨NT_CNT_A, 16, 8⟩
def NT_CNT_RELOCK : Fld := ⟨NT_CNT_A, 8, 8⟩
def NT_CNT_TWORD : Fld := ⟨NT_CNT_A, 0, 8⟩
/-- NT_CLR, R366. -/
def NT_CLR_A : Nat := (0x048 * 0x400 + 0x70)
def NT_CLR_CLR_CNT : Fld := ⟨NT_CLR_A, 0, 1⟩
/-- FLT_STAT, R387. -/
def FLT_STAT_A : Nat := (0x008 * 0x400 + 0x40)
def FLT_STAT_CLASS_MAX : Fld := ⟨FLT_STAT_A, 29, 3⟩
def FLT_STAT_SERVICE : Fld := ⟨FLT_STAT_A, 28, 1⟩
def FLT_STAT_N_LANE : Fld := ⟨FLT_STAT_A, 10, 10⟩
def FLT_STAT_N_DEGR : Fld := ⟨FLT_STAT_A, 0, 10⟩
/-- FLT_FIRST, R387. -/
def FLT_FIRST_A : Nat := (0x008 * 0x400 + 0x44)
def FLT_FIRST_VALID : Fld := ⟨FLT_FIRST_A, 31, 1⟩
def FLT_FIRST_OVF : Fld := ⟨FLT_FIRST_A, 30, 1⟩
def FLT_FIRST_UNSYNC : Fld := ⟨FLT_FIRST_A, 29, 1⟩
def FLT_FIRST_CLASS : Fld := ⟨FLT_FIRST_A, 20, 2⟩
def FLT_FIRST_SRC : Fld := ⟨FLT_FIRST_A, 0, 10⟩
/-- FLT_FIRST_T_LO, R387. -/
def FLT_FIRST_T_LO_A : Nat := (0x008 * 0x400 + 0x48)
def FLT_FIRST_T_LO_TIME : Fld := ⟨FLT_FIRST_T_LO_A, 0, 32⟩
/-- FLT_FIRST_T_HI, R387. -/
def FLT_FIRST_T_HI_A : Nat := (0x008 * 0x400 + 0x4c)
def FLT_FIRST_T_HI_TIME : Fld := ⟨FLT_FIRST_T_HI_A, 0, 32⟩
/-- FLT_FIRST_DATA, R387. -/
def FLT_FIRST_DATA_A : Nat := (0x008 * 0x400 + 0x50)
def FLT_FIRST_DATA_DATA : Fld := ⟨FLT_FIRST_DATA_A, 0, 32⟩
/-- FLT_TERM, R387. -/
def FLT_TERM_A : Nat := (0x008 * 0x400 + 0x54)
def FLT_TERM_TERM : Fld := ⟨FLT_TERM_A, 31, 1⟩
def FLT_TERM_SRC : Fld := ⟨FLT_TERM_A, 0, 10⟩
/-- FLT_REACT, R387. -/
def FLT_REACT_A : Nat := (0x008 * 0x400 + 0x58)
def FLT_REACT_SAFE_STOP : Fld := ⟨FLT_REACT_A, 11, 1⟩
def FLT_REACT_TQ_OPEN : Fld := ⟨FLT_REACT_A, 10, 1⟩
def FLT_REACT_AUX_OFF : Fld := ⟨FLT_REACT_A, 9, 1⟩
def FLT_REACT_HOLD_ALL : Fld := ⟨FLT_REACT_A, 8, 1⟩
def FLT_REACT_HOLD : Fld := ⟨FLT_REACT_A, 0, 8⟩
/-- FLT_CNT, R387. -/
def FLT_CNT_A : Nat := (0x008 * 0x400 + 0x5c)
def FLT_CNT_PROMOTIONS : Fld := ⟨FLT_CNT_A, 16, 16⟩
def FLT_CNT_EVENTS : Fld := ⟨FLT_CNT_A, 0, 16⟩
/-- FLT_CTL, R387. -/
def FLT_CTL_A : Nat := (0x008 * 0x400 + 0x60)
def FLT_CTL_CLR_FIRST : Fld := ⟨FLT_CTL_A, 1, 1⟩
def FLT_CTL_CLR_CNT : Fld := ⟨FLT_CTL_A, 0, 1⟩
/-- FLT_ACT, R387. -/
def FLT_ACT_A (i : Nat) : Nat := (0x008 * 0x400 + 0x80 + 4 * i)
def FLT_ACT_ACTIVE (i : Nat) : Fld := ⟨FLT_ACT_A i, 0, 32⟩
/-- FS_IDX, R388. -/
def FS_IDX_A : Nat := (0x009 * 0x400 + 0x40)
def FS_IDX_AUTO_INC : Fld := ⟨FS_IDX_A, 31, 1⟩
def FS_IDX_IDX : Fld := ⟨FS_IDX_A, 0, 10⟩
/-- FS_CFG, R388. -/
def FS_CFG_A : Nat := (0x009 * 0x400 + 0x44)
def FS_CFG_BASE : Fld := ⟨FS_CFG_A, 30, 2⟩
def FS_CFG_PROM : Fld := ⟨FS_CFG_A, 28, 2⟩
def FS_CFG_N : Fld := ⟨FS_CFG_A, 20, 8⟩
def FS_CFG_LOG_EN : Fld := ⟨FS_CFG_A, 19, 1⟩
def FS_CFG_MASK : Fld := ⟨FS_CFG_A, 0, 8⟩
/-- FS_WIN, R388. -/
def FS_WIN_A : Nat := (0x009 * 0x400 + 0x48)
def FS_WIN_W_M1 : Fld := ⟨FS_WIN_A, 0, 20⟩
/-- FS_STAT, R388. -/
def FS_STAT_A : Nat := (0x009 * 0x400 + 0x4c)
def FS_STAT_ACTIVE : Fld := ⟨FS_STAT_A, 31, 1⟩
def FS_STAT_PROMOTED : Fld := ⟨FS_STAT_A, 30, 1⟩
def FS_STAT_CLASS : Fld := ⟨FS_STAT_A, 28, 2⟩
def FS_STAT_C : Fld := ⟨FS_STAT_A, 16, 8⟩
def FS_STAT_EVENTS : Fld := ⟨FS_STAT_A, 0, 16⟩
/-- FS_LAST, R388. -/
def FS_LAST_A : Nat := (0x009 * 0x400 + 0x50)
def FS_LAST_TICK : Fld := ⟨FS_LAST_A, 0, 32⟩
/-- FS_DATA, R388. -/
def FS_DATA_A : Nat := (0x009 * 0x400 + 0x54)
def FS_DATA_DATA : Fld := ⟨FS_DATA_A, 0, 32⟩
/-- FS_FORCE, R388. -/
def FS_FORCE_A : Nat := (0x009 * 0x400 + 0x58)
def FS_FORCE_GO : Fld := ⟨FS_FORCE_A, 0, 1⟩
/-- LOG_CFG, R389. -/
def LOG_CFG_A : Nat := (0x00A * 0x400 + 0x40)
def LOG_CFG_FREEZE_TERM : Fld := ⟨LOG_CFG_A, 1, 1⟩
def LOG_CFG_MODE : Fld := ⟨LOG_CFG_A, 0, 1⟩
/-- LOG_STAT, R389. -/
def LOG_STAT_A : Nat := (0x00A * 0x400 + 0x44)
def LOG_STAT_FROZEN : Fld := ⟨LOG_STAT_A, 31, 1⟩
def LOG_STAT_FULL : Fld := ⟨LOG_STAT_A, 30, 1⟩
def LOG_STAT_UNREAD : Fld := ⟨LOG_STAT_A, 0, 13⟩
/-- LOG_WPTR, R389. -/
def LOG_WPTR_A : Nat := (0x00A * 0x400 + 0x48)
def LOG_WPTR_IDX : Fld := ⟨LOG_WPTR_A, 0, 12⟩
/-- LOG_RPTR, R389. -/
def LOG_RPTR_A : Nat := (0x00A * 0x400 + 0x4c)
def LOG_RPTR_IDX : Fld := ⟨LOG_RPTR_A, 0, 12⟩
/-- LOG_TOTAL, R389. -/
def LOG_TOTAL_A : Nat := (0x00A * 0x400 + 0x50)
def LOG_TOTAL_TOTAL : Fld := ⟨LOG_TOTAL_A, 0, 32⟩
/-- LOG_CNT, R389. -/
def LOG_CNT_A : Nat := (0x00A * 0x400 + 0x54)
def LOG_CNT_DROP : Fld := ⟨LOG_CNT_A, 16, 16⟩
def LOG_CNT_OVERRUN : Fld := ⟨LOG_CNT_A, 0, 16⟩
/-- LOG_CTL, R389. -/
def LOG_CTL_A : Nat := (0x00A * 0x400 + 0x58)
def LOG_CTL_UNFREEZE : Fld := ⟨LOG_CTL_A, 1, 1⟩
def LOG_CTL_CLR_CNT : Fld := ⟨LOG_CTL_A, 0, 1⟩
/-- LOG_IDX, R389. -/
def LOG_IDX_A : Nat := (0x00A * 0x400 + 0x60)
def LOG_IDX_IDX : Fld := ⟨LOG_IDX_A, 0, 12⟩
/-- LOG_E, R389. -/
def LOG_E_A (i : Nat) : Nat := (0x00A * 0x400 + 0x64 + 4 * i)
def LOG_E_WORD (i : Nat) : Fld := ⟨LOG_E_A i, 0, 32⟩
/-- BIST_CFG, R409. -/
def BIST_CFG_A : Nat := (0x00B * 0x400 + 0x40)
def BIST_CFG_SHARE_TOL : Fld := ⟨BIST_CFG_A, 8, 8⟩
def BIST_CFG_STALL : Fld := ⟨BIST_CFG_A, 0, 4⟩
/-- BIST_STAT, R409. -/
def BIST_STAT_A : Nat := (0x00B * 0x400 + 0x44)
def BIST_STAT_MODE : Fld := ⟨BIST_STAT_A, 30, 2⟩
def BIST_STAT_FAST_OK : Fld := ⟨BIST_STAT_A, 29, 1⟩
def BIST_STAT_KIND : Fld := ⟨BIST_STAT_A, 25, 4⟩
def BIST_STAT_ITEM : Fld := ⟨BIST_STAT_A, 14, 11⟩
def BIST_STAT_STEP : Fld := ⟨BIST_STAT_A, 0, 14⟩
/-- BIST_SWEEP, R409. -/
def BIST_SWEEP_A : Nat := (0x00B * 0x400 + 0x48)
def BIST_SWEEP_SWEEPS : Fld := ⟨BIST_SWEEP_A, 16, 16⟩
def BIST_SWEEP_LAST_MS : Fld := ⟨BIST_SWEEP_A, 0, 16⟩
/-- BIST_COV, R409. -/
def BIST_COV_A : Nat := (0x00B * 0x400 + 0x4c)
def BIST_COV_DRV_DONE : Fld := ⟨BIST_COV_A, 24, 8⟩
def BIST_COV_WIN_DONE : Fld := ⟨BIST_COV_A, 16, 8⟩
def BIST_COV_THR_DONE : Fld := ⟨BIST_COV_A, 8, 8⟩
/-- BIST_CNT_A, R409. -/
def BIST_CNT_A_A : Nat := (0x00B * 0x400 + 0x50)
def BIST_CNT_A_SKIP : Fld := ⟨BIST_CNT_A_A, 16, 16⟩
def BIST_CNT_A_FAIL : Fld := ⟨BIST_CNT_A_A, 0, 16⟩
/-- BIST_CNT_B, R409. -/
def BIST_CNT_B_A : Nat := (0x00B * 0x400 + 0x54)
def BIST_CNT_B_CONFIRMED : Fld := ⟨BIST_CNT_B_A, 24, 8⟩
def BIST_CNT_B_NO_SHADOW : Fld := ⟨BIST_CNT_B_A, 16, 8⟩
def BIST_CNT_B_NO_EDGE : Fld := ⟨BIST_CNT_B_A, 8, 8⟩
def BIST_CNT_B_SLICE_FAIL : Fld := ⟨BIST_CNT_B_A, 0, 8⟩
/-- BIST_LAST, R409. -/
def BIST_LAST_A : Nat := (0x00B * 0x400 + 0x58)
def BIST_LAST_KIND : Fld := ⟨BIST_LAST_A, 28, 4⟩
def BIST_LAST_ITEM : Fld := ⟨BIST_LAST_A, 16, 12⟩
def BIST_LAST_STEP : Fld := ⟨BIST_LAST_A, 0, 14⟩
/-- BIST_SKIP, R409. -/
def BIST_SKIP_A : Nat := (0x00B * 0x400 + 0x5c)
def BIST_SKIP_AFE : Fld := ⟨BIST_SKIP_A, 2, 1⟩
def BIST_SKIP_D2 : Fld := ⟨BIST_SKIP_A, 1, 1⟩
def BIST_SKIP_CLK : Fld := ⟨BIST_SKIP_A, 0, 1⟩
/-- BIST_SHADOW, R409. -/
def BIST_SHADOW_A : Nat := (0x00B * 0x400 + 0x60)
def BIST_SHADOW_HELD : Fld := ⟨BIST_SHADOW_A, 28, 4⟩
def BIST_SHADOW_ACTIVE : Fld := ⟨BIST_SHADOW_A, 24, 4⟩
/-- BIST_SLC, R409. -/
def BIST_SLC_A : Nat := (0x00B * 0x400 + 0x64)
def BIST_SLC_NEXT : Fld := ⟨BIST_SLC_A, 28, 4⟩
/-- BIST_CLR, R409. -/
def BIST_CLR_A : Nat := (0x00B * 0x400 + 0x68)
def BIST_CLR_CLR_CNT : Fld := ⟨BIST_CLR_A, 0, 1⟩
/-- RP_STAT, R410. -/
def RP_STAT_A : Nat := (0x00C * 0x400 + 0x40)
def RP_STAT_MAP_OK : Fld := ⟨RP_STAT_A, 31, 1⟩
def RP_STAT_FULL : Fld := ⟨RP_STAT_A, 30, 1⟩
def RP_STAT_NV_BUSY : Fld := ⟨RP_STAT_A, 29, 1⟩
def RP_STAT_USED : Fld := ⟨RP_STAT_A, 16, 9⟩
def RP_STAT_SHIP : Fld := ⟨RP_STAT_A, 8, 8⟩
def RP_STAT_FIELD : Fld := ⟨RP_STAT_A, 0, 8⟩
/-- RP_SPARE, R410. -/
def RP_SPARE_A : Nat := (0x00C * 0x400 + 0x44)
def RP_SPARE_SLICE_FREE : Fld := ⟨RP_SPARE_A, 31, 1⟩
def RP_SPARE_CORE_FREE : Fld := ⟨RP_SPARE_A, 30, 1⟩
def RP_SPARE_WIN_FREE : Fld := ⟨RP_SPARE_A, 27, 3⟩
def RP_SPARE_ROW_FREE : Fld := ⟨RP_SPARE_A, 8, 8⟩
def RP_SPARE_DRV_USED : Fld := ⟨RP_SPARE_A, 0, 8⟩
/-- RP_SLICE, R410. -/
def RP_SLICE_A : Nat := (0x00C * 0x400 + 0x48)
def RP_SLICE_PHYS_l : Fld := ⟨RP_SLICE_A, 0, 32⟩
/-- RP_WIN, R410. -/
def RP_WIN_A : Nat := (0x00C * 0x400 + 0x4c)
def RP_WIN_FOR_j : Fld := ⟨RP_WIN_A, 0, 32⟩
/-- RP_IDX, R410. -/
def RP_IDX_A : Nat := (0x00C * 0x400 + 0x50)
def RP_IDX_IDX : Fld := ⟨RP_IDX_A, 0, 8⟩
/-- RP_E0, R410. -/
def RP_E0_A : Nat := (0x00C * 0x400 + 0x54)
def RP_E0_E0 : Fld := ⟨RP_E0_A, 0, 32⟩
/-- RP_E1, R410. -/
def RP_E1_A : Nat := (0x00C * 0x400 + 0x58)
def RP_E1_E1 : Fld := ⟨RP_E1_A, 0, 32⟩
/-- RP_CRC, R410. -/
def RP_CRC_A : Nat := (0x00C * 0x400 + 0x5c)
def RP_CRC_CRC : Fld := ⟨RP_CRC_A, 0, 32⟩
/-- RP_PORS, R410. -/
def RP_PORS_A : Nat := (0x00C * 0x400 + 0x60)
def RP_PORS_PORS : Fld := ⟨RP_PORS_A, 0, 16⟩
/-- RP_PEND, R410. -/
def RP_PEND_A : Nat := (0x00C * 0x400 + 0x64)
def RP_PEND_PENDING : Fld := ⟨RP_PEND_A, 0, 8⟩
/-- PWR_MODE, R431. -/
def PWR_MODE_A : Nat := (0x005 * 0x400 + 0x40)
def PWR_MODE_TARGET : Fld := ⟨PWR_MODE_A, 0, 2⟩
/-- PWR_STAT, R431. -/
def PWR_STAT_A : Nat := (0x005 * 0x400 + 0x44)
def PWR_STAT_STATE : Fld := ⟨PWR_STAT_A, 30, 2⟩
def PWR_STAT_ENTRY : Fld := ⟨PWR_STAT_A, 29, 1⟩
def PWR_STAT_AP : Fld := ⟨PWR_STAT_A, 26, 3⟩
def PWR_STAT_PEND : Fld := ⟨PWR_STAT_A, 25, 1⟩
def PWR_STAT_PEND_TGT : Fld := ⟨PWR_STAT_A, 23, 2⟩
def PWR_STAT_RESTORING : Fld := ⟨PWR_STAT_A, 20, 3⟩
def PWR_STAT_D5_PART : Fld := ⟨PWR_STAT_A, 16, 1⟩
def PWR_STAT_DOM_ON : Fld := ⟨PWR_STAT_A, 0, 8⟩
/-- PWR_LAST, R431. -/
def PWR_LAST_A : Nat := (0x005 * 0x400 + 0x48)
def PWR_LAST_OUTCOME : Fld := ⟨PWR_LAST_A, 29, 3⟩
def PWR_LAST_TGT : Fld := ⟨PWR_LAST_A, 27, 2⟩
def PWR_LAST_AP : Fld := ⟨PWR_LAST_A, 24, 3⟩
def PWR_LAST_REFUSER : Fld := ⟨PWR_LAST_A, 16, 5⟩
def PWR_LAST_REF_MASK : Fld := ⟨PWR_LAST_A, 1, 15⟩
/-- PWR_CFG, R431. -/
def PWR_CFG_A : Nat := (0x005 * 0x400 + 0x4c)
def PWR_CFG_DORM_DISCARD : Fld := ⟨PWR_CFG_A, 8, 1⟩
def PWR_CFG_WAKE_EN : Fld := ⟨PWR_CFG_A, 0, 5⟩
/-- PWR_HALLEY, R431. -/
def PWR_HALLEY_A : Nat := (0x005 * 0x400 + 0x50)
def PWR_HALLEY_CODE : Fld := ⟨PWR_HALLEY_A, 0, 16⟩
/-- PWR_DVFS, R431. -/
def PWR_DVFS_A : Nat := (0x005 * 0x400 + 0x54)
def PWR_DVFS_BUSY : Fld := ⟨PWR_DVFS_A, 12, 1⟩
def PWR_DVFS_FPT : Fld := ⟨PWR_DVFS_A, 8, 2⟩
def PWR_DVFS_VPT : Fld := ⟨PWR_DVFS_A, 4, 2⟩
def PWR_DVFS_POINT : Fld := ⟨PWR_DVFS_A, 0, 2⟩
/-- PWR_WAKE, R431. -/
def PWR_WAKE_A : Nat := (0x005 * 0x400 + 0x58)
def PWR_WAKE_COUNT : Fld := ⟨PWR_WAKE_A, 16, 16⟩
def PWR_WAKE_LAST_SRC : Fld := ⟨PWR_WAKE_A, 0, 5⟩
/-- PWR_SLEEP, R431. -/
def PWR_SLEEP_A : Nat := (0x005 * 0x400 + 0x5c)
def PWR_SLEEP_DURATION : Fld := ⟨PWR_SLEEP_A, 0, 32⟩
/-- PWR_PAD, R431. -/
def PWR_PAD_A : Nat := (0x005 * 0x400 + 0x60)
def PWR_PAD_HELD : Fld := ⟨PWR_PAD_A, 0, 16⟩
/-- PWR_PAD_REL, R431. -/
def PWR_PAD_REL_A : Nat := (0x005 * 0x400 + 0x64)
def PWR_PAD_REL_REL : Fld := ⟨PWR_PAD_REL_A, 0, 16⟩
/-- PWR_PADCHK, R431. -/
def PWR_PADCHK_A : Nat := (0x005 * 0x400 + 0x68)
def PWR_PADCHK_FAIL : Fld := ⟨PWR_PADCHK_A, 8, 8⟩
def PWR_PADCHK_PASS : Fld := ⟨PWR_PADCHK_A, 0, 8⟩
/-- PWR_RET, R431. -/
def PWR_RET_A : Nat := (0x005 * 0x400 + 0x6c)
def PWR_RET_LOST : Fld := ⟨PWR_RET_A, 0, 3⟩
/-- PWR_CNT, R431. -/
def PWR_CNT_A : Nat := (0x005 * 0x400 + 0x70)
def PWR_CNT_QUIET : Fld := ⟨PWR_CNT_A, 24, 8⟩
def PWR_CNT_RETAIN : Fld := ⟨PWR_CNT_A, 16, 8⟩
def PWR_CNT_DORMANT : Fld := ⟨PWR_CNT_A, 8, 8⟩
def PWR_CNT_ABORTED : Fld := ⟨PWR_CNT_A, 0, 8⟩
/-- PWR_CLR, R431. -/
def PWR_CLR_A : Nat := (0x005 * 0x400 + 0x74)
def PWR_CLR_CLR_CNT : Fld := ⟨PWR_CLR_A, 0, 1⟩
/-- PWR_REF, R431. -/
def PWR_REF_A (i : Nat) : Nat := (0x005 * 0x400 + 0x80 + 4 * i)
def PWR_REF_CNT_3 (i : Nat) : Fld := ⟨PWR_REF_A i, 24, 8⟩
def PWR_REF_CNT_2 (i : Nat) : Fld := ⟨PWR_REF_A i, 16, 8⟩
def PWR_REF_CNT_1 (i : Nat) : Fld := ⟨PWR_REF_A i, 8, 8⟩
def PWR_REF_CNT_0 (i : Nat) : Fld := ⟨PWR_REF_A i, 0, 8⟩
/-- CLK_STAT, R445. -/
def CLK_STAT_A : Nat := (0x006 * 0x400 + 0x40)
def CLK_STAT_IN_TOL : Fld := ⟨CLK_STAT_A, 16, 16⟩
def CLK_STAT_PRESENT : Fld := ⟨CLK_STAT_A, 0, 16⟩
/-- CLK_PLL_ST, R445. -/
def CLK_PLL_ST_A : Nat := (0x006 * 0x400 + 0x44)
def CLK_PLL_ST_LOCK : Fld := ⟨CLK_PLL_ST_A, 0, 3⟩
/-- CLK_TCXO_ST, R445. -/
def CLK_TCXO_ST_A : Nat := (0x006 * 0x400 + 0x48)
def CLK_TCXO_ST_FAILED : Fld := ⟨CLK_TCXO_ST_A, 31, 1⟩
def CLK_TCXO_ST_DEV_CHR : Fld := ⟨CLK_TCXO_ST_A, 8, 8⟩
def CLK_TCXO_ST_DEV_AON : Fld := ⟨CLK_TCXO_ST_A, 0, 8⟩
/-- CLK_MEAS, R445. -/
def CLK_MEAS_A : Nat := (0x006 * 0x400 + 0x4c)
def CLK_MEAS_IDX : Fld := ⟨CLK_MEAS_A, 28, 4⟩
def CLK_MEAS_KHZ : Fld := ⟨CLK_MEAS_A, 0, 28⟩
/-- CLK_CNT, R445. -/
def CLK_CNT_A : Nat := (0x006 * 0x400 + 0x50)
def CLK_CNT_LOCK_LOSS : Fld := ⟨CLK_CNT_A, 24, 8⟩
def CLK_CNT_FREQ : Fld := ⟨CLK_CNT_A, 16, 8⟩
/-- CLK_CLR, R445. -/
def CLK_CLR_A : Nat := (0x006 * 0x400 + 0x54)
def CLK_CLR_CLR_CNT : Fld := ⟨CLK_CLR_A, 0, 1⟩
/-- CDC_TMO, R446. -/
def CDC_TMO_A : Nat := (0x007 * 0x400 + 0x40)
def CDC_TMO_STOPPED : Fld := ⟨CDC_TMO_A, 0, 18⟩
/-- CDC_PEER, R446. -/
def CDC_PEER_A : Nat := (0x007 * 0x400 + 0x44)
def CDC_PEER_PEER_RESET : Fld := ⟨CDC_PEER_A, 0, 18⟩
/-- CDC_XST, R446. -/
def CDC_XST_A (i : Nat) : Nat := (0x007 * 0x400 + 0x80 + 4 * i)
def CDC_XST_ARMED (i : Nat) : Fld := ⟨CDC_XST_A i, 31, 1⟩
def CDC_XST_STOPPED (i : Nat) : Fld := ⟨CDC_XST_A i, 30, 1⟩
def CDC_XST_PEER_RESET (i : Nat) : Fld := ⟨CDC_XST_A i, 29, 1⟩
def CDC_XST_LEVEL (i : Nat) : Fld := ⟨CDC_XST_A i, 24, 5⟩
def CDC_XST_TIMEOUTS (i : Nat) : Fld := ⟨CDC_XST_A i, 16, 8⟩
def CDC_XST_RESETS (i : Nat) : Fld := ⟨CDC_XST_A i, 8, 8⟩
def CDC_XST_MAXLAT (i : Nat) : Fld := ⟨CDC_XST_A i, 0, 8⟩
/-- CDC_CLR, R446. -/
def CDC_CLR_A : Nat := (0x007 * 0x400 + 0xd0)
def CDC_CLR_CLR_CNT : Fld := ⟨CDC_CLR_A, 0, 1⟩
/-- HP_CFG, R472. -/
def HP_CFG_A : Nat := (0x001 * 0x400 + 0x40)
def HP_CFG_IRQ_EN : Fld := ⟨HP_CFG_A, 0, 1⟩
/-- HP_STAT, R472. -/
def HP_STAT_A : Nat := (0x001 * 0x400 + 0x44)
def HP_STAT_IN_FLIGHT : Fld := ⟨HP_STAT_A, 27, 5⟩
def HP_STAT_READY : Fld := ⟨HP_STAT_A, 22, 5⟩
def HP_STAT_REMOTE : Fld := ⟨HP_STAT_A, 16, 6⟩
/-- HP_CNT, R472. -/
def HP_CNT_A : Nat := (0x001 * 0x400 + 0x48)
def HP_CNT_CRC : Fld := ⟨HP_CNT_A, 24, 8⟩
def HP_CNT_FORMAT : Fld := ⟨HP_CNT_A, 16, 8⟩
def HP_CNT_BUSY : Fld := ⟨HP_CNT_A, 8, 8⟩
def HP_CNT_DUP : Fld := ⟨HP_CNT_A, 0, 8⟩
/-- HP_CNT2, R472. -/
def HP_CNT2_A : Nat := (0x001 * 0x400 + 0x4c)
def HP_CNT2_ABORT : Fld := ⟨HP_CNT2_A, 24, 8⟩
def HP_CNT2_EXPIRED : Fld := ⟨HP_CNT2_A, 16, 8⟩
def HP_CNT2_CONFLICT : Fld := ⟨HP_CNT2_A, 8, 8⟩
def HP_CNT2_REMOTE_REF : Fld := ⟨HP_CNT2_A, 0, 8⟩
/-- HP_CTL, R472. -/
def HP_CTL_A : Nat := (0x001 * 0x400 + 0x50)
def HP_CTL_LRST : Fld := ⟨HP_CTL_A, 1, 1⟩
def HP_CTL_CLR_CNT : Fld := ⟨HP_CTL_A, 0, 1⟩
/-- FEAT_OFFER_LO, R472. -/
def FEAT_OFFER_LO_A : Nat := (0x002 * 0x400 + 0x40)
def FEAT_OFFER_LO_OFFER : Fld := ⟨FEAT_OFFER_LO_A, 0, 32⟩
/-- FEAT_OFFER_HI, R472. -/
def FEAT_OFFER_HI_A : Nat := (0x002 * 0x400 + 0x44)
def FEAT_OFFER_HI_OFFER : Fld := ⟨FEAT_OFFER_HI_A, 0, 32⟩
/-- FEAT_ACCEPT_LO, R472. -/
def FEAT_ACCEPT_LO_A : Nat := (0x002 * 0x400 + 0x48)
def FEAT_ACCEPT_LO_ACCEPT : Fld := ⟨FEAT_ACCEPT_LO_A, 0, 32⟩
/-- FEAT_ACCEPT_HI, R472. -/
def FEAT_ACCEPT_HI_A : Nat := (0x002 * 0x400 + 0x4c)
def FEAT_ACCEPT_HI_ACCEPT : Fld := ⟨FEAT_ACCEPT_HI_A, 0, 32⟩
/-- FEAT_ACTIVE_LO, R472. -/
def FEAT_ACTIVE_LO_A : Nat := (0x002 * 0x400 + 0x50)
def FEAT_ACTIVE_LO_ACTIVE : Fld := ⟨FEAT_ACTIVE_LO_A, 0, 32⟩
/-- FEAT_ACTIVE_HI, R472. -/
def FEAT_ACTIVE_HI_A : Nat := (0x002 * 0x400 + 0x54)
def FEAT_ACTIVE_HI_ACTIVE : Fld := ⟨FEAT_ACTIVE_HI_A, 0, 32⟩
/-- FEAT_STAT, R472. -/
def FEAT_STAT_A : Nat := (0x002 * 0x400 + 0x58)
def FEAT_STAT_OPEN : Fld := ⟨FEAT_STAT_A, 31, 1⟩
def FEAT_STAT_CLOSED_BY : Fld := ⟨FEAT_STAT_A, 29, 2⟩
def FEAT_STAT_LEFT_MS : Fld := ⟨FEAT_STAT_A, 0, 16⟩
/-- CS_CFG, R472. -/
def CS_CFG_A : Nat := (0x003 * 0x400 + 0x40)
def CS_CFG_IDLE_S : Fld := ⟨CS_CFG_A, 0, 16⟩
/-- CS_STAT, R472. -/
def CS_STAT_A : Nat := (0x003 * 0x400 + 0x44)
def CS_STAT_LOCKED : Fld := ⟨CS_STAT_A, 31, 1⟩
def CS_STAT_SERVICE : Fld := ⟨CS_STAT_A, 30, 1⟩
def CS_STAT_PENDING : Fld := ⟨CS_STAT_A, 29, 1⟩
def CS_STAT_NV_BUSY : Fld := ⟨CS_STAT_A, 28, 1⟩
def CS_STAT_CRC_OK : Fld := ⟨CS_STAT_A, 27, 1⟩
def CS_STAT_SERVICE_REQ : Fld := ⟨CS_STAT_A, 26, 1⟩
def CS_STAT_ATTEMPTS : Fld := ⟨CS_STAT_A, 22, 2⟩
def CS_STAT_LOCKOUT_S : Fld := ⟨CS_STAT_A, 12, 10⟩
/-- CS_OP, R472. -/
def CS_OP_A : Nat := (0x003 * 0x400 + 0x48)
def CS_OP_OPERATOR : Fld := ⟨CS_OP_A, 0, 16⟩
/-- CS_CRC, R472. -/
def CS_CRC_A : Nat := (0x003 * 0x400 + 0x4c)
def CS_CRC_CRC : Fld := ⟨CS_CRC_A, 0, 32⟩
/-- CS_SETCRC, R472. -/
def CS_SETCRC_A : Nat := (0x003 * 0x400 + 0x50)
def CS_SETCRC_CRC : Fld := ⟨CS_SETCRC_A, 0, 32⟩
/-- CS_CTL, R472. -/
def CS_CTL_A : Nat := (0x003 * 0x400 + 0x54)
def CS_CTL_DISCARD : Fld := ⟨CS_CTL_A, 3, 1⟩
def CS_CTL_SERVICE_EXIT : Fld := ⟨CS_CTL_A, 2, 1⟩
def CS_CTL_SERVICE_REQ : Fld := ⟨CS_CTL_A, 1, 1⟩
def CS_CTL_LOCK : Fld := ⟨CS_CTL_A, 0, 1⟩
/-- CS_CNT, R472. -/
def CS_CNT_A : Nat := (0x003 * 0x400 + 0x58)
def CS_CNT_UNLOCK_FAIL : Fld := ⟨CS_CNT_A, 16, 16⟩
def CS_CNT_LOCKOUTS : Fld := ⟨CS_CNT_A, 8, 8⟩
def CS_CNT_COMMIT_REF : Fld := ⟨CS_CNT_A, 0, 8⟩
/-- CS_PWD, R472. -/
def CS_PWD_A (i : Nat) : Nat := (0x003 * 0x400 + 0x60 + 4 * i)
def CS_PWD_PWD (i : Nat) : Fld := ⟨CS_PWD_A i, 0, 32⟩
/-- CL_NEXT, R472. -/
def CL_NEXT_A : Nat := (0x003 * 0x400 + 0x80)
def CL_NEXT_SEQ : Fld := ⟨CL_NEXT_A, 0, 32⟩
/-- CL_ACKED, R472. -/
def CL_ACKED_A : Nat := (0x003 * 0x400 + 0x84)
def CL_ACKED_SEQ : Fld := ⟨CL_ACKED_A, 0, 32⟩
/-- CL_STAT, R472. -/
def CL_STAT_A : Nat := (0x003 * 0x400 + 0x88)
def CL_STAT_FULL : Fld := ⟨CL_STAT_A, 31, 1⟩
def CL_STAT_UNACK : Fld := ⟨CL_STAT_A, 0, 11⟩
/-- LOG_ACK, R472. -/
def LOG_ACK_A : Nat := (0x003 * 0x400 + 0x8c)
def LOG_ACK_SEQ : Fld := ⟨LOG_ACK_A, 0, 32⟩
/-- CL_IDX, R472. -/
def CL_IDX_A : Nat := (0x003 * 0x400 + 0x90)
def CL_IDX_IDX : Fld := ⟨CL_IDX_A, 0, 10⟩
/-- CL_E, R472. -/
def CL_E_A (i : Nat) : Nat := (0x003 * 0x400 + 0x94 + 4 * i)
def CL_E_WORD (i : Nat) : Fld := ⟨CL_E_A i, 0, 32⟩
/-- SU_STAT, R483. -/
def SU_STAT_A : Nat := (0x000 * 0x400 + 0x100)
def SU_STAT_STEP : Fld := ⟨SU_STAT_A, 28, 4⟩
def SU_STAT_ORIGIN : Fld := ⟨SU_STAT_A, 26, 2⟩
def SU_STAT_ADMITTED : Fld := ⟨SU_STAT_A, 25, 1⟩
def SU_STAT_OVERDUE : Fld := ⟨SU_STAT_A, 24, 1⟩
def SU_STAT_HALTED : Fld := ⟨SU_STAT_A, 23, 1⟩
def SU_STAT_RESTARTED : Fld := ⟨SU_STAT_A, 22, 1⟩
def SU_STAT_TERMINAL : Fld := ⟨SU_STAT_A, 21, 1⟩
def SU_STAT_FAIL_STEP : Fld := ⟨SU_STAT_A, 16, 4⟩
def SU_STAT_CAUSE : Fld := ⟨SU_STAT_A, 8, 8⟩
/-- SU_WAIT, R483. -/
def SU_WAIT_A : Nat := (0x000 * 0x400 + 0x104)
def SU_WAIT_WAIT : Fld := ⟨SU_WAIT_A, 0, 15⟩
/-- SU_TIME, R483. -/
def SU_TIME_A : Nat := (0x000 * 0x400 + 0x108)
def SU_TIME_ADMIT_MS : Fld := ⟨SU_TIME_A, 16, 16⟩
def SU_TIME_ELAPSED_MS : Fld := ⟨SU_TIME_A, 0, 16⟩
/-- SU_MARK, R483. -/
def SU_MARK_A : Nat := (0x000 * 0x400 + 0x10c)
def SU_MARK_BIST_MS : Fld := ⟨SU_MARK_A, 16, 16⟩
def SU_MARK_NET_MS : Fld := ⟨SU_MARK_A, 0, 16⟩
/-- SU_GROUPS, R483. -/
def SU_GROUPS_A : Nat := (0x000 * 0x400 + 0x110)
def SU_GROUPS_REQ : Fld := ⟨SU_GROUPS_A, 0, 8⟩
/-- HPL_STAT, R502. -/
def HPL_STAT_A : Nat := (0x070 * 0x400 + 0x40)
def HPL_STAT_PRESENT : Fld := ⟨HPL_STAT_A, 31, 1⟩
def HPL_STAT_HELD : Fld := ⟨HPL_STAT_A, 30, 1⟩
def HPL_STAT_HOLDUP : Fld := ⟨HPL_STAT_A, 29, 1⟩
def HPL_STAT_HOTPLUG : Fld := ⟨HPL_STAT_A, 28, 1⟩
/-- HPL_CNT, R502. -/
def HPL_CNT_A : Nat := (0x070 * 0x400 + 0x44)
def HPL_CNT_INSERTIONS : Fld := ⟨HPL_CNT_A, 16, 16⟩
def HPL_CNT_REMOVALS : Fld := ⟨HPL_CNT_A, 0, 16⟩
/-- HPL_HOURS, R502. -/
def HPL_HOURS_A : Nat := (0x070 * 0x400 + 0x48)
def HPL_HOURS_HOURS : Fld := ⟨HPL_HOURS_A, 0, 32⟩
/-- HPL_KM, R502. -/
def HPL_KM_A : Nat := (0x070 * 0x400 + 0x4c)
def HPL_KM_KM : Fld := ⟨HPL_KM_A, 0, 32⟩
/-- HPL_TEMP, R502. -/
def HPL_TEMP_A : Nat := (0x070 * 0x400 + 0x50)
def HPL_TEMP_T_MAX : Fld := ⟨HPL_TEMP_A, 16, 16⟩
def HPL_TEMP_T_BASE : Fld := ⟨HPL_TEMP_A, 0, 16⟩
/-- HPL_LIFE, R502. -/
def HPL_LIFE_A : Nat := (0x070 * 0x400 + 0x54)
def HPL_LIFE_END : Fld := ⟨HPL_LIFE_A, 31, 1⟩
/-- PG_ID, R505. -/
def PG_ID_A (pg : Nat) : Nat := (pg * 0x400 + 0x0)
def PG_ID_TYPE (pg : Nat) : Fld := ⟨PG_ID_A pg, 24, 8⟩
def PG_ID_INSTANCE (pg : Nat) : Fld := ⟨PG_ID_A pg, 16, 8⟩
def PG_ID_PAGE (pg : Nat) : Fld := ⟨PG_ID_A pg, 0, 16⟩
/-- PG_VER, R505. -/
def PG_VER_A (pg : Nat) : Nat := (pg * 0x400 + 0x4)
def PG_VER_MAJOR (pg : Nat) : Fld := ⟨PG_VER_A pg, 8, 8⟩
def PG_VER_MINOR (pg : Nat) : Fld := ⟨PG_VER_A pg, 0, 8⟩
/-- PG_FEAT, R505. -/
def PG_FEAT_A (pg : Nat) : Nat := (pg * 0x400 + 0x8)
def PG_FEAT_ACTIVE (pg : Nat) : Fld := ⟨PG_FEAT_A pg, 16, 16⟩
def PG_FEAT_OFFERED (pg : Nat) : Fld := ⟨PG_FEAT_A pg, 0, 16⟩
/-- PG_CTL, R505. -/
def PG_CTL_A (pg : Nat) : Nat := (pg * 0x400 + 0xc)
def PG_CTL_MODE (pg : Nat) : Fld := ⟨PG_CTL_A pg, 4, 2⟩
def PG_CTL_SOFT_RST (pg : Nat) : Fld := ⟨PG_CTL_A pg, 1, 1⟩
def PG_CTL_EN (pg : Nat) : Fld := ⟨PG_CTL_A pg, 0, 1⟩
/-- PG_STAT, R505. -/
def PG_STAT_A (pg : Nat) : Nat := (pg * 0x400 + 0x10)
def PG_STAT_STATE (pg : Nat) : Fld := ⟨PG_STAT_A pg, 28, 4⟩
def PG_STAT_LOCKED (pg : Nat) : Fld := ⟨PG_STAT_A pg, 3, 1⟩
def PG_STAT_PENDING_EN (pg : Nat) : Fld := ⟨PG_STAT_A pg, 2, 1⟩
def PG_STAT_READY (pg : Nat) : Fld := ⟨PG_STAT_A pg, 1, 1⟩
def PG_STAT_BUSY (pg : Nat) : Fld := ⟨PG_STAT_A pg, 0, 1⟩
/-- PG_FLT, R505. -/
def PG_FLT_A (pg : Nat) : Nat := (pg * 0x400 + 0x14)
def PG_FLT_FLT (pg : Nat) : Fld := ⟨PG_FLT_A pg, 0, 32⟩
/-- PG_FORCE, R505. -/
def PG_FORCE_A (pg : Nat) : Nat := (pg * 0x400 + 0x18)
def PG_FORCE_FORCE (pg : Nat) : Fld := ⟨PG_FORCE_A pg, 0, 32⟩
/-- PG_FMAP, R505. -/
def PG_FMAP_A (pg : Nat) : Nat := (pg * 0x400 + 0x1c)
def PG_FMAP_BASE_ID (pg : Nat) : Fld := ⟨PG_FMAP_A pg, 0, 10⟩
/-- PG_LOCK, R505. -/
def PG_LOCK_A (pg : Nat) : Nat := (pg * 0x400 + 0x20)
def PG_LOCK_REFUSED (pg : Nat) : Fld := ⟨PG_LOCK_A pg, 8, 8⟩
def PG_LOCK_PENDING (pg : Nat) : Fld := ⟨PG_LOCK_A pg, 2, 1⟩
def PG_LOCK_SERVICE (pg : Nat) : Fld := ⟨PG_LOCK_A pg, 1, 1⟩
def PG_LOCK_LOCKED (pg : Nat) : Fld := ⟨PG_LOCK_A pg, 0, 1⟩
/-- ID_PART, R514. -/
def ID_PART_A : Nat := (0x000 * 0x400 + 0x40)
def ID_PART_PART : Fld := ⟨ID_PART_A, 0, 16⟩
/-- ID_REV, R514. -/
def ID_REV_A : Nat := (0x000 * 0x400 + 0x44)
def ID_REV_SILICON : Fld := ⟨ID_REV_A, 16, 8⟩
def ID_REV_FIRMWARE : Fld := ⟨ID_REV_A, 8, 8⟩
def ID_REV_MAP : Fld := ⟨ID_REV_A, 0, 8⟩
/-- ID_ORDER, R514. -/
def ID_ORDER_A : Nat := (0x000 * 0x400 + 0x48)
def ID_ORDER_CODE : Fld := ⟨ID_ORDER_A, 24, 8⟩
def ID_ORDER_GRADE : Fld := ⟨ID_ORDER_A, 16, 8⟩
/-- ID_SERIAL_LO, R514. -/
def ID_SERIAL_LO_A : Nat := (0x000 * 0x400 + 0x4c)
def ID_SERIAL_LO_SERIAL : Fld := ⟨ID_SERIAL_LO_A, 0, 32⟩
/-- ID_SERIAL_HI, R514. -/
def ID_SERIAL_HI_A : Nat := (0x000 * 0x400 + 0x50)
def ID_SERIAL_HI_SERIAL : Fld := ⟨ID_SERIAL_HI_A, 0, 32⟩
/-- ID_DATE, R514. -/
def ID_DATE_A : Nat := (0x000 * 0x400 + 0x54)
def ID_DATE_YEAR : Fld := ⟨ID_DATE_A, 16, 16⟩
def ID_DATE_MONTH : Fld := ⟨ID_DATE_A, 8, 8⟩
def ID_DATE_DAY : Fld := ⟨ID_DATE_A, 0, 8⟩
/-- ID_STRAPS, R514. -/
def ID_STRAPS_A : Nat := (0x000 * 0x400 + 0x58)
def ID_STRAPS_LANE_ID : Fld := ⟨ID_STRAPS_A, 4, 2⟩
def ID_STRAPS_POS : Fld := ⟨ID_STRAPS_A, 0, 4⟩
/-- ID_IDCODE, R514. -/
def ID_IDCODE_A : Nat := (0x000 * 0x400 + 0x5c)
def ID_IDCODE_IDCODE : Fld := ⟨ID_IDCODE_A, 0, 32⟩

end Sys2Proof.Machine
end

