-- ==== Sys2Proof/Machine/RunIn.lean ====
section
/-!
DEFINITION. What a run of an axis program and of the braking chain reads (R88): the plain pass takes it from the snapshot,
and the coded run and a re-run of the same tick read the same.
-/
namespace Sys2Proof.Machine

/-- What a program reads beside its state of record (R88): the configuration of its axis, the measurement, the
set-point, whether the conversion of one of them has saturated (R94), its own commutation input and the share factor. -/
structure ProgIn where
  struct : Nat
  six : Bool
  tNs : Nat
  fsX : Nat
  fsV : Nat
  fsI : Nat
  imax : Nat
  vmax : Nat
  amax : Nat
  jmax : Nat
  tAcc : Nat
  bw : Nat
  par : List Nat
  polePairs : Nat
  shift2 : Bool
  offset : Nat
  share : Nat
  meas : Option Int
  voted : Bool
  leadNs : Nat
  sp : Int
  fromChain : Bool
  inSat : Bool
  angle : Option Int
  speed : Int
  force : Option Int
  deriving DecidableEq, Repr

/-- What the braking chain reads in a tick. Speeds are in 1/64 mm/s, accelerations in 1/512 mm/s² (requests) or 1/256
mm/s² (measured), T_AVAIL in N·m, loads in 100/256 kg, voltages in 1/1,024 V, the duty in force in 2^-20 stages. -/
structure ChainIn where
  on : Bool
  tNs : Nat
  aReq : Int
  rate : Nat
  jerk : Nat
  tjMs : Nat
  aLong : Int
  vw : Option Int
  wheels : List (Option Int)
  en : List Bool
  contrib : List Bool
  loads : List Int
  mass : Int
  trimEn : Bool
  trimHi : Int
  trimLo : Int
  kiTrim : Nat
  vMin : Int
  refMargin : Int
  aUp : Int
  tAvail : Int
  rDyn : Nat
  elecCap : Nat
  derate : Nat
  linkOk : Bool
  uLink : Int
  uRef : Int
  uHi : Int
  nSt : Nat
  retEn : Bool
  dLast : Int
  holdOver : Bool
  kp : Nat
  ki : Nat
  noElec : Bool
  lamTgt : Int
  hyst : Int
  kMin : Int
  kBlind : Int
  ks : Nat
  recov : Nat
  own : Option Nat
  cw : Nat
  deriving DecidableEq, Repr

end Sys2Proof.Machine
end

