-- ==== Sys2Proof/Machine/SMap.lean ====
section
/-!
DEFINITION. Sparse tables in one canonical form: a list of (key, value) pairs with strictly rising keys and
no entry equal to the value an unlisted key has. Registers, schedule entries and every indexed
collection of the state are such tables.
-/
namespace Sys2Proof.Machine

/-- A sparse table: keys strictly rising, no entry equal to the default of its key. -/
abbrev SMap (α : Type) := List (Nat × α)

/-- The value at key `k`; `d k` where `k` is not listed. -/
def smGet {α : Type} (d : Nat → α) : SMap α → Nat → α
  | [], k => d k
  | (k', v) :: m, k => if k = k' then v else smGet d m k

/-- The table without an entry for `k`. -/
def smErase {α : Type} (m : SMap α) (k : Nat) : SMap α := m.filter (fun p => p.1 != k)

/-- The table with `(k, v)` put before the first larger key. -/
def smIns {α : Type} (k : Nat) (v : α) : SMap α → SMap α
  | [] => [(k, v)]
  | (k', v') :: m => if k < k' then (k, v) :: (k', v') :: m else (k', v') :: smIns k v m

/-- The table with value `v` at key `k`; a value equal to the default is not listed. -/
def smPut {α : Type} [DecidableEq α] (d : Nat → α) (m : SMap α) (k : Nat) (v : α) : SMap α :=
  if v = d k then smErase m k else smIns k v (smErase m k)

/-- Every key of the table is above `k`. -/
def smAbove {α : Type} (k : Nat) (m : SMap α) : Bool := m.all (fun p => decide (k < p.1))

/-- The canonical form. -/
def smWf {α : Type} [DecidableEq α] (d : Nat → α) : SMap α → Bool
  | [] => true
  | (k, v) :: m => smAbove k m && decide (v ≠ d k) && smWf d m

/-- Rebuild a table by passing every listed entry through `f`. -/
def smMap {α : Type} [DecidableEq α] (d : Nat → α) (f : Nat → α → α) : SMap α → SMap α
  | [] => []
  | (k, v) :: m => if f k v = d k then smMap d f m else (k, f k v) :: smMap d f m

end Sys2Proof.Machine
end

