-- ==== Sys2Proof/Machine/State.lean ====
section
/-!
DEFINITION. The state of one QX880 lane module, as plain data: every register (R503) in one sparse table, the
pending and non-volatile copies, and what the blocks hold beside their registers.
-/
namespace Sys2Proof.Machine

/-- Ordering code (R4, R514). -/
inductive Part where
  | a | s
  deriving DecidableEq, Repr

/-! ### Fault collector and event log -/

/-- An event that waits to register in the collector (R367, R368). -/
structure Raised where
  src : Nat
  data : Word
  forced : Bool
  cont : Option Word
  tb : Nat
  deriving DecidableEq, Repr

/-- Counting classifier of one source (R369). -/
structure Cls where
  c : Nat := 0
  ws : Nat := 0
  last : Nat := 0
  active : Bool := false
  promoted : Bool := false
  /-- The source has reached TERMINAL, which it keeps (R370). -/
  term : Bool := false
  events : Nat := 0
  data : Word := 0
  deriving DecidableEq, Repr

/-- One event-log entry (R380). -/
structure LogE where
  e0 : Word := 0
  e1 : Word := 0
  e2 : Word := 0
  e3 : Word := 0
  deriving DecidableEq, Repr

/-- Collector and log beside their registers. -/
structure FaultSt where
  raised : List Raised := []
  cls : SMap Cls := []
  buf : List LogE := []
  ring : SMap LogE := []
  lossNext : Bool := false
  lossEp : Bool := false
  fullEp : Bool := false
  overEp : Bool := false
  freeze : Option Nat := none
  /-- The timebase period in which the last event registered, and its identity (R368). -/
  regTb : Option Nat := none
  regId : Nat := 0
  deriving DecidableEq, Repr

/-! ### Gate drive, current loops, bridge protection -/

/-- What a half-bridge holds beside HB_* (R199, R205-R208, R210, R234, R235); `outH` and `outL` are the strength of the edge under way
or last made on each gate, in 1/16 of one slice's full current. -/
structure HbSt where
  hiReq : Bool := false
  loReq : Bool := false
  gh : Bool := false
  gl : Bool := false
  dtH : Bool := false
  dtL : Bool := false
  minRun : Bool := false
  armH : Bool := false
  armL : Bool := false
  softH : Nat := 0
  softL : Nat := 0
  blkHi : Bool := false
  outH : Nat := 0
  outL : Nat := 0
  lim : List Nat := [0, 0, 0, 0]
  failH : List Nat := []
  failL : List Nat := []
  pendH : List Nat := []
  pendL : List Nat := []
  ueS : Nat := 0
  leS : Nat := 0
  above : Bool := false
  below : Bool := false
  deriving DecidableEq, Repr

/-- What a vector decision unit holds beside VDU_* (R133-R141, R144). -/
structure VduSt where
  ticks : Nat := 0
  fresh : Bool := true
  wait : Nat := 0
  saved : Option Nat := none
  savedOff : Nat := 0
  hist : List Nat := []
  trans : Nat := 0
  offSeen : Bool := false
  refSeen : Bool := false
  deltaS : Nat := 0
  satS : Bool := false
  lostSense : Bool := false
  senseBad : Bool := false
  deriving DecidableEq, Repr

/-- What a bridge group holds beside BG_STAT and SUP_LATCH (R200-R204, R241). -/
structure GroupSt where
  preDone : Bool := false
  lostWait : Bool := false
  retry : Bool := false
  reactTb : Option Nat := none
  latchTb : Option Nat := none
  latchWas : Word := 0
  /-- The gate supply events, identity and supply (0 where the identity tells it), that this latch holds (R233, R443). -/
  gsup : List (Nat × Nat) := []
  desatTb : Option Nat := none
  shutTicks : Nat := 0
  deriving DecidableEq, Repr

/-- Auxiliary outputs, torque-off switches, gate supplies and buses beside their registers; `uvPrev` is the under-voltage count and
UV of each bus before the running snapshot (R62, R232). -/
structure AuxSt where
  rbEp : Nat := 0
  rbNew : Nat := 0
  tqRbEp : Nat := 0
  tqNew : Nat := 0
  parkEp : Nat := 0
  retOut : Nat := 0
  retOff : Nat := 0
  fltPin : Nat := 0
  dutyF : List Nat := [0, 0]
  dutyS : List Nat := [0, 0]
  retDuty : Nat := 0
  retDutyS : Nat := 0
  parkInteg : List Int := [0, 0]
  parkOn : List Nat := [0, 0]
  parkBad : List Nat := [0, 0]
  chopEp : Nat := 0
  hovEp : Nat := 0
  chopAbove : Nat := 0
  uvRun : List Nat := [0, 0, 0, 0]
  uvPrev : List (Nat × Bool) := []
  auxHeld : Bool := false
  engine : Option Nat := none
  odNotReady : Bool := false
  reactTb : Option Nat := none
  deriving DecidableEq, Repr

/-! ### Acquisition -/

/-- What an input (AIN 0x00-0x5F, RES 0x60-, ENC 0x68-, WS 0x70-) holds beside its registers; `frz` are the values that the last
snapshots may have stayed at, each with its count and the change that each axis predicts over it (R77). -/
structure InpSt where
  run : Nat := 0
  late : Nat := 0
  stale : Bool := false
  prevRaw : Nat := 0
  prevVal : Nat := 0
  prevRun : Nat := 0
  prevFrz : List (Int × Nat × SMap Nat) := []
  satNew : Bool := false
  rangeSaid : Bool := false
  prevSaid : Bool := false
  pendCause : Nat := 0
  frz : List (Int × Nat × SMap Nat) := []
  xlRaised : Bool := false
  frame : Option Nat := none
  badFrame : Bool := false
  edges : List Nat := []
  deriving DecidableEq, Repr

/-- A shared input as the vote of R19 left it: usable, its value in the form of R520. -/
structure Voted where
  ok : Bool := false
  val : Int := 0
  three : Bool := false
  deriving DecidableEq, Repr

/-- Acquisition beside the inputs: sum counts of the sets (R66) and the sets reported, after the running snapshot and before it; channels
over tolerance by core, in the rotation `xrot`, and the spare core's difference not yet judged (R82); voted values. -/
structure AfeSt where
  inp : SMap InpSt := []
  kcl : SMap Nat := []
  kclPrev : SMap Nat := []
  kclSaid : List Nat := []
  kclSaidPrev : List Nat := []
  xchk : SMap Nat := []
  xrot : Nat := 0
  xpend : Option (Nat × Int) := none
  voted : SMap Voted := []
  deriving DecidableEq, Repr

/-! ### Axis engine and Janus pass -/

/-- The words of one run of an axis program (R181) and its flag word (R94). -/
structure RunRes where
  words : List Int
  flags : Nat
  deriving DecidableEq, Repr

/-- What an axis slot holds beside AX_* (R89, R177, R181-R191). -/
structure AxisSt where
  record : List Int := []
  recordC : List Int := []
  badParity : List Nat := []
  runIn : Option (ProgIn × ChainIn) := none
  plain : Option RunRes := none
  coded : Option RunRes := none
  rerun : Option RunRes := none
  plainOk : Bool := true
  codedOk : Bool := true
  verdict : Verdict := .none
  cause : Nat := 0
  sliceFail : Bool := false
  committed : Bool := false
  sp : List Int := []
  live : Bool := false
  shutTmo : Bool := false
  zeroRun : Nat := 0
  shutU : Int := 0
  shutTicks : Nat := 0
  shutFrom : Int := 0
  share : Nat := 0x4000
  shareFrom : Nat := 0x4000
  shareLeft : Nat := 0
  nAct : Nat := 0
  spRaw : Int := 0
  contrib : Bool := false
  fromLost : Bool := false
  commitTb : Nat := 0
  undo : List (Nat × Nat × Nat) := []
  undoDelta : List (Nat × Nat) := []
  deriving DecidableEq, Repr

/-- The Janus unit beside JAN_*: hold-store words by `64 axis + index`, axes that wait for a re-run, what this tick's slice
tests concern (physical slices), the march queue and the injections asked for (R180-R196, R402). -/
structure JanusSt where
  hold : SMap Nat := []
  mism : List Nat := []
  waiting : List Nat := []
  rerunAt : Option Nat := none
  slice : Option Nat := none
  left : Nat := 0
  susp : List Nat := []
  rot : Option Nat := none
  test : List Nat := []
  failed : List Nat := []
  queue : List Nat := []
  marching : Option Nat := none
  passRan : Bool := false
  capArmed : Bool := true
  capAxis : Option Nat := none
  capNow : Bool := false
  goPend : Option Nat := none
  goIdx : Option Nat := none
  deriving DecidableEq, Repr

/-- Self-repair beside RP_*: the repair map (E0, E1) in index order, how many of its newest entries are not yet written
(R406), slices that a TICK remaps, and what is lost or used up without a register of its own (*Repair actions*): channels not
converted, windows that put their unit in SENSE_OFF, buses held off, ports off, spare windows and driver spares not
available. -/
structure RepairSt where
  map : List (Word × Word) := []
  unwritten : Nat := 0
  retried : Bool := false
  remap : List Nat := []
  lostSlice : List Nat := []
  deadCh : List Nat := []
  failWin : List Nat := []
  deadBus : List Nat := []
  deadPhy : List Nat := []
  usedWin : List Nat := []
  usedDrv : List Nat := []
  bankLost : Bool := false
  rowsUsed : List Nat := [0, 0, 0]
  deriving DecidableEq, Repr

/-- The self-test beside BIST_* (R390-R401): the running sweep has started, its position is BIST_STAT.STEP; the timebase period
of its start, the step in progress is a repetition, the item passed over, what the item in progress and the sweep have
covered, the stall episode, and the shadows (spare window, resource). -/
structure BistSt where
  started : Bool := false
  startTb : Nat := 0
  rep : Bool := false
  drop : Option (Nat × Nat) := none
  edge : Bool := false
  drvDone : Nat := 0
  winDone : Nat := 0
  thrDone : Nat := 0
  stallEp : Bool := false
  waits : Bool := false
  shadow : List (Nat × Nat) := []
  deriving DecidableEq, Repr

/-- Vehicle functions beside BLD_* and STR_* (R155-R172). -/
structure VehSt where
  chain : List Int := []
  chainVoted : Option (List Int) := none
  loadEp : Nat := 0
  trimRun : Nat := 0
  linkRun : Nat := 0
  linkEp : Bool := false
  misEp : Bool := false
  wheelEp : Nat := 0
  holdTicks : Nat := 0
  holdDone : Bool := false
  trackRun : List Nat := [0, 0, 0, 0]
  trackEp : Nat := 0
  trimEp : Bool := false
  tReq : Nat := 0
  lastDuty : Int := 0
  pub : List Int := []
  pubLam : List Int := []
  pubFw : List Int := []
  strClip : Bool := false
  deriving DecidableEq, Repr

/-! ### Tick sequencer, safe stop, lane redundancy, Moamel -/

/-- Tick sequencer beside TICK_*: the phase of TICK against its reference (ns), the timebase period and the network time
(2^-32 ns) of the last TICK, what its local count left below one period (2^-32 ns) and what the guard has moved since (ns), the runs each window left unfinished (R47), the self-test steps that still end in a slice that is cut off, and what the lane measured or announced in this tick. -/
structure TickSt where
  phase : Int := 0
  lastTb : Nat := 0
  at_ : Nat := 0
  frac : Nat := 0
  move : Int := 0
  first : Bool := true
  plainOver : List Nat := []
  janusOver : List Nat := []
  missed : List Nat := []
  bistLate : Bool := false
  bistLeft : Nat := 0
  refLoss : Bool := false
  reg : List (Nat × Word × Word) := []
  cyc : List (Nat × Word × Word) := []
  deriving DecidableEq, Repr

structure SafeSt where
  pin : Bool := false
  pinRec : Bool := false
  host : Bool := false
  exitHost : Bool := false
  fault2 : Bool := false
  disagree : Bool := false
  freeTicks : Nat := 0
  aAcc : Int := 0
  aAccOk : Bool := false
  below : Nat := 0
  still : Nat := 0
  moveStill : Nat := 0
  notBelow : Bool := false
  moveSeen : Bool := false
  secure : Nat := 0
  heldReq : Nat := 0
  ignore : List (Nat × Nat) := []
  deriving DecidableEq, Repr

/-- A role handover by release (R275): from one lane to another, exchanges since the one that published it. -/
structure Handover where
  role : Nat
  src : Nat
  dst : Nat
  ticks : Nat
  sawHold : Bool
  deriving DecidableEq, Repr

/-- Lane redundancy beside LN_*: the records of the last exchange by position, the last record of each lane letter, the
record last sent, and what the next TICK puts in force. -/
structure LaneSt where
  recs : SMap (Option XRec) := []
  kept : SMap (Option XRec) := []
  own : Option XRec := none
  miss : SMap Nat := []
  excl : List Nat := []
  exclSeen : List Nat := []
  next : Option (Nat × Nat) := none
  back : Bool := false
  bistFail : Bool := false
  devPeer : SMap Nat := []
  handover : List Handover := []
  gaveUp : Nat := 0
  dissent : SMap Nat := []
  vacantEp : Nat := 0
  isolEp : Bool := false
  dupEp : Bool := false
  cfgEp : Bool := false
  onPark : Bool := false
  onTq : Bool := false
  meet : Nat := 0
  contribMask : SMap Nat := []
  clrMaint : Bool := false
  deriving DecidableEq, Repr

/-- A Moamel link beside LK_*: it goes UP at the next TICK; its wiring episode; the ticks of its newest frames that failed their CRC;
a valid frame has come since the window began, and the windows in a row without one (R291). -/
structure LinkSt where
  pendUp : Bool := false
  wiringEp : Bool := false
  crcAt : List Nat := []
  got : Bool := false
  silent : Nat := 0
  deriving DecidableEq, Repr

/-- The Moamel cascade beside MM_*. -/
structure MoamelSt where
  links : SMap LinkSt := []
  westTicks : Nat := 0
  eastTicks : Nat := 0
  westSeen : Bool := false
  eastSeen : Bool := false
  said : Nat := 0
  lsysAt : SMap Nat := []
  fwd : List (Bool × Nat) := []
  cut : List Nat := []
  dupNow : Bool := false
  posDup : Bool := false
  lsysEp : Bool := false
  syncMiss : Nat := 0
  syncEdge : Bool := false
  syncLossEp : Bool := false
  conflictNow : Bool := false
  conflictEp : Bool := false
  pulse : Bool := false
  noCandEp : Bool := false
  nextMaster : Option Nat := none
  hasMaster : Bool := false
  alignSaid : Bool := false
  alarmPin : Bool := false
  deriving DecidableEq, Repr

/-! ### Sitil, safety layer, network time, Charon -/

/-- A Sitil channel beside SIT_STAT (R327-R332): the state it enters at the next cycle start, cycles sent in COLDSTART, back-off cycles left,
what the running cycle has brought, runs of lost and good cycles, the timebase period of the last frame start heard, and its own
last frame: when it is on the wire (62.5 ps units), its bytes and the code groups of its line (R312). -/
structure ChanSt where
  next : Option Nat := none
  sent : Nat := 0
  back : Nat := 0
  full : Bool := false
  nodes : List Nat := []
  seen : List Nat := []
  syncN : Nat := 0
  noSync : Nat := 0
  rxAny : Bool := false
  lostRun : Nat := 0
  goodRun : Nat := 0
  ended : Bool := false
  been : Bool := false
  misEp : Bool := false
  collEp : Bool := false
  ownFrom : Nat := 0
  ownTo : Nat := 0
  heardTb : Nat := 0
  out : List Nat := []
  line : List Nat := []
  deriving DecidableEq, Repr

/-- A port beside SP_*: its enable in force, the cycles of recent failures (R324), episodes, and the frame it last
forwarded: bytes, code groups, and when it is on the wire (62.5 ps units). -/
structure PortSt where
  en : Bool := false
  fails : List Nat := []
  errEp : Bool := false
  blkEp : Bool := false
  blkNow : Bool := false
  got : Bool := false
  fwd : List Nat := []
  fwdLine : List Nat := []
  fwdFrom : Nat := 0
  fwdTo : Nat := 0
  deriving DecidableEq, Repr

/-- Received data of a schedule entry (R334). -/
structure RxSt where
  payload : List Nat := []
  age : Nat := 15
  null : Bool := true
  valid : Bool := false
  ch : Nat := 0
  cycle : Nat := 0
  got : Bool := false
  deriving DecidableEq, Repr

/-- Transmit buffer of an own entry (R333, R346): written but not in force, in force, written since the last frame, written
since channel X and Y became ACTIVE, age sent, sealed PDU, the network time of the TICK that put it in force, and the cycle
of the last frame. -/
structure TxSt where
  next : Option (List Nat) := none
  cur : Option (List Nat) := none
  fresh : Bool := false
  ever : Nat := 0
  age : Nat := 0
  pdu : List Nat := []
  tickNs : Nat := 0
  cycle : Option Nat := none
  deriving DecidableEq, Repr

/-- A frame waiting in the tick buffer (R17, R326). -/
structure InFrame where
  entry : Nat
  ch : Nat
  null : Bool
  cycle : Nat
  payload : List Nat
  deriving DecidableEq, Repr

structure SitSt where
  chans : SMap ChanSt := []
  ports : SMap PortSt := []
  rx : SMap RxSt := []
  tx : SMap TxSt := []
  buf : List InFrame := []
  w0 : Option Word := none
  w1 : Option Word := none
  dupEp : Bool := false
  dupNow : Bool := false
  clashEp : Bool := false
  clashNow : Bool := false
  deriving DecidableEq, Repr

/-- A safety connection beside SL_CST_k (R346, R349-R352): it has a reference sequence, the data last accepted with its send
time and deadline, whether that PDU carried REARM = 0 and was valid, and that it was accepted at this TICK. -/
structure ConnSt where
  hasRef : Bool := false
  acc : Option (List Nat) := none
  tSend : Nat := 0
  dl : Nat := 0
  zero : Bool := false
  taken : Bool := false
  deriving DecidableEq, Repr

structure SlSt where
  conns : SMap ConnSt := []
  brake : Option (List Int) := none
  brakeCycle : Nat := 0
  steer : Option (List Int) := none
  steerCycle : Nat := 0
  coBrake : Option XCmd := none
  coSteer : Option XCmd := none
  perm : Nat := 0
  avail : Nat := 0
  ssReq : Option (Nat × Nat) := none
  rearmEdge : Bool := false
  cmdOut : Bool := false
  deriving DecidableEq, Repr

/-- Network time beside NT_*: rate and slew in 2^-32 (rate per ns, slew in 2^-32 ns), master frames of the running cycle. -/
structure NetSt where
  rate : Int := 0
  slew : Int := 0
  slewPer : Int := 0
  devs : List (Nat × Int) := []
  tms : List Nat := []
  lowTc : Bool := false
  lastMaster : Option Nat := none
  stepped : Bool := false
  holdEp : Bool := false
  twEp : Bool := false
  masterOut : Bool := false
  outRun : Nat := 0
  tickNs : Nat := 0
  atAp4 : Nat := 0
  deriving DecidableEq, Repr

/-- One entry of Charon's table (R336). -/
structure CharonE where
  entry : Nat
  w0 : Word
  chmask : Nat
  len : Nat
  deriving DecidableEq, Repr

/-- Charon (R336-R339): its table, the windows that are open (entry, first and last instant in 62.5 ps units), and what its timer, its
clock, its rail and its table check hold. -/
structure CharonSt where
  table : List CharonE := []
  win : List (Nat × Nat × Nat) := []
  pred : Bool := false
  rej : Nat := 0
  okRun : Nat := 0
  clkBad : Bool := false
  railBad : Bool := false
  tableBad : Bool := false
  deriving DecidableEq, Repr

/-- What holds every group off beside the collector's reactions: lane state, PRESENT_N, PLL_A, power-good; and PRESENT_N acting
as LRST_N (R459). -/
structure HoldSt where
  lane : Bool := false
  present : Bool := false
  pll : Bool := false
  pg : Bool := false
  lrst : Bool := false
  deriving DecidableEq, Repr

/-! ### Host port, configuration, start-up, power, clocks -/

/-- Who a request for a power state is answered to: a host tag, a remote node and tag, or nobody (a wake). -/
inductive Who where
  | host (tag : Nat)
  | remote (node tag : Nat)
  | nobody
  deriving DecidableEq, Repr

/-- A host command as accepted (R449); `tgt` is PWR_MODE.TARGET at its acceptance (R414), `pend` for a COMMIT the words that then
await one (R452), `verdict` for a COMMIT that waits its turn what its checks gave: the status, and whether it holds enables back (R466). -/
structure HCmd where
  cmd : Nat
  tag : Nat
  addr : Nat
  len : Nat
  data : List Word
  tgt : Nat
  pend : List (Nat × Word) := []
  verdict : Option (Nat × Bool) := none
  deriving DecidableEq, Repr

/-- A tag cache entry (R453). -/
structure HCache where
  req : HCmd
  status : Option Nat := none
  fetched : Bool := false
  deriving DecidableEq, Repr

/-- A slot (R454): in flight while `res` is none, ready with status and data otherwise; ready slots stand in the order of
completion. -/
structure HSlot where
  tag : Nat
  res : Option (Nat × List Word) := none
  deriving DecidableEq, Repr

/-- An acknowledge, and a result record, as the module puts them on the port (R449). -/
structure HAck where
  tag : Nat
  code : Nat
  ready : Nat
  deriving DecidableEq, Repr

structure HOut where
  tag : Nat
  status : Nat
  data : List Word
  deriving DecidableEq, Repr

/-- A remote request in the cache of R457: node, content, answered, timebase period of its acceptance. -/
structure RCache where
  node : Nat
  req : HCmd
  done : Bool
  at_ : Nat
  deriving DecidableEq, Repr

/-- A reply that waits for an own REMOTE frame (R456, R457); no bytes while its request is not completed;
a BUSY answer is no outstanding request. -/
structure Reply where
  node : Nat
  tag : Nat
  bytes : List Nat
  counts : Bool := true
  deriving DecidableEq, Repr

/-- The host port beside HP_*: `busy` is the WAIT or COMMIT in progress, `waitNext` a WAIT that came during an entry (R419), `queue` the
commands accepted behind them (R452); the last acknowledge and result record; remote requests and the port whose turn is next among
those that ask at once (R455); an LRST is due (R472). -/
structure HostSt where
  commitHold : Bool := false
  cache : List HCache := []
  slots : List HSlot := []
  queue : List HCmd := []
  busy : Option HCmd := none
  waitNext : Option HCmd := none
  ack : Option HAck := none
  out : Option HOut := none
  remotes : List RCache := []
  replies : List Reply := []
  rrPort : Nat := 0
  lrstDue : Bool := false
  deriving DecidableEq, Repr

/-- A COMMIT in progress (R466): the host tag, STORE, the registers it changes with their new words, and whether its image write
has failed once. -/
structure CommitSt where
  tag : Nat
  store : Bool
  set : List (Nat × Word)
  retried : Bool := false
  deriving DecidableEq, Repr

/-- The configuration gate: words written and not committed, by address (R13; window words at their pseudo-addresses, CS_PWD
at its own); the COMMIT in progress; pages in SNAP with the words they show (R510); pages in SOFT reset (R509); the first TICK after the configuration step has come (R511); a leave of
service mode is due (R464); the W1C bits that hardware has set, with their timebase period (R9). -/
structure ConfSt where
  pend : SMap (Option Word) := []
  commit : Option CommitSt := none
  snaps : List (Nat × List (Nat × Word)) := []
  soft : List Nat := []
  ready : Bool := false
  exitDue : Bool := false
  hwSet : List (Nat × Word × Nat) := []
  deriving DecidableEq, Repr

/-- The stored configuration image (R467): the words of registers with stored fields that differ from POR, FEAT_ACCEPT, and the two CRCs. -/
structure Image where
  words : SMap Word
  acceptLo : Word
  acceptHi : Word
  ok : Bool := true
  crc : Word := 0
  setCrc : Word := 0
  deriving DecidableEq, Repr

/-- Non-volatile memory in D7 (R458, R461, R467, R470, R499) and D0 (R378): the image, the password, the change-log ring, the
stored counters, and the timebase period at which the lockout's last second began. -/
structure NvSt where
  image : Option Image := none
  pwd : List Word := [0, 0, 0, 0]
  clog : SMap (List Word) := []
  hours : Nat := 0
  km : Nat := 0
  tMax : Nat := 0
  lockTb : Nat := 0
  /-- The operating time since the last 0.1 h counted and the timebase period up to which it counts; the distance since the last 0.1 km,
  1/64 mm/s × ns (R499). -/
  opRest : Nat := 0
  opTb : Nat := 0
  dist : Nat := 0
  deriving DecidableEq, Repr

/-- A request for a power state (R414): it is evaluated at the first TICK after its arrival. -/
structure PReq where
  tgt : Nat
  who : Who
  ready : Bool := false
  deriving DecidableEq, Repr

/-- An entry in progress (R415): target and origin, requester, pad groups it latched, TICKs and a cycle start since the last
abort point. -/
structure PEntry where
  tgt : Nat
  src : Nat
  who : Who
  latched : Nat := 0
  chans : Nat := 0
  ticked : Bool := false
  cycled : Bool := false
  deriving DecidableEq, Repr

/-- The power manager beside PWR_*: the request to evaluate, the entry, the pending slot (R419), armed wake sources that have
fired during the entry, a failed crossing 17, the DVFS transition (target, falling clock already switched), a point written during a COMMIT (R466), the wake record (network time ns, phase). -/
structure PwrSt where
  req : Option PReq := none
  entry : Option PEntry := none
  pend : Option PReq := none
  fired : List Nat := []
  cdc : Bool := false
  dvfs : Option Nat := none
  late : Option Nat := none
  fell : Bool := false
  /-- The earliest end of the voltage ramp under way (R426). -/
  rampEnd : Option Nat := none
  /-- Timebase at the last DVFS clock switch (R426). -/
  switchTb : Option Nat := none
  /-- The wake that counts as the first to fire: its 32.768 kHz period, its code, the state it fired in (R422). -/
  first : Option (Nat × Nat × Nat) := none
  wakeNs : Nat := 0
  wakePhase : Int := 0
  /-- The signatures of the banks LOG, STATE and CONFIG as stored in D0 (R429). -/
  sig : List Word := []
  deriving DecidableEq, Repr

/-- Clock monitoring beside CLK_*: PLLs locked, measured frequencies, windows out of tolerance in a row by clock, TCXO
comparisons failed in a row, and PLL_A locked again but not yet used (R434-R436). -/
structure ClkSt where
  pll : Nat := 0
  khz : SMap Nat := []
  bad : SMap Nat := []
  tcxo : Nat := 0
  /-- Crossings: the timebase period after the last flush of each, that of the last LRST, in which all are flushed, that of the last
  clearing of their counters, and that in which Charon took its last table (R440, R442, R446). -/
  flushed : SMap Nat := []
  lrstTb : Nat := 0
  clrTb : Nat := 0
  copyTb : Option Nat := none
  deriving DecidableEq, Repr

/-- Boundary scan and pins (R486-R501): the instruction, the lane held in LRST by it, the boundary register as last updated (gate
outputs, other cells), every BV_g below 20 V at that update, and the hot-plug pin. -/
structure TapSt where
  ir : Nat := 2
  held : Bool := false
  gates : List Bool := []
  cells : List Bool := []
  bvLow : Bool := false
  /-- What the last scan shifted out at TDO, the gate cells of the boundary register before the others. -/
  tdo : List Bool := []
  pgFell : Bool := false
  deriving DecidableEq, Repr

/-- Start-up beside SU_*: the networks have started (R477), step 2 has passed, a conflict of R460 holds back admission, the
timebase period of the start, groups whose run failed, groups' part begun, the lane waits
for a stored configuration (R475). -/
structure SuSt where
  nets : Bool := false
  confOk : Bool := false
  conflict : Bool := false
  startTb : Nat := 0
  failed : List Nat := []
  diag : Bool := false
  stopped : Bool := false
  confWait : Bool := false
  deriving DecidableEq, Repr

/-! ### The whole machine -/

structure State where
  pending : List Instr := []
  part : Part := .a
  powered : Bool := true
  freeSeq : Nat := 0
  tb : Nat := 0
  time : Nat := 0
  tickNo : Nat := 0
  regs : SMap Word := []
  engOld : List (Nat × Word) := []
  tk : TickSt := {}
  flt : FaultSt := {}
  hbs : SMap HbSt := []
  vdus : SMap VduSt := []
  grps : SMap GroupSt := []
  aux : AuxSt := {}
  afe : AfeSt := {}
  axes : SMap AxisSt := []
  jan : JanusSt := {}
  rep : RepairSt := {}
  veh : VehSt := {}
  ss : SafeSt := {}
  ln : LaneSt := {}
  mm : MoamelSt := {}
  sit : SitSt := {}
  sl : SlSt := {}
  nt : NetSt := {}
  cn : CharonSt := {}
  hold : HoldSt := {}
  hp : HostSt := {}
  su : SuSt := {}
  bist : BistSt := {}
  cf : ConfSt := {}
  nv : NvSt := {}
  pw : PwrSt := {}
  ck : ClkSt := {}
  tap : TapSt := {}
  deriving DecidableEq, Repr

/-- No command of the block ends in a fault: the type is closed and has no constructor that a step raises. -/
inductive Fault where
  /-- Never raised: the specification gives every command an effect. -/
  | never
  deriving DecidableEq, Repr

/-- Why a command is refused by the model. -/
inductive Refusal where
  /-- A command whose meaning is not written yet, by mnemonic; raised in Dispatch only. Safe. -/
  | notModelled (mnemonic : String)
  deriving DecidableEq, Repr

/-- The machine right after POR. -/
def State.reset : State := {}

end Sys2Proof.Machine
end

