-- ==== Sys2Proof/Machine/Ops.lean ====
section
/-!
DEFINITION. The named operations every command uses: reading and writing register fields, counters, raising a
fault source, free values, the tick length and the records kept per instance.
-/
namespace Sys2Proof.Machine

/-- What a step of the block answers. -/
abbrev Res := Host.Outcome State Fault Refusal

/-- The value in force of the register at an address. -/
def State.word (s : State) (a : Nat) : Word := smGet porWord s.regs a

/-- The state with `w` in force at an address. -/
def State.setWord (s : State) (a : Nat) (w : Word) : State := { s with regs := smPut porWord s.regs a w }

/-- The value in force of a field. -/
def State.f (s : State) (x : Fld) : Nat := fieldGet (s.word x.addr) x.lo x.width

/-- The state with `v` in force in a field; the register's other bits are kept. -/
def State.set (s : State) (x : Fld) (v : Nat) : State :=
  s.setWord x.addr (fieldSet (s.word x.addr) x.lo x.width v)

/-- A one-bit field is 1. -/
def State.on (s : State) (x : Fld) : Bool := s.f x == 1

/-- The state with a one-bit field set to a truth value. -/
def State.setB (s : State) (x : Fld) (b : Bool) : State := s.set x (b2n b)

/-- A field as a two's complement number. -/
def State.fI (s : State) (x : Fld) : Int := toSigned x.width (s.f x)

/-- The state with an integer in a field, as two's complement. -/
def State.setI (s : State) (x : Fld) (v : Int) : State := s.set x (ofSigned x.width v)

/-- A field of configuration as the tick-synchronous blocks read it: the value in force at the last TICK (R61,
R90, R148, R371), that is the old word where a COMMIT has completed since. -/
def State.e (s : State) (x : Fld) : Nat :=
  fieldGet (match s.engOld.find? (fun p => p.1 == x.addr) with
    | some p => p.2
    | none => s.word x.addr) x.lo x.width

/-- `e` of a one-bit field. -/
def State.eOn (s : State) (x : Fld) : Bool := s.e x == 1

/-- `e` as two's complement. -/
def State.eI (s : State) (x : Fld) : Int := toSigned x.width (s.e x)

/-- A saturating counter field counts `n` more. -/
def State.addSat (s : State) (x : Fld) (n : Nat) : State := s.set x (satU x.width (s.f x + n))

/-- A saturating counter field counts one more. -/
def State.inc (s : State) (x : Fld) : State := s.addSat x 1

/-- A wrapping counter field counts one more. -/
def State.incWrap (s : State) (x : Fld) : State := s.set x ((s.f x + 1) % 2 ^ x.width)

/-- A bit of a multi-bit field. -/
def State.fbit (s : State) (x : Fld) (k : Nat) : Bool := bitOf (s.f x) k

/-- The state with one bit of a multi-bit field set. -/
def State.setBit (s : State) (x : Fld) (k : Nat) (b : Bool) : State := s.set x (withBit (s.f x) k b)

/-- Do `f` when `b` holds. -/
def State.when (s : State) (b : Bool) (f : State → State) : State := if b then f s else s

/-- Do `f` for each listed index in turn. -/
def State.each (s : State) (l : List Nat) (f : Nat → State → State) : State :=
  l.foldl (fun t i => f i t) s

/-- An event with known data waits to register (R367); two events of one source in one timebase period are one,
with the data of the event raised by hardware where the other is forced (R368). -/
def raiseInto (ev : Raised) : List Raised → List Raised
  | [] => [ev]
  | r :: rs =>
    if r.src = ev.src ∧ r.tb = ev.tb then (if r.forced && !ev.forced then ev else r) :: rs
    else r :: raiseInto ev rs

/-- A block raises a source with its data. -/
def State.raise (s : State) (src : Nat) (data : Nat) : State :=
  { s with flt := { s.flt with raised := raiseInto ⟨src, BitVec.ofNat 32 data, false, none, s.tb⟩ s.flt.raised } }

/-- A block raises a source in timebase period `tb`, which is not the present one. -/
def State.raiseAt (s : State) (tb src data : Nat) : State :=
  { s with flt := { s.flt with raised := raiseInto ⟨src, BitVec.ofNat 32 data, false, none, tb⟩ s.flt.raised } }

/-- The engine clock in MHz (*DVFS points*). -/
def State.engMhz (s : State) : Nat := 100 * (s.f PWR_DVFS_FPT + 1)

/-- What happened in timebase period `tb` fell in the running ENG cycle (R516, *Coincidence clocks*): a cycle of 10 ns spans two
periods; of the shorter ones the model knows the period only (log entry 89). -/
def State.sameEng (s : State) (tb : Nat) : Bool := tb * 5 * s.engMhz / 1000 == s.tb * 5 * s.engMhz / 1000

/-- Hardware sets the bits `m` of the W1C register at `a` (R9): in this register-file cycle no write clears them. -/
def State.hwSet (s : State) (a : Nat) (m : Word) : State :=
  let t := s.setWord a (s.word a ||| m)
  { t with cf := { t.cf with hwSet := (a, m, s.tb) :: t.cf.hwSet.filter (fun p => s.sameEng p.2.2) } }

/-- The bits of register `a` that hardware has set in this register-file cycle (R9, R516). -/
def State.hwBits (s : State) (a : Nat) : Word :=
  (s.cf.hwSet.filter (fun p => p.1 == a && s.sameEng p.2.2)).foldl (fun w p => w ||| p.2.1) 0

/-- A block raises a source whose data no chapter states: the data is a free value. -/
def State.raiseU (s : State) (src : Nat) : State :=
  { s with
    flt := { s.flt with raised := raiseInto ⟨src, Config.freeWord s.freeSeq, false, none, s.tb⟩ s.flt.raised }
    freeSeq := s.freeSeq + 1 }

/-- A block raises a source whose log entry has a continuation (R381). -/
def State.raiseC (s : State) (src data cont : Nat) : State :=
  { s with
    flt := { s.flt with
      raised := raiseInto ⟨src, BitVec.ofNat 32 data, false, some (BitVec.ofNat 32 cont), s.tb⟩ s.flt.raised } }

/-- A source is raised through a force bit: data 0, FORCED (R377). -/
def State.raiseForced (s : State) (src : Nat) : State :=
  { s with flt := { s.flt with raised := raiseInto ⟨src, 0, true, none, s.tb⟩ s.flt.raised } }

/-- The next free value, and the state that has used it up. -/
def State.fresh (s : State) : Word × State := (Config.freeWord s.freeSeq, { s with freeSeq := s.freeSeq + 1 })

/-- Tick length of a TICK_CFG.LEN code, ns (R32). -/
def lenNs (code : Nat) : Nat := if code = 0 then 25000 else if code = 2 then 100000 else 50000

/-- The tick length in force, ns. -/
def State.tNs (s : State) : Nat := lenNs (s.f TICK_STAT_LEN_ACT)

/-- Ticks in `ms` milliseconds at the tick length in force. -/
def State.msTicks (s : State) (ms : Nat) : Nat := ms * 1000000 / s.tNs

/-- Network time in ns (R32: the tick grid's time). -/
def State.ns (s : State) : Nat := s.time / 2 ^ 32

/-- The register field of an input's state: the input numbers of *Feedback checks*. -/
def inpInvalidF (k : Nat) : Fld :=
  if k < 0x60 then CH_STAT_INVALID k
  else if k < 0x68 then RES_STAT_INVALID (k - 0x60)
  else if k < 0x70 then ENC_STAT_INVALID (k - 0x68)
  else WS_STAT_INVALID (k - 0x70)

def inpCauseF (k : Nat) : Fld :=
  if k < 0x60 then CH_STAT_CAUSE k
  else if k < 0x68 then RES_STAT_CAUSE (k - 0x60)
  else if k < 0x70 then ENC_STAT_CAUSE (k - 0x68)
  else WS_STAT_CAUSE (k - 0x70)

def inpXlF (k : Nat) : Fld :=
  if k < 0x60 then CH_STAT_XL_CNT k
  else if k < 0x68 then RES_STAT_XL_CNT (k - 0x60)
  else if k < 0x70 then ENC_STAT_XL_CNT (k - 0x68)
  else WS_STAT_XL_CNT (k - 0x70)

def inpEnF (k : Nat) : Fld :=
  if k < 0x60 then CH_CFG_EN k
  else if k < 0x68 then RES_CFG_EN (k - 0x60)
  else if k < 0x70 then ENC_CFG_EN (k - 0x68)
  else WS_CFG_EN (k - 0x70)

def inpSharedF (k : Nat) : Fld :=
  if k < 0x60 then CH_CFG_SHARED k
  else if k < 0x68 then RES_CFG_SHARED (k - 0x60)
  else if k < 0x70 then ENC_CFG_SHARED (k - 0x68)
  else WS_CFG_SHARED (k - 0x70)

/-- What the model keeps of an input, a half-bridge, a unit, a group and an axis slot. -/
def State.inp (s : State) (k : Nat) : InpSt := smGet (fun _ => {}) s.afe.inp k
def State.setInp (s : State) (k : Nat) (v : InpSt) : State :=
  { s with afe := { s.afe with inp := smPut (fun _ => {}) s.afe.inp k v } }
def State.hb (s : State) (h : Nat) : HbSt := smGet (fun _ => {}) s.hbs h
def State.setHb (s : State) (h : Nat) (v : HbSt) : State := { s with hbs := smPut (fun _ => {}) s.hbs h v }
def State.vdu (s : State) (u : Nat) : VduSt := smGet (fun _ => {}) s.vdus u
def State.setVdu (s : State) (u : Nat) (v : VduSt) : State := { s with vdus := smPut (fun _ => {}) s.vdus u v }
def State.grp (s : State) (g : Nat) : GroupSt := smGet (fun _ => {}) s.grps g
def State.setGrp (s : State) (g : Nat) (v : GroupSt) : State := { s with grps := smPut (fun _ => {}) s.grps g v }
def State.axs (s : State) (n : Nat) : AxisSt := smGet (fun _ => {}) s.axes n
def State.setAxs (s : State) (n : Nat) (v : AxisSt) : State := { s with axes := smPut (fun _ => {}) s.axes n v }
def State.votedOf (s : State) (k : Nat) : Voted := smGet (fun _ => {}) s.afe.voted k
def State.cls (s : State) (id : Nat) : Cls := smGet (fun _ => {}) s.flt.cls id
def State.setCls (s : State) (id : Nat) (v : Cls) : State :=
  { s with flt := { s.flt with cls := smPut (fun _ => {}) s.flt.cls id v } }

/-- Charon enables port p's driver for a frame that the bridge forwards now (R338). -/
def State.fwdNow (s : State) (p : Nat) : Bool :=
  let now := s.time / 2 ^ 28
  let x := smGet (fun _ => {}) s.sit.ports p
  x.fwd != [] && decide (x.fwdFrom ≤ now) && decide (now < x.fwdTo) && !s.on CHN_STAT_CLOSED

/-- What a port's line is doing (SP_STAT.LINE): an own frame or a forwarded one is on it. Frames heard are events at their end (log entry 96). -/
def State.lineCode (s : State) (p : Nat) : Nat :=
  let now := s.time / 2 ^ 28
  let c := smGet (fun _ => {}) s.sit.chans (p / 2)
  if decide (c.ownFrom ≤ now) && decide (now < c.ownTo) then 2 else if s.fwdNow p then 3 else 0

/-- An input becomes invalid with a cause, once (R81: it never becomes valid again on its own). -/
def State.makeInvalid (s : State) (k cause : Nat) : State :=
  if s.on (inpInvalidF k) then s
  else
    let t := (s.setB (inpInvalidF k) true).set (inpCauseF k) cause
    if k < 0x60 then t.setB (CH_VAL_VALID k) false else t

/-- Service mode is in force (R464). -/
def State.service (s : State) : Bool := s.on CS_STAT_SERVICE

/-- The configuration is locked (R461, R463). -/
def State.locked (s : State) : Bool := s.on CS_STAT_LOCKED

/-- The write counts as refused in its page (R513). -/
def State.refuse (s : State) (pg : Nat) : State := s.inc (PG_LOCK_REFUSED pg)

/-- A feature is active (R458). -/
def State.feature (s : State) (k : Nat) : Bool := s.fbit FEAT_ACTIVE_LO_ACTIVE k

/-- A power domain D0-D7 is on (R411, PWR_STAT.DOM_ON). -/
def State.dom (s : State) (d : Nat) : Bool := s.powered && s.fbit PWR_STAT_DOM_ON d

/-- The lane is in QUIET (R413): its D5 carries the wheel-speed inputs only. -/
def State.quiet (s : State) : Bool := s.f PWR_STAT_STATE == 1

/-- The block of a page has its domain off: in QUIET the D6 pages and the AFE pages but that of the wheel-speed inputs (R413,
R511). -/
def State.pageDark (s : State) (pg : Nat) : Bool :=
  s.quiet && ((decide (0x020 ≤ pg) && decide (pg < 0x02B)) || (decide (0x030 ≤ pg) && decide (pg < 0x039)))

/-- The state after a write, counted where it was refused (R513). -/
def counted (pg : Nat) (r : Bool × State) : State := if r.1 then r.2.refuse pg else r.2

/-- A command acts on everything but the queue; the ordering code never changes (R4), and the supply only at POR and at the end
of hold-up (R488). -/
def framed (s t : State) : State := { t with pending := s.pending, part := s.part, powered := s.powered }

/-- What a command does in the domain it acts in; nothing while that domain is off. -/
def State.runIn (s : State) (d : Nat) (f : State → State) : Res := .next (if s.dom d then framed s (f s) else s)

/-- As `runIn`, where the command also needs a condition: nothing happens where it does not hold. -/
def State.runIf (s : State) (d : Nat) (b : Bool) (f : State → State) : Res :=
  .next (if s.dom d && b then framed s (f s) else s)

end Sys2Proof.Machine
end

