-- ==== Sys2Proof/Machine/Crossing.lean ====
section
/-!
DEFINITION. The domain crossings (R438-R442): which are armed, stopped, held by a clock switch; flushes and one-sided resets.
-/
namespace Sys2Proof.Machine

/-- Crossing i has timed out and not resumed (R440). -/
def State.xStopped (s : State) (i : Nat) : Bool := s.fbit CDC_TMO_STOPPED i

/-- A crossing is flushed: its queue is empty in this timebase period. -/
def flushX (i : Nat) (s : State) : State := { s with ck := { s.ck with flushed := smPut (fun _ => 0) s.ck.flushed i (s.tb + 1) } }

/-- One side of crossing i is reset: it is flushed, and the other side sees it (R442). -/
def peerReset (i : Nat) (s : State) : State :=
  ((flushX i (s.hwSet CDC_PEER_A (BitVec.ofNat 32 (2 ^ i)))).inc (CDC_XST_RESETS i)).raise 0x371 i

/-- Crossings with ENG on either side, whose watchdogs a DVFS clock switch holds (R441). -/
def xEng (i : Nat) : Bool := decide (i < 2) || (decide (6 ≤ i) && decide (i ≤ 14)) || i == 17

/-- A clock switch holds the watchdog of crossing i (R441): for the 100 ns of the longest pause (log entry 122). -/
def State.xHeld (s : State) (i : Nat) : Bool := xEng i && s.pw.switchTb.any (fun t => decide (s.tb < t + 20))

/-- Words the queue of crossing i holds at most (*Crossing inventory*); 0 for a shadow-and-commit register. -/
def xDepth (i : Nat) : Nat :=
  if i = 0 ∨ i = 1 ∨ i = 11 ∨ i = 17 then 0 else if i = 15 ∨ i = 16 then 8 else 16

end Sys2Proof.Machine
end

