-- ==== Sys2Proof/Machine/Gate.lean ====
section
/-!
DEFINITION. The gate drive array (R199-R224): bridge-group states, request lines and gates, dead time,
shoot-through lockout, adaptive strength, bootstrap, auxiliary and torque-off outputs.
-/
namespace Sys2Proof.Machine

/-- The half-bridges of bridge group g. -/
def groupHbs (g : Nat) : List Nat := (List.range 6).map (fun k => 6 * g + k)

/-- Identity of source j of half-bridge h (*BG fault sources*). -/
def hbSrc (h j : Nat) : Nat := 0x080 + 0x20 * (h / 6) + 5 * (h % 6) + j

def State.groupState (s : State) (g : Nat) : Nat := s.f (BG_STAT_STATE g)

/-- A group counts as off for the rules that need outputs off (R200). -/
def State.groupOff (s : State) (g : Nat) : Bool := s.groupState g == 0

/-- The field of HB_STEP and of HB_MEAS of an edge kind: 0 HS_ON, 1 HS_OFF, 2 LS_ON, 3 LS_OFF. -/
def stepF (h kind : Nat) : Fld :=
  match kind with
  | 0 => HB_STEP_HS_ON h
  | 1 => HB_STEP_HS_OFF h
  | 2 => HB_STEP_LS_ON h
  | _ => HB_STEP_LS_OFF h

/-- Driver slices in use on a gate output (R207, R216, *Slice status codes*); a lost half-bridge drives none. -/
def State.slicesUsed (s : State) (h : Nat) (high : Bool) : Nat :=
  match s.f (if high then HB_STAT_SLICE_H h else HB_STAT_SLICE_L h) with
  | 0 => 7
  | 1 => 7
  | 2 => 6
  | 3 => 6
  | _ => 0

/-- Every slice in use at full current, in 1/16 of one slice's (R207). -/
def State.fullDrive (s : State) (h : Nat) (high : Bool) : Nat := 16 * s.slicesUsed h high

/-- The half-bridge is in adaptive mode (R208). -/
def State.adaptive (s : State) (h : Nat) : Bool := s.e (HB_CFG_ADAPT h) == 1 && s.feature 3

/-- The strength of an edge of a kind that starts now: full in fixed mode, (s + 1) / 16 of it at step s in adaptive mode (R207, R208). -/
def State.edgeDrive (s : State) (h kind : Nat) : Nat :=
  let high := decide (kind < 2)
  if s.adaptive h then s.slicesUsed h high * (s.f (stepF h kind) + 1) else s.fullDrive h high

/-- Both gates of a half-bridge low at full sink, whatever they were doing; the dead time of a gate that was on runs from here (R205). -/
def hbGatesLow (h : Nat) (s : State) : State :=
  let b := s.hb h
  s.setHb h { b with gh := false, gl := false, dtH := b.dtH || b.gh, dtL := b.dtL || b.gl,
                     outH := s.fullDrive h true, outL := s.fullDrive h false
                     armH := false, armL := false, softH := 0, softL := 0 }

/-- Every gate output of a group low. -/
def groupGatesLow (g : Nat) (s : State) : State := s.each (groupHbs g) hbGatesLow

/-- A diagnostic run or wait of the group ends without verdict (R243). -/
def abortDiag (g : Nat) (s : State) : State :=
  let run := s.f (OD_RES_STATE g)
  let t := if run = 2 then s.set (OD_RES_STATE g) 6 else if run = 1 then s.set (OD_RES_STATE g) 0 else s
  if t.aux.engine = some g then { t with aux := { t.aux with engine := none } } else t

/-- The group enters OFF: every gate low. -/
def groupEnterOff (g : Nat) (s : State) : State :=
  let t := abortDiag g (groupGatesLow g (s.set (BG_STAT_STATE g) 0))
  t.setGrp g { t.grp g with preDone := false, shutTicks := 0 }

/-- A commit of axis n that is not taken: the shadow edges and their feed-forward shift are what they were before, and the axis is held
(R48, R141). -/
def takeBackCommit (n : Nat) (s : State) : State :=
  let a := s.axs n
  s.when a.committed (fun t =>
    let t := a.undo.foldl (fun t p => t.setHb p.1 { t.hb p.1 with ueS := p.2.1, leS := p.2.2 }) (t.setAxs n { a with committed := false })
    a.undoDelta.foldl (fun t p => t.setVdu p.1 { t.vdu p.1 with deltaS := p.2 }) t)

/-- Set-points of axis n that were committed in this cycle never go into force: the shadow is what it was (R52). -/
def undoCommit (n : Nat) (s : State) : State :=
  s.when (s.sameEng (s.axs n).commitTb) (takeBackCommit n)

/-- A safety reaction acts on group g: it wins over a commit in the same ENG cycle (R52). -/
def reactGroup (g : Nat) (s : State) : State :=
  let t := s.setGrp g { s.grp g with reactTb := some s.tb }
  t.each ((List.range 16).filter (fun n => t.e (AX_CFG_HB_BASE n) / 6 == g)) undoCommit

/-- FIRST after a further cause: of causes in one gate-timing cycle the lowest code counts (R237). -/
def State.firstCause (s : State) (g cause : Nat) : Nat :=
  if (s.grp g).latchTb = some s.tb then min cause (s.f (SUP_LATCH_FIRST g)) else s.f (SUP_LATCH_FIRST g)

/-- A latch cause acts on a group (R237): it enters LATCHED from a state that the cause reaches, and an already LATCHED group collects
the cause. `anyState` is the lost half-bridge of R216. A comparator that was armed stays so for this cycle, in which a desaturation
still counts. -/
def latchGroup (g cause : Nat) (anyState : Bool) (s : State) : State :=
  let st := s.groupState g
  if st = 4 then (s.set (SUP_LATCH_FIRST g) (s.firstCause g cause)).setBit (SUP_LATCH_CAUSES g) (cause - 1) true
  else if st = 0 && !anyState then s
  else
    let low := (groupHbs g).foldl (fun t h =>
      let b := t.hb h
      t.setHb h { b with gh := false, gl := false, dtH := b.dtH || b.gh, dtL := b.dtL || b.gl
                         outH := t.fullDrive h true, outL := t.fullDrive h false, softH := 0, softL := 0 })
      (s.set (BG_STAT_STATE g) 4)
    let t := abortDiag g low
    let t := ((t.setB (SUP_LATCH_LATCHED g) true).set (SUP_LATCH_FIRST g) cause).setBit (SUP_LATCH_CAUSES g) (cause - 1) true
    reactGroup g (t.setGrp g { t.grp g with
      lostWait := true, preDone := false, shutTicks := 0, latchTb := some s.tb, latchWas := s.word (SUP_LATCH_A g) })

/-- Clear a group's latch (R238). -/
def clearLatch (g : Nat) (s : State) : State := groupEnterOff g (s.setWord (SUP_LATCH_A g) 0)

/-- The reactions and holds that now ask group g to be off (R202, R373, R374; R266, R497, R435, R488; a lost
bus threshold comparator, *Repair actions*). -/
def State.wantsHold (s : State) (g : Nat) : Bool :=
  s.fbit FLT_REACT_HOLD g || s.on FLT_REACT_HOLD_ALL || s.hold.lane || s.hold.present || s.hold.pll || s.hold.pg ||
    s.rep.deadBus.contains (s.f SUP_MAP_BUS_g / 4 ^ g % 4)

/-- A safety reaction holds a group off: gates low within 10 ns, STATE unchanged, HELD = 1 (R202). -/
def holdGroup (g : Nat) (s : State) : State := groupGatesLow g (s.setB (BG_STAT_HELD g) true)

/-- Put every hold now asked for into force; holds no longer asked for end at a TICK only (R373). -/
def applyHolds (s : State) : State :=
  s.each (List.range 8) (fun g t => if t.wantsHold g && !t.on (BG_STAT_HELD g) then reactGroup g (holdGroup g t) else t)

/-- In PRECHARGE, and not held, every low gate of the group is on and every high gate low (R200). -/
def prechargeGates (g : Nat) (s : State) : State :=
  s.when (s.groupState g == 2 && !s.on (BG_STAT_HELD g)) (fun t =>
    (groupHbs g).foldl (fun t h => t.setHb h { t.hb h with gl := true, gh := false, outL := t.edgeDrive h 2 }) t)

/-- At a TICK a hold that nothing asks for ends (R138, R373); a group in PRECHARGE drives its low gates again. -/
def releaseHolds (s : State) : State :=
  s.each (List.range 8) (fun g t =>
    if t.wantsHold g then holdGroup g t
    else if t.on (BG_STAT_HELD g) then prechargeGates g (t.setB (BG_STAT_HELD g) false)
    else t)

/-- TQOFF_A and TQOFF_B open (R221). -/
def openTq (s : State) : State := (s.set AUX_STAT_TQ_CMD 0).set AUX_STAT_TQ_RB 0

/-- AUX_2 to AUX_7 inactive at once (R266, R373, R375); a duty in the shadow never goes into force (R222). -/
def auxInactive (s : State) : State :=
  let t := (s.set AUX_STAT_RET_ACT 0).set AUX_STAT_PK_ON 0
  let t := (t.set (PK_STAT_DUTY 0) 0).set (PK_STAT_DUTY 1) 0
  { t with aux := { t.aux with dutyF := [0, 0], dutyS := [0, 0], retDuty := 0, retDutyS := 0, reactTb := some s.tb } }

/-! ### Request lines and gates -/

/-- The high gate's on command is allowed: bootstrap not blocked, group driving, not held. -/
def State.gateFree (s : State) (h : Nat) : Bool :=
  s.groupState (h / 6) == 3 && !s.on (BG_STAT_HELD (h / 6))

/-- One pass of the request lines through *Shoot-through lockout* and dead time (R205, R206, R213), each edge at the strength in force
when it starts (R208); the request lines of a LATCHED
group are ignored (R235). -/
def gateStep (h : Nat) (s : State) : State :=
  if s.groupState (h / 6) = 4 then s else
  let b := s.hb h
  let b := if b.gh && !(b.hiReq && !b.loReq) then { b with gh := false, dtH := true, armH := false, outH := s.edgeDrive h 1 } else b
  let b := if b.gl && !(b.loReq && !b.hiReq) then { b with gl := false, dtL := true, armL := false, outL := s.edgeDrive h 3 } else b
  if !s.gateFree h || s.on (HB_STAT_LOCKOUT h) then s.setHb h b
  else if b.hiReq && !b.loReq && !b.gh && !b.dtL && !s.on (HB_STAT_BOOT_BLOCK h) && !b.blkHi then
    s.setHb h { b with gh := true, armH := false, outH := s.edgeDrive h 0 }
  else if b.loReq && !b.hiReq && !b.gl && !b.dtH then
    s.setHb h { b with gl := true, armL := false, outL := s.edgeDrive h 2 }
  else s.setHb h b

/-- A half-bridge command: 0 OFF, 1 LOW, 2 HIGH (R199). A HIGH command that met the bootstrap block leaves both gates off, also when
the block has ended: the next one turns the high side on (R213). -/
def driveHb (h cmd : Nat) (s : State) : State :=
  let b := s.hb h
  gateStep h (s.setHb h { b with hiReq := cmd == 2, loReq := cmd == 1
                                 blkHi := cmd == 2 && (b.blkHi || s.on (HB_STAT_BOOT_BLOCK h)) })

/-- SHOOT_THROUGH_LOCKOUT (R206): both request lines are sampled asserted; those of a LATCHED group are ignored (R235). -/
def shootThrough (h : Nat) (s : State) : State :=
  if s.groupState (h / 6) = 4 then s else
  let b := s.hb h
  let t := s.setHb h { b with hiReq := true, loReq := true, gh := false, gl := false, dtH := true, dtL := true
                              outH := if b.gh then s.edgeDrive h 1 else b.outH, outL := if b.gl then s.edgeDrive h 3 else b.outL
                              armH := false, armL := false }
  if s.on (HB_STAT_LOCKOUT h) then t
  else ((t.setB (HB_STAT_LOCKOUT h) true).inc (HB_CNT_SHOOT h)).raiseU (hbSrc h 3)

/-- DEAD_TIME_EXPIRY (R205, R206): DT has passed since the on command of a gate ended, or, in a lockout whose lines
have left 1 1, since it began; dead time then counts anew from its end. -/
def deadTimeEnd (h : Nat) (high : Bool) (s : State) : State :=
  if s.on (HB_STAT_LOCKOUT h) then
    let off := s.on (HB_LOOP_OFF h)
    let sw := s.on (HB_LOOP_SW h)
    (s.setB (HB_STAT_LOCKOUT h) false).setHb h
      { s.hb h with hiReq := !off && sw, loReq := !off && !sw, dtH := true, dtL := true }
  else
    gateStep h (s.setHb h (if high then { s.hb h with dtH := false } else { s.hb h with dtL := false }))

def measF (h kind : Nat) : Fld :=
  match kind with
  | 0 => HB_MEAS_T_HS_ON h
  | 1 => HB_MEAS_T_HS_OFF h
  | 2 => HB_MEAS_T_LS_ON h
  | _ => HB_MEAS_T_LS_OFF h

/-- The bus of a bridge group (R225). -/
def State.busOf (s : State) (g : Nat) : Nat := s.f SUP_MAP_BUS_g / 4 ^ g % 4

/-- The voltage of bus k from its snapshot value, in mV × 2^23 (R225). -/
def State.uBus23 (s : State) (k : Nat) : Nat := (max (s.fI (CH_VAL_VALUE (48 + k))) 0).toNat * (1000 * s.f (SUP_BCFG_BUS_FS k))

/-- Where a switch-node voltage of `v` mV lies against 10 % and 90 % of a bus voltage of `u` (mV × 2^23): 0 below both, 2 above
both. -/
def zone (u v : Nat) : Nat := if v * 2 ^ 23 * 10 ≤ u then 0 else if 9 * u ≤ v * 2 ^ 23 * 10 then 2 else 1

/-- The edge among samples of the switch node: the sample of the first crossing and, where the second follows within 1,000 ns, the
time between them, in 1.25 ns (R209). -/
def nodeEdge (u : Nat) (node : List Nat) : Option (Nat × Option Nat) :=
  let z := node.map (zone u)
  match z with
  | [] => none
  | 1 :: _ => none
  | z0 :: _ =>
    match z.findIdx? (fun x => x != z0) with
    | none => none
    | some i => some (i, match (z.drop i).findIdx? (fun x => x == 2 - z0) with
      | some d => if d ≤ 800 then some d else none
      | none => none)

/-- The kind that an edge is attributed to (R209): the first crossing came `i` samples after the on command of the gate (`high`) has
ended. Within the dead time it is that gate's turn-off, within 1,000 ns after it the turn-on of the other gate. -/
def edgeKind (dt : Nat) (high : Bool) (i : Nat) : Option Nat :=
  if i ≤ dt then some (if high then 1 else 3) else if i ≤ dt + 800 then some (if high then 2 else 0) else none

/-- A measured edge of `t` units of 1.25 ns updates its kind's step (R210, R212). -/
def stepUpdate (h kind t : Nat) (s : State) : State :=
  let s := s.set (measF h kind) (satU 8 (t / 4))
  if !s.adaptive h then s
  else
    let tgt := 4 * s.e (HB_TGT_T_TGT h)
    let tol := 4 * s.e (HB_TGT_TOL h)
    let long := tgt + tol < 5 * t
    let short := 5 * t + tol < tgt
    let step := s.f (stepF h kind)
    let step' := if long then (if step < 15 then step + 1 else 15) else if short then step - 1 else step
    let s := s.set (stepF h kind) step'
    let b := s.hb h
    let run := b.lim.getD kind 0
    let lim := (step' = 15 ∧ long) ∨ (step' = 0 ∧ short)
    let run' := if lim then satU 9 (run + 1) else 0
    let s := s.setHb h { b with lim := listSet b.lim kind run' }
    if run' = 256 ∧ run ≠ 256 then (s.inc (HB_CNT_ADP_LIM h)).raiseU (0x09F + 0x20 * (h / 6)) else s

/-- EDGE_MEASURED (R209, R210): `node` samples the switch node, in mV, on the gate timing clock from the end of the on command of
the gate (`high`). An attributed edge without a second crossing within 1,000 ns is a miss; nothing is measured while the bus channel
is invalid or stale. -/
def edgeMeasured (h : Nat) (high : Bool) (node : List Nat) (s : State) : State :=
  let bus := s.busOf (h / 6)
  if s.on (CH_STAT_INVALID (48 + bus)) || (s.inp (48 + bus)).stale then s
  else
    match nodeEdge (s.uBus23 bus) node with
    | none => s
    | some (i, d) =>
      match edgeKind (s.f (HB_CFG_DT h)) high i, d with
      | none, _ => s
      | some _, none => s.inc (HB_CNT_ADP_MISS h)
      | some kind, some t => stepUpdate h kind t s

/-! ### Group life cycle -/

/-- BOOT_UV_END (R213); bootstraps are monitored in PRECHARGE and ENABLED. -/
def bootUvEnd (h v : Nat) (s : State) : State :=
  s.when (s.groupState (h / 6) == 2 || s.groupState (h / 6) == 3) (fun s =>
    ((s.setB (HB_STAT_BOOT_BLOCK h) false).setB (HB_STAT_BOOT_OK h) true).set (HB_STAT_BOOT_V h) v)

/-- PRECHARGE_END (R200): BOOT_PRE has elapsed; ENABLED follows at the next TICK. -/
def prechargeEnd (g : Nat) (s : State) : State :=
  if s.groupState g = 2 then s.setGrp g { s.grp g with preDone := true } else s

/-- SHUTDOWN was entered 20 ms ago (R203). -/
def State.shutOver (s : State) (g : Nat) : Bool := s.groupState g == 5 && decide (20000000 ≤ (s.grp g).shutTicks * s.tNs)

/-- GROUP_SHUTDOWN_TIMEOUT (R203). -/
def groupShutdownTmo (g : Nat) (s : State) : State := s.when (s.shutOver g) (groupEnterOff g)

/-- GD_EN_FALL (R201, R236). -/
def gdEnFall (g : Nat) (s : State) : State :=
  let t := groupGatesLow g (s.setB (BG_STAT_GD_EN g) false)
  if t.groupState g = 4 then t else groupEnterOff g t

/-- Some cause collected in SUP_LATCH_g still acts (R238): the bus of a HOV cause stands above U_CH_ON, or the gate supply of a GSUP
cause is outside its window. -/
def causePersists (s : State) (g : Nat) : Bool :=
  (s.fbit (SUP_LATCH_CAUSES g) 1 && (bitOf s.aux.hovEp (s.busOf g) || bitOf s.aux.chopAbove (s.busOf g))) ||
  (s.fbit (SUP_LATCH_CAUSES g) 2 && (s.fbit SUP_GSTAT_UV (g / 2) || s.fbit SUP_GSTAT_OV (g / 2)))

/-- GD_EN_RISE (R201, R238): `long` says that the low pulse lasted at least 10 µs. -/
def gdEnRise (g : Nat) (long : Bool) (s : State) : State :=
  let t := s.setB (BG_STAT_GD_EN g) true
  if t.groupState g ≠ 4 then t
  else if !long then t.inc SUP_CNT_CLR_SHORT
  else if !t.on (SUP_LATCH_ARMED g) then (t.inc SUP_CNT_CLR_REF).raise 0x1B0 1
  else if causePersists t g then (t.inc SUP_CNT_CLR_REF).raise 0x1B0 2
  else clearLatch g t

/-- Six groups of pads: gate pad group g is released (R427, R428). -/
def State.padsReleased (s : State) (g : Nat) : Bool := !s.fbit PWR_PAD_HELD g

/-- A group may start from OFF (R200, R476): GD_EN_g high, pads released, NO_ENABLE 0, FAST_OK, no COMMIT in
progress that judges outputs off (R466), and no run of start-up that ended in FAIL (R478). -/
def State.groupMayStart (s : State) (g : Nat) : Bool :=
  s.on (BG_STAT_GD_EN g) && s.padsReleased g && !s.on (BG_STAT_NO_ENABLE g) && s.on BIST_STAT_FAST_OK &&
  !s.hp.commitHold && !s.su.failed.contains g

/-- Every enabled phase channel of the group reads less than 2 % of full scale (R203). -/
def State.groupQuiet (s : State) (g : Nat) : Bool :=
  (groupHbs g).all (fun h => !s.on (CH_CFG_EN h) || decide ((s.fI (CH_VAL_VALUE h)).natAbs < 167772))

/-- Entry to ENABLED: every step is AD_INIT (R211). -/
def setInitSteps (h : Nat) (s : State) : State :=
  let v := s.e (HB_STEP_AD_INIT h)
  let t := (((s.set (HB_STEP_HS_ON h) v).set (HB_STEP_HS_OFF h) v).set (HB_STEP_LS_ON h) v).set (HB_STEP_LS_OFF h) v
  t.setHb h { t.hb h with lim := [0, 0, 0, 0] }

/-- The group starts: DIAG, waiting for the diagnostic engine (R200, R241). -/
def groupStart (g : Nat) (s : State) : State :=
  (((groupGatesLow g s).set (BG_STAT_STATE g) 1).set (OD_RES_STATE g) 1).setB (PG_STAT_PENDING_EN (0x020 + g)) false

/-- What a TICK does to one bridge group (R200, R203, R204). -/
def groupTick (g : Nat) (s : State) : State :=
  let pg := 0x020 + g
  let en := s.on (PG_CTL_EN pg)
  match s.groupState g with
  | 0 =>
    if s.on (PG_STAT_PENDING_EN pg) then
      if en && s.groupMayStart g then groupStart g s
      else if s.hp.commitHold && en then s
      else (s.setB (PG_CTL_EN pg) false).setB (PG_STAT_PENDING_EN pg) false
    else if en && s.groupMayStart g then groupStart g s
    else s
  | 4 => s
  | 5 =>
    let t := s.setGrp g { s.grp g with shutTicks := (s.grp g).shutTicks + 1 }
    if t.groupQuiet g || t.shutOver g then groupEnterOff g t else t
  | st =>
    if !en then
      let t := abortDiag g (groupGatesLow g (s.set (BG_STAT_STATE g) 5))
      t.setGrp g { t.grp g with shutTicks := 0 }
    else if st = 2 ∧ (s.grp g).preDone then
      let t := groupGatesLow g (s.set (BG_STAT_STATE g) 3)
      (t.setGrp g { t.grp g with preDone := false }).each (groupHbs g) setInitSteps
    else s

/-! ### Driver slices (R216) -/

/-- At a TICK the gate array disconnects the slices the self-test found failed: the status code moves from 0 to 2,
from 1 to 3, and from 2 or 3 to 4 (lost half-bridge, group LATCHED with cause LOST); a spare that fails before it joins leaves six
slices. -/
def sliceTick (h : Nat) (high : Bool) (s : State) : State :=
  let b := s.hb h
  let pend := if high then b.pendH else b.pendL
  let fld := if high then HB_STAT_SLICE_H h else HB_STAT_SLICE_L h
  if pend = [] then s
  else
    let s := s.setHb h (if high then { b with pendH := [], failH := b.failH ++ pend }
                        else { b with pendL := [], failL := b.failL ++ pend })
    pend.foldl (fun t sl =>
      let c := t.f fld
      let o := 2 * h + b2n high
      let spent := t.rep.map.any (fun e => fieldGet e.1 24 4 == 4 && fieldGet e.1 12 12 == 8 * o + 7)
      if c = 0 then t.set fld (if spent then 3 else 2)
      else if c = 1 ∨ (c = 2 ∧ sl = 7) then t.set fld 3
      else
        let t := (t.set fld 4).setBit (BG_STAT_LOST (h / 6)) (h % 6) true
        latchGroup (h / 6) 4 true (hbGatesLow h (t.setB (BG_STAT_NO_ENABLE (h / 6)) true))) s

/-! ### Auxiliary outputs -/

/-- AUX_RB (R219): a read-back mismatch; one event for each episode, which the row reports anew in every tick it lasts
(log entry 15). -/
def auxRb (x : Nat) (s : State) : State :=
  let old := bitOf s.aux.rbEp x || bitOf s.aux.rbNew x
  let t := { s with aux := { s.aux with rbNew := withBit s.aux.rbNew x true } }
  if old then t else (t.inc AUX_CNT_AUX_RB).raiseU (0x180 + x)

/-- TQOFF_RB (R221): the switch reads back the opposite of its command for 100 µs; one event for each episode. -/
def tqRb (x : Nat) (s : State) : State :=
  let old := bitOf s.aux.tqRbEp x || bitOf s.aux.tqNew x
  let t := s.setBit AUX_STAT_TQ_RB x (!s.fbit AUX_STAT_TQ_CMD x)
  let t := { t with aux := { t.aux with tqNew := withBit t.aux.tqNew x true } }
  if old then t else (t.inc AUX_CNT_TQ_RB).raiseU (0x18A + x)

/-- At a TICK the read-back episodes that no row has reported since the last one have ended. -/
def rbTick (s : State) : State :=
  let t := { s with aux := { s.aux with rbEp := s.aux.rbNew, rbNew := 0, tqRbEp := s.aux.tqNew, tqNew := 0 } }
  if s.aux.tqNew = 0 then t.set AUX_STAT_TQ_RB (t.f AUX_STAT_TQ_CMD) else t

/-- AUX_FLT_ASSERT (R163, R218): a stage in RET_STAGES is inactive within 1 µs, and out of the stages from the next TICK. The return
of another stage is ignored, but is still asserted when RET_STAGES comes to name its stage. -/
def auxFlt (k : Nat) (s : State) : State :=
  let t := { s with aux := { s.aux with fltPin := withBit s.aux.fltPin k true } }
  t.when (bitOf (s.e BLD_CFG_RET_STAGES) k) (fun t =>
    let t := (((t.setBit AUX_STAT_FLT_RET k true).inc AUX_CNT_FLT_RET).setBit AUX_STAT_RET_ACT k false).raise 0x3A2 k
    { t with aux := { t.aux with retOut := withBit t.aux.retOut k true } })

/-- At TICK the stages whose return is or has been asserted are out of the usable ones, until LRST (R163). -/
def retTick (s : State) : State :=
  let m := Nat.land s.aux.fltPin (s.e BLD_CFG_RET_STAGES)
  let out := Nat.lor s.aux.retOut m
  { s.set AUX_STAT_FLT_RET m with aux := { s.aux with retOut := out, retOff := out } }

/-- PARK_I (R220): |e| above 20 % of its target, or the sense channel invalid, in every tick of 20 ms. -/
def parkI (k : Nat) (s : State) : State :=
  if s.msTicks 20 ≤ s.aux.parkBad.getD k 0 ∧ !bitOf s.aux.parkEp k then
    let t := { s with aux := { s.aux with parkEp := withBit s.aux.parkEp k true } }
    (t.inc AUX_CNT_PARK_I).raiseU (0x188 + k)
  else s

/-! ### The commands -/

/-- SHOOT_THROUGH_LOCKOUT (R206). -/
def execShootThroughLockout (h : Fin 48) (s : State) : Res := s.runIn 6 (shootThrough h)

/-- DEAD_TIME_EXPIRY (R205). -/
def execDeadTimeExpiry (h : Fin 48) (high : Bool) (s : State) : Res := s.runIn 6 (deadTimeEnd h high)

/-- EDGE_MEASURED (R210). -/
def execEdgeMeasured (h : Fin 48) (high : Bool) (node : List Nat) (s : State) : Res :=
  s.runIn 6 (edgeMeasured h high node)

/-- BOOT_UV_END (R213). -/
def execBootUvEnd (h : Fin 48) (v : BitVec 8) (s : State) : Res := s.runIn 6 (bootUvEnd h v.toNat)

/-- PRECHARGE_END (R200). -/
def execPrechargeEnd (g : Fin 8) (s : State) : Res := s.runIn 6 (prechargeEnd g)

/-- GROUP_SHUTDOWN_TIMEOUT (R203). -/
def execGroupShutdownTimeout (g : Fin 8) (s : State) : Res := s.runIn 6 (groupShutdownTmo g)

/-- GD_EN_FALL (R201). -/
def execGdEnFall (g : Fin 8) (s : State) : Res := s.runIn 6 (gdEnFall g)

/-- GD_EN_RISE (R238). -/
def execGdEnRise (g : Fin 8) (long : Bool) (s : State) : Res := s.runIn 6 (gdEnRise g long)

/-- AUX_FLT_ASSERT (R218). -/
def execAuxFltAssert (k : Fin 4) (s : State) : Res := s.runIn 6 (auxFlt k)

/-- AUX_RB (R219). -/
def execAuxRb (x : Fin 8) (s : State) : Res := s.runIn 6 (auxRb x)

/-- TQOFF_RB (R221). -/
def execTqoffRb (x : Fin 2) (s : State) : Res := s.runIn 6 (tqRb x)

/-- PARK_I (R220). -/
def execParkI (k : Fin 2) (s : State) : Res := s.runIn 6 (parkI k)

end Sys2Proof.Machine
end

