-- ==== Sys2Proof/Machine/Vdu.lean ====
section
/-!
DEFINITION. The vector-hysteresis current loops (R121-R148): band edges, window states, the decision table and its
precedence, refresh, the band servo and the states of a vector decision unit.
-/
namespace Sys2Proof.Machine

/-- A phase demand: 0 INSIDE, 1 BELOW (+), 2 ABOVE (-), coded as HB_LOOP.FILT. -/
abbrev Demand := Nat

/-- *Vector decision table* (R131): the new vector a b c as three bits, K keeping the present bit, none for hold. -/
def vectorTable (v : Nat) (a b c : Demand) : Option Nat :=
  let ka := v / 4 % 2
  let kb := v / 2 % 2
  let kc := v % 2
  match a, b, c with
  | 0, 0, 0 => none
  | 1, 0, 0 => some 4
  | 2, 0, 0 => some 3
  | 0, 1, 0 => some 2
  | 0, 2, 0 => some 5
  | 0, 0, 1 => some 1
  | 0, 0, 2 => some 6
  | 1, 2, 0 => some (4 + kc)
  | 2, 1, 0 => some (2 + kc)
  | 1, 0, 2 => some (4 + 2 * kb)
  | 2, 0, 1 => some (1 + 2 * kb)
  | 0, 1, 2 => some (2 + 4 * ka)
  | 0, 2, 1 => some (1 + 4 * ka)
  | 1, 1, 2 => some 6
  | 1, 2, 1 => some 5
  | 2, 1, 1 => some 3
  | 2, 2, 1 => some 1
  | 2, 1, 2 => some 2
  | 1, 2, 2 => some 4
  | 1, 1, 0 => some 6
  | 1, 0, 1 => some 5
  | 0, 1, 1 => some 3
  | 2, 2, 0 => some 1
  | 2, 0, 2 => some 2
  | 0, 2, 2 => some 4
  | _, _, _ => none

/-- The rows of *Vector decision table* marked implausible. -/
def implausible (a b c : Demand) : Bool :=
  match a, b, c with
  | 1, 1, 0 => true
  | 1, 0, 1 => true
  | 0, 1, 1 => true
  | 2, 2, 0 => true
  | 2, 0, 2 => true
  | 0, 2, 2 => true
  | 1, 1, 1 => true
  | 2, 2, 2 => true
  | _, _, _ => false

/-- The axis that uses unit u (R121): an axis not OFF whose half-bridges include the unit's. -/
def State.unitAxis (s : State) (u : Nat) : Option Nat :=
  (List.range 16).find? (fun n =>
    s.f (AX_STAT_STATE n) != 0 &&
    (s.e (AX_CFG_HB_BASE n) / 3 == u || (s.eOn (AX_CFG_SIX n) && s.e (AX_CFG_HB_BASE n) / 3 + 1 == u)))

/-- The legs the unit drives: all three in VECTOR mode, those of LEGS in TWO_LEVEL mode (R113, R132). -/
def State.unitLegs (s : State) (u : Nat) : Nat :=
  if s.f (VDU_STAT_MODE u) = 2 then s.e (AX_PAR_PAR (s.f (VDU_STAT_AXIS u)) 2) % 8 else 7

/-- Leg i of the unit is bit 2 - i of a vector and half-bridge 3u + i; LEGS numbers legs from bit 0. -/
def legOn (legs i : Nat) : Bool := bitOf legs i

/-- The present vector of a unit (VDU_STAT.VEC). -/
def State.vec (s : State) (u : Nat) : Nat := s.f (VDU_STAT_VEC u)

/-- Rank 1 of *Decision precedence*: the group disabled, latched off or held (R133, R138). -/
def State.rank1 (s : State) (u : Nat) : Bool := s.groupState (u / 2) != 3 || s.on (BG_STAT_HELD (u / 2))

/-- The unit turns its set OFF: every half-bridge OFF. -/
def setOff (u : Nat) (s : State) : State :=
  let t := s.each [3 * u, 3 * u + 1, 3 * u + 2] (fun h t =>
    driveHb h 0 (t.setHb h { t.hb h with minRun := false } |>.setB (HB_LOOP_OFF h) true))
  t.setVdu u { t.vdu u with offSeen := true, wait := 0, saved := none }

/-- Put one leg at a level; a change between HIGH and LOW restarts its minimum-pulse timer and counts in TRANS
(R134); `count` is false for a change that a refresh causes (R140). -/
def driveLeg (u i : Nat) (high count : Bool) (s : State) : State :=
  let h := 3 * u + i
  let changed := s.on (HB_LOOP_OFF h) || s.on (HB_LOOP_SW h) != high
  let swap := !s.on (HB_LOOP_OFF h) && s.on (HB_LOOP_SW h) != high
  let t := (s.setB (HB_LOOP_OFF h) false).setB (HB_LOOP_SW h) high
  let t := if swap then t.incWrap (HB_LOOP_TRANS h) else t
  let t := if swap && count then t.setVdu u { t.vdu u with trans := (t.vdu u).trans + 1 } else t
  let t := if changed then t.setHb h { t.hb h with minRun := true } else t
  driveHb h (if high then 2 else 1) t

/-- Apply a vector on the unit's legs. -/
def applyVec (u v : Nat) (count : Bool) (s : State) : State :=
  let legs := s.unitLegs u
  let t := s.each [0, 1, 2] (fun i t => if legOn legs i then driveLeg u i (bitOf v (2 - i)) count t else t)
  t.set (VDU_STAT_VEC u) v

/-- Some bit that moving to `v` would change has been stable for less than MIN_PULSE (rank 4, R134). The precedence concerns the vector
of the set also in TWO_LEVEL mode: a leg within its MIN_PULSE, or a leg's refresh, holds the changes of the other legs too (DESIGN
CHOICE, log entry 118). -/
def State.tooShort (s : State) (u v : Nat) : Bool :=
  [0, 1, 2].any (fun i =>
    legOn (s.unitLegs u) i && bitOf v (2 - i) != bitOf (s.vec u) (2 - i) && (s.hb (3 * u + i)).minRun)

/-- The vector that the windows ask for: *Vector decision table* or, in TWO_LEVEL mode, each leg alone (R132). -/
def State.wanted (s : State) (u : Nat) : Nat :=
  let d := fun i => s.f (HB_LOOP_FILT (3 * u + i))
  if s.f (VDU_STAT_MODE u) = 2 then
    [0, 1, 2].foldl (fun v i =>
      if d i = 1 then withBit v (2 - i) true else if d i = 2 then withBit v (2 - i) false else v) (s.vec u)
  else (vectorTable (s.vec u) (d 0) (d 1) (d 2)).getD (s.vec u)

/-- The refresh vector (R136): V0 in VECTOR mode; only the requesting legs LOW in TWO_LEVEL mode. -/
def State.refreshVec (s : State) (u : Nat) : Nat :=
  if s.f (VDU_STAT_MODE u) = 2 then
    [0, 1, 2].foldl (fun v i => if bitOf (s.vdu u).wait i then withBit v (2 - i) false else v) (s.vec u)
  else 0

/-- One decision of the unit (R133): the first rank of *Decision precedence* that holds. -/
def decide_ (u : Nat) (s : State) : State :=
  if s.f (VDU_STAT_STATE u) ≠ 1 then s
  else if s.rank1 u then (setOff u s).set (VDU_STAT_STATE u) 3
  else if (s.vdu u).saved.isSome && (s.vdu u).savedOff = 0 then s
  else if (s.vdu u).saved.isSome then
    -- the refresh width is over: back to the vector held before, under rank 4
    let v := (s.vdu u).saved.getD 0
    if s.tooShort u v then s
    else
      let t := applyVec u v false s
      t.setVdu u { t.vdu u with saved := none, savedOff := 0 }
  else if (s.vdu u).wait ≠ 0 then
    let v := s.refreshVec u
    if s.tooShort u v then s
    else
      let old := s.vec u
      let t := (applyVec u v false s).inc (VDU_CNT_A_REFRESH u)
      t.setVdu u { t.vdu u with saved := some old, savedOff := 0, wait := 0, refSeen := true }
  else
    let v := s.wanted u
    if v = s.vec u then s else if s.tooShort u v then s else applyVec u v true s

/-- Every unit in REGULATE decides in each of `k` timebase periods (R130). -/
def decideAll (k : Nat) (s : State) : State :=
  match k with
  | 0 => s
  | k + 1 => decideAll k (s.each (List.range 16) decide_)

/-- What at least two of the last three samples say (R129, R227). -/
def two3 (a b c : Bool) : Bool := (a && b) || (b && c) || (a && c)

/-- The filtered comparator at DAC code `d` over the last three samples of the sense path, in raw LSB: above, or below (R129). -/
def aboveEdge (d x y z : Int) : Bool := two3 (decide (16 * d < x)) (decide (16 * d < y)) (decide (16 * d < z))
def belowEdge (d x y z : Int) : Bool := two3 (decide (x < 16 * d)) (decide (y < 16 * d)) (decide (z < 16 * d))

/-- The filtered comparators of window h now read `above` and `below` (R129, R131). Both true count as INSIDE, in IMPL. -/
def windowChange (h : Nat) (above below : Bool) (s : State) : State :=
  let u := h / 3
  let code := if above && below then 0 else if below then 1 else if above then 2 else 0
  let t := (s.setHb h { s.hb h with above := above, below := below }).set (HB_LOOP_FILT h) code
  let t := if above && below then t.inc (VDU_CNT_A_IMPL u) else t
  let old := t.f (VDU_STAT_PATTERN u)
  let d := fun i => t.f (HB_LOOP_FILT (3 * u + i))
  let new := 16 * d 0 + 4 * d 1 + d 2
  let t := t.set (VDU_STAT_PATTERN u) new
  let t := if new ≠ old && t.f (VDU_STAT_MODE u) == 1 && implausible (d 0) (d 1) (d 2) then
      t.inc (VDU_CNT_A_IMPL u) else t
  decide_ u t

/-- WINDOW_STATE_CHANGE (R129): the last three samples of phase current h, in raw LSB, against the edges in force. -/
def windowSample (h : Nat) (x y z : Int) (s : State) : State :=
  windowChange h (aboveEdge (s.fI (HB_WIN_UE h)) x y z) (belowEdge (s.fI (HB_WIN_LE h)) x y z) s

/-- MIN_PULSE_EXPIRY (R134). -/
def minPulseEnd (h : Nat) (s : State) : State :=
  decide_ (h / 3) (s.setHb h { s.hb h with minRun := false })

/-- HELD_OFF (R138): where a rank-1 condition holds, the unit in REGULATE turns its set OFF and enters HELD_OFF; a
refresh request still waiting is dropped (R215). -/
def heldOff (u : Nat) (s : State) : State :=
  if s.f (VDU_STAT_STATE u) = 1 ∧ s.rank1 u then (setOff u s).set (VDU_STAT_STATE u) 3 else s

/-- A refresh request reaches the unit (R136, R215): only while the group is ENABLED and the unit in REGULATE. -/
def requestRefresh (h : Nat) (s : State) : State :=
  let u := h / 3
  if s.f (VDU_STAT_STATE u) = 1 ∧ s.groupState (h / 6) = 3 then
    decide_ u (s.setVdu u { s.vdu u with wait := withBit (s.vdu u).wait (h % 3) true })
  else s

/-- Half-bridge h is HIGH (R125). -/
def State.isHigh (s : State) (h : Nat) : Bool := s.on (HB_LOOP_SW h) && !s.on (HB_LOOP_OFF h)

/-- REFRESH_REQUEST (R214): HIGH for too long under the half-bridge's bootstrap mode; NONE never asks. -/
def refreshRequest (h : Nat) (s : State) : State :=
  if s.f (HB_CFG_BOOT_MODE h) = 2 || !s.isHigh h then s else requestRefresh h s

/-- REFRESH_END (R136): the refresh width has passed. -/
def refreshEnd (u : Nat) (s : State) : State :=
  if (s.vdu u).saved.isSome then decide_ u (s.setVdu u { s.vdu u with savedOff := 1 }) else s

/-- BOOT_UV (R213, R214): the high gate goes low, the high side is blocked, and a refresh is asked for. -/
def bootUv (h v : Nat) (s : State) : State :=
  let g := h / 6
  if (s.groupState g = 2 ∨ s.groupState g = 3) ∧ !s.on (HB_STAT_BOOT_BLOCK h) then
    let t := ((s.setB (HB_STAT_BOOT_BLOCK h) true).setB (HB_STAT_BOOT_OK h) false).set (HB_STAT_BOOT_V h) v
    let b := t.hb h
    let t := t.setHb h { b with gh := false, dtH := b.dtH || b.gh, outH := if b.gh then t.fullDrive h true else b.outH, armH := false, blkHi := b.hiReq }
    if s.groupState g = 3 then
      let t := (t.inc (HB_CNT_BOOT_UV h)).raiseU (hbSrc h 2)
      if t.f (HB_CFG_BOOT_MODE h) = 2 then t else requestRefresh h t
    else t
  else s

/-! ### Band edges and the servo -/

/-- `a / b` rounded to the nearest, ties up; `b > 0` (R126, R227). -/
def roundDiv (a b : Int) : Int := (2 * a + b).fdiv (2 * b)

/-- The two DAC codes of a phase and whether either saturated (R126). -/
def edges (offset iPu gain h delta : Int) : Int × Int × Bool :=
  let c := offset + roundDiv (iPu * 2 ^ 14) gain
  let hd := max (h - delta) 16
  let ueR := (c + hd + 8).fdiv 16
  let leR := (c - hd + 8).fdiv 16
  let ue := clampI (-2048) 2047 ueR
  let le := clampI (-2048) 2047 leR
  if ue - le < 2 then
    if ue = 2047 then (ue, 2045, true) else (le + 2, le, true)
  else (ue, le, ue != ueR || le != leR)

/-- The feed-forward shift of unit u for its axis's full-scale current (R141, R142). -/
def State.feedForward (s : State) (u fsI : Nat) (gain : Int) : Nat :=
  let ch := 48 + s.busOf (u / 2)
  if !s.eOn (VDU_FF_FF_EN u) || s.on (CH_STAT_INVALID ch) || (s.inp ch).stale || decide (s.e (VDU_L_L_UH u) = 0 ∨ fsI = 0 ∨ gain ≤ 0) then 0
  else
    -- d_amp = k * vbus * t_dly / l with vbus = bus_pu * bus_fs / 2^23 V, t in ns, l in uH: A = V * ns / (1000 uH)
    let busPu := max (s.fI (CH_VAL_VALUE ch)) 0
    let two := match s.unitAxis u with
      | some n => s.e (AX_CFG_STRUCT n) == 5
      | none => s.f (VDU_STAT_MODE u) == 2
    let kN : Int := if two then 3 else 2
    let num := kN * busPu * s.e (VDU_FF_BUS_FS u) * s.e (VDU_FF_T_DLY u) * 2 ^ 14
    let den : Int := 3 * 1000 * s.e (VDU_L_L_UH u) * fsI * gain
    (clampI 0 32767 (roundDiv num den)).toNat

/-- Translation hardware (R126): the edges of one phase set-point into the shadow of half-bridge h. -/
def edgeShadow (h : Nat) (iPu : Int) (s : State) : State :=
  let u := h / 3
  let gain := s.eI (CH_GAIN_GAIN h)
  let r := edges (s.eI (CH_OFFSET_OFFSET h)) iPu (if gain ≤ 0 then 1 else gain) (s.f (VDU_H_H u)) (s.vdu u).deltaS
  let t := s.setHb h { s.hb h with ueS := ofSigned 12 r.1, leS := ofSigned 12 r.2.1 }
  if r.2.2 then t.setVdu u { t.vdu u with satS := true } else t

/-- The edges of one set of an axis, phases in order (R121, R126, R141), from its phase set-points. -/
def setEdges (u fsI : Nat) (sp : List Int) (s : State) : State :=
  let gain := s.eI (CH_GAIN_GAIN (3 * u))
  let s := s.setVdu u { s.vdu u with deltaS := s.feedForward u fsI gain, satS := false }
  let t := s.each [0, 1, 2] (fun i t => edgeShadow (3 * u + i) (sp.getD i 0) t)
  if (t.vdu u).satS then t.inc (VDU_CNT_B_EDGE_SAT u) else t

/-- The edges of an axis's set or sets. -/
def axisEdges (n : Nat) (sp : List Int) (s : State) : State :=
  let u := s.e (AX_CFG_HB_BASE n) / 3
  let fsI := s.e (AX_IMAX_FS_I n)
  let t := setEdges u fsI sp s
  if s.eOn (AX_CFG_SIX n) then setEdges (u + 1) fsI (sp.drop 3) t else t

/-- At TICK the DACs of a half-bridge take the shadow (R127). -/
def loadEdges (h : Nat) (s : State) : State :=
  (s.set (HB_WIN_UE h) (s.hb h).ueS).set (HB_WIN_LE h) (s.hb h).leS

/-- The new half-width of the band servo (R139), from n transitions over w ticks of m half-bridges. -/
def servoH (h n m w tNs fTgtHz kb hMin hMax : Nat) : Nat :=
  let num : Int := n * 1000000000
  let den : Int := 2 * m * w * tNs
  let x := roundDiv ((h : Int) * ((65536 - (kb : Int)) * den * fTgtHz + kb * num)) (65536 * den * fTgtHz)
  (clampI hMin hMax x).toNat

/-- Regulated half-bridges of the unit (R139). -/
def State.regLegs (s : State) (u : Nat) : Nat := popCount 3 (s.unitLegs u)

/-- The legs of a TWO_LEVEL unit in REGULATE follow LEGS (R113, R132): a leg no longer enabled is OFF; one enabled anew begins LOW, as
at entry (DEDUCED, log entry 104). -/
def legsTick (u : Nat) (s : State) : State :=
  if s.f (VDU_STAT_MODE u) ≠ 2 then s
  else s.each [0, 1, 2] (fun i t =>
    let h := 3 * u + i
    let low := fun (t : State) => t.set (VDU_STAT_VEC u) (withBit (t.vec u) (2 - i) false)
    if legOn (t.unitLegs u) i then t.when (t.on (HB_LOOP_OFF h)) (fun t => low (driveLeg u i false false t))
    else t.when (!t.on (HB_LOOP_OFF h)) (fun t =>
      low (driveHb h 0 ((t.setHb h { t.hb h with minRun := false }).setB (HB_LOOP_OFF h) true))))

/-- What a TICK does to one vector decision unit (R137-R140, R145, R148). F_MEAS takes the whole 10 Hz units of f (DESIGN CHOICE, log
entry 105). A unit whose axis leaves OFF while rank 1 holds stays OFF until it can enter REGULATE (DESIGN CHOICE, log entry 118). -/
def vduTick (u : Nat) (s : State) : State :=
  let s := (s.each [3 * u, 3 * u + 1, 3 * u + 2] loadEdges).set (VDU_H_DELTA u) (s.vdu u).deltaS
  match s.unitAxis u with
  | none =>
    let t := if s.f (VDU_STAT_STATE u) = 0 then s else setOff u s
    let t := ((t.set (VDU_STAT_STATE u) 0).set (VDU_STAT_MODE u) 0)
    t.setVdu u { t.vdu u with fresh := true, hist := [], trans := 0, ticks := 0, lostSense := false }
  | some n =>
    let s := (s.set (VDU_STAT_MODE u) (if s.e (AX_CFG_STRUCT n) = 5 then 2 else 1)).set (VDU_STAT_AXIS u) n
    let s := s.setB (VDU_STAT_SET2 u) (s.e (AX_CFG_HB_BASE n) / 3 != u)
    let v := s.vdu u
    if v.lostSense || s.f (VDU_STAT_STATE u) = 2 then s.set (VDU_STAT_STATE u) 2
    else if !s.rank1 u && s.f (VDU_STAT_STATE u) != 1 && (s.xStopped 15 || [3 * u, 3 * u + 1, 3 * u + 2].any s.rep.failWin.contains) then
      -- a failed window (*Repair actions*), or a current sense that does not reach the unit (R440): SENSE_OFF at entry to REGULATE
      let t := (setOff u s).set (VDU_STAT_STATE u) 2
      t.setVdu u { t.vdu u with lostSense := true }
    else if s.rank1 u then
      if s.f (VDU_STAT_STATE u) = 1 then (setOff u s).set (VDU_STAT_STATE u) 3 else s
    else if s.f (VDU_STAT_STATE u) ≠ 1 then
      -- entry to REGULATE: V0, or LOW on every enabled leg, for MIN_PULSE (R137)
      let s := if v.fresh then s.set (VDU_H_H u) (s.e (VDU_BAND_H_MAX u)) else s
      let s := (s.set (VDU_STAT_STATE u) 1).setVdu u
        { v with fresh := false, ticks := 0, hist := [], trans := 0, offSeen := false, refSeen := false, wait := 0, saved := none }
      applyVec u 0 false s
    else
      let w := s.e (VDU_CFG_SERVO_W u)
      let hist := (v.trans :: v.hist).take 64
      let n' := (hist.take w).foldl (· + ·) 0
      let ticks := v.ticks + 1
      let hMin := s.e (VDU_BAND_H_MIN u)
      let hMax := s.e (VDU_BAND_H_MAX u)
      let m := s.regLegs u
      let s := legsTick u (s.setVdu u { v with hist := hist, trans := 0, ticks := ticks, offSeen := false, refSeen := (v.saved.isSome) })
      let s := s.set (VDU_H_H u) (clampI hMin hMax (s.f (VDU_H_H u))).toNat
      if ticks < w ∨ w = 0 ∨ m = 0 then s
      else
        let s := s.set (VDU_FREQ_F_MEAS u) (satU 16 (n' * 1000000000 / (2 * m * w * s.tNs) / 10))
        if v.offSeen || v.refSeen || v.saved.isSome then s
        else
          let h := servoH (s.f (VDU_H_H u)) n' m w s.tNs (1000 * s.e (VDU_CFG_F_TGT u)) (s.e (VDU_CFG_KB u)) hMin hMax
          let s := s.set (VDU_H_H u) h
          if h = hMin ∨ h = hMax then s.inc (VDU_CNT_B_SERVO_LIM u) else s

/-- The AFE reports lost current sense: the unit's set OFF within 10 ns, SENSE_OFF (R144). -/
def senseOff (u : Nat) (s : State) : State :=
  let t := (setOff u s).set (VDU_STAT_STATE u) 2
  t.setVdu u { t.vdu u with lostSense := true }

/-- The same for a set whose current sense the AFE reports lost: it restarts only when its channels are valid again (R145). -/
def senseReport (u : Nat) (s : State) : State :=
  let t := senseOff u s
  t.setVdu u { t.vdu u with senseBad := true }

/-- A set whose sense was reported lost has a channel that is not valid again (R145). -/
def State.senseBad (s : State) (u : Nat) : Bool :=
  (s.vdu u).senseBad && [3 * u, 3 * u + 1, 3 * u + 2].any (fun h => s.on (CH_STAT_INVALID h))

/-! ### The commands -/

/-- WINDOW_STATE_CHANGE (R129). -/
def execWindowStateChange (h : Fin 48) (before : Int × Int) (now : Int) (s : State) : Res :=
  s.runIn 6 (windowSample h before.1 before.2 now)

/-- MIN_PULSE_EXPIRY (R134). -/
def execMinPulseExpiry (h : Fin 48) (s : State) : Res := s.runIn 6 (minPulseEnd h)

/-- HELD_OFF (R138). -/
def execHeldOff (u : Fin 16) (s : State) : Res := s.runIn 6 (heldOff u)

/-- REFRESH_REQUEST (R214). -/
def execRefreshRequest (h : Fin 48) (s : State) : Res := s.runIn 6 (refreshRequest h)

/-- REFRESH_END (R136). -/
def execRefreshEnd (u : Fin 16) (s : State) : Res := s.runIn 6 (refreshEnd u)

/-- BOOT_UV (R213). -/
def execBootUv (h : Fin 48) (v : BitVec 8) (s : State) : Res := s.runIn 6 (bootUv h v.toNat)

end Sys2Proof.Machine
end

