-- ==== Sys2Proof/Machine/Protect.lean ====
section
/-!
DEFINITION. Bridge protection and diagnostics (R225-R245): desaturation and the soft turn-off, bus choppers, hard
over-voltage, under-voltage, gate supplies, the latch and its clearing, off-state diagnostics.
-/
namespace Sys2Proof.Machine

/-- DESAT_BLANKING_END (R234): T_BLANK after the gate rose, while it is still on, its comparator is armed. -/
def blankingEnd (h : Nat) (high : Bool) (s : State) : State :=
  let g := h / 6
  let b := s.hb h
  if s.on (SUP_DCFG_EN g) && (s.groupState g == 2 || s.groupState g == 3) then
    if high then (if b.gh then s.setHb h { b with armH := true } else s)
    else (if b.gl then s.setHb h { b with armL := true } else s)
  else s

/-- An armed comparator of a gate can see a desaturation: detection is on, and the gate is on, or a latch of this same cycle has just
taken it low (R234, R237). -/
def State.desatSeen (s : State) (h : Nat) (high : Bool) : Bool :=
  let b := s.hb h
  let g := h / 6
  s.on (SUP_DCFG_EN g) && (if high then b.armH else b.armL) &&
    ((if high then b.gh else b.gl) || (s.grp g).latchTb == some s.tb)

/-- FIRST_HB and FIRST_GATE name the earliest detection; of those in one cycle the lowest k, the low side before the high side
(R235). -/
def firstGate (g k : Nat) (high : Bool) (s : State) : State :=
  let none_ := s.f (SUP_LATCH_DSAT_H g) = 0 ∧ s.f (SUP_LATCH_DSAT_L g) = 0
  let old := 2 * s.f (SUP_LATCH_FIRST_HB g) + b2n (s.on (SUP_LATCH_FIRST_GATE g))
  let same := (s.grp g).desatTb == some s.tb
  let s := if none_ then s.setGrp g { s.grp g with desatTb := some s.tb } else s
  if none_ ∨ (same ∧ 2 * k + b2n high < old) then (s.set (SUP_LATCH_FIRST_HB g) k).setB (SUP_LATCH_FIRST_GATE g) high else s

/-- DESATURATION (R234, R235): an armed comparator has read above V_DESAT for 100 ns. The group latches, every other
gate goes low, the faulted gate starts its soft turn-off; a further gate of a latched group adds its own mark. -/
def desaturation (h : Nat) (high : Bool) (s : State) : State :=
  let g := h / 6
  let k := h % 6
  if !s.desatSeen h high then s
  else
    let first := !s.on (SUP_LATCH_LATCHED g)
    let soft := s.each (groupHbs g) (fun i t =>
      let b := t.hb i
      let gh := (i == h && high) || b.softH != 0
      let gl := (i == h && !high) || b.softL != 0
      t.setHb i { b with
        gh := gh, gl := gl, dtH := b.dtH || (b.gh && !gh), dtL := b.dtL || (b.gl && !gl)
        outH := if gh then b.outH else t.fullDrive i true, outL := if gl then b.outL else t.fullDrive i false
        armH := b.armH && i != h, armL := b.armL && i != h })
    let t := abortDiag g (if s.groupState g = 4 then soft else soft.set (BG_STAT_STATE g) 4)
    let t := if first then
        let t := (t.setB (SUP_LATCH_LATCHED g) true).set (SUP_LATCH_FIRST g) 1
        reactGroup g (t.setGrp g { t.grp g with
          lostWait := true, preDone := false, shutTicks := 0, latchTb := some s.tb, latchWas := s.word (SUP_LATCH_A g) })
      else t.set (SUP_LATCH_FIRST g) (s.firstCause g 1)
    let t := firstGate g k high t
    let t := t.setBit (SUP_LATCH_CAUSES g) 0 true
    let t := if high then t.setBit (SUP_LATCH_DSAT_H g) k true else t.setBit (SUP_LATCH_DSAT_L g) k true
    let b := t.hb h
    let t := t.setHb h (if high then { b with softH := 1 } else { b with softL := 1 })
    (t.inc SUP_CNT_DESAT).raise (hbSrc h (if high then 0 else 1)) (b2n high)

/-- DESAT_2L_END (R235): the faulted gate switches to one sink slice. -/
def desat2l (h : Nat) (high : Bool) (s : State) : State :=
  let b := s.hb h
  if high then (if b.softH = 1 then s.setHb h { b with softH := 2, outH := 16 } else s)
  else (if b.softL = 1 then s.setHb h { b with softL := 2, outL := 16 } else s)

/-- DESAT_GATE_LOW (R235): below 2 V the faulted gate takes full sink and is low. -/
def desatLow (h : Nat) (high : Bool) (s : State) : State :=
  let b := s.hb h
  if high then (if b.softH = 0 then s else s.setHb h { b with softH := 0, gh := false, dtH := true, outH := s.fullDrive h true })
  else (if b.softL = 0 then s else s.setHb h { b with softL := 0, gl := false, dtL := true, outL := s.fullDrive h false })

/-! ### Bus chopper and bus faults -/

/-- The AUX output that serves bus k, if one does (R229). -/
def State.chopOut (s : State) (k : Nat) : Option Nat :=
  if !s.on (SUP_BCFG_EN k) then none
  else if s.f (SUP_BCFG_CHOP k) = 1 then some 0
  else if s.f (SUP_BCFG_CHOP k) = 2 then some 1
  else none

/-- Drive chopper gate AUX_c of bus k; a rising edge counts (R229, R230). VG_AUX outside its window holds it low. -/
def chopDrive (k c : Nat) (high : Bool) (s : State) : State :=
  let high := high && !s.aux.auxHeld
  let was := s.fbit AUX_STAT_CHOP_ACT c
  let t := (s.setBit AUX_STAT_CHOP_ACT c high).setB (SUP_BSTAT_CHOP_ACT k) high
  let t := if high && !was then t.incWrap (if c = 0 then SUP_CHOP_ON_0 else SUP_CHOP_ON_1) else t
  if high then t else { t with aux := { t.aux with chopEp := withBit t.aux.chopEp c false } }

/-- The DAC code of a threshold of `u` in 0.1 V on bus k (R227). -/
def State.busCode (s : State) (k u : Nat) : Int :=
  let raw := s.fI (CH_OFFSET_OFFSET (48 + k)) + roundDiv (u * 32768) (max 1 (10 * s.f (SUP_BCFG_BUS_FS k)) : Nat)
  clampI (-2048) 2047 ((raw + 8).fdiv 16)

/-- The comparator at U_CH_ON of a monitored bus k changed (R229, R231). -/
def chopLevel (k : Nat) (above : Bool) (s : State) : State :=
  let s := { s with aux := { s.aux with chopAbove := withBit s.aux.chopAbove k above } }
  if above then
    match s.chopOut k with
    | some c => chopDrive k c true s
    | none => s
  else { s with aux := { s.aux with hovEp := withBit s.aux.hovEp k false } }

/-- CHOP_ON_COMPARATOR (R227, R229, R231): the last three samples of bus k, in raw LSB, against U_CH_ON; their state has lasted for
FILT. -/
def chopOn (k : Nat) (x y z : Int) (s : State) : State :=
  s.when (s.on (SUP_BCFG_EN k)) (chopLevel k (aboveEdge (s.busCode k (s.f (SUP_BTH_U_CH_ON k))) x y z))

/-- CHOP_OFF_COMPARATOR (R229): below U_CH_OFF the gate goes low. -/
def chopOff (k : Nat) (x y z : Int) (s : State) : State :=
  match s.chopOut k with
  | some c => s.when (belowEdge (s.busCode k (s.f (SUP_BTH_U_CH_OFF k))) x y z) (chopDrive k c false)
  | none => s

/-- CHOP_LONG (R230): the gate has been high for TMAX; raised once per episode. -/
def chopLong (c : Nat) (s : State) : State :=
  if s.fbit AUX_STAT_CHOP_ACT c && !bitOf s.aux.chopEp c then
    { s with aux := { s.aux with chopEp := withBit s.aux.chopEp c true } }.raiseU (0x1A8 + c)
  else s

/-- The hard over-voltage comparator of a monitored bus k changed (R231): every active group on the bus latches, in its own right even
while an episode lasts; the lane raises BUS_HOV_k once per episode. -/
def hovChange (k : Nat) (above : Bool) (s : State) : State :=
  if !above then s.setB (SUP_BSTAT_HOV k) false
  else
    let t := s.setB (SUP_BSTAT_HOV k) true
    let t := t.each (List.range 8) (fun g t => if t.busOf g = k then latchGroup g 2 false t else t)
    if bitOf s.aux.hovEp k then t
    else ({ t with aux := { t.aux with hovEp := withBit t.aux.hovEp k true } }.inc SUP_CNT_HOV).raiseU (0x1A0 + k)

/-- BUS_HOV (R227, R231): the last three samples of bus k, in raw LSB, against U_HOV. -/
def busHov (k : Nat) (x y z : Int) (s : State) : State :=
  s.when (s.on (SUP_BCFG_EN k)) (hovChange k (aboveEdge (s.busCode k (s.f (SUP_BTH2_U_HOV k))) x y z))

/-- Configuration that changes which bus an AUX output serves, or which buses are monitored (R229): an output that no bus names, or that
comes to serve another bus, goes low; one whose bus stands above U_CH_ON then drives. -/
def chopConf (old s : State) : State :=
  let owner := fun (u : State) (c : Nat) => [0, 1, 2, 3].find? (fun k => u.chopOut k == some c)
  let s := s.each [0, 1, 2, 3] (fun k t =>
    if t.on (SUP_BCFG_EN k) then t
    else { t.setB (SUP_BSTAT_HOV k) false with
           aux := { t.aux with chopAbove := withBit t.aux.chopAbove k false, hovEp := withBit t.aux.hovEp k false } })
  s.each [0, 1] (fun c t =>
    if owner old c = owner s c then t
    else
      let t := match owner old c with
        | some k => chopDrive k c false t
        | none => t
      match owner s c with
      | some k => t.when (bitOf t.aux.chopAbove k) (chopDrive k c true)
      | none => t)

/-- A group that has left OFF while its bus still stands above U_HOV latches too (R231). -/
def hovLevel (g : Nat) (s : State) : State :=
  if s.on (SUP_BCFG_EN (s.busOf g)) && s.on (SUP_BSTAT_HOV (s.busOf g)) && s.groupState g != 4 then latchGroup g 2 false s
  else s

/-- BUS_UV (R232): ten consecutive ticks below U_UV, once per episode. -/
def busUv (k : Nat) (s : State) : State :=
  if s.on (SUP_BCFG_EN k) ∧ 10 ≤ s.aux.uvRun.getD k 0 ∧ !s.on (SUP_BSTAT_UV k) then (s.setB (SUP_BSTAT_UV k) true).raiseU (0x1A4 + k) else s

/-- The bus voltage of ABUS_k in 0.1 V units from its snapshot value (R225, SUP_BSTAT.U_BUS). -/
def State.uBus (s : State) (k : Nat) : Nat := satU 16 (s.uBus23 k / (100 * 2 ^ 23))

/-- The under-voltage counts and UV before this snapshot (R62). -/
def busKeep (s : State) : State :=
  { s with aux := { s.aux with uvPrev := (List.range 4).map (fun k => (s.aux.uvRun.getD k 0, s.on (SUP_BSTAT_UV k))) } }

/-- What a snapshot does to bus k: U_BUS, and the count of R232 from what it was before this snapshot; none while the bus is not
monitored. -/
def busTick (k : Nat) (s : State) : State :=
  let u := s.uBus k
  let was := s.aux.uvPrev.getD k (0, false)
  let low := s.on (SUP_BCFG_EN k) && decide (u < s.f (SUP_BTH2_U_UV k))
  let t := (s.set (SUP_BSTAT_U_BUS k) u).setB (SUP_BSTAT_UV k) (low && was.2)
  { t with aux := { t.aux with uvRun := listSet t.aux.uvRun k (if low then was.1 + 1 else 0) } }

/-- VG_AUX leaves its window: AUX_0, AUX_1, AUX_6 and AUX_7 low (R233). -/
def auxSupplyLost (s : State) : State :=
  let t := { s with aux := { s.aux with auxHeld := true, dutyF := [0, 0] } }
  let t := (t.set (PK_STAT_DUTY 0) 0).set (PK_STAT_DUTY 1) 0
  let t := t.each (List.range 4) (fun k t => t.setB (SUP_BSTAT_CHOP_ACT k) false)
  { t.set AUX_STAT_CHOP_ACT 0 with aux := { t.aux with chopEp := 0 } }

/-- Gate supply j latches its two groups with cause GSUP; each keeps the event for the gate array to report again (R233, R443). -/
def gsupLatch (j src data : Nat) (s : State) : State :=
  s.each [2 * j, 2 * j + 1] (fun g t =>
    let old := if t.fbit (SUP_LATCH_CAUSES g) 2 then (t.grp g).gsup else []
    let t := latchGroup g 3 false t
    if t.fbit (SUP_LATCH_CAUSES g) 2 then t.setGrp g { t.grp g with gsup := if old.contains (src, data) then old else old ++ [(src, data)] }
    else t)

/-- GSUP_UV of supply j (0-3 VG_j, 4 VG_AUX) (R233). -/
def gsupUv (j : Nat) (s : State) : State :=
  let t := s.setBit SUP_GSTAT_UV j true
  if j < 4 then (gsupLatch j (0x1AA + j) 0 t).raiseU (0x1AA + j)
  else (auxSupplyLost t).raiseU 0x1AE

/-- GSUP_OV of supply j; the supply number is the data (R233). -/
def gsupOv (j : Nat) (s : State) : State :=
  let t := s.setBit SUP_GSTAT_OV j true
  if j < 4 then (gsupLatch j 0x1AF j t).raise 0x1AF j
  else (auxSupplyLost t).raise 0x1AF j

/-- GSUP_RETURN (R233): supply j is inside its window again; for VG_AUX the outputs are released, and a chopper whose
bus still stands above U_CH_ON drives again. -/
def gsupReturn (j : Nat) (s : State) : State :=
  let t := (s.setBit SUP_GSTAT_UV j false).setBit SUP_GSTAT_OV j false
  if j < 4 then t
  else
    let t := { t with aux := { t.aux with auxHeld := false } }
    t.each (List.range 4) (fun k t =>
      match t.chopOut k with
      | some c => if bitOf t.aux.chopAbove k then chopDrive k c true t else t
      | none => t)

/-- The group has entered LATCHED in the running register-file cycle (R237, R516). -/
def State.justLatched (s : State) (g : Nat) : Bool := s.on (SUP_LATCH_LATCHED g) && (s.grp g).latchTb.any s.sameEng

/-- A read of SUP_LATCH_g (R237): while LATCHED it sets ARMED and returns the word with ARMED set; in the cycle of the latch it arms
nothing. -/
def supLatchRead (g : Nat) (s : State) : State :=
  if s.on (SUP_LATCH_LATCHED g) && !s.justLatched g then s.setB (SUP_LATCH_ARMED g) true else s

/-! ### Off-state diagnostics -/

/-- Group g is not ready for a run: its bus is below U_UV, or its gate supply is outside its window (R241). -/
def State.odUnready (s : State) (g : Nat) : Bool :=
  decide (s.uBus23 (s.busOf g) < 100 * 2 ^ 23 * s.f (SUP_BTH2_U_UV (s.busOf g))) ||
    s.fbit SUP_GSTAT_UV (g / 2) || s.fbit SUP_GSTAT_OV (g / 2)

/-- OFFDIAG_RUN_START (R241): the free engine takes the waiting group of lowest number, and judges whether it is ready. -/
def diagStart (s : State) : State :=
  if s.aux.engine.isSome then s
  else
    match (List.range 8).find? (fun g => s.groupState g == 1 && s.f (OD_RES_STATE g) == 1) with
    | none => s
    | some g =>
      let t := (s.set (OD_RES_STATE g) 2).set (OD_RES_VERD g) 0
      { t with aux := { t.aux with engine := some g, odNotReady := s.odUnready g } }

/-- Diagnostic mode of a half-bridge (R240). -/
def State.odMode (s : State) (h : Nat) : Nat := s.f (OD_MODE_MODE (h / 16)) / 4 ^ (h % 16) % 4

/-- Open-load verdicts of a set from its six directional readings ab ba bc cb ca ac, mV (R241, R242). -/
def openVerdicts (pairs : List Nat) : List Nat :=
  let high := fun i => decide (4000 < pairs.getD i 0)
  let ab := high 0 && high 1
  let bc := high 2 && high 3
  let ca := high 4 && high 5
  let v := fun b => if b then 4 else 1
  match ab, bc, ca with
  | true, true, true => [4, 4, 4]
  | true, false, false => [4, 4, 1]
  | false, true, false => [1, 4, 4]
  | false, false, true => [4, 1, 4]
  | _, _, _ => [v (ab && ca), v (ab && bc), v (bc && ca)]

/-- Verdicts of the three half-bridges of a set or of three single nodes (R241). `u` is the bus voltage in mV × 2^23. -/
def setVerdicts (modes : List Nat) (u : Nat) (m : List NodeMeas) (pairs : List Nat) : List Nat :=
  let node := fun i => m.getD i ⟨0, 0⟩
  if modes.getD 0 0 = 0 ∧ modes.getD 1 0 = 0 ∧ modes.getD 2 0 = 0 then
    if [0, 1, 2].any (fun i => decide (3 * u < 10 * (node i).sink * 2 ^ 23)) then [2, 2, 2]
    else if [0, 1, 2].any (fun i => decide ((node i).source < 1000)) then [3, 3, 3]
    else openVerdicts pairs
  else
    [0, 1, 2].map (fun i =>
      if modes.getD i 0 = 1 then
        if 10 * (node i).sink * 2 ^ 23 < 7 * u then (if (node i).source < 1000 then 3 else 4) else 1
      else 0)

/-- The group returns to OFF and clears PG_CTL.EN (R200, R243). -/
def diagBack (g : Nat) (s : State) : State := (groupEnterOff g s).setB (PG_CTL_EN (0x020 + g)) false

/-- OFFDIAG_RUN_END (R241-R243): the running group's verdicts from what was measured: `nodes` six half-bridges,
`pairsA` and `pairsB` the directional readings of its two sets. -/
def diagEnd (nodes : List NodeMeas) (pairsA pairsB : List Nat) (s : State) : State :=
  match s.aux.engine with
  | none => s
  | some g =>
    let s := { s with aux := { s.aux with engine := none } }
    let bus := s.busOf g
    let notReady := s.aux.odNotReady
    let s := s.incWrap OD_CNT_RUNS
    if notReady then
      let t := (diagBack g (s.set (OD_RES_STATE g) 5)).inc OD_CNT_FAILS
      let t := t.raiseU (0x1C0 + g)
      let t := t.setGrp g { t.grp g with retry := true }
      if s.on SU_STAT_ADMITTED || s.su.failed != [] then t else (t.set SU_STAT_CAUSE 0x71).set SU_STAT_FAIL_STEP 7
    else
      let u := s.uBus23 bus
      let mode := fun k => s.odMode (6 * g + k)
      let va := setVerdicts [mode 0, mode 1, mode 2] u (nodes.take 3) pairsA
      let vb := setVerdicts [mode 3, mode 4, mode 5] u (nodes.drop 3) pairsB
      let v := va ++ vb
      let packed := (List.range 6).foldl (fun a k => a + v.getD k 0 * 8 ^ k) 0
      let s := s.set (OD_RES_VERD g) packed
      if v.all (fun x => x == 0 || x == 1) then
        prechargeGates g ((s.set (OD_RES_STATE g) 3).set (BG_STAT_STATE g) 2)
      else
        let t := (diagBack g (s.set (OD_RES_STATE g) 4)).inc OD_CNT_FAILS
        let t := t.each (List.range 6) (fun k t =>
          if v.getD k 0 ≤ 1 then t else t.raise (hbSrc (6 * g + k) 4) (v.getD k 0))
        if s.on SU_STAT_ADMITTED then t else
          { (t.set SU_STAT_CAUSE 0x70).set SU_STAT_FAIL_STEP 7 with su := { t.su with failed := g :: t.su.failed } }

/-! ### The commands -/

/-- DESAT_BLANKING_END (R234). -/
def execDesatBlankingEnd (h : Fin 48) (high : Bool) (s : State) : Res := s.runIn 6 (blankingEnd h high)

/-- DESATURATION (R235). -/
def execDesaturation (h : Fin 48) (high : Bool) (s : State) : Res := s.runIn 6 (desaturation h high)

/-- DESAT_2L_END (R235). -/
def execDesat2lEnd (h : Fin 48) (high : Bool) (s : State) : Res := s.runIn 6 (desat2l h high)

/-- DESAT_GATE_LOW (R235). -/
def execDesatGateLow (h : Fin 48) (high : Bool) (s : State) : Res := s.runIn 6 (desatLow h high)

/-- CHOP_ON_COMPARATOR (R229). -/
def execChopOnComparator (k : Fin 4) (v : Samples) (s : State) : Res := s.runIn 6 (chopOn k v.x v.y v.z)

/-- CHOP_OFF_COMPARATOR (R229). -/
def execChopOffComparator (v : BusSamples) (s : State) : Res := s.runIn 6 (chopOff v.bus v.samples.x v.samples.y v.samples.z)

/-- CHOP_LONG (R230). -/
def execChopLong (c : Fin 2) (s : State) : Res := s.runIn 6 (chopLong c)

/-- BUS_HOV (R231). -/
def execBusHov (k : Fin 4) (v : Samples) (s : State) : Res := s.runIn 6 (busHov k v.x v.y v.z)

/-- BUS_UV (R232). -/
def execBusUv (k : Fin 4) (s : State) : Res := s.runIn 6 (busUv k)

/-- GSUP_UV (R233). -/
def execGsupUv (j : Fin 5) (s : State) : Res := s.runIn 6 (gsupUv j)

/-- GSUP_OV (R233). -/
def execGsupOv (j : Fin 5) (s : State) : Res := s.runIn 6 (gsupOv j)

/-- GSUP_RETURN (R233). -/
def execGsupReturn (j : Fin 5) (s : State) : Res := s.runIn 6 (gsupReturn j)

/-- SUP_LATCH_READ (R237). -/
def execSupLatchRead (g : Fin 8) (s : State) : Res := s.runIn 6 (supLatchRead g)

/-- OFFDIAG_RUN_START (R241). -/
def execOffdiagRunStart (s : State) : Res := s.runIn 6 diagStart

/-- OFFDIAG_RUN_END (R243). -/
def execOffdiagRunEnd (nodes : List NodeMeas) (pairsA pairsB : List Nat) (s : State) : Res :=
  s.runIn 6 (diagEnd nodes pairsA pairsB)

end Sys2Proof.Machine
end

