-- ==== Sys2Proof/Machine/Afe.lean ====
section
/-!
DEFINITION. The acquisition front end (R55-R85, R519): the snapshot, scaling, resolvers, encoders, wheel speeds and
the feedback checks.
-/
namespace Sys2Proof.Machine

/-- Scaling of R63: floor shift by 14, saturated; the second component says that it clipped. -/
def scaleCode (code offset gain : Int) : Int × Bool :=
  let v := ((code - offset) * gain).fdiv (2 ^ 14)
  let c := clampI (-(2 ^ 23 - 1)) (2 ^ 23 - 1) v
  (c, c != v)

/-- The values that the run of snapshots ending with `x` may have stayed within 1 LSB of (R77): each with the number of those
snapshots and the change that each axis's observer predicts over them. -/
def frzNext (x : Int) (l : List (Int × Nat × SMap Nat)) : List (Int × Nat × SMap Nat) :=
  [x - 1, x, x + 1].map (fun c => match l.find? (fun p => p.1 == c) with
    | some p => (c, min 255 (p.2.1 + 1), p.2.2)
    | none => (c, 1, []))

/-- The freeze count of R77: FRZ_CNT shows the longest run. It is kept on the code of the sensor (raw code, angle, position), not
on the scaled value (DESIGN CHOICE, log entry 90). -/
def freezeCount (k : Nat) (fld : Fld) (x : Int) (s : State) : State :=
  let l := frzNext x (s.inp k).frz
  (s.setInp k { s.inp k with frz := l }).set fld (l.foldl (fun m p => max m p.2.1) 0)

/-- One AIN channel at TICK (R57, R58, R63, R64): raw code, scaled value, range count (R66, R76), freeze count. -/
def chTick (k : Nat) (code : Int) (s : State) : State :=
  let i := s.inp k
  let r := scaleCode code (s.eI (CH_OFFSET_OFFSET k)) (s.eI (CH_GAIN_GAIN k))
  let s := s.setInp k { i with prevRaw := s.f (CH_RAW_RAW k), prevVal := s.f (CH_VAL_VALUE k), prevRun := i.run,
                               prevFrz := i.frz, prevSaid := i.rangeSaid, stale := false, satNew := r.2 && !s.on (CH_STAT_SAT k) }
  let en := s.eOn (CH_CFG_EN k)
  let s := (s.set (CH_RAW_RAW k) (ofSigned 16 code)).set (CH_VAL_VALUE k) (ofSigned 24 r.1)
  let s := s.setB (CH_VAL_VALID k) (en && !s.on (CH_STAT_INVALID k))
  let s := if r.2 then s.hwSet (CH_STAT_A k) (fieldMask 27 1) else s
  if !en then s
  else
    let out := decide (code < s.eI (CH_LIM_LO k)) || decide (s.eI (CH_LIM_HI k) < code)
    let s := s.setInp k { s.inp k with run := if out then i.run + 1 else 0, rangeSaid := out && i.rangeSaid }
    freezeCount k (CH_STAT_FRZ_CNT k) code s

/-- The three-phase sum check of set u (R66): only while its unit runs in VECTOR mode. -/
def kclTick (u : Nat) (s : State) : State :=
  let put := fun (n : Nat) =>
    { s with afe := { s.afe with kcl := smPut (fun _ => 0) s.afe.kcl u n
                                 kclSaid := if n = 0 then s.afe.kclSaid.filter (· != u) else s.afe.kclSaid } }
  if s.f (VDU_STAT_MODE u) = 1 ∧ s.f (VDU_STAT_STATE u) ≠ 0 then
    let d := fun h => s.fI (CH_RAW_RAW h) - s.eI (CH_OFFSET_OFFSET h)
    let sum := d (3 * u) + d (3 * u + 1) + d (3 * u + 2)
    put (if s.e AFE_CFG_KCL_TOL < sum.natAbs then smGet (fun _ => 0) s.afe.kcl u + 1 else 0)
  else put 0

/-- The spare core converts channel n mod 96 in tick n (R82, R83); the difference waits for the channel's own conversion. What an older
rotation of 96 ticks has found counts no longer. -/
def xchkTick (n : Nat) (spare : Int) (s : State) : State :=
  let rot := n / 96
  let s := { s with afe := { s.afe with xpend := none, xchk := if s.afe.xrot = rot then s.afe.xchk else [], xrot := rot } }
  if s.on CORE_MAP_SPARE_USED || !s.eOn AFE_CFG_XCHK_EN then s
  else
    let ch := n % 96
    let s := s.set SNAP_STAT_XCHK_CH ch
    { s with afe := { s.afe with xpend := some (ch, spare - s.fI (CH_RAW_RAW ch)) } }

/-- The cross-check of the tick's channel (R82), once its own code is there; a late channel gives none. A difference that does not fit
the signed 16 bits of XCHK_LAST.DIFF keeps its low 16 bits (DESIGN CHOICE, log entry 91). -/
def xchkJudge (late : List Nat) (s : State) : State :=
  match s.afe.xpend with
  | none => s
  | some (ch, diff) =>
    let s := { s with afe := { s.afe with xpend := none } }
    if late.contains ch || decide (diff.natAbs ≤ s.e AFE_CFG_XCHK_TOL) then s
    else
      let core := ch / 4
      let old := smGet (fun _ => 0) s.afe.xchk core
      let s := (s.set XCHK_LAST_CORE core).setI XCHK_LAST_DIFF diff
      let s := { s with afe := { s.afe with xchk := smPut (fun _ => 0) s.afe.xchk core (withBit old (ch % 4) true) } }
      if popCount 4 old = 2 ∧ !bitOf old (ch % 4) then s.raise 0x27D core else s

/-- A resolver at TICK (R68, R69, R519): a fault of the excitation counts from this snapshot. With RES_NOM = 0 the normalised
amplitude has no value; the model shows the largest (DESIGN CHOICE, log entry 92). -/
def resTick (r : Nat) (x : ResSample) (s : State) : State :=
  let k := 0x60 + r
  if !s.eOn (RES_CFG_EN r) then s
  else
    let i := s.inp k
    let s := if i.pendCause ≠ 0 then s.makeInvalid k i.pendCause else s
    let s := (s.set (RES_ANGLE_ANGLE r) x.angle.toNat).setI (RES_SPEED_SPEED r) (satSigned 24 x.speed)
    let nom := s.e (RES_NOM_NOM r)
    let amp := if nom = 0 then 0xFFFF else satU 16 ((x.sin ^ 2 + x.cos ^ 2).toNat * 2 ^ 14 / nom ^ 2)
    let s := s.set (RES_AMPM_AMP r) amp
    let bad := decide (amp < s.e (RES_AMP_AMP_LO r)) || decide (s.e (RES_AMP_AMP_HI r) < amp)
    let s := s.setInp k { s.inp k with run := if bad then i.run + 1 else 0 }
    let s := if bad ∧ 1 ≤ i.run ∧ !s.on (RES_STAT_INVALID r) then (s.makeInvalid k 1).raiseU (0x260 + r) else s
    freezeCount k (RES_STAT_FRZ_CNT r) (toSigned 16 x.angle.toNat) s

/-- Gray code to binary over `n` bits (R70). -/
def grayDecode : Nat → Nat → Nat
  | 0, g => g
  | n + 1, g => Nat.xor g (grayDecode n (g / 2))

/-- SSI_BURST (R70-R72): the frame encoder e sends for the coming TICK: the line before and after, the data bits as
received and the parity bit. -/
def ssiBurst (e : Nat) (highBefore lowAfter : Bool) (bits : Nat) (parity : Bool) (s : State) : State :=
  if !s.eOn (ENC_CFG_EN e) then s
  else
    let n := s.e (ENC_CFG_BITS e)
    let raw := bits % 2 ^ n
    let ones := popCount n raw + b2n parity
    let parityOk := match s.e (ENC_CFG_PARITY e) with
      | 1 => ones % 2 == 0
      | 2 => ones % 2 == 1
      | _ => true
    let pos := if s.eOn (ENC_CFG_GRAY e) then grayDecode n raw else raw
    s.setInp (0x68 + e) { s.inp (0x68 + e) with frame := some pos, badFrame := !(highBefore && lowAfter && parityOk) }

/-- An encoder at TICK (R71, R72): the burst's position, or the old one, stale. Where no burst came before this TICK (the first one
after the encoder was enabled), the value is stale and no frame error (DESIGN CHOICE, log entry 93). -/
def encTick (e : Nat) (s : State) : State :=
  let k := 0x68 + e
  if !s.eOn (ENC_CFG_EN e) then s
  else
    let s := s.set (ENC_LEAD_LEAD_NS e) ((s.e (ENC_CFG_BITS e) + 1) * (s.e (ENC_CFG_DIV e) + 1) * 25)
    let i := s.inp k
    match i.frame with
    | none => s.setInp k { i with stale := true }
    | some pos =>
      if i.badFrame then
        let s := (s.setInp k { i with frame := none, stale := true, run := i.run + 1 }).inc (ENC_ERR_COUNT e)
        if i.run + 1 = 3 ∧ !s.on (ENC_STAT_INVALID e) then (s.makeInvalid k 1).raiseU (0x268 + e) else s
      else
        let s := (s.setInp k { i with frame := none, stale := false, run := 0 }).set (ENC_POS_POS e) pos
        freezeCount k (ENC_STAT_FRZ_CNT e) (toSigned (s.e (ENC_CFG_BITS e)) pos) s

/-- WS_EDGE (R73): a rising edge time-stamped on the timebase. -/
def wsEdge (w : Nat) (s : State) : State :=
  if !s.on (WS_CFG_EN w) then s
  else
    let k := 0x70 + w
    let i := s.inp k
    let s := s.incWrap (WS_EDGE_EDGES w)
    let s := match i.edges with
      | [] => s
      | t :: _ => s.set (WS_PER_PERIOD w) ((s.tb - t) % 2 ^ 32)
    s.setInp k { i with edges := s.tb :: i.edges.take 63 }

/-- Wheel speed of R75 as a per-unit value, from edge stamps (newest first) in 5 ns periods before the TICK. -/
def wheelSpeed (edges : List Nat) (tick tmoMs circ teeth fs : Nat) : Nat :=
  match edges with
  | [] => 0
  | [_] => 0
  | last :: prev :: _ =>
    if tmoMs * 200000 < tick - last then 0
    else
      let span := edges.filter (fun t => decide (tick < t + 400000))
      let pq : Nat × Nat :=
        if 2 ≤ span.length then (span.length - 1, last - span.getLast?.getD last)
        else (1, max (last - prev) (tick - last))
      satU 23 (200000000 * pq.1 * circ * 2 ^ 23 / (pq.2 * teeth * fs))

/-- A wheel-speed input at TICK (R75, R519). -/
def wsTick (w : Nat) (s : State) : State :=
  let k := 0x70 + w
  if !s.eOn (WS_CFG_EN w) then s
  else
    let i := s.inp k
    let s := if i.pendCause ≠ 0 then s.makeInvalid k i.pendCause else s
    s.set (WS_VAL_VALUE w) (wheelSpeed i.edges s.tb (s.e (WS_CFG_TMO_MS w)) (s.e (WS_CIRC_CIRC_MM w))
      (s.e (WS_CFG_TEETH w)) (s.e (WS_FS_FS_MMS w)))

/-- The wheel-speed part of a snapshot, which QUIET keeps (R413: page 0x039 stays powered). -/
def wsSnapshot (s : State) : State := s.each (List.range 12) wsTick

/-- The snapshot at TICK n (R57-R59, R67-R75, R82). -/
def snapshot (n : Nat) (x : Snap) (s : State) : State :=
  let s := s.set SNAP_TIME_TIME (s.nt.tickNs % 2 ^ 32)
  let s := s.each (List.range 96) (fun k t => chTick k (clampI (-32768) 32767 (x.ain.getD k 0)) t)
  let s := { s with afe := { s.afe with kclPrev := s.afe.kcl, kclSaidPrev := s.afe.kclSaid } }
  let s := s.each (List.range 16) kclTick
  let s := xchkTick n x.spare s
  let s := s.each (List.range 8) (fun r t => resTick r (x.res.getD r ⟨0, 0, 0, 0⟩) t)
  let s := s.each (List.range 8) encTick
  let s := (busKeep s).each (List.range 4) busTick
  wsSnapshot { s with aux := { s.aux with fltPin := Nat.land s.aux.fltPin x.fltRet } }

/-- One channel not converted by the end of the input freeze (R62): the previous value again, stale, and what the snapshot has
concluded from a code that is not there is undone; a channel in use that is late three ticks in a row becomes invalid with
cause LATE. -/
def lateCh (k : Nat) (s : State) : State :=
  let i := s.inp k
  let s := (s.set (CH_RAW_RAW k) i.prevRaw).set (CH_VAL_VALUE k) i.prevVal
  let s := (s.setB (CH_VAL_VALID k) false).set (CH_STAT_FRZ_CNT k) (i.prevFrz.foldl (fun m p => max m p.2.1) 0)
  let s := if i.satNew then s.setB (CH_STAT_SAT k) false else s
  let s := (s.setInp k { i with stale := true, late := i.late + 1, run := i.prevRun, frz := i.prevFrz, satNew := false, rangeSaid := i.prevSaid }).inc
    SNAP_STAT_LATE_CNT
  if 3 ≤ i.late + 1 ∧ s.eOn (CH_CFG_EN k) then s.makeInvalid k 5 else s

/-- A set with a late channel keeps the sum count it had before this snapshot (R62, R66). -/
def lateSet (late : List Nat) (u : Nat) (s : State) : State :=
  if [3 * u, 3 * u + 1, 3 * u + 2].any late.contains then
    let said := s.afe.kclSaid.filter (· != u)
    { s with afe := { s.afe with
      kcl := smPut (fun _ => 0) s.afe.kcl u (smGet (fun _ => 0) s.afe.kclPrev u)
      kclSaid := if s.afe.kclSaidPrev.contains u then u :: said else said } }
  else s

/-- A bus whose channel is late stands at the value repeated (R62, R225, R232). -/
def lateBus (late : List Nat) (k : Nat) (s : State) : State := s.when (late.contains (48 + k)) (busTick k)

/-- INPUT_FREEZE_END (R59, R62): `late` lists the channels whose conversion has not completed; the cross-check of the tick's channel
is judged (R82). -/
def freezeEnd (late : List Nat) (s : State) : State :=
  let s := s.each (List.range 96) (fun k t =>
    if late.contains k then lateCh k t
    else if (t.inp k).late = 0 then t else t.setInp k { t.inp k with late := 0 })
  let s := (xchkJudge late (s.each (List.range 16) (lateSet late))).each (List.range 4) (lateBus late)
  if late.any (fun k => decide (k < 96)) then s.raiseU 0x27C else s

/-- SENSE_LOST (R66, R144): the channel's range count or its set's sum count has reached its limit, and this loss is not reported yet.
A channel that another check has made invalid keeps that cause (R81). -/
def senseLost (h : Nat) (s : State) : State :=
  let u := h / 3
  let one := fun (cause k : Nat) (t : State) => (t.makeInvalid k cause).raiseU (0x200 + k)
  if s.eOn (CH_CFG_EN h) && decide (s.e (CH_CFG_RANGE_N h) ≤ (s.inp h).run) && !(s.inp h).rangeSaid then
    senseReport u (one 1 h (s.setInp h { s.inp h with rangeSaid := true }))
  else if 3 ≤ smGet (fun _ => 0) s.afe.kcl u ∧ !s.afe.kclSaid.contains u then
    let s := { s with afe := { s.afe with kclSaid := u :: s.afe.kclSaid } }
    senseReport u (s.each [3 * u, 3 * u + 1, 3 * u + 2] (one 4))
  else s

/-- CH_RANGE (R76). A channel that is invalid already raises nothing (DESIGN CHOICE, log entry 114). -/
def chRange (k : Nat) (s : State) : State :=
  if s.eOn (CH_CFG_EN k) && decide (s.e (CH_CFG_RANGE_N k) ≤ (s.inp k).run) && !s.on (CH_STAT_INVALID k) then
    (s.makeInvalid k 1).raiseU (0x200 + k)
  else s

/-- An input in use is frozen (R77): FRZ_EN, and over the last FRZ_N snapshots or more it has stayed at one value while the observer of
one axis predicts a change of FRZ_DELTA; wheel-speed inputs have no freeze check. -/
def State.frozen (s : State) (k : Nat) : Bool :=
  let go := fun en n d => s.eOn (inpEnF k) && s.eOn en && (s.inp k).frz.any (fun p => decide (s.e n ≤ p.2.1) && p.2.2.any (fun q => decide (s.e d * 65536 ≤ q.2)))
  if k < 0x60 then go (CH_CFG_FRZ_EN k) (CH_CFG_FRZ_N k) (CH_TOL_FRZ_DELTA k)
  else if k < 0x68 then go (RES_CFG_FRZ_EN (k - 0x60)) (RES_CFG_FRZ_N (k - 0x60)) (RES_TOL_FRZ_DELTA (k - 0x60))
  else if k < 0x70 then go (ENC_CFG_FRZ_EN (k - 0x68)) (ENC_N_FRZ_N (k - 0x68)) (ENC_TOL_FRZ_DELTA (k - 0x68))
  else false

/-- FB_FREEZE (R77). -/
def fbFreeze (k : Nat) (s : State) : State :=
  if s.frozen k && !s.on (inpInvalidF k) then (s.makeInvalid k (if k < 0x60 then 2 else 3)).raise 0x27E k else s

/-- XL_N of an input (R78). -/
def State.xlN (s : State) (k : Nat) : Nat :=
  if k < 0x60 then s.e (CH_CFG_XL_N k)
  else if k < 0x68 then s.e (RES_CFG_XL_N (k - 0x60))
  else if k < 0x70 then s.e (ENC_N_XL_N (k - 0x68))
  else s.e (WS_TOL_XL_N (k - 0x70))

/-- FB_XCHK (R78): XL_CNT has reached XL_N; with three valid values the lane's own input becomes invalid with cause
CROSS_LANE, also where two values had brought it there before. Raised once until XL_CNT has been 0 again. -/
def fbXchk (k : Nat) (s : State) : State :=
  if s.xlN k ≤ s.f (inpXlF k) ∧ 0 < s.f (inpXlF k) then
    let s := s.when (!(s.inp k).xlRaised) (fun t => (t.setInp k { t.inp k with xlRaised := true }).raise 0x27F k)
    if (s.votedOf k).three then s.makeInvalid k (if k < 0x60 then 3 else 4) else s
  else s

/-- RES_EXCITATION_FAULT (R69, R519): excitation off and the source raised now, invalid from the next snapshot. -/
def resExcFault (r : Nat) (s : State) : State :=
  if s.on (RES_CFG_EN r) && (s.inp (0x60 + r)).pendCause == 0 then
    (s.setInp (0x60 + r) { s.inp (0x60 + r) with pendCause := 2 }).raiseU (0x260 + r)
  else s

/-- WS_OPEN (R74, R519). -/
def wsOpen (w : Nat) (s : State) : State :=
  if s.on (WS_CFG_EN w) && (s.inp (0x70 + w)).pendCause == 0 then
    (s.setInp (0x70 + w) { s.inp (0x70 + w) with pendCause := 1 }).raiseU (0x270 + w)
  else s

/-- WS_SHORT (R74, R519): the supply of the input is switched off as well; an input already open keeps that cause (R81). -/
def wsShort (w : Nat) (s : State) : State :=
  let i := s.inp (0x70 + w)
  if s.on (WS_CFG_EN w) && (i.pendCause == 0 || (i.pendCause == 1 && !s.on (WS_STAT_SUP_OFF w))) then
    ((s.setInp (0x70 + w) { i with pendCause := if i.pendCause = 0 then 2 else i.pendCause }).setB (WS_STAT_SUP_OFF w) true).raiseU
      (0x270 + w)
  else s

/-! ### The commands -/

/-- SSI_BURST (R71). -/
def execSsiBurst (e : Fin 8) (highBefore lowAfter : Bool) (bits : BitVec 32) (parity : Bool) (s : State) : Res :=
  s.runIf 5 (!s.quiet) (ssiBurst e highBefore lowAfter bits.toNat parity)

/-- The channels that have no value of this snapshot: those not converted, those of a lost converter, and all while the snapshot does not
cross into the engine (crossing 0, R440). -/
def State.lateOf (s : State) (late : List (Fin 96)) : List Nat :=
  if s.xStopped 0 then List.range 96 else late.map (·.val) ++ s.rep.deadCh

/-- INPUT_FREEZE_END (R62). -/
def execInputFreezeEnd (late : List (Fin 96)) (s : State) : Res :=
  s.runIf 5 (!s.quiet) (fun s => freezeEnd (s.lateOf late) s)

/-- SENSE_LOST (R144). -/
def execSenseLost (h : Fin 48) (s : State) : Res := s.runIf 5 (!s.quiet) (senseLost h)

/-- FB_XCHK (R78). -/
def execFbXchk (k : Fin 124) (s : State) : Res := s.runIf 5 (!s.quiet) (fbXchk k)

/-- FB_FREEZE (R77). -/
def execFbFreeze (k : Fin 124) (s : State) : Res := s.runIf 5 (!s.quiet) (fbFreeze k)

/-- CH_RANGE (R76): AIN_48 to AIN_95; a phase channel's range is SENSE_LOST (R66). -/
def execChRange (k : Fin 96) (s : State) : Res := s.runIf 5 (!s.quiet && decide (48 ≤ k.val)) (chRange k)

/-- RES_EXCITATION_FAULT (R519). -/
def execResExcitationFault (r : Fin 8) (s : State) : Res := s.runIf 5 (!s.quiet) (resExcFault r)

/-- WS_OPEN (R74). -/
def execWsOpen (w : Fin 12) (s : State) : Res := s.runIn 5 (wsOpen w)

/-- WS_SHORT (R74). -/
def execWsShort (w : Fin 12) (s : State) : Res := s.runIn 5 (wsShort w)

/-- WS_EDGE (R73). -/
def execWsEdge (w : Fin 12) (s : State) : Res := s.runIn 5 (wsEdge w)

end Sys2Proof.Machine
end

