-- ==== Sys2Proof/Machine/Budget.lean ====
section
/-!
DEFINITION. Cycle counts of the structures and the budget check of a configuration (R44, R97).
-/
namespace Sys2Proof.Machine

/-- The worst-case cycles of a structure, plain and coded (*Loop structures*). -/
def wcOf (struct : Nat) (six : Bool) : Nat × Nat :=
  match struct, six with
  | 1, false => (900, 1125)
  | 1, true => (1000, 1250)
  | 2, false => (800, 1000)
  | 2, true => (900, 1125)
  | 3, _ => (300, 375)
  | 4, false => (600, 750)
  | 4, true => (700, 875)
  | 5, _ => (400, 500)
  | _, _ => (0, 0)

/-- Engine cycles of the arbitration reserve (*Slice cycles per window at each DVFS point*). -/
def reserveCycles (tNs mhz : Nat) : Nat := tNs * 8 / 100 * mhz / 1000

/-- Engine cycles of the plain-pass window, and of the Janus-pass window. -/
def passCycles (tNs mhz : Nat) : Nat := tNs * 36 / 100 * mhz / 1000

/-- Axis slot n is configured (R518). -/
def State.axConf (t : State) (n : Nat) : Bool := t.f (AX_CFG_STRUCT n) != 0

def State.confAxes (t : State) : List Nat := (List.range 16).filter t.axConf

/-- The tick length that the configuration gives, ns. -/
def State.confT (t : State) : Nat := lenNs (t.f TICK_CFG_LEN)

/-- Plain and coded load of slice l, and the re-run load (R44). -/
def State.loadOf (t : State) (l : Nat) : Nat × Nat :=
  t.confAxes.foldl (fun a n =>
    let w := wcOf (t.f (AX_CFG_STRUCT n)) (t.on (AX_CFG_SIX n))
    let sl := t.f (AX_CFG_SLICE n)
    (if sl = l then a.1 + w.1 else a.1, if (sl + 3) % 8 = l then a.2 + w.2 else a.2)) (200, 200)

def State.rerunLoad (t : State) : Nat :=
  match t.confAxes with
  | [] => 0
  | l => 200 + (l.map (fun n => (wcOf (t.f (AX_CFG_STRUCT n)) (t.on (AX_CFG_SIX n))).1)).foldl max 0

/-- The terms of the check at a point: window, slice, load, limit, in the order plain, Janus, reserve. -/
def State.budgetTerms (t : State) (mhz : Nat) : List (Nat × Nat × Nat × Nat) :=
  let w := passCycles t.confT mhz
  (List.range 8).map (fun l => (1, l, (t.loadOf l).1, w)) ++ (List.range 8).map (fun l => (2, l, (t.loadOf l).2, w)) ++
    [(3, 8, t.rerunLoad, reserveCycles t.confT mhz)]

def State.budgetOk (t : State) (point : Nat) : Bool :=
  (t.budgetTerms (100 * (point + 1))).all (fun x => decide (x.2.2.1 ≤ x.2.2.2))

end Sys2Proof.Machine
end

