-- ==== Sys2Proof/Machine/Flags.lean ====
section
/-!
DEFINITION. Saturation of per-unit words and the six saturation flags (R91-R94).
-/
namespace Sys2Proof.Machine

/-- One per-unit full scale less one LSB (R91). -/
def puMax : Int := 2 ^ 23 - 1

/-- Saturation of R92. -/
def satPu (x : Int) : Int := clampI (-puMax) puMax x

/-- Numbers of the saturation flags (R94). -/
def fArith : Nat := 0
def fInteg : Nat := 1
def fDemand : Nat := 2
def fFf : Nat := 3
def fObs : Nat := 4
def fPhase : Nat := 5

/-- A value with the flag word that its computation set. -/
structure Fl (α : Type) where
  val : α
  fl : Nat

def orFl (a b : Nat) : Nat := Nat.lor a b

/-- The flags of several steps together. -/
def flAll (l : List Nat) : Nat := l.foldl orFl 0

/-! ### Words of a pass (R92, R93, R175-R177)

One text of the program serves both passes: `c` is the factor of the pass's words, 1 in the plain pass and 59 in the coded one. A word
of the coded pass is `c` times the value it stands for; what it has beyond a multiple of `c` is its remainder. -/

/-- The value a word stands for. -/
def wordVal (c w : Int) : Int := w.fdiv c

/-- What a word has beyond a multiple of the code; 0 for every valid word. -/
def wordRem (c w : Int) : Int := w % c

/-- Saturate a result at a point of flag `k`. -/
def satFl (c : Int) (k : Nat) (w : Int) : Fl Int :=
  let x := clampI (-(c * puMax)) (c * puMax) w
  ⟨x, if x = w then 0 else 2 ^ k⟩

/-- The same for a number of two words (R523). -/
def satWide (c : Int) (k : Nat) (w : Int) : Fl Int :=
  let x := clampI (-(c * (puMax * 2 ^ 23))) (c * (puMax * 2 ^ 23)) w
  ⟨x, if x = w then 0 else 2 ^ k⟩

/-- A word times `num / den`: the full product, shifted with rounding towards minus infinity (R93). A remainder goes on unless the
factor absorbs it (R177). -/
def scaleW (c num den w : Int) : Int := c * (num * wordVal c w).fdiv den + num * wordRem c w % c

/-- A non-linear operation on a word: an invalid word gives an invalid result (R93). -/
def nlW (c : Int) (f : Int → Int) (w : Int) : Int := c * f (wordVal c w) + wordRem c w

/-- The same on two words: the remainder of the first invalid one goes on. -/
def nlW2 (c : Int) (f : Int → Int → Int) (a b : Int) : Int :=
  c * f (wordVal c a) (wordVal c b) + (if wordRem c a = 0 then wordRem c b else wordRem c a)

end Sys2Proof.Machine
end

