-- ==== Sys2Proof/Machine/Program.lean ====
section
/-!
DEFINITION. The axis programs as arithmetic on words (R91-R113, R521, R523): per-unit words, saturation flags, observer, set-point
limiter, the control laws, share and commutation. One text serves the plain pass (`c` = 1) and the coded pass (`c` = 59). Nothing here
reads the machine's state.
-/
namespace Sys2Proof.Machine

/-- X units to per-unit (R521), rounded down; `num / den` is the value in X units. -/
def puOf (num den : Int) (fsX : Nat) : Int := if fsX = 0 ∨ den = 0 then 0 else (num * 2 ^ 23).fdiv (den * fsX)

/-- The same, saturated (R92). -/
def toPu (num den : Int) (fsX : Nat) : Int := satPu (puOf num den fsX)

/-- The conversion saturates (R94). -/
def puSat (num den : Int) (fsX : Nat) : Bool := toPu num den fsX != puOf num den fsX

def ProgIn.p (i : ProgIn) (k : Nat) : Nat := i.par.getD k 0
def ProgIn.pS (i : ProgIn) (k : Nat) : Int := toSigned 32 (i.par.getD k 0)

/-- A configured physical value in per-unit of FS_X. -/
def ProgIn.xPu (i : ProgIn) (v : Int) : Int := toPu v 1 i.fsX

/-- A current in per-unit of FS_I. -/
def ProgIn.iPu (i : ProgIn) (a : Nat) : Int := if i.fsI = 0 then 0 else satPu ((a * 2 ^ 23 : Int).fdiv i.fsI)

/-! ### State of record: its words by name -/

/-- Words of the state of record; the braking chain of a CLAMP program begins at word 26. Motor travel, contact point, start and the
electric force of the last tick are held as two words each, like the limiter's (R523). -/
structure Rec where
  integ : Int := 0
  xh : Int := 0
  vh : Int := 0
  dh : Int := 0
  xpPrev : Int := 0
  lx : Int := 0
  lxf : Int := 0
  lv : Int := 0
  lvf : Int := 0
  la : Int := 0
  laf : Int := 0
  u : Int := 0
  mode : Int := 0
  contact : Int := 0
  travel : Int := 0
  ang : Int := 0
  angF : Int := 0
  spd : Int := 0
  hasContact : Int := 0
  start : Int := 0
  clip : Int := 0
  travelF : Int := 0
  contactF : Int := 0
  startF : Int := 0
  fePrev : Int := 0
  fePrevF : Int := 0
  chain : List Int := []

/-- Read a record from its words. -/
def Rec.ofWords (w : List Int) : Rec :=
  let g := fun k => w.getD k 0
  { integ := g 0, xh := g 1, vh := g 2, dh := g 3, xpPrev := g 4, lx := g 5, lxf := g 6, lv := g 7, lvf := g 8,
    la := g 9, laf := g 10, u := g 11, mode := g 12, contact := g 13, travel := g 14, ang := g 15, angF := g 16,
    spd := g 17, hasContact := g 18, start := g 19, clip := g 20, travelF := g 21, contactF := g 22, startF := g 23, fePrev := g 24,
    fePrevF := g 25, chain := w.drop 26 }

/-- The words of a record. -/
def Rec.words (r : Rec) : List Int :=
  [r.integ, r.xh, r.vh, r.dh, r.xpPrev, r.lx, r.lxf, r.lv, r.lvf, r.la, r.laf, r.u, r.mode, r.contact, r.travel,
   r.ang, r.angF, r.spd, r.hasContact, r.start, r.clip, r.travelF, r.contactF, r.startF, r.fePrev, r.fePrevF] ++ r.chain

/-- A per-unit word and its fraction word as one number, and back (R523). -/
def joinW (hi lo : Int) : Int := hi * 2 ^ 23 + lo
def hiW (c x : Int) : Int := nlW c (fun v => v.fdiv (2 ^ 23)) x
def loW (c x : Int) : Int := nlW c (fun v => v % 2 ^ 23) x

/-! ### Observer (R102) -/

/-- `v` per-unit of FS_V over `ns` nanoseconds, in per-unit of FS_X. -/
def ProgIn.travelPu (i : ProgIn) (c v : Int) (ns : Nat) : Int := scaleW c (i.fsV * ns : Nat) (i.fsX * 10 ^ 9 : Nat) v

/-- 2π as a ratio, in units of 1e-9 (the configured bandwidth times it is w; DESIGN CHOICE, log entry 12). -/
def twoPiNano : Nat := 6283185307

/-- One update of the observer, with the OBS flag of its states and the ARITH flag of what lies between. The load estimate dh is a
word in per-unit of FS_V over T_ACC, the unit of the demand: `u_prev · fs_v / t_acc − dh` is one saturated difference, and its product
with dt is rounded once (DESIGN CHOICE, log entry 115). -/
def observe (c : Int) (i : ProgIn) (r : Rec) : Fl Rec :=
  let t : Int := i.tNs
  let xp := satFl c fObs (r.xh + i.travelPu c r.vh i.tNs)
  let drive := satFl c fArith (r.u - r.dh)
  let vp := satFl c fObs (r.vh + scaleW c (t * 1000) (i.tAcc * 10 ^ 9 : Nat) drive.val)
  match i.meas with
  | none => ⟨{ r with xh := xp.val, vh := vp.val, xpPrev := xp.val }, flAll [xp.fl, drive.fl, vp.fl]⟩
  | some m =>
    let lead := satFl c fArith (i.travelPu c r.vh i.leadNs)
    let xr := satFl c fArith ((if i.voted then r.xpPrev else xp.val) - lead.val)
    let ex := satFl c fArith (c * m - xr.val)
    let w : Int := twoPiNano * i.bw
    -- l1 = 3 w dt; l2 = 3 w² dt acts on FS_X / FS_V, and l3 = w³ dt on that times T_ACC
    let c1 := satFl c fArith (scaleW c (3 * w * t) (10 ^ 18) ex.val)
    let c2 := satFl c fArith (scaleW c (3 * w * w * t * i.fsX) (10 ^ 27 * i.fsV) ex.val)
    let c3 := satFl c fArith (scaleW c (w * w * w * t * i.fsX * i.tAcc) (10 ^ 39 * i.fsV) ex.val)
    let xh := satFl c fObs (xp.val + c1.val)
    let vh := satFl c fObs (vp.val + c2.val)
    let dh := satFl c fObs (r.dh - c3.val)
    ⟨{ r with xh := xh.val, vh := vh.val, dh := dh.val, xpPrev := xp.val },
      flAll [xp.fl, drive.fl, vp.fl, lead.fl, xr.fl, ex.fl, c1.fl, c2.fl, c3.fl, xh.fl, vh.fl, dh.fl]⟩

/-! ### Limiter (R107, R109, R523) -/

/-- Position, rate and acceleration of a limiter, each in units of 1 / `one` of its full scale. -/
structure Lim where
  x : Int
  v : Int
  a : Int

def sgn (x : Int) : Int := if 0 < x then 1 else if x < 0 then -1 else 0

/-- Full scales and limits of a limiter: FS_X, FS_V, VMAX, AMAX, JMAX in physical units, tick length in ns. -/
structure LimCfg where
  one : Nat
  fsX : Nat
  fsV : Nat
  vmax : Nat
  amax : Nat
  jmax : Nat
  tNs : Nat

/-- The largest speed from which a stop covers no more than `d` (R107). -/
def vreach (g : LimCfg) (d : Nat) : Nat :=
  if g.fsV = 0 ∨ g.jmax = 0 then 0
  else
    let v1 := icbrt (d * d * (g.fsX * g.fsX) * g.jmax * g.one / (g.fsV * g.fsV * g.fsV))
    if v1 * (g.jmax * g.fsV) ≤ g.amax * g.amax * g.one then v1
    else
      let q := g.amax * g.amax * g.one / (2 * g.jmax * g.fsV)
      isqrt (q * q + 2 * g.amax * d * g.fsX * g.one / (g.fsV * g.fsV)) - q

/-- The magnitude of a word. -/
def magW (w : Int) : Int := (w.natAbs : Int)

/-- One update of the limiter towards `r` (R107), with the ARITH flag. A limit below the present |v| or |a| is approached, not jumped
to (R109). The per-unit word at either bound has no fraction; a limit of exactly one full scale stands for that bound and is no
saturation (log entry 31). -/
def limStep (c : Int) (g : LimCfg) (r : Int) (s : Lim) : Fl Lim :=
  if g.fsV = 0 ∨ g.fsX = 0 then ⟨s, 0⟩
  else
    let mx : Int := c * (puMax * (g.one / 2 ^ 23 : Nat))
    let past := fun (top : Int) (x : Int) => (⟨clampI (-mx) mx x, if magW x ≤ top then 0 else 2 ^ fArith⟩ : Fl Int)
    let cut := past mx
    let e := cut (r - s.x)
    let sg := sgn e.val
    let vm : Int := c * (g.vmax * g.one / g.fsV : Nat)
    let am : Int := c * (g.amax * g.one / g.fsV : Nat)
    let jd : Int := c * (g.jmax * g.one * g.tNs / (g.fsV * 10 ^ 9) : Nat)
    let vr := past (c * g.one) (if s.v ≠ 0 ∧ sgn s.v ≠ sg then 0
      else sg * min vm (nlW c (fun d => (vreach g d.toNat : Nat)) (magW e.val)))
    let dv := cut (vr.val - s.v)
    let at_ := past (c * g.one) (sgn dv.val *
      min am (nlW c (fun d => (isqrt (2 * g.jmax * d.toNat * g.one / g.fsV) : Nat)) (magW dv.val)))
    let aLim := min mx (max am (magW s.a))
    let a := clampI (-aLim) aLim (s.a + clampI (-jd) jd (at_.val - s.a))
    let vLim := min mx (max vm (magW s.v))
    let v := clampI (-vLim) vLim (s.v + scaleW c g.tNs (10 ^ 9) a)
    let x := cut (s.x + scaleW c (g.fsV * g.tNs : Nat) (g.fsX * 10 ^ 9 : Nat) v)
    let fl := flAll [e.fl, vr.fl, dv.fl, at_.fl, x.fl]
    if sg ≠ 0 ∧ sgn (r - x.val) ≠ sg then ⟨⟨r, 0, 0⟩, fl⟩ else ⟨⟨x.val, v, a⟩, fl⟩

/-- The clip of the set-point before the limiter, and whether it acted. -/
def ProgIn.clipSp (i : ProgIn) (c sp : Int) : Int × Bool :=
  let x := match i.struct with
    | 1 => clampI (c * i.xPu (i.pS 6)) (c * i.xPu (i.pS 7)) sp
    | 3 => if sp = 0 then c * i.xPu (i.pS 1) else c * i.xPu (i.pS 0)
    | 4 => if i.p 3 % 2 = 0 ∧ sp < 0 then 0 else sp
    | _ => sp
  (x, i.struct != 3 && x != sp)

/-- The limiter of the record, and whether it counts as active (R108). -/
def limit (c : Int) (i : ProgIn) (sp : Int) (r : Rec) : Fl Rec × Bool :=
  let sp := i.clipSp c sp
  let t := joinW sp.1 0
  let l := limStep c ⟨2 ^ 46, i.fsX, i.fsV, i.vmax, i.amax, i.jmax, i.tNs⟩ t
    ⟨joinW r.lx r.lxf, joinW r.lv r.lvf, joinW r.la r.laf⟩
  (⟨{ r with lx := hiW c l.val.x, lxf := loW c l.val.x, lv := hiW c l.val.v, lvf := loW c l.val.v, la := hiW c l.val.a,
             laf := loW c l.val.a }, l.fl⟩, sp.2 || l.val.x != t)

/-! ### Control laws (R99-R101) -/

/-- A U16.16 gain on a word (R93), saturated at a point of flag `k`. -/
def gain (c : Int) (k : Nat) (g : Nat) (w : Int) : Fl Int := satFl c k (scaleW c g (2 ^ 16) w)

/-- A position error as a speed: gain on FS_X over FS_V. -/
def ProgIn.speedOf (i : ProgIn) (c : Int) (g : Nat) (w : Int) : Fl Int :=
  satFl c fArith (scaleW c (g * i.fsX : Nat) (2 ^ 16 * i.fsV : Nat) w)

/-- Terms added from left to right, each sum saturated (R92, log entry 97). -/
def sumFl (c : Int) (k : Nat) (x : Int) (l : List Int) : Fl Int :=
  l.foldl (fun s y => let z := satFl c k (s.val + y); ⟨z.val, orFl s.fl z.fl⟩) ⟨x, 0⟩

/-- The integrator of R99: the per-tick gain KI × T on the loop's error, taken into it before the pass uses it (DEDUCED, log entry
98); it does not deepen an active DEMAND clip, and sets no flag in a pass in which that stops it. Its flag is set when it stands at
its limit (R94). -/
def integrate (c : Int) (i : ProgIn) (ki : Nat) (err : Int) (r : Rec) : Fl Rec :=
  let d := satFl c fArith (scaleW c (ki * i.tNs : Nat) (2 ^ 16 * 10 ^ 9) err)
  if wordVal c r.clip ≠ 0 ∧ sgn d.val = wordVal c r.clip then ⟨r, d.fl⟩
  else
    let x := (satFl c fInteg (r.integ + d.val)).val
    ⟨{ r with integ := x }, orFl d.fl (if c * puMax ≤ magW x then 2 ^ fInteg else 0)⟩

/-- Motor speed of the lane's own resolver in per-unit of 30,000 rpm (R100). -/
def ProgIn.omega (i : ProgIn) (c spd : Int) : Fl Int := satFl c fArith (scaleW c (10 ^ 6) i.tNs spd)

def steerLaw (c : Int) (i : ProgIn) (r : Rec) : Fl Rec :=
  let e := satFl c fArith (r.lx - r.xh)
  let inside := decide (magW e.val * i.fsX < c * (i.p 5 * 2 ^ 23 : Nat))
  let ez := if inside then 0 else e.val
  let vref := i.speedOf c (i.p 0) ez
  let ev := sumFl c fArith vref.val [r.lv, -r.vh]
  let r1 := integrate c i (i.p 2) ev.val r
  let f1 := gain c fFf (i.p 3) r.lv
  let f2 := gain c fFf (i.p 4) r.la
  let pr := gain c fArith (i.p 1) ev.val
  let u := sumFl c fArith pr.val [r1.val.integ, f1.val, f2.val]
  ⟨{ r1.val with u := u.val }, flAll [e.fl, vref.fl, ev.fl, r1.fl, f1.fl, f2.fl, pr.fl, u.fl]⟩

/-- u = KP × e + integral + KF × v_sp: PUMP, and CLAMP in FORCE. -/
def forceLaw (c : Int) (i : ProgIn) (kp ki kf : Nat) (r : Rec) : Fl Rec :=
  let e := satFl c fArith (r.lx - r.xh)
  let r1 := integrate c i ki e.val r
  let f1 := gain c fFf kf r.lv
  let pr := gain c fArith kp e.val
  let u := sumFl c fArith pr.val [r1.val.integ, f1.val]
  ⟨{ r1.val with u := u.val }, flAll [e.fl, r1.fl, f1.fl, pr.fl, u.fl]⟩

/-- The mode table of R100 on the new set-point and the measured force; without a measurement the observer's stands for it. -/
def clampMode (c : Int) (i : ProgIn) (r : Rec) : Rec :=
  let fc := c * i.xPu (i.p 2)
  let f := match i.meas with
    | some m => c * m
    | none => r.xh
  let m := wordVal c r.mode
  if m = 0 then if fc < 2 * r.lx then { r with mode := c } else r
  else if m = 1 then
    if fc < f then { r with mode := 2 * c, contact := r.travel, contactF := r.travelF, hasContact := c } else r
  else if 2 * r.lx < fc ∧ 2 * f < fc then { r with mode := 0 }
  else r

def clampLaw (c : Int) (i : ProgIn) (r : Rec) : Fl Rec :=
  let r := clampMode c i r
  let m := wordVal c r.mode
  if m ≠ 0 ∧ m ≠ 1 then forceLaw c i (i.p 0) (i.p 1) (i.p 6) r
  else
    let va := c * satPu ((i.p 5 * 2 ^ 23 : Int).fdiv 30000)
    let tgt := satWide c fArith (if wordVal c r.hasContact = 0 then joinW r.start r.startF
      else joinW r.contact r.contactF - c * (i.p 3 * 65536 : Int).fdiv 1000)
    let err := satWide c fArith (tgt.val - joinW r.travel r.travelF)
    let pos := satFl c fArith (scaleW c (i.p 4 * 60 : Nat) (2 ^ 9 * 30000) err.val)
    let om := i.omega c r.spd
    let wsp := if m = 1 then va else clampI (-va) va pos.val
    let e := satFl c fArith (wsp - om.val)
    let u := gain c fArith (i.p 7) e.val
    ⟨{ r with u := u.val }, flAll [if m = 1 then 0 else flAll [tgt.fl, err.fl, pos.fl], om.fl, e.fl, u.fl]⟩

def parkLaw (c : Int) (i : ProgIn) (sp : Int) (r : Rec) : Fl Rec :=
  let xa := i.xPu (i.pS 0)
  let xr := i.xPu (i.pS 1)
  let travel := magW (xa - xr)
  let apply := sp != 0
  let tgt := c * (if apply then xa else xr)
  let near := fun (pct : Int) => decide (magW (tgt - r.xh) * 100 ≤ c * (travel * pct))
  if near 1 then ⟨{ r with u := 0, mode := if apply then 2 * c else 0 }, 0⟩
  else
    let e := satFl c fArith (r.lx - r.xh)
    let vref := i.speedOf c (i.p 3) e.val
    let ev := satFl c fArith (vref.val - r.vh)
    let u := gain c fArith (i.p 4) ev.val
    let ia := c * i.iPu (i.p 2)
    let uv := if apply && near 10 then clampI (-ia) ia u.val else u.val
    ⟨{ r with u := uv, mode := c }, flAll [e.fl, vref.fl, ev.fl, u.fl]⟩

/-- The CHOP law before its clip to [0, IMAX], which is that of the per-set current (log entry 28). -/
def chopLaw (c : Int) (i : ProgIn) (r : Rec) : Fl Rec :=
  let e := satFl c fArith (r.xh - r.lx)
  let r1 := integrate c i (i.p 1) e.val r
  let pr := gain c fArith (i.p 0) e.val
  let u := satFl c fArith (pr.val + r1.val.integ)
  ⟨{ r1.val with u := u.val }, flAll [e.fl, r1.fl, pr.fl, u.fl]⟩

/-- The demand; a shutdown ramp supplies it instead (R116). -/
def controlLaw (c : Int) (i : ProgIn) (sp : Int) (r : Rec) : Fl Rec :=
  match i.force with
  | some u => ⟨{ r with u := c * u }, 0⟩
  | none =>
    match i.struct with
    | 1 => steerLaw c i r
    | 2 => clampLaw c i r
    | 3 => parkLaw c i sp r
    | 4 => forceLaw c i (i.p 0) (i.p 1) (i.p 2) r
    | 5 => chopLaw c i r
    | _ => ⟨{ r with u := 0 }, 0⟩

/-! ### Commutation and share (R106, R111-R113) -/

/-- An angle word wrapped to one turn of 65,536. -/
def turnW (c w : Int) : Int := nlW c (fun x => toSigned 16 (ofSigned 16 x)) w

/-- The lane's own angle for this tick: measured, or advanced at the last valid speed (R106); the travel is unwrapped
from it (R100). -/
def commutate (c : Int) (i : ProgIn) (r : Rec) : Fl Rec :=
  let far := fun (d : Int) =>
    let x := satWide c fArith (joinW r.travel r.travelF + d)
    (⟨{ r with travel := hiW c x.val, travelF := loW c x.val }, x.fl⟩ : Fl Rec)
  match i.angle with
  | some a =>
    let t := far (turnW c (c * a - r.ang))
    ⟨{ t.val with ang := turnW c (c * a), angF := 0, spd := c * i.speed }, t.fl⟩
  | none =>
    let f := r.angF + r.spd
    let d := nlW c (fun x => x.fdiv 256) f
    let t := far d
    ⟨{ t.val with ang := turnW c (r.ang + d), angF := nlW c (fun x => x % 256) f }, t.fl⟩

/-- Per-set current after share and clip, and the sign of the clip (R111). -/
def perSet (c : Int) (i : ProgIn) (u : Int) : Int × Int :=
  let x := scaleW c i.share (2 ^ 14) u
  let im := c * i.iPu i.imax
  let y := clampI (if i.struct = 5 then 0 else -im) im x
  (y, c * sgn (x - y))

/-- Sine by its series, `n` terms from the k-th on: `t` is the last term and `a2` the squared angle, of 60 fraction bits. -/
def sineFrom (a2 : Int) : Nat → Nat → Int → Int
  | 0, _, _ => 0
  | n + 1, k, t =>
    let t' := -(t * a2).fdiv (2 ^ 60 * (2 * k * (2 * k + 1) : Nat))
    t' + sineFrom a2 n (k + 1) t'

/-- 2π in 60 fraction bits. -/
def twoPi60 : Int := 7244019458077122842

/-- Sine of an angle within a quarter turn, of 196,608 units per turn, in 23 fraction bits, rounded to nearest (DESIGN CHOICE, log
entry 8) and saturated (R91). -/
def sineQuarter (q : Int) : Int :=
  let a := (q * twoPi60).fdiv 196608
  satPu ((a + sineFrom ((a * a).fdiv (2 ^ 60)) 11 1 a + 2 ^ 36).fdiv (2 ^ 37))

/-- Sine of an angle of 196,608 units per turn (R112). -/
def sine (θ : Int) : Int :=
  let x := θ % 196608
  if x ≤ 49152 then sineQuarter x
  else if x ≤ 98304 then sineQuarter (98304 - x)
  else if x ≤ 147456 then -sineQuarter (x - 98304)
  else -sineQuarter (196608 - x)

/-- A phase set-point at an angle of 196,608 units per turn. -/
def phaseAt (c iset θ : Int) : Fl Int := satFl c fPhase (nlW2 c (fun x a => (x * sine a).fdiv (2 ^ 23)) iset θ)

/-- Phase set-points of the axis (R112, R113). -/
def phases (c : Int) (i : ProgIn) (r : Rec) (iset : Int) : Fl (List Int) :=
  if i.struct = 5 then
    let n := popCount 3 (i.p 2)
    let each := scaleW c 1 n iset
    ⟨[0, 1, 2].map (fun k => if bitOf (i.p 2) k then each else 0), 0⟩
  else
    let θ : Int := 3 * i.polePairs * r.ang + scaleW c (9 * i.polePairs : Nat) 512 r.spd + c * (3 * i.offset : Nat)
    let set := fun (o : Int) => [phaseAt c iset (θ + c * o), phaseAt c iset (θ + c * (o - 65536)), phaseAt c iset (θ + c * (o + 65536))]
    let l := set 0 ++ (if i.six then set (if i.shift2 then -16384 else 0) else [])
    ⟨l.map (·.val), flAll (l.map (·.fl))⟩

/-- One run of a program (R86, R99): the new record, the result set in the order of R181, its flag word, and whether the
limiter counts as active. `chain` is the braking chain's new words, which a CLAMP program computes first. -/
structure ProgOut where
  res : RunRes
  limited : Bool

/-- A run from a state of record towards the set-point word `sp` (R181): demand, phase set-points, the exchanged demand, the working
copy. -/
def runProgram (c : Int) (i : ProgIn) (sp : Int) (r : Rec) : ProgOut :=
  let m := commutate c i r
  let o := observe c i m.val
  let l := limit c i sp o.val
  let k := controlLaw c i sp l.1.val
  let ps := perSet c i k.val.u
  let r' := { k.val with clip := ps.2, u := if i.struct = 5 then ps.1 else k.val.u }
  let ph := phases c i r' ps.1
  let fl := flAll [m.fl, o.fl, l.1.fl, k.fl, if ps.2 = 0 then 0 else 2 ^ fDemand, ph.fl, if i.inSat then 2 ^ fArith else 0]
  ⟨⟨r'.u :: ph.val ++ [r'.u] ++ r'.words, fl⟩, l.2⟩

/-- The place of word k of the record in a result set of `np` phases. -/
def recAt (np k : Nat) : Nat := 2 + np + k

end Sys2Proof.Machine
end

