-- ==== Sys2Proof/Machine/Chain.lean ====
section
/-!
DEFINITION. The braking chain that every CLAMP program computes (R149-R166), as arithmetic on its state words, and a
whole run of an axis: chain, then program, in the plain pass (`c` = 1) or the coded one (`c` = 59). Units of the chain words are this
model's (log entry 13).
-/
namespace Sys2Proof.Machine

/-- The chain state (R150). Every quantity but the slip factors is a number of two words, as the limiter's are (R523). A cap below 0 is
that of a lost link: its magnitude is the cap before the loss (R162). -/
structure Chain where
  x : Int := 0
  v : Int := 0
  a : Int := 0
  trim : Int := 0
  vref : Int := 0
  filt : Int := 0
  cap : Int := 0
  integ : Int := 0
  k : List Int := []

/-- The chain state from its words: eight words, twelve slip factors, eight fraction words. Words that an exchange does not carry are
0. -/
def Chain.ofWords (w : List Int) : Chain :=
  let g := fun i => joinW (w.getD i 0) (w.getD (20 + i) 0)
  { x := g 0, v := g 1, a := g 2, trim := g 3, vref := g 4, filt := g 5, cap := g 6, integ := g 7,
    k := (List.range 12).map (fun i => w.getD (8 + i) 0) }

/-- The chain state in a state of record. -/
def Rec.chainState (r : Rec) : Chain := Chain.ofWords r.chain

/-- The quantities of two words. -/
def Chain.wide (s : Chain) : List Int := [s.x, s.v, s.a, s.trim, s.vref, s.filt, s.cap, s.integ]

/-- The words of the chain state in a pass of code `c`. -/
def Chain.words (c : Int) (s : Chain) : List Int := s.wide.map (hiW c) ++ s.k ++ s.wide.map (loW c)

/-- The words of the chain state that the exchange carries (R150). -/
def Chain.sent (s : Chain) : List Int := (s.words 1).take 20

/-- A whole number of word units as a number of two words. -/
def wideC (c x : Int) : Int := c * (x * 2 ^ 23)

/-- Forces are numbers of two words of 2^-19 N (log entry 13). -/
def newton : Int := 2 ^ 19

/-- An infinite derating cap (R161). -/
def capInf : Int := puMax * 2 ^ 23

/-- A slip factor of 1. -/
def kOne : Int := 2 ^ 22

/-- The chain where no lane has sent one (R150). -/
def chainInit (vw : Option Int) : List Int :=
  ({ vref := wideC 1 (satPu (vw.getD 0)), cap := capInf, k := (List.range 12).map (fun _ => kOne) } : Chain).words 1

/-- What a run of the chain yields beside its words: forces in 2^-19 N, the duty in 2^-20 stages, slips in 1/65,536, the flags of its
saturations. -/
structure ChainOut where
  chain : Chain
  fReq : Int
  fAv : Int
  fE : Int
  tReq : Int
  duty : Int
  lam : List Int
  fW : List Int
  sp : Int
  trimLim : Bool
  fl : Nat

/-- Deceleration shaping (R155): the limiter of R107 in m/s units, JMAX = AMAX / TJ. -/
def shape (c : Int) (i : ChainIn) (s : Chain) : Fl Chain :=
  let l := limStep c ⟨2 ^ 46, 2 ^ 14, 2 ^ 17, i.rate, i.jerk, if i.tjMs = 0 then 0 else i.jerk * 1000 / i.tjMs, i.tNs⟩
    (wideC c (satPu i.aReq)) ⟨s.x, s.v, s.a⟩
  ⟨{ s with x := l.val.x, v := l.val.v, a := l.val.a }, l.fl⟩

/-- Reference speed (R158) and the filter of measured deceleration (R157). -/
def refSpeed (c : Int) (i : ChainIn) (s : Chain) : Fl Chain :=
  let t : Int := i.tNs
  let vw := wideC c (i.vw.getD 0)
  let dec := max (-i.aLong) 0 + 256 * i.refMargin
  let fall := satWide c fArith (s.vref - c * (dec * t * 2 ^ 23).fdiv (4 * 10 ^ 9))
  let rise := satWide c fArith (s.vref + c * (64 * i.aUp * t * 2 ^ 23).fdiv (10 ^ 9))
  let v := satWide c fArith (max (min (max vw fall.val) rise.val) 0)
  let x := satWide c fArith (scaleW c (-(4 * 10 ^ 9)) t (v.val - s.vref))
  let d := satWide c fArith (x.val - s.filt)
  let f := satWide c fArith (s.filt + scaleW c t (20 * 10 ^ 6) d.val)
  ⟨{ s with vref := v.val, filt := f.val }, flAll [fall.fl, rise.fl, v.fl, x.fl, d.fl, f.fl]⟩

/-- Slip λ of a wheel of speed `v`, in 1/65,536 (R165). -/
def slipOf (c : Int) (i : ChainIn) (vref v : Int) : Fl Int :=
  satFl c fArith (nlW c (fun r =>
    let d := max r (i.vMin * 2 ^ 23)
    if d = 0 then 0 else ((r - v * 2 ^ 23) * 65536).fdiv d) vref)

/-- One slip factor (R165, R166). -/
def slipStep (c : Int) (i : ChainIn) (vref : Int) (w : Nat) (k : Int) : Fl Int :=
  let up := c * (i.recov * 2 ^ 22 * i.tNs : Int).fdiv (10 ^ 10)
  if !i.en.getD w false then ⟨k, 0⟩
  else
    match i.wheels.getD w none with
    | none => ⟨if k < c * i.kBlind then min (k + up) (c * i.kBlind) else max (k - up) (c * i.kBlind), 0⟩
    | some v =>
      let lam := slipOf c i vref v
      if vref < wideC c i.vMin then ⟨min (k + up) (c * kOne), 0⟩
      else if c * i.lamTgt < lam.val then
        let excess := satFl c fArith (lam.val - c * i.lamTgt)
        let cut := satFl c fArith (scaleW c (i.ks * 2 ^ 22 * i.tNs : Nat) (65536 * 10 ^ 9) excess.val)
        let low := satFl c fArith (k - cut.val)
        ⟨max low.val (c * i.kMin), flAll [lam.fl, excess.fl, cut.fl, low.fl]⟩
      else if lam.val < c * (i.lamTgt - i.hyst) then ⟨min (k + up) (c * kOne), lam.fl⟩
      else ⟨k, lam.fl⟩

/-- Trim (R157). *All k* are those of the enabled wheel-ends; that of an entry not enabled enters nothing (DESIGN CHOICE, log entry
116). -/
def trimStep (c : Int) (i : ChainIn) (s : Chain) : Fl Int :=
  let one := (List.range 12).all (fun w => !i.en.getD w false || s.k.getD w 0 == c * kOne)
  if !i.trimEn then ⟨0, 0⟩
  else if wideC c (500 * 512) ≤ s.x ∧ wideC c i.vMin ≤ s.vref ∧ one then
    let e := satWide c fArith (s.x - 2 * s.filt)
    let d := satWide c fArith (nlW2 c (fun x e => (i.kiTrim * 2 ^ 46 * e * i.tNs).fdiv (256 * x * 10 ^ 9)) s.x e.val)
    ⟨clampI (-(wideC c i.trimLo)) (wideC c i.trimHi) (s.trim + d.val), flAll [e.fl, d.fl]⟩
  else ⟨s.trim, 0⟩

/-- Retarder regulator (R162, R163): total duty and integrator, as numbers of two words in 2^-20 stages. The condition on `d` concerns
the duty in force, `dLast`; without a link value the duty holds, and with no usable stage it is 0. The integrator, and the cap below, run on
while the BLEND page's PG_CTL.EN is 0: R151 then fixes the requests and the duty only (DESIGN CHOICE, log entry 124). -/
def regulate (c : Int) (i : ChainIn) (integ : Int) : Fl (Int × Int) :=
  if i.nSt = 0 ∨ !i.retEn then ⟨(0, integ), 0⟩
  else if !i.linkOk then ⟨(wideC c (if i.holdOver then 0 else i.dLast), integ), 0⟩
  else
    let top := wideC c (i.nSt * 2 ^ 20)
    let e := satFl 1 fArith (i.uLink - i.uRef)
    let step := satWide c fArith (c * (i.ki * e.val * i.tNs * 2 ^ 23).fdiv (64 * 10 ^ 9))
    let integ := if (i.nSt * 2 ^ 20 ≤ i.dLast ∧ 0 < e.val) ∨ (i.dLast ≤ 0 ∧ e.val < 0) then integ
      else clampI 0 top (integ + step.val)
    let prop := satWide c fArith (c * (i.kp * e.val * 2 ^ 23).fdiv 64)
    ⟨(clampI 0 top (prop.val + integ), integ), flAll [e.fl, step.fl, prop.fl]⟩

/-- Derating cap (R161, R162); `fe` is the electric force of the last tick. A lost link is marked; when a value returns the cap
restarts at 0. -/
def capStep (c : Int) (i : ChainIn) (cap fe d fReq : Int) : Int :=
  let step : Int := c * (i.derate * 1000 * i.tNs * newton).fdiv (10 ^ 9)
  if !i.linkOk then -magW cap
  else
    let cap := max cap 0
    if i.uHi < i.uLink then max (min cap fe - step) 0
    else if cap ≠ c * capInf ∧ i.uLink < i.uRef ∧ 10 * d < 9 * wideC c (i.nSt * 2 ^ 20) then
      if fReq ≤ cap + step then c * capInf else cap + step
    else cap

/-- Road force of each wheel-end (R160): its share of the friction force by load among the entries that have a contributing lane, times
its slip factor. -/
def allocate (c : Int) (i : ChainIn) (k : List Int) (fF : Int) : List Int :=
  let part := (List.range 12).map (fun w => if i.en.getD w false && i.contrib.getD w false then i.loads.getD w 0 else 0)
  let sum := part.foldl (· + ·) 0
  (List.range 12).map (fun w =>
    if sum = 0 then 0 else nlW2 c (fun f k => (f * part.getD w 0 * k).fdiv (sum * 2 ^ 22)) fF (k.getD w 0))

/-- Slip of each enabled wheel-end with a valid speed, 0 elsewhere (R165). -/
def slips (c : Int) (i : ChainIn) (vref : Int) : List (Fl Int) :=
  (List.range 12).map (fun w => match i.wheels.getD w none with
    | some v => if i.en.getD w false then slipOf c i vref v else ⟨0, 0⟩
    | none => ⟨0, 0⟩)

/-- One run of the braking chain for one wheel-end (R155-R166), its steps in the order of the chapter, each on what the steps before it
have given in this tick (DEDUCED, log entry 99). Every intermediate saturates under R92 and sets ARITH (R94). -/
def chainStep (c : Int) (i : ChainIn) (words : List Int) (fe : Int) : ChainOut :=
  let sh := shape c i (Chain.ofWords words)
  let rs := refSpeed c i sh.val
  let ks := (List.range 12).map (fun w => slipStep c i rs.val.vref w (rs.val.k.getD w 0))
  let s := { rs.val with k := ks.map (·.val) }
  let tr := trimStep c i s
  let fReq := satWide c fArith (if i.on then
      nlW2 c (fun x t => (i.mass * x * (2 ^ 46 + t) * 100).fdiv (256 * 512 * 1000 * 2 ^ 50)) s.x tr.val
    else 0)
  let r := regulate c i s.integ
  let cap := capStep c i s.cap fe r.val.1 fReq.val
  let s := { s with trim := tr.val, integ := r.val.2, cap := cap }
  let fAv := satWide c fArith (c * (if i.rDyn = 0 then 0 else (i.tAvail * 1000 * newton).fdiv i.rDyn))
  let capN := if cap = c * capInf then fReq.val else cap
  let fE := if !i.on || !i.linkOk || i.noElec then 0
    else max 0 (min fAv.val (min (scaleW c i.elecCap (2 ^ 15) fReq.val) capN))
  let fF := satWide c fArith (fReq.val - fE)
  let fW := allocate c i s.k fF.val
  let lam := slips c i s.vref
  let sp := satWide c fArith (match i.own with
      | some w => scaleW c i.cw 256 (fW.getD w 0)
      | none => 0)
  { chain := s, fReq := fReq.val, fAv := fAv.val, fE := fE, tReq := scaleW c i.rDyn (1000 * newton) fE
    duty := if i.on then hiW c r.val.1 else 0, lam := lam.map (·.val), fW := fW, sp := sp.val
    trimLim := i.trimEn && (s.trim == wideC c i.trimHi || s.trim == -(wideC c i.trimLo))
    fl := flAll ([sh.fl, rs.fl, tr.fl, fReq.fl, r.fl, fAv.fl, fF.fl, sp.fl] ++ ks.map (·.fl) ++ lam.map (·.fl)) }

/-- A whole run of an axis: the chain where the structure is CLAMP, then the program. -/
structure AxisOut where
  prog : ProgOut
  chain : Option ChainOut

/-- A run with the flags `f` of what came before it. -/
def ProgOut.withFl (f : Nat) (p : ProgOut) : ProgOut := { p with res := { p.res with flags := orFl p.res.flags f } }

/-- A run of an axis on the words of a pass: `c` = 1 the plain pass, `c` = 59 the coded one, in which every operation gives 59 times its
plain result for valid words (R93), and hands on what an invalid one lacks (R177). -/
def runAxis (c : Int) (i : ProgIn) (ci : ChainIn) (r : Rec) : AxisOut :=
  if i.struct = 2 then
    let o := chainStep c ci r.chain (joinW r.fePrev r.fePrevF)
    let sp := if i.fromChain then satFl c fArith (nlW c (fun x => puOf x newton i.fsX) o.sp) else ⟨c * i.sp, 0⟩
    let r := { r with chain := o.chain.words c, fePrev := hiW c o.fE, fePrevF := loW c o.fE }
    ⟨(runProgram c i sp.val r).withFl (orFl o.fl sp.fl), some o⟩
  else ⟨runProgram c i (c * i.sp) r, none⟩

/-- The plain run from a plain state of record. -/
def runPlain (i : ProgIn) (ci : ChainIn) (rec_ : List Int) : AxisOut := runAxis 1 i ci (Rec.ofWords rec_)

/-- The coded run from a coded state of record (R175-R177). -/
def runCoded (i : ProgIn) (ci : ChainIn) (recC : List Int) : RunRes := (runAxis 59 i ci (Rec.ofWords recC)).prog.res

end Sys2Proof.Machine
end

