-- ==== Sys2Proof/Machine/Operands.lean ====
section
/-!
DEFINITION. What programs and votes read: inputs in their exchanged form (R520, R521), voted values (R19, R79, R80), the
fields of safety PDUs with their ranges (R152, R263, R348).
-/
namespace Sys2Proof.Machine

/-- The number that bytes spell, most significant first. -/
def beNat (bs : List Nat) : Nat := ofBytesLE bs.reverse

/-- The unsigned field of `n` bytes at byte `o`. -/
def fieldAt (bs : List Nat) (o n : Nat) : Nat := beNat ((bs.drop o).take n)

/-- The signed field of `n` bytes at byte `o`. -/
def fieldAtI (bs : List Nat) (o n : Nat) : Int := toSigned (8 * n) (fieldAt bs o n)

/-! ### Inputs -/

/-- The configured axis that names input k as SRC_X (R520). -/
def State.axisOf (s : State) (k : Nat) : Option Nat :=
  (List.range 16).find? (fun n => s.e (AX_CFG_STRUCT n) != 0 && s.e (AX_FB_SRC_X n) == k)

/-- A sensor position of `num / den` turns in X units of axis n, in per-unit (R521). -/
def State.turnPu (s : State) (n : Nat) (num den : Int) : Int :=
  toPu (num * (if s.e (AX_CFG_STRUCT n) = 3 then 1000 else 360000)) den (s.e (AX_FS_X_FS_X n))

/-- A resolver speed of `v` (1/256 LSB per tick) as motor speed in per-unit of axis n's FS_X (R521). -/
def State.speedPu (s : State) (n : Nat) (v : Int) : Int :=
  toPu (v * 60 * 10 ^ 9) (256 * 65536 * s.tNs : Nat) (s.e (AX_FS_X_FS_X n))

/-- Bits of one turn of encoder e. -/
def State.turnBits (s : State) (e : Nat) : Nat :=
  if s.e (ENC_N_TURN_BITS e) = 0 then s.e (ENC_CFG_BITS e) else s.e (ENC_N_TURN_BITS e)

/-- The resolver or encoder input k in X units of axis n, as a quotient (R521). -/
def State.xUnits (s : State) (n k : Nat) : Int × Int :=
  let turn : Int := if s.e (AX_CFG_STRUCT n) = 3 then 1000 else 360000
  if k < 0x68 then
    if s.e (AX_CFG_STRUCT n) = 4 then (s.fI (RES_SPEED_SPEED (k - 0x60)) * 60 * 10 ^ 9, (256 * 65536 * s.tNs : Nat))
    else (toSigned 16 (s.f (RES_ANGLE_ANGLE (k - 0x60))) * turn, 65536)
  else
    let e := k - 0x68
    (toSigned (s.e (ENC_CFG_BITS e)) (s.f (ENC_POS_POS e)) * turn, (2 ^ s.turnBits e : Nat))

/-- Input k is a resolver or an encoder. -/
def isPos (k : Nat) : Bool := decide (0x60 ≤ k ∧ k < 0x70)

/-- The lane's own value of input k as axis n converts it (R521). -/
def State.valFor (s : State) (n k : Nat) : Int :=
  if k < 0x60 then s.fI (CH_VAL_VALUE k)
  else if k < 0x70 then toPu (s.xUnits n k).1 (s.xUnits n k).2 (s.e (AX_FS_X_FS_X n))
  else (s.f (WS_VAL_VALUE (k - 0x70)) : Int)

/-- The conversion of input k for axis n saturates (R94). -/
def State.satFor (s : State) (n k : Nat) : Bool :=
  isPos k && !s.eOn (inpSharedF k) && puSat (s.xUnits n k).1 (s.xUnits n k).2 (s.e (AX_FS_X_FS_X n))

/-- The lane's own value of input k in its exchanged form (R520). -/
def State.ownVal (s : State) (k : Nat) : Int :=
  if isPos k && (s.axisOf k).isNone then 0 else s.valFor ((s.axisOf k).getD 0) k

/-- XL_TOL of input k in the exchanged form, at least 1 (R520). -/
def State.xlTol (s : State) (k : Nat) : Nat :=
  max 1 (if k < 0x60 then s.e (CH_TOL_XL_TOL k) * (s.eI (CH_GAIN_GAIN k)).natAbs / 2 ^ 14
    else if k < 0x68 then
      match s.axisOf k with
      | some n =>
        let t := s.e (RES_TOL_XL_TOL (k - 0x60))
        (if s.e (AX_CFG_STRUCT n) = 4 then s.speedPu n (256 * t : Nat) else s.turnPu n t 65536).toNat
      | none => 0
    else if k < 0x70 then
      match s.axisOf k with
      | some n => (s.turnPu n (s.e (ENC_TOL_XL_TOL (k - 0x68))) (2 ^ s.turnBits (k - 0x68) : Nat)).toNat
      | none => 0
    else
      let fs := s.e (WS_FS_FS_MMS (k - 0x70))
      if fs = 0 then 0 else s.e (WS_TOL_XL_TOL (k - 0x70)) * 2 ^ 23 / fs)

/-- Input k is in use and valid, and its value is of this tick (R62, R79). -/
def State.ownOk (s : State) (k : Nat) : Bool :=
  s.eOn (inpEnF k) && !s.on (inpInvalidF k) && !(s.inp k).stale

/-- The enabled shared inputs, in number order. -/
def State.sharedInputs (s : State) : List Nat :=
  (List.range 124).filter (fun k => s.eOn (inpEnF k) && s.eOn (inpSharedF k))

/-- What a program uses of input k (R19, R79, R80): the voted value of a shared input, the lane's own value of another. -/
def State.useVal (s : State) (k : Nat) : Option Int :=
  if 124 ≤ k then none
  else if s.eOn (inpSharedF k) then (if (s.votedOf k).ok then some (s.votedOf k).val else none)
  else if s.ownOk k then some (s.ownVal k)
  else none

/-- The same for the program of axis n, in its own FS_X (R521). -/
def State.useFor (s : State) (n k : Nat) : Option Int :=
  if 124 ≤ k || s.eOn (inpSharedF k) then s.useVal k
  else if s.ownOk k then some (s.valFor n k)
  else none

/-- Input k gives no value and the lane's own input is invalid: coasting, not a missing sample (R80). -/
def State.inputLost (s : State) (k : Nat) : Bool :=
  if 124 ≤ k then true
  else if s.eOn (inpSharedF k) then !(s.votedOf k).ok && s.on (inpInvalidF k)
  else s.on (inpInvalidF k)

/-- The braking and the steering command in use: the coordinated one while commands come over Moamel, else the lane's own (R286). -/
def State.brakeCmd (s : State) : Option (List Int) := match s.sl.coBrake with
  | some c => some c.fields
  | none => s.sl.brake
def State.steerCmd (s : State) : Option (List Int) := match s.sl.coSteer with
  | some c => some c.fields
  | none => s.sl.steer

/-- Wheel speed of input w in 1/64 mm/s. -/
def State.wheelOf (s : State) (w : Nat) : Option Int :=
  (s.useVal (0x70 + w)).map (fun (v : Int) => (v * (64 * s.e (WS_FS_FS_MMS w) : Nat)).fdiv (2 ^ 23))

/-- The largest valid voted wheel speed (R158, R170). -/
def State.maxWheel (s : State) : Option Int :=
  (List.range 12).foldl (fun m w =>
    match (if s.eOn (WS_CFG_EN w) then s.wheelOf w else none), m with
    | some v, some x => some (max v x)
    | some v, none => some v
    | none, m => m) none

/-- AIN_70 as deceleration-signed long acceleration, 1/256 mm/s² (R158); DIR from the braking command. -/
def State.aLong (s : State) : Option Int :=
  (s.useVal 70).map (fun (v : Int) =>
    let a := (v * (256 * s.e BLD_ACC_ACC_FS : Nat)).fdiv (2 ^ 23)
    if (s.brakeCmd.getD []).getD 3 0 = 1 then -a else a)

/-! ### Commands (R152) -/

/-- A command field limited to its range, and whether the clip acted. -/
def clipCmd (lo hi x : Int) : Int × Bool := (clampI lo hi x, clampI lo hi x != x)

/-- The braking command's fields A_REQ, RATE, JERK, DIR, and how many were clipped. -/
def brakeFields (d : List Nat) : List Int × Nat :=
  let a := clipCmd 0 10000 (fieldAt d 0 2)
  ([a.1, fieldAt d 2 2, fieldAt d 4 2, fieldAt d 6 1 % 2], b2n a.2)

/-- The steering command's fields ANGLE, RATE, JERK, and whether one was clipped. -/
def steerFields (d : List Nat) : List Int × Bool :=
  let a := clipCmd (-90000) 90000 (fieldAtI d 0 4)
  let r := clipCmd 0 1000000 (fieldAt d 4 4)
  let j := clipCmd 0 10000000 (fieldAt d 8 4)
  ([a.1, r.1, j.1], a.2 || r.2 || j.2)

/-- A limit field of 0 selects the configured maximum (R152). -/
def limField (x : Int) (mx : Nat) : Nat := if x ≤ 0 then mx else min x.toNat mx

end Sys2Proof.Machine
end

