-- ==== Sys2Proof/Machine/Fault.lean ====
section
/-!
DEFINITION. The fault collector and the event log (R367-R389).
-/
namespace Sys2Proof.Machine

/-- The fields of a FAULTSRC entry (R388), at its window pseudo-address. -/
def fsBaseF (id : Nat) : Fld := ⟨fsBase + 8 * id, 30, 2⟩
def fsPromF (id : Nat) : Fld := ⟨fsBase + 8 * id, 28, 2⟩
def fsNF (id : Nat) : Fld := ⟨fsBase + 8 * id, 20, 8⟩
def fsLogF (id : Nat) : Fld := ⟨fsBase + 8 * id, 19, 1⟩
def fsMaskF (id : Nat) : Fld := ⟨fsBase + 8 * id, 0, 8⟩
def fsWinF (id : Nat) : Fld := ⟨fsBase + 8 * id + 4, 0, 20⟩

/-- W of a source, ticks (R371: stored as W - 1). -/
def State.srcW (s : State) (id : Nat) : Nat := s.e (fsWinF id) + 1

/-- The class in force of an active source (R369); TERMINAL is never left (R370). -/
def State.srcClass (s : State) (id : Nat) : Nat :=
  if (s.cls id).term then 3 else if (s.cls id).promoted then s.e (fsPromF id) else s.e (fsBaseF id)

/-- Network time is in FREE (R360, R380). -/
def State.unsync (s : State) : Bool := s.f NT_STAT_STATE == 0

/-- The page and bit of PG_FLT that an identity sets. -/
def srcPage (id : Nat) : Option Nat :=
  listedPages.find? (fun pg =>
    decide (pageFmap pg ≤ id) && decide (id < pageFmap pg + 32) && bitOf (pageFltMask pg) (id - pageFmap pg))

/-- The event update of R369: the classifier after an event in tick `t`, and whether this event promoted it. -/
def clsEvent (c : Cls) (t w n : Nat) (data : Word) : Cls × Bool :=
  let c := if c.c = 0 ∨ w ≤ t - c.ws then { c with ws := t, c := 0 } else c
  let cnt := min (c.c + 1) 255
  let prom := decide (n ≤ cnt)
  ({ c with c := cnt, promoted := c.promoted || prom, last := t, active := true,
            events := satU 16 (c.events + 1), data := data }, prom && !c.promoted)

/-- Active sources whose class in force is `k`. -/
def State.countClass (s : State) (k : Nat) : Nat :=
  (s.flt.cls.filter (fun p => p.2.active && s.srcClass p.1 == k)).length

/-- FLT_STAT from the classifiers (R372). -/
def refreshStat (s : State) : State :=
  let n := fun k => s.countClass k
  let top := if s.on FLT_TERM_TERM || 0 < n 3 then 4 else if 0 < n 2 then 3 else if 0 < n 1 then 2 else if 0 < n 0 then 1 else 0
  ((s.set FLT_STAT_CLASS_MAX top).set FLT_STAT_N_LANE (satU 10 (n 2))).set FLT_STAT_N_DEGR (satU 10 (n 1))

/-- Maintenance is asked for while a source is active at DEGRADE or higher (*Fault classes*, R374). -/
def showMaint (s : State) : State := s.when (decide (2 ≤ s.f FLT_STAT_CLASS_MAX)) (·.setB LN_STAT_MAINT true)

/-- Active sources take the classes of a new configuration (R371, R372); one at TERMINAL now stays there (R370). -/
def settleClasses (s : State) : State :=
  let s := s.flt.cls.foldl (fun t p =>
    if p.2.active && t.srcClass p.1 == 3 && !p.2.term then
      let t := t.setCls p.1 { p.2 with term := true }
      if t.on FLT_TERM_TERM then t else (t.setB FLT_TERM_TERM true).set FLT_TERM_SRC p.1
    else t) s
  showMaint (refreshStat s)

/-- The reaction mask that a source holds now: its mask bits 4:0 while active and promoted, or ON_BASE (R373). -/
def State.srcReact (s : State) (id : Nat) : Nat :=
  let m := s.e (fsMaskF id)
  if (s.cls id).active && ((s.cls id).promoted || bitOf m 7) then m % 32 else 0

/-- FLT_REACT as one source's reactions leave it. -/
def reactOne (id m : Nat) (s : State) : State :=
  let s := if bitOf m 0 && decide (0x080 ≤ id) && decide (id < 0x180) then
      s.setBit FLT_REACT_HOLD ((id - 0x080) / 32) true else s
  let s := if bitOf m 1 then s.setB FLT_REACT_HOLD_ALL true else s
  let s := if bitOf m 2 then s.setB FLT_REACT_AUX_OFF true else s
  let s := if bitOf m 3 then s.setB FLT_REACT_TQ_OPEN true else s
  if bitOf m 4 then s.setB FLT_REACT_SAFE_STOP true else s

/-- What the reactions in force do at once (R373, R374). -/
def actReact (s : State) : State :=
  let s := applyHolds s
  let s := if s.on FLT_REACT_AUX_OFF then auxInactive s else s
  if s.on FLT_REACT_TQ_OPEN then openTq s else s

/-- At a TICK: the OR over all sources; a reaction no source holds any longer ends (R373). -/
def reactTick (s : State) : State :=
  let s0 := s.setWord FLT_REACT_A 0
  s.flt.cls.foldl (fun t p => reactOne p.1 (s.srcReact p.1) t) s0

/-- Word E2 of a log entry without LOSS and NUM (*Log entry*). -/
def e2Word (src cls : Nat) (unsync cont forced prom first term : Bool) : Word :=
  BitVec.ofNat 32 (src * 2 ^ 22 + cls * 2 ^ 20 + b2n unsync * 2 ^ 19 + b2n cont * 2 ^ 18 + b2n forced * 2 ^ 17 +
    b2n prom * 2 ^ 16 + b2n first * 2 ^ 15 + b2n term * 2 ^ 12)

/-- An entry goes to the collector's buffer of 64 (R382); a full buffer drops it, LOG_LOSS once per episode. -/
def bufferEntry (e : LogE) (s : State) : State :=
  if 64 ≤ s.flt.buf.length then
    let s := (s.inc LOG_CNT_DROP)
    let ep := s.flt.lossEp
    let s := { s with flt := { s.flt with lossNext := true, lossEp := true } }
    if ep then s else s.raiseU 0x3C0
  else { s with flt := { s.flt with buf := s.flt.buf ++ [e], lossEp := false } }

/-- The log takes an event's entry and its continuation (R381), unless it is frozen (R384). -/
def logEvent (ev : Raised) (cls : Nat) (prom first term : Bool) (s : State) : State :=
  if !(s.e (fsLogF ev.src) == 1) then s
  else if (s.on LOG_STAT_FROZEN || s.flt.freeze.isSome) && s.flt.freeze != some s.tb then
    s.addSat LOG_CNT_DROP (if ev.cont.isSome then 2 else 1)
  else
    let lo := BitVec.ofNat 32 s.ns
    let hi := BitVec.ofNat 32 (s.ns / 2 ^ 32)
    let s := bufferEntry ⟨lo, hi, e2Word ev.src cls s.unsync false ev.forced prom first term, ev.data⟩ s
    match ev.cont with
    | none => s
    | some d => bufferEntry ⟨lo, hi, e2Word ev.src cls s.unsync true false false false false, d⟩ s

/-- The first-fault latch of R376 on an event of class DEGRADE or higher. -/
def latchFirst (ev : Raised) (cls : Nat) (s : State) : State :=
  if cls = 0 then s
  else if s.on FLT_FIRST_VALID then s.setB FLT_FIRST_OVF true
  else
    let s := (((s.setB FLT_FIRST_VALID true).setB FLT_FIRST_UNSYNC s.unsync).set FLT_FIRST_CLASS cls).set FLT_FIRST_SRC ev.src
    ((s.set FLT_FIRST_T_LO_TIME (s.ns % 2 ^ 32)).set FLT_FIRST_T_HI_TIME (s.ns / 2 ^ 32)).setWord FLT_FIRST_DATA_A ev.data

/-- One event registers in the collector (R367-R376, R381, R384). -/
def registerEvent (ev : Raised) (s : State) : State :=
  let id := ev.src
  let s := match srcPage id with
    | some pg => s.hwSet (PG_FLT_A pg) (BitVec.ofNat 32 (2 ^ (id - pageFmap pg)))
    | none => s
  let r := clsEvent (s.cls id) s.tickNo (s.srcW id) (s.e (fsNF id)) ev.data
  let s := s.setCls id r.1
  let s := (s.incWrap FLT_CNT_EVENTS).setBit (FLT_ACT_ACTIVE (id / 32)) (id % 32) true
  let s := if r.2 then s.inc FLT_CNT_PROMOTIONS else s
  let cls := s.srcClass id
  let s := if cls = 3 then s.setCls id { s.cls id with term := true } else s
  let wasFirst := s.on FLT_FIRST_VALID
  let wasTerm := s.on FLT_TERM_TERM
  let s := latchFirst ev cls s
  let s := if cls = 3 ∧ !wasTerm then (s.setB FLT_TERM_TERM true).set FLT_TERM_SRC id else s
  let s := if 1 ≤ cls then s.setB LN_STAT_MAINT true else s
  let s := refreshStat s
  let s := actReact (reactOne id (s.srcReact id) s)
  let term := decide (cls = 3) && !wasTerm
  let s := logEvent ev cls r.2 (decide (1 ≤ cls) && !wasFirst) term s
  if term && s.feature 7 && s.on LOG_CFG_FREEZE_TERM then { s with flt := { s.flt with freeze := some s.tb } } else s

/-- The queued event that registers next: the earliest timebase period, ascending identity within it (R368). -/
def nextRaised : List Raised → Option Raised
  | [] => none
  | r :: rs =>
    match nextRaised rs with
    | none => some r
    | some q => if q.tb < r.tb ∨ (q.tb = r.tb ∧ q.src < r.src) then some q else some r

/-- The freeze of R384 takes hold once its entries are written: no event is left that could register in its timebase period. -/
def settleFreeze (s : State) : State :=
  match s.flt.freeze with
  | some t => if s.flt.buf = [] ∧ (s.tb ≠ t ∨ s.flt.raised = []) then s.setB LOG_STAT_FROZEN true else s
  | none => s

/-- The event can register in the running timebase period: those of one period come in ascending identity, each source once (R368);
another waits for the next period. -/
def State.inTurn (s : State) (ev : Raised) : Bool := s.flt.regTb != some s.tb || decide (s.flt.regId < ev.src)

/-- The event that registers next. -/
def State.nextEvent (s : State) : Option Raised := nextRaised (s.flt.raised.filter s.inTurn)

/-- FAULT_EVENT (R367): the next raised event registers. -/
def faultEvent (s : State) : State :=
  match s.nextEvent with
  | none => s
  | some ev =>
    settleFreeze (registerEvent ev
      { s with flt := { s.flt with
        regTb := some s.tb
        regId := ev.src
        raised := s.flt.raised.filter (fun r => !(r.src == ev.src && r.tb == ev.tb)) } })

/-- FAULT_SOURCE_EXPIRY (R369, R370): W ticks after its last event a source not at TERMINAL becomes inactive. -/
def faultExpiry (id : Nat) (s : State) : State :=
  let c := s.cls id
  if c.active && s.srcClass id != 3 && decide (s.srcW id ≤ s.tickNo - c.last) then
    let s := s.setCls id { c with active := false, c := 0, promoted := false }
    refreshStat (s.setBit (FLT_ACT_ACTIVE (id / 32)) (id % 32) false)
  else s

/-- UNREAD takes a value; the log's episodes end while the ring has room (R383). -/
def setUnread (n : Nat) (s : State) : State :=
  let s := (s.set LOG_STAT_UNREAD n).setB LOG_STAT_FULL (n == 4096)
  if n < 4096 then { s with flt := { s.flt with overEp := false, fullEp := false } } else s

/-- One log entry lands in the ring at LOG_WPTR (R380, R382); a continuation carries no LOSS (R381). -/
def ringWrite (e : LogE) (s : State) : State :=
  let total := s.f LOG_TOTAL_TOTAL
  let lost := s.flt.lossNext && !e.e2.getLsbD 18
  let e2 := e.e2 ||| BitVec.ofNat 32 (total % 4096 + b2n lost * 2 ^ 14)
  let w := s.f LOG_WPTR_IDX
  let s := { s with flt := { s.flt with ring := smPut (fun _ => {}) s.flt.ring w { e with e2 := e2 }, lossNext := s.flt.lossNext && !lost } }
  (s.set LOG_WPTR_IDX ((w + 1) % 4096)).set LOG_TOTAL_TOTAL ((total + 1) % 2 ^ 32)

/-- LOG_ENTRY_WRITE (R382, R383): the oldest buffered entry is written, or dropped where the ring is full in STOP. -/
def logEntryWrite (s : State) : State :=
  match s.flt.buf with
  | [] => settleFreeze s
  | e :: rest =>
    let s := { s with flt := { s.flt with buf := rest } }
    if s.f LOG_STAT_UNREAD = 4096 then
      if s.on LOG_CFG_MODE then
        let ep := s.flt.fullEp
        let s := s.inc LOG_CNT_DROP
        let s := { s with flt := { s.flt with lossNext := true, fullEp := true } }
        settleFreeze (if ep then s else s.raiseU 0x3C1)
      else
        let ep := s.flt.overEp
        let s := (s.set LOG_RPTR_IDX ((s.f LOG_RPTR_IDX + 1) % 4096)).inc LOG_CNT_OVERRUN
        let s := { s with flt := { s.flt with overEp := true } }
        settleFreeze (ringWrite e (if ep then s else s.raiseU 0x3C2))
    else settleFreeze (setUnread (s.f LOG_STAT_UNREAD + 1) (ringWrite e s))

/-- A write to LOG_RPTR (R385): UNREAD is counted forward to LOG_WPTR, modulo 4,096. -/
def writeRptr (v : Nat) (s : State) : State :=
  let v := v % 4096
  setUnread ((s.f LOG_WPTR_IDX + 4096 - v) % 4096) (s.set LOG_RPTR_IDX v)

/-- LOG_CTL.UNFREEZE (R384). -/
def unfreeze (s : State) : State :=
  if s.on LOG_STAT_FROZEN || s.flt.freeze.isSome then
    { s.setB LOG_STAT_FROZEN false with flt := { s.flt with freeze := none, lossNext := true } }
  else s

/-- The ring entry at an index. -/
def State.logAt (s : State) (i : Nat) : LogE := smGet (fun _ => {}) s.flt.ring i

/-- LOGPULL's entries (R385): `n` of them from LOG_RPTR, oldest first, as words. -/
def pullWords (s : State) (i : Nat) : Nat → List Word
  | 0 => []
  | n + 1 =>
    let e := s.logAt (i % 4096)
    e.e0 :: e.e1 :: e.e2 :: e.e3 :: pullWords s (i + 1) n

/-- Take `n` entries (at most UNREAD) out of the unread part. -/
def pullLog (n : Nat) (s : State) : List Word × State :=
  let n := min n (s.f LOG_STAT_UNREAD)
  (pullWords s (s.f LOG_RPTR_IDX) n,
    setUnread (s.f LOG_STAT_UNREAD - n) (s.set LOG_RPTR_IDX ((s.f LOG_RPTR_IDX + n) % 4096)))

/-- The part has page pg: on a QX880-S pages 0x043 and 0x044 read 0 and ignore writes (R3). -/
def State.pageThere (s : State) (pg : Nat) : Bool := pageListed pg && !(s.part == .s && (pg == 0x043 || pg == 0x044))

/-- PG_FORCE bit k of a page (R377): in service mode its source is raised once, else the write is refused. A bit
without a source does nothing (R506), nor does one on a page the part does not have. -/
def pgForce (pg k : Nat) (s : State) : Bool × State :=
  if !s.pageThere pg then (false, s)
  else if !s.service || s.pageDark pg then (true, s)
  else (false, if bitOf (pageFltMask pg) k then s.raiseForced (pageFmap pg + k) else s)

/-- FS_FORCE.GO (R377, R388): source FS_IDX. -/
def fsForce (s : State) : Bool × State :=
  if !s.service then (true, s)
  else (false, if srcAssigned (s.f FS_IDX_IDX) then s.raiseForced (s.f FS_IDX_IDX) else s)

/-- FLT_CTL.CLR_FIRST (R376). -/
def clrFirst (s : State) : Bool × State :=
  if !s.service then (true, s)
  else
    (false, ((s.setWord FLT_FIRST_A 0).setWord FLT_FIRST_T_LO_A 0).setWord FLT_FIRST_T_HI_A 0 |>.setWord FLT_FIRST_DATA_A 0)

/-- LRST at the collector (R370, R388): every classifier but those at TERMINAL returns to its start, and of these the events are no longer
counted. -/
def faultLrst (s : State) : State :=
  let keep := (s.flt.cls.filter (fun p => p.2.active && s.srcClass p.1 == 3)).map (fun p =>
    (p.1, { p.2 with events := 0, last := 0, data := 0 }))
  let s := { s with flt := { s.flt with cls := keep } }
  showMaint (refreshStat (keep.foldl (fun t p => t.setBit (FLT_ACT_ACTIVE (p.1 / 32)) (p.1 % 32) true) s))

/-- Event words for FS_STAT, FS_LAST and FS_DATA of the selected source. -/
def State.fsStat (s : State) (id : Nat) : Word :=
  let c := s.cls id
  BitVec.ofNat 32 (b2n c.active * 2 ^ 31 + b2n c.promoted * 2 ^ 30 + (if c.active then s.srcClass id else 0) * 2 ^ 28 +
    c.c * 2 ^ 16 + c.events)

/-! ### The commands -/

/-- FAULT_EVENT (R367). -/
def execFaultEvent (s : State) : Res := s.runIn 2 faultEvent

/-- FAULT_SOURCE_EXPIRY (R369). -/
def execFaultSourceExpiry (id : BitVec 10) (s : State) : Res := s.runIn 2 (faultExpiry id.toNat)

/-- LOG_ENTRY_WRITE (R382). -/
def execLogEntryWrite (s : State) : Res := s.runIn 2 logEntryWrite

/-- PG_FORCE (R377). -/
def execPgForce (pg : BitVec 14) (k : Fin 32) (s : State) : Res := 
  s.runIn 2 (fun s => counted pg.toNat (pgForce pg.toNat k s))

/-- FS_FORCE (R377). -/
def execFsForce (s : State) : Res := s.runIn 2 (fun s => counted 0x009 (fsForce s))

/-- CLR_FIRST (R376). -/
def execClrFirst (s : State) : Res := s.runIn 2 (fun s => counted 0x008 (clrFirst s))

/-- UNFREEZE (R384). -/
def execUnfreeze (s : State) : Res := s.runIn 2 unfreeze

/-- LOG_RPTR_WRITE (R385). -/
def execLogRptrWrite (v : BitVec 32) (s : State) : Res := s.runIn 2 (writeRptr v.toNat)

end Sys2Proof.Machine
end

