-- ==== Sys2Proof/Machine/Repair.lean ====
section
/-!
DEFINITION. The repair map and the repair actions (R404-R410) that slice tests, march tests and the self-test share.
-/
namespace Sys2Proof.Machine

/-- Word E0 of a field entry (*Repair entry*): VALID, ORIGIN field, STATE, KIND, RESOURCE, SPARE. -/
def entryE0 (st kind res spare : Nat) : Nat := 3 * 2 ^ 30 + st * 2 ^ 28 + kind * 2 ^ 24 + res % 2 ^ 12 * 2 ^ 12 + spare % 2 ^ 12

/-- The map's counts as RP_STAT and RP_PEND show them. -/
def mapCounts (s : State) : State :=
  let n := s.rep.map.length
  let fld := (s.rep.map.filter (fun e => fieldGet e.1 30 1 == 1)).length
  let pend := (s.rep.map.filter (fun e => fieldGet e.1 28 2 == 0)).length
  (((s.set RP_STAT_USED n).setB RP_STAT_FULL (n == 256)).set RP_STAT_FIELD (satU 8 fld)).set RP_PEND_PENDING (satU 8 pend)

/-- Append a repair entry (R406, R407): it waits for its write to non-volatile memory; a full map takes none. -/
def addEntry (st kind res spare detail : Nat) (s : State) : State :=
  if 256 ≤ s.rep.map.length then s.raiseU 0x3F9
  else
    let e0 := entryE0 st kind res spare
    let e1 := s.f RP_PORS_PORS * 2 ^ 16 + detail % 2 ^ 16
    let s := { s with rep := { s.rep with map := s.rep.map ++ [(BitVec.ofNat 32 e0, BitVec.ofNat 32 e1)]
                                          unwritten := s.rep.unwritten + 1 } }
    (mapCounts (s.setB RP_STAT_NV_BUSY true)).raise 0x3F0 e0

/-- The source of a lost resource of a kind (*Repair actions*). -/
def lossSrc (kind : Nat) : Nat :=
  match kind with
  | 0 => 0x3F8
  | 1 => 0x3F2
  | 2 => 0x3F3
  | 3 => 0x3F4
  | 4 => 0x3F5
  | 5 => 0x3F6
  | 6 => 0x3F1
  | _ => 0x3F7

/-- A resource is lost: no spare (R407). -/
def lose (kind res detail : Nat) (s : State) : State :=
  (addEntry 2 kind res 0xFFF detail s).raise (lossSrc kind) (entryE0 2 kind res 0xFFF)

/-- The resource already has an entry in the map. -/
def State.mapped (s : State) (kind res : Nat) : Bool :=
  s.rep.map.any (fun e => fieldGet e.1 24 4 == kind && fieldGet e.1 12 12 == res % 2 ^ 12)

/-! ### Engine slices -/

/-- The physical slice of a logical slice (RP_SLICE). -/
def State.physOf (s : State) (l : Nat) : Nat := s.f RP_SLICE_PHYS_l / 16 ^ l % 16

/-- The logical slice that runs on a physical slice. -/
def State.logicalOf (s : State) (p : Nat) : Option Nat := (List.range 8).find? (fun l => s.physOf l == p)

/-- The spare slice is free: no repair uses it, now or from the next TICK (R186). -/
def State.spareSlice (s : State) : Bool := s.on RP_SPARE_SLICE_FREE && s.rep.remap == []

/-- A slice test failed on physical slice p (R190, R402, *Repair actions*); a slice that has its entry gets no second one. -/
def sliceRepair (p : Nat) (s : State) : State :=
  if s.mapped 6 p then s
  else match s.logicalOf p with
  | some l =>
    if p ≠ 8 ∧ s.spareSlice then
      let s := addEntry 1 6 p 8 0xFFFF s
      { s with rep := { s.rep with remap := [l] } }
    else
      let s := lose 6 p 0xFFFF s
      { s with rep := { s.rep with lostSlice := s.rep.lostSlice ++ [l] } }
  | none => (lose 6 p 0xFFFF s).setB RP_SPARE_SLICE_FREE false

/-- At a TICK a logical slice whose repair is new runs on the spare (R190). -/
def remapTick (s : State) : State :=
  let t := s.each s.rep.remap (fun l t =>
    let w := t.f RP_SLICE_PHYS_l
    (t.set RP_SLICE_PHYS_l (w - w / 16 ^ l % 16 * 16 ^ l + 8 * 16 ^ l)).setB RP_SPARE_SLICE_FREE false)
  { t with rep := { t.rep with remap := [] } }.setB JAN_STAT_SPARE_SPENT ((t.logicalOf 8).isSome)

/-- A run of axis n uses a lost slice: its plain or its Janus pass (*Repair actions*). -/
def State.onLostSlice (s : State) (n : Nat) : Bool :=
  let l := s.e (AX_CFG_SLICE n)
  s.rep.lostSlice.contains l || s.rep.lostSlice.contains ((l + 3) % 8)

/-! ### SRAM rows -/

/-- Spare rows of a bank: 32 of each data bank, 8 of the hold store (*Resource kinds*). -/
def spareRows (b : Nat) : Nat := if b = 2 then 8 else 32

/-- A row of bank b (0, 1 data banks, 2 hold store) has failed its march test. -/
def rowRepair (b row : Nat) (s : State) : State :=
  let n := s.rep.rowsUsed.getD b 0
  if n < spareRows b then
    let s := addEntry 0 7 (1024 * b + row) n 0xFFFF s
    ({ s with rep := { s.rep with rowsUsed := listSet s.rep.rowsUsed b (n + 1) } }).set RP_SPARE_ROW_FREE (s.f RP_SPARE_ROW_FREE - 1)
  else
    let s := lose 7 (1024 * b + row) 0xFFFF s
    { s with rep := { s.rep with bankLost := s.rep.bankLost || decide (b < 2) } }

/-! ### Writes to the map's memory -/

/-- REPAIR_WRITE_COMPLETE (R406): the oldest waiting entry is written; a failed read-back raises RP_NV and the write runs
once more. -/
def repairWritten (ok : Bool) (s : State) : State :=
  if s.rep.unwritten = 0 then s
  else if ok || s.rep.retried then
    let s := if ok then s else s.raiseU 0x3FA
    let n := s.rep.unwritten - 1
    ({ s with rep := { s.rep with unwritten := n, retried := false } }).setB RP_STAT_NV_BUSY (n != 0)
  else { s with rep := { s.rep with retried := true } }.raiseU 0x3FA

/-- REPAIR_WRITE_COMPLETE (R406). -/
def execRepairWriteComplete (ok : Bool) (s : State) : Res := s.runIn 7 (repairWritten ok)

end Sys2Proof.Machine
end

