-- ==== Sys2Proof/Machine/Axis.lean ====
section
/-!
DEFINITION. Axis slots (R86-R120, R524): the inputs of a program run, the life cycle at TICK, loss, coasting, share.
-/
namespace Sys2Proof.Machine

def State.axState (s : State) (n : Nat) : Nat := s.f (AX_STAT_STATE n)

/-- Bridge group of the axis's half-bridges (R119). -/
def State.axGroup (s : State) (n : Nat) : Nat := s.e (AX_CFG_HB_BASE n) / 6

/-- Half-bridges of the axis. -/
def State.axHbs (s : State) (n : Nat) : List Nat :=
  (List.range (if s.eOn (AX_CFG_SIX n) then 6 else 3)).map (fun k => s.e (AX_CFG_HB_BASE n) + k)

def State.axPhases (s : State) (n : Nat) : Nat := if s.eOn (AX_CFG_SIX n) then 6 else 3

/-- Age of the axis's output in OUT_AGE (R49). -/
def ageF (n : Nat) : Fld := ⟨OUT_AGE_A, 2 * n, 2⟩

/-- The lane is ACTIVE. -/
def State.laneActive (s : State) : Bool := s.f LN_STAT_STATE == 1

/-- The lane is held in LRST (R459, R501): start-up makes no step. -/
def State.inLrst (s : State) : Bool := s.tap.held || s.hold.lrst

/-- Safe stop is active (R249). -/
def State.ssActive (s : State) : Bool := s.f SS_STAT_PHASE != 0

/-! ### What a program is given -/

/-- AX_SP is the source, as the TICK has settled it in AX_STAT.SP_SVC (R524). -/
def State.spService (s : State) (n : Nat) : Bool := s.on (AX_STAT_SP_SVC n)

/-- At a TICK AX_STAT shows the source in force: AX_SP, or safe stop (R524). -/
def sourceTick (n : Nat) (s : State) : State :=
  (s.setB (AX_STAT_SP_SVC n) (s.f (AX_CFG_SP_SRC n) == 1 && s.service && !s.ssActive)).setB
    (AX_STAT_SAFE_SP n) (s.ssActive && s.axState n != 0)

/-- The steering entry that names axis n. -/
def State.steerEntry (s : State) (n : Nat) : Option Nat :=
  (List.range 4).find? (fun k => s.eOn (STR_AX_EN k) && s.e (STR_AX_AXIS k) == n)

/-- X_LIM from the vehicle speed (R170), mdeg. -/
def State.steerLim (s : State) : Nat :=
  let hi := s.e STR_XLIM_X_HI
  let lo := s.e STR_XLIM_X_LO
  let v1 := s.e STR_VLIM_V1
  let v2 := s.e STR_VLIM_V2
  match s.maxWheel with
  | none => lo
  | some v =>
    -- 1/64 mm/s against cm/s
    let c : Nat := 640
    if v.toNat ≤ v1 * c then hi else if v2 * c ≤ v.toNat ∨ v2 ≤ v1 then lo
    else hi - ((hi - lo) * (v.toNat - v1 * c)) / ((v2 - v1) * c)

/-- The command angle after the speed-dependent clip, mdeg (R170). -/
def State.steerAngle (s : State) : Int :=
  clampI (-(s.steerLim : Int)) s.steerLim ((s.steerCmd.getD [0, 0, 0]).getD 0 0)

/-- The set-point that steering entry k gives axis n, as a quotient in X units (R170). -/
def State.steerSp (s : State) (k : Nat) : Int × Int := (s.eI (STR_AX_RATIO k) * s.steerAngle, 2 ^ 14)

/-- The set-point of axis n in this tick, in per-unit of FS_X, before the program's clip. The specification gives PUMP,
CHOP and an unlisted STEER axis no vehicle-function set-point: there it is a free value (log entry 14). -/
def spFor (n : Nat) (s : State) : Int × State :=
  let struct := s.e (AX_CFG_STRUCT n)
  if s.spService n then (s.fI (AX_SP_SP n), s)
  else if struct = 3 then
    -- from SECURE on it applies (R255); before that safe stop neither applies nor releases (R249)
    (if 3 ≤ s.f SS_STAT_PHASE then 1
      else if s.ssActive then (if (s.axs n).live then (s.axs n).spRaw else 1)
      else if s.ln.onPark then 0 else 1, s)
  else if struct = 2 then (0, s)
  else
    match (if struct = 1 then s.steerEntry n else none) with
    | some k => (toPu (s.steerSp k).1 (s.steerSp k).2 (s.e (AX_FS_X_FS_X n)), s)
    | none =>
      let r := s.fresh
      (satPu (toSigned 24 r.1.toNat), r.2)

/-- The measurement of X, whether it is voted, and its lead (R102). -/
def State.measOf (s : State) (n : Nat) : Option Int × Bool × Nat :=
  let k := s.e (AX_FB_SRC_X n)
  let sh := decide (k < 124) && s.eOn (inpSharedF k)
  (s.useFor n k, sh, if 0x68 ≤ k ∧ k < 0x70 then s.f (ENC_LEAD_LEAD_NS (k - 0x68)) else 0)

/-- The conversion of the axis's measurement or of its steering command saturates (R94). -/
def State.inSat (s : State) (n : Nat) : Bool :=
  let k := s.e (AX_FB_SRC_X n)
  ((s.useFor n k).isSome && s.satFor n k) ||
    (s.e (AX_CFG_STRUCT n) == 1 && !s.spService n && match s.steerEntry n with
      | some j => puSat (s.steerSp j).1 (s.steerSp j).2 (s.e (AX_FS_X_FS_X n))
      | none => false)

/-- The program's inputs at this tick, with the configuration of this TICK (R88, R90). -/
def State.progIn (s : State) (n : Nat) : ProgIn :=
  let a := s.axs n
  let m := s.measOf n
  let c := s.e (AX_FB_SRC_C n)
  let r := c - 0x60
  let steer := s.e (AX_CFG_STRUCT n) == 1 && (s.steerEntry n).isSome && !s.spService n
  let cmd := s.steerCmd.getD [0, 0, 0]
  { struct := s.e (AX_CFG_STRUCT n), six := s.eOn (AX_CFG_SIX n), tNs := s.tNs
    fsX := s.e (AX_FS_X_FS_X n), fsV := s.e (AX_FS_V_FS_V n), fsI := s.e (AX_IMAX_FS_I n), imax := s.e (AX_IMAX_IMAX n)
    vmax := if steer then limField (cmd.getD 1 0) (s.e (AX_VMAX_VMAX n)) else s.e (AX_VMAX_VMAX n)
    amax := s.e (AX_AMAX_AMAX n)
    jmax := if steer then limField (cmd.getD 2 0) (s.e (AX_JMAX_JMAX n)) else s.e (AX_JMAX_JMAX n)
    tAcc := s.e (AX_OBS_T_ACC n), bw := s.e (AX_OBS_OBS_BW n)
    par := (List.range 8).map (fun k => s.e (AX_PAR_PAR n k))
    polePairs := s.e (AX_COMM_POLE_PAIRS n), shift2 := s.eOn (AX_COMM_SET2_SHIFT n), offset := s.e (AX_COMM_OFFSET n)
    share := a.share, meas := m.1, voted := m.2.1, leadNs := m.2.2, sp := a.spRaw
    fromChain := s.e (AX_CFG_STRUCT n) == 2 && !s.spService n, inSat := s.inSat n
    angle := if 0x60 ≤ c ∧ c < 0x68 ∧ !s.on (RES_STAT_INVALID r) then some (toSigned 16 (s.f (RES_ANGLE_ANGLE r))) else none
    speed := s.fI (RES_SPEED_SPEED r)
    force := if s.axState n = 3 then some a.shutU else none }

/-! ### Loss (R50, R105, R116, R239) -/

/-- The axis is lost in this lane: zero current, age 0b10, bit in AXIS_LOST, source raised (R50). Its edges for zero current are
computed once, with the half-width and the feed-forward shift of that moment (R128; DESIGN CHOICE, log entry 101). -/
def loseAxis (n : Nat) (s : State) : State :=
  if s.axState n = 0 ∨ s.axState n = 4 then s
  else
    let t := (((s.set (AX_STAT_STATE n) 4).setBit AXIS_LOST_LOST n true).set (ageF n) 2).setB (AX_STAT_SP_LIMITED n) false
    let t := (axisEdges n [0, 0, 0, 0, 0, 0] t).raiseU (0x010 + n)
    t.setAxs n { t.axs n with committed := false, shutTmo := s.axState n == 3 }

/-- AXIS_COAST_LOST (R105): 20 ms of coasting. -/
def coastLost (n : Nat) (s : State) : State :=
  if s.on (AX_STAT_COAST n) && decide (s.msTicks 20 ≤ s.f (AX_COAST_TICKS n)) then loseAxis n s else s

/-- 2 × SHUT_MS have passed in SHUTDOWN (R116), the running tick counted. -/
def State.shutLate (s : State) (n : Nat) : Bool :=
  s.axState n == 3 && decide (2 * s.e (AX_CFG_SHUT_MS n) * 1000000 ≤ (s.axs n).shutTicks * s.tNs)

/-- AXIS_SHUTDOWN_TIMEOUT (R116): 2 × SHUT_MS in SHUTDOWN. -/
def shutdownTmo (n : Nat) (s : State) : State := if s.shutLate n then loseAxis n s else s

/-! ### Share (R167-R169) -/

/-- This lane contributes to axis n (R167). -/
def State.contributes (s : State) (n : Nat) : Bool := s.laneActive && s.axState n == 2

/-- Peers that contribute to axis n, by the last exchange; an excluded lane counts as 0 (R267), an unreachable one keeps
its last value (R268). -/
def State.peerContrib (s : State) (n : Nat) : Nat :=
  (s.ln.contribMask.filter (fun p => !s.ln.excl.contains p.1 && bitOf p.2 n)).length

/-- The share factor for the pass that begins (R167-R169): a lane that joins ramps from 0, one that contributes from its share, and
one that does not contribute takes the share as it is. -/
def shareStep (n : Nat) (s : State) : State :=
  let a := s.axs n
  if s.e (AX_CFG_STRUCT n) = 5 then
    s.setAxs n { a with share := 0x4000, shareLeft := 0 } |>.set (AX_STAT_SHARE n) 0x4000
  else
    let own := s.contributes n
    let nAct := s.peerContrib n + b2n own
    let tgt := s.e LN_CFG_N_CFG * 2 ^ 14 / max nAct 1
    let ramp := s.e BLD_SHARE_RAMP_TICKS
    let a := if own && !a.contrib then { a with shareFrom := 0, shareLeft := ramp }
      else if own && decide (a.nAct < nAct) then { a with shareFrom := a.share, shareLeft := ramp }
      else if !own || decide (nAct < a.nAct) then { a with shareLeft := 0 }
      else a
    let left := a.shareLeft - 1
    let share : Nat := if a.shareLeft = 0 ∨ ramp = 0 then tgt
      else ((a.shareFrom : Int) + ((tgt : Int) - a.shareFrom) * ((ramp - left : Nat) : Int) / (ramp : Int)).toNat
    (s.setAxs n { a with share := share, shareLeft := left, nAct := nAct, contrib := own }).set (AX_STAT_SHARE n) (satU 16 share)

/-! ### Life cycle at TICK (R49-R51, R115-R117) -/

/-- Every phase current of the axis is below 2 % of FS_I (R114, R116). -/
def State.axQuiet (s : State) (n : Nat) : Bool :=
  (s.axHbs n).all (fun h => decide ((s.fI (CH_VAL_VALUE h)).natAbs * 50 < 2 ^ 23))

/-- The decision units of the axis's set or sets (R121). -/
def State.axUnits (s : State) (n : Nat) : List Nat :=
  let u := s.e (AX_CFG_HB_BASE n) / 3
  if s.eOn (AX_CFG_SIX n) then [u, u + 1] else [u]

/-- The first failing start check of R115, 0 when all pass. A phase channel whose lost sense has not ended fails the check of the
inputs (R145; DEDUCED, log entry 104). -/
def State.startCheck (s : State) (n : Nat) : Nat :=
  let struct := s.e (AX_CFG_STRUCT n)
  let need := [s.e (AX_FB_SRC_X n)] ++ (if struct = 5 then [] else [s.e (AX_FB_SRC_C n)])
  let ok := fun k =>
    if 124 ≤ k then false
    else if s.eOn (inpSharedF k) then (s.votedOf k).ok
    else s.eOn (inpEnF k) && !s.on (inpInvalidF k)
  if struct = 0 then 1
  else if !need.all ok || (s.axUnits n).any s.senseBad then 2
  else if s.groupState (s.axGroup n) ≠ 3 then 3
  else if !s.budgetOk (s.f PWR_DVFS_POINT) then 4
  else 0

/-- The chain state that a starting CLAMP program adopts (R150). -/
def State.startChain (s : State) : List Int :=
  match s.veh.chainVoted with
  | some c => c
  | none => chainInit s.maxWheel

/-- Speed at start: what a resolver gives as the input's own speed, 0 elsewhere (R104). For PUMP the input's speed is X itself and its
rate is not provided: 0 (DEDUCED, log entry 100). -/
def State.startSpeed (s : State) (n : Nat) : Int :=
  let k := s.e (AX_FB_SRC_X n)
  if 0x60 ≤ k ∧ k < 0x68 ∧ s.e (AX_CFG_STRUCT n) = 1 then
    toPu (s.fI (RES_SPEED_SPEED (k - 0x60)) * 360000 * 10 ^ 9) (256 * 65536 * s.tNs : Nat) (s.e (AX_FS_V_FS_V n))
  else 0

/-- The registers that show the state of record and the demand (R120). -/
def showRecord (n : Nat) (s : State) : State :=
  let r := (s.axs n).record
  let g := fun k => r.getD k 0
  let t := ((s.setI (AX_XSP_X_SP n) (g 5)).setI (AX_VSP_V_SP n) (g 7)).setI (AX_XHAT_X_HAT n) (g 1)
  let t := (t.setI (AX_VHAT_V_HAT n) (g 2)).setI (AX_U_U n) (g 11)
  if s.e (AX_CFG_STRUCT n) = 2 ∨ s.e (AX_CFG_STRUCT n) = 3 then t.set (AX_STAT_MODE n) (g 12).toNat else t

/-- A state of record for axis n, both copies alike (R177), as the registers show it (R120). -/
def putRecord (n : Nat) (r : Rec) (live : Bool) (s : State) : State :=
  showRecord n (s.setAxs n { s.axs n with record := r.words, recordC := r.words.map (fun x => 59 * x), live := live })

/-- The first valid measurement `m` initialises observer and limiter (R104, R110); the chain state stays the adopted one (R150). The electric
force of the last tick is no word of that state: it starts at 0 (DESIGN CHOICE, log entry 125). -/
def beginRecord (n : Nat) (m : Int) (s : State) : State :=
  let struct := s.e (AX_CFG_STRUCT n)
  let c := s.e (AX_FB_SRC_C n)
  let res := decide (0x60 ≤ c ∧ c < 0x68)
  let r : Rec := { xh := m, vh := s.startSpeed n, xpPrev := m, lx := m
                   ang := if res then toSigned 16 (s.f (RES_ANGLE_ANGLE (c - 0x60))) else 0
                   spd := if res then s.fI (RES_SPEED_SPEED (c - 0x60)) else 0
                   mode := if struct = 3 then 1 else 0
                   chain := (Rec.ofWords (s.axs n).record).chain }
  putRecord n r true s

/-- STARTING at a TICK, with zero current: the band starts at H_MAX (R137), a CLAMP program adopts its chain state (R150), and the
record waits for the first valid measurement, at the earliest that of the program's first pass (R104; DEDUCED from R88: a program reads
the snapshot of its own tick, log entry 117). -/
def startAxis (n : Nat) (s : State) : State :=
  let t := ((s.set (AX_STAT_STATE n) 1).set (AX_STAT_START_FAIL n) 0).set (ageF n) 3
  let t := t.each (s.axUnits n) (fun u t =>
    (t.setVdu u { t.vdu u with senseBad := false }).when (t.vdu u).fresh (fun t => t.set (VDU_H_H u) (t.e (VDU_BAND_H_MAX u))))
  let t := axisEdges n [0, 0, 0, 0, 0, 0] (t.setAxs n {})
  putRecord n { mode := if s.e (AX_CFG_STRUCT n) = 3 then 1 else 0
                chain := if s.e (AX_CFG_STRUCT n) = 2 then s.startChain else [] } false t

/-- A record that waits for its first valid measurement takes it, in the pass that first has one (R104). -/
def lateBegin (n : Nat) (s : State) : State :=
  match (s.measOf n).1 with
  | some m => s.when (s.axState n == 1 && !(s.axs n).live) (beginRecord n m)
  | none => s

/-- The axis enters OFF. -/
def axisOff (n : Nat) (s : State) : State :=
  let t := (((s.set (AX_STAT_STATE n) 0).set (ageF n) 3).setB (AX_STAT_COAST n) false).setB (AX_STAT_SP_LIMITED n) false
  let t := t.set (AX_COAST_TICKS n) 0
  t.setAxs n {}

/-- The step of the output age (R49, R50): fresh, held once, or lost; while a safety reaction holds the group nothing moves, neither
age nor lost bit nor STARTING, also where the tick before has committed (R52; DESIGN CHOICE, log entry 118); a lost axis keeps its age
until a re-enable (R51). -/
def ageStep (n : Nat) (s : State) : State :=
  let a := s.axs n
  let held := s.on (BG_STAT_HELD (s.axGroup n)) || s.groupState (s.axGroup n) == 4
  let t := s.setAxs n { a with committed := false }
  if held || s.axState n == 4 || a.fromLost then t
  else if a.committed then
    let t := (t.set (ageF n) 0).setBit AXIS_LOST_LOST n false
    if s.axState n = 1 then t.set (AX_STAT_STATE n) 2 else t
  else if s.axState n = 1 then t
  else if s.f (ageF n) = 1 then loseAxis n t
  else if s.f (ageF n) = 0 then (t.set (ageF n) 1).inc HOLD_CNT_COUNT
  else t

/-- The ramp of |u| to zero over SHUT_MS (R116). -/
def shutStep (n : Nat) (s : State) : State :=
  let a := s.axs n
  let total := max 1 (s.msTicks (s.e (AX_CFG_SHUT_MS n)))
  let left := total - (a.shutTicks + 1)
  s.setAxs n { a with shutTicks := a.shutTicks + 1, shutU := Int.tdiv (a.shutFrom * left) total }

/-- SHUTDOWN is entered at this TICK. -/
def beginShutdown (n : Nat) (s : State) : State :=
  let lost := s.axState n == 4
  let u := if lost then 0 else (s.axs n).record.getD 11 0
  let t := s.set (AX_STAT_STATE n) 3
  shutStep n (t.setAxs n { t.axs n with shutTicks := 0, zeroRun := 0, fromLost := lost, shutFrom := u })

/-- What a TICK does to axis slot n, after ages and losses are settled (R115-R117); a start waits for a COMMIT in progress that
judges outputs off (R466). -/
def lifeStep (n : Nat) (s : State) : State :=
  let pg := 0x010 + n
  let en := s.on (PG_CTL_EN pg)
  match s.axState n with
  | 0 =>
    if !en || s.hp.commitHold then s
    else
      let t := s.setB (PG_STAT_PENDING_EN pg) false
      let c := s.startCheck n
      if s.f LN_STAT_STATE = 0 then t
      else if c ≠ 0 then (t.setB (PG_CTL_EN pg) false).set (AX_STAT_START_FAIL n) c
      else startAxis n t
  | 3 =>
    let a := s.axs n
    let zero := a.fromLost || decide (a.shutU = 0 ∧ s.fI (AX_U_U n) = 0)
    let run := if zero then a.zeroRun + 1 else 0
    if (a.fromLost || decide (2 ≤ run)) && s.axQuiet n then axisOff n s
    else shutStep n (s.setAxs n { a with zeroRun := run })
  | 4 =>
    let a := s.axs n
    if a.shutTmo then (if s.axQuiet n then axisOff n s else s)
    else if !en then beginShutdown n s
    else s
  | _ => if en then s else beginShutdown n s

/-- Losses that a TICK finds: the group was latched (R239), the sense was lost (R144), an engine slice or a data bank is
lost (*Repair actions*). -/
def lossStep (n : Nat) (s : State) : State :=
  let u := s.e (AX_CFG_HB_BASE n) / 3
  let sense := (s.vdu u).lostSense || (s.eOn (AX_CFG_SIX n) && (s.vdu (u + 1)).lostSense)
  if s.axState n = 0 then s
  else if (s.grp (s.axGroup n)).lostWait || sense || s.onLostSlice n || s.rep.bankLost then loseAxis n s
  else s

/-- One axis slot at TICK. -/
def axisTick (n : Nat) (s : State) : State :=
  if s.axState n = 0 then lifeStep n s else lifeStep n (lossStep n (ageStep n s))

/-- All axis slots at TICK; then the groups' latches have made their losses. While crossing 1 is stopped no commit is taken (R440). -/
def axesTick (s : State) : State :=
  let s := s.when (s.xStopped 1) (·.each (List.range 16) takeBackCommit)
  let t := s.each (List.range 16) axisTick
  t.each (List.range 8) (fun g t => if (t.grp g).lostWait then t.setGrp g { t.grp g with lostWait := false } else t)

/-- The sources of all set-points, once safe stop has settled at this TICK (R247, R524). -/
def sourcesTick (s : State) : State := s.each (List.range 16) sourceTick

/-! ### Coasting (R80, R105, R106) -/

/-- The axis coasts in this tick: X or the commutation input is lost. -/
def State.coasts (s : State) (n : Nat) : Bool :=
  let c := s.e (AX_FB_SRC_C n)
  s.inputLost (s.e (AX_FB_SRC_X n)) ||
    (decide (0x60 ≤ c ∧ c < 0x68) && s.on (RES_STAT_INVALID (c - 0x60)))

def coastStep (n : Nat) (s : State) : State :=
  if s.coasts n then
    let first := !s.on (AX_STAT_COAST n)
    let t := (s.setB (AX_STAT_COAST n) true).inc (AX_COAST_TICKS n)
    if first then (t.inc (AX_COAST_EPISODES n)).raiseU (0x020 + 2 * n) else t
  else (s.setB (AX_STAT_COAST n) false).set (AX_COAST_TICKS n) 0

/-! ### What a commit publishes -/

/-- A safety reaction has acted on the axis's group in this cycle (R52). -/
def State.reacted (s : State) (n : Nat) : Bool := (s.grp (s.axGroup n)).reactTb.any s.sameEng

/-- A committed result of axis n (R89, R95): the new records, the shadow edges (unless R52 discards them, or the axis is lost and keeps
those for zero current, R50, R128), saturation flags and counters. -/
def commitAxis (n : Nat) (r : RunRes) (coded : List Int) (s : State) : State :=
  let np := s.axPhases n
  let a := s.axs n
  let rec_ := r.words.drop (recAt np 0)
  let sp := (r.words.drop 1).take np
  let free := !s.reacted n && s.axState n != 4
  let undo := (s.axHbs n).map (fun h => (h, (s.hb h).ueS, (s.hb h).leS))
  let t := s.setAxs n { a with record := rec_, recordC := coded, committed := free, badParity := [],
                               sp := sp, commitTb := s.tb, undo := undo
                               undoDelta := (s.axUnits n).map (fun u => (u, (s.vdu u).deltaS)) }
  let t := showRecord n (t.when free (axisEdges n sp))
  let t := if r.flags ≠ 0 then t.inc (AX_CNT_SAT_TICKS n) else t
  if r.flags / 1 % 2 = 1 ∨ r.flags / 8 % 8 ≠ 0 then t.raise (0x021 + 2 * n) r.flags else t

/-- AXIS_COAST_LOST (R105). -/
def execAxisCoastLost (n : Fin 16) (s : State) : Res := s.runIn 2 (coastLost n)

/-- AXIS_SHUTDOWN_TIMEOUT (R116). -/
def execAxisShutdownTimeout (n : Fin 16) (s : State) : Res := s.runIn 2 (shutdownTmo n)

end Sys2Proof.Machine
end

