-- ==== Sys2Proof/Machine/LineCode.lean ====
section
/-!
DEFINITION. The 8b/10b code of the line (R312): code groups of ten bits, the first bit on the wire the most significant, with the
running disparity; data characters, and the control characters K28.5 and K29.7 for the delimiters. The tables are those of the trade
(PRESUMED, log entry 94).
-/
namespace Sys2Proof.Machine

/-- The six bits of the low five bits of a byte at negative running disparity. -/
def six : List Nat :=
  [0b100111, 0b011101, 0b101101, 0b110001, 0b110101, 0b101001, 0b011001, 0b111000,
   0b111001, 0b100101, 0b010101, 0b110100, 0b001101, 0b101100, 0b011100, 0b010111,
   0b011011, 0b100011, 0b010011, 0b110010, 0b001011, 0b101010, 0b011010, 0b111010,
   0b110011, 0b100110, 0b010110, 0b110110, 0b001110, 0b101110, 0b011110, 0b101011]

/-- The four bits of the high three bits of a byte at negative running disparity. -/
def four : List Nat := [0b1011, 0b1001, 0b0101, 0b1100, 0b1101, 0b1010, 0b0110, 0b1110]

/-- A character: a data byte or a control character. -/
structure Char8 where
  ctl : Bool
  byte : Nat
  deriving DecidableEq, Repr

def kStart : Char8 := ⟨true, 0xBC⟩
def kEnd : Char8 := ⟨true, 0xFD⟩

/-- A group of `n` bits as the running disparity `pos` (true: positive) has it: unbalanced groups, and the balanced ones that have two
forms, are inverted at positive disparity; and the disparity after it. -/
def disparity (n code : Nat) (two pos : Bool) : Nat × Bool :=
  let flip := 2 * popCount n code != n
  (if pos && (flip || two) then 2 ^ n - 1 - code else code, if flip then !pos else pos)

/-- The code group of a character, and the running disparity after it. -/
def encChar (c : Char8) (pos : Bool) : Nat × Bool :=
  let x := c.byte % 32
  let y := c.byte / 32 % 8
  let a := disparity 6 (if c.ctl && x == 28 then 0b001111 else six.getD x 0) (x == 7) pos
  -- the alternate form of y = 7 avoids runs of five
  let alt := y == 7 && (c.ctl || (!a.2 && (x == 17 || x == 18 || x == 20)) || (a.2 && (x == 11 || x == 13 || x == 14)))
  -- a control character's balanced groups are inverted at negative disparity
  let b := if alt then disparity 4 0b0111 false a.2
    else if c.ctl && y == 5 then (if a.2 then (0b1010, a.2) else (0b0101, a.2))
    else disparity 4 (four.getD y 0) (y == 3) a.2
  (a.1 * 16 + b.1, b.2)

/-- The character that a code group is at a running disparity; none where it is not valid or breaks the disparity. -/
def decChar (g : Nat) (pos : Bool) : Option Char8 :=
  if g == (encChar kStart pos).1 then some kStart
  else if g == (encChar kEnd pos).1 then some kEnd
  else match (List.range 32).find? (fun x => (encChar ⟨false, x⟩ pos).1 / 16 == g / 16) with
    | none => none
    | some x => ((List.range 8).find? (fun y => (encChar ⟨false, 32 * y + x⟩ pos).1 == g)).map (fun y => ⟨false, 32 * y + x⟩)

/-- The code groups of characters in turn. -/
def encLine : List Char8 → Bool → List Nat
  | [], _ => []
  | c :: cs, pos => (encChar c pos).1 :: encLine cs (encChar c pos).2

/-- The characters of code groups in turn; a group that is none leaves the disparity its bits make. -/
def decLine : List Nat → Bool → List (Option Char8)
  | [], _ => []
  | g :: gs, pos =>
    decChar g pos :: decLine gs (if 2 * popCount 10 g = 10 then pos else decide (10 < 2 * popCount 10 g))

/-- What is sent for the bytes of a frame after its lead-in: start delimiter with negative disparity, bytes, end delimiter. -/
def lineOf (b : List Nat) : List Nat := encLine (kStart :: b.map (fun x => ⟨false, x⟩) ++ [kEnd]) false

/-- The bytes between the delimiters of received code groups, none for each group that is no data character. -/
def lineBytes (g : List Nat) : List (Option Nat) :=
  (((decLine g false).drop 1).take (g.length - 2)).map (fun c => match c with
    | some x => if x.ctl then none else some x.byte
    | none => none)

/-- The bytes of received code groups; none where the coding fails. -/
def codedBytes (g : List Nat) : Option (List Nat) :=
  let l := decLine g false
  if 2 ≤ l.length ∧ l.head? = some (some kStart) ∧ l.getLast? = some (some kEnd) ∧ (lineBytes g).all Option.isSome then
    some ((lineBytes g).filterMap id)
  else none

end Sys2Proof.Machine
end

