-- ==== Sys2Proof/Machine/Vehicle.lean ====
section
/-!
DEFINITION. Vehicle functions around the programs (R149-R174) and the auxiliary duties (R164, R220, R221): what the
braking chain is given, what a plain pass raises and counts, what a commit publishes, what a TICK puts into force.
-/
namespace Sys2Proof.Machine

/-! ### Wheel-ends and loads -/

def State.whlEn (s : State) (w : Nat) : Bool := s.eOn (BLD_WHL_EN w)

/-- The retarder host: the CLAMP axis of the lowest-numbered enabled wheel-end entry (R149). -/
def State.retHost (s : State) : Option Nat :=
  ((List.range 12).find? s.whlEn).map (fun w => s.e (BLD_WHL_AXIS w))

/-- BLEND is enabled (R151). -/
def State.blendOn (s : State) : Bool := s.on (PG_CTL_EN 0x060)

/-- Load of axle a in 100/256 kg, and whether its named source is invalid (R156). -/
def State.axleLoad (s : State) (a : Nat) : Int × Bool :=
  let fix : Int := (256 * s.e (BLD_AXLE_LOAD_FIX a) : Nat)
  let src := s.e (BLD_AXLE_SRC a)
  if src = 0xFF then (max fix 256, false)
  else
    match s.useVal src with
    | some v => (max ((v * (256 * s.e (BLD_AXK_K_LOAD a) : Nat)).fdiv (2 ^ 23)) 256, false)
    | none => (max fix 256, true)

/-- Axles that an enabled wheel-end names. -/
def State.axlesUsed (s : State) : List Nat :=
  (List.range 6).filter (fun a => (List.range 12).any (fun w => s.whlEn w && s.e (BLD_WHL_AXLE w) == a))

/-- Load per wheel-end in 100/256 kg: its axle's load over the enabled wheel-ends of the axle (R156). -/
def State.wheelLoad (s : State) (w : Nat) : Int :=
  let a := s.e (BLD_WHL_AXLE w)
  let n := ((List.range 12).filter (fun v => s.whlEn v && s.e (BLD_WHL_AXLE v) == a)).length
  if s.whlEn w && n != 0 then (s.axleLoad a).1.fdiv n else 0

/-- A wheel-end has a contributing lane (R160, R167). -/
def State.wheelContrib (s : State) (w : Nat) : Bool :=
  let n := s.e (BLD_WHL_AXIS w)
  s.contributes n || s.peerContrib n != 0

/-- The two link channels that give a value, in 1/1,024 V (R161). -/
def State.linkVals (s : State) : Option Int × Option Int :=
  let f := fun k => (s.useVal k).map (fun (v : Int) => (v * (1024 * s.e BLD_PWM_U_FS : Nat)).fdiv (2 ^ 23))
  (f 56, f 57)

/-- u_link, the larger valid value. -/
def State.uLink (s : State) : Option Int :=
  match s.linkVals with
  | (some a, some b) => some (max a b)
  | (some a, none) => some a
  | (none, b) => b

/-- Usable retarder stages (R163): those of RET_STAGES whose fault return is not asserted at the TICK and that have not dropped out. -/
def State.stagesOk (s : State) : Nat :=
  (List.range 4).foldl (fun m k => if bitOf (s.e BLD_CFG_RET_STAGES) k && !bitOf s.aux.retOff k then m + 2 ^ k else m) 0

/-- The request of this tick and its limits: mm/s², mm/s³, mm/s⁴ (R152, R155, R250, R253). -/
def State.brakeReq (s : State) : Nat × Nat × Nat :=
  let rMax := s.e BLD_LIM_R_MAX
  let jMax := s.e BLD_LIM2_J_MAX
  if s.f SS_STAT_PHASE = 1 then (s.f SS_STAT_A_REQ, min (s.e SS_LIM_RATE) rMax, min (s.e SS_LIM_JERK) jMax)
  else if s.ssActive then (s.f SS_STAT_A_REQ, rMax, jMax)
  else
    let c := s.brakeCmd.getD [0, 0, 0, 0]
    (min (c.getD 0 0).toNat (s.e BLD_LIM_A_MAX), limField (c.getD 1 0) rMax, limField (c.getD 2 0) jMax)

/-- What the chain of CLAMP axis n reads (R88, R149). Without a valid a_long the reference speed takes 0 (DESIGN CHOICE, log entry 123). -/
def State.chainIn (s : State) (n : Nat) : ChainIn :=
  let q := s.brakeReq
  let own := (List.range 12).find? (fun w => s.whlEn w && s.e (BLD_WHL_AXIS w) == n)
  { on := s.blendOn, tNs := s.tNs, aReq := (512 * q.1 : Nat), rate := q.2.1, jerk := q.2.2, tjMs := s.e BLD_LIM2_TJ_MS
    aLong := s.aLong.getD 0, vw := s.maxWheel
    wheels := (List.range 12).map (fun w => if s.whlEn w then s.wheelOf (s.e (BLD_WHL_WS w)) else none)
    en := (List.range 12).map s.whlEn, contrib := (List.range 12).map s.wheelContrib
    loads := (List.range 12).map s.wheelLoad
    mass := s.axlesUsed.foldl (fun m a => m + (s.axleLoad a).1) 0
    trimEn := s.eOn BLD_CFG_TRIM_EN, trimHi := min puMax (s.e BLD_TRIM_TRIM_HI * 2 ^ 16 : Nat)
    trimLo := min puMax (s.e BLD_TRIM_TRIM_LO * 2 ^ 16 : Nat), kiTrim := s.e BLD_TRIM_KI_TRIM
    vMin := (6400 * s.e BLD_SLIP2_V_MIN : Nat), refMargin := (s.e BLD_REF_REF_MARGIN : Nat), aUp := (s.e BLD_REF_A_UP : Nat)
    tAvail := (s.sl.avail : Nat), rDyn := s.e BLD_CFG_R_DYN_MM, elecCap := s.e BLD_ELEC_ELEC_CAP
    derate := s.e BLD_ELEC_DERATE_RATE, linkOk := s.uLink.isSome, uLink := s.uLink.getD 0
    uRef := (1024 * s.e BLD_LINK_U_REF : Nat), uHi := (1024 * s.e BLD_LINK_U_HI : Nat)
    nSt := popCount 4 s.stagesOk, retEn := s.eOn BLD_CFG_RET_EN, dLast := s.veh.lastDuty, holdOver := s.veh.holdDone, kp := s.e BLD_RKP_KP_RET, ki := s.e BLD_RKI_KI_RET
    noElec := decide (2 ≤ s.f SS_STAT_PHASE)
    lamTgt := (256 * s.e BLD_SLIP_LAMBDA_TGT : Nat), hyst := (256 * s.e BLD_SLIP_HYST : Nat)
    kMin := (2 ^ 14 * s.e BLD_SLIP_K_MIN : Nat), kBlind := (2 ^ 14 * s.e BLD_SLIP_K_BLIND : Nat)
    ks := s.e BLD_SLIP2_KS, recov := s.e BLD_SLIP2_RECOV, own := own
    cw := match own with
      | some w => s.e (BLD_WHL_C_W w)
      | none => 0 }

/-- The chain state of record of the retarder host (R150, R298), while its axis has one. -/
def State.hostChain (s : State) : Option Chain :=
  match s.retHost with
  | some n =>
    let r := (s.axs n).record
    if (s.axs n).live && s.e (AX_CFG_STRUCT n) == 2 then some (Rec.ofWords r).chainState else none
  | none => none

/-- CLAMP axis n runs its program, and with it the braking chain (R149). -/
def State.chainRuns (s : State) (n : Nat) : Bool :=
  (s.axs n).live && s.e (AX_CFG_STRUCT n) == 2 && (s.axState n == 1 || s.axState n == 2 || s.axState n == 3)

/-- The chain state that safe stop and the outputs read: that of record of the first CLAMP program of the wheel-end table that runs
(R149), else the voted one of the last exchange (R150), else what a starting program would take (DEDUCED, log entry 107). -/
def State.chainNow (s : State) : Chain :=
  match ((List.range 12).filter s.whlEn).find? (fun w => s.chainRuns (s.e (BLD_WHL_AXIS w))) with
  | some w => (Rec.ofWords (s.axs (s.e (BLD_WHL_AXIS w))).record).chainState
  | none => Chain.ofWords (s.veh.chainVoted.getD (chainInit s.maxWheel))

/-- v_ref of the chain in 1/64 mm/s. -/
def State.vRef (s : State) : Int := hiW 1 s.chainNow.vref

/-- a_meas in mm/s² (R157). -/
def State.aMeas (s : State) : Int := (hiW 1 s.chainNow.filt).fdiv 256

/-- a_c in mm/s² (R155). -/
def State.aC (s : State) : Int := (hiW 1 s.chainNow.x).fdiv 512

/-! ### Episodes and counts of a plain pass -/

/-- A source raised once per episode: `bad` now, `was` in the last pass. -/
def episode (was bad : Bool) (f : State → State) (s : State) : State := if bad && !was then f s else s

/-- Link, loads and wheel-ends as a plain pass finds them (R156, R160-R162). -/
def vehInputs (s : State) : State :=
  let v := s.veh
  let lv := s.linkVals
  let differ := match lv with
    | (some a, some b) => decide (1024 * s.e BLD_LINK2_LINK_TOL < (a - b).natAbs)
    | _ => false
  let lost := s.uLink.isNone
  let badLoad := s.axlesUsed.foldl (fun m a => if (s.axleLoad a).2 then m + 2 ^ a else m) 0
  let out := (List.range 12).foldl (fun m w => if s.whlEn w && !s.wheelContrib w then m + 2 ^ w else m) 0
  let s := episode v.linkEp lost (fun t => t.raiseU 0x3A0) s
  let s := s.each s.axlesUsed (fun a t =>
    episode (bitOf v.loadEp a) (bitOf badLoad a) (fun t => t.raiseU 0x3A4) t)
  let s := s.each (List.range 12) (fun w t =>
    episode (bitOf v.wheelEp w) (bitOf out w) (fun t => t.raiseU 0x3A6) t)
  { s with veh := { s.veh with
      linkRun := if differ then v.linkRun + 1 else 0, misEp := differ && v.misEp, linkEp := lost, loadEp := badLoad,
      wheelEp := out, holdTicks := if lost then v.holdTicks + 1 else 0, holdDone := lost && v.holdDone } }

/-- LINK_MISMATCH (R161). -/
def linkMismatch (s : State) : State :=
  if 10 ≤ s.veh.linkRun ∧ !s.veh.misEp then { s with veh := { s.veh with misEp := true } }.raiseU 0x3A1 else s

/-- RET_HOLD_EXPIRY (R162). -/
def retHoldExpiry (s : State) : State :=
  if s.veh.linkEp && decide (s.msTicks (s.e BLD_LINK2_HOLD_MS) ≤ s.veh.holdTicks) then
    { s with veh := { s.veh with holdDone := true, lastDuty := 0 } }
  else s

/-- TRIM_LIMIT (R157): 1 s at a limit. -/
def trimLimit (s : State) : State :=
  if s.msTicks 1000 ≤ s.veh.trimRun ∧ !s.veh.trimEp then { s with veh := { s.veh with trimEp := true } }.raiseU 0x3A5
  else s

/-- The derating cap of a run; while the link is lost it is that before the loss (R162). -/
def ChainOut.capNow (o : ChainOut) : Int := magW o.chain.cap

/-- What a run of the retarder host's chain leaves for its commit (R173, R189). -/
def hostPub (ci : ChainIn) (o : ChainOut) (s : State) : State :=
  let kN := fun (f : Int) => f.fdiv (1000 * newton)
  { s with veh := { s.veh with
      pub := [(hiW 1 o.chain.x).fdiv 512, (hiW 1 o.chain.filt).fdiv 256, ci.mass.fdiv 256, (hiW 1 o.chain.trim).fdiv 2048, kN o.fReq,
              kN o.fE, kN o.fAv, if o.capNow = capInf then 0xFFFF else kN o.capNow,
              ci.uLink.fdiv 1024, o.duty.fdiv 256, (hiW 1 o.chain.vref).fdiv 640, o.tReq, o.duty, (s.stagesOk : Nat),
              (b2n ci.linkOk : Nat)] ++ o.chain.k
      pubLam := o.lam, pubFw := o.fW.map (fun f => f.fdiv newton) } }

/-- The retarder host's plain run of the chain: what it leaves for the commit, and the episodes and counts it shows (R161-R163,
R166). -/
def hostRun (ci : ChainIn) (o : ChainOut) (s : State) : State :=
  let was := decide (s.f BLD_FAV_CAP ≠ 0xFFFF)
  let derating := decide (o.capNow ≠ capInf)
  let s := episode was derating (fun t => t.raiseU 0x3A3) s
  let s := if derating then s.inc BLD_CNT_DERATE_TICKS else s
  let slip := (List.range 12).any (fun w => ci.en.getD w false && decide (o.chain.k.getD w kOne < kOne))
  let s := if slip then s.inc BLD_CNT_SLIP_TICKS else s
  let run := if o.trimLim then s.veh.trimRun + 1 else 0
  hostPub ci o { s with veh := { s.veh with trimRun := run, trimEp := o.trimLim && s.veh.trimEp } }

/-- The retarder host has committed: BLEND's status registers, T_REQ and the duty shadow (R164, R173). -/
def hostCommit (s : State) : State :=
  let g := fun i => (s.veh.pub.getD i 0)
  let u16 := fun (x : Int) => satU 16 (max x 0).toNat
  let s := ((s.set BLD_DEC_A_C (u16 (g 0))).setI BLD_DEC_A_MEAS (satSigned 16 (g 1))).set BLD_MASS_MASS (u16 (g 2))
  let s := ((s.setI BLD_MASS_TRIM (satSigned 16 (g 3))).set BLD_FRC_F_REQ (u16 (g 4))).set BLD_FRC_F_E (u16 (g 5))
  let s := ((s.set BLD_FAV_F_AV (u16 (g 6))).set BLD_FAV_CAP (u16 (g 7))).set BLD_LINKM_U_LINK (u16 (g 8))
  let s := ((s.set BLD_LINKM_DUTY (u16 (g 9))).set BLD_VREF_V_REF (u16 (g 10))).set BLD_STAT_STAGES_OK (g 13).toNat
  let s := ((s.setB BLD_STAT_LINK_OK (g 14 == 1)).setB BLD_STAT_DERATING (g 7 != 0xFFFF)).setB BLD_STAT_SAFE s.ssActive
  let s := s.each (List.range 12) (fun w t =>
    let k := (g (15 + w)).fdiv (2 ^ 11)
    let t := (t.set (BLD_WST_K w) (satU 12 k.toNat)).set (BLD_WST_LAMBDA w)
      (satU 8 (max (t.veh.pubLam.getD w 0) 0 |>.fdiv 256).toNat)
    t.set (BLD_WF_F_W w) (satU 16 (max (t.veh.pubFw.getD w 0) 0 |>.fdiv 10).toNat))
  let n := popCount 4 s.stagesOk
  { s with
    veh := { s.veh with tReq := (max (g 11) 0).toNat, lastDuty := g 12 }
    aux := { s.aux with retDutyS := if n = 0 ∨ s.aux.reactTb.any s.sameEng then 0 else ((g 12).toNat / n) / 256 } }

/-! ### Steering (R170, R172) -/

/-- Tracking error of steering entry k in mdeg. -/
def State.trackErr (s : State) (k : Nat) : Nat :=
  let n := s.e (STR_AX_AXIS k)
  let r := (s.axs n).record
  (r.getD 5 0 - r.getD 1 0).natAbs * s.e (AX_FS_X_FS_X n) / 2 ^ 23

/-- The steering part of a plain pass: X_LIM, the clip, tracking errors (R170, R172). A tick counts once in CLIPPED, also where the
command's range has been clipped too (R152, R174). -/
def steerPass (s : State) : State :=
  let ang := (s.steerCmd.getD [0, 0, 0]).getD 0 0
  let clipped := s.steerAngle != ang && !s.veh.strClip
  let s := s.set STR_LIM_X_LIM (satU 16 s.steerLim)
  let s := { if clipped then s.inc STR_STAT_CLIPPED else s with veh := { s.veh with strClip := s.veh.strClip || clipped } }
  s.each (List.range 4) (fun k t =>
    let n := t.e (STR_AX_AXIS k)
    let act := t.eOn (STR_AX_EN k) && t.axState n == 2
    let err := if act then t.trackErr k else 0
    let far := act && decide (t.e STR_TRACK_TRACK_TOL < err)
    let t := ((t.setBit STR_STAT_ACT k act).setBit STR_STAT_TRACK k far).set STR_ERRMAX_ERR_MAX
      (max (t.f STR_ERRMAX_ERR_MAX) (satU 16 err))
    { t with veh := { t.veh with
        trackRun := listSet t.veh.trackRun k (if far then t.veh.trackRun.getD k 0 + 1 else 0)
        trackEp := withBit t.veh.trackEp k (bitOf t.veh.trackEp k && far) } })

/-- STEER_TRACK (R172). -/
def steerTrack (k : Nat) (s : State) : State :=
  if s.msTicks (s.e STR_TRACK_TRACK_MS) ≤ s.veh.trackRun.getD k 0 ∧ 0 < s.veh.trackRun.getD k 0 ∧ !bitOf s.veh.trackEp k then
    { s with veh := { s.veh with trackEp := withBit s.veh.trackEp k true } }.raiseU (0x3A8 + k)
  else s

/-! ### Park stages and torque-off (R220, R221) -/

/-- The lane acts on role r. -/
def State.holds (s : State) (r : Nat) : Bool := s.fbit LN_ROLE_HELD r

/-- One park stage in a plain pass (R220): duty and integrator in 2^-20. -/
def parkPass (k : Nat) (s : State) : State :=
  if !s.eOn (PK_CFG_EN k) then s
  else
    let ch := 88 + s.e (PK_CFG_SRC k)
    let ok := s.ownOk ch
    let meas : Int := (s.fI (CH_VAL_VALUE ch) * s.e (PK_TIME_FS k)).fdiv (2 ^ 23)
    let on := s.ln.onPark && s.f SS_STAT_PHASE < 3
    let s := s.set (PK_STAT_I_MEAS k) (satU 16 (max meas 0).toNat)
    let cnt := if on then s.aux.parkOn.getD k 0 + 1 else 0
    let tgt : Int := (if (cnt - 1) * s.tNs < s.e (PK_TIME_T_PULL k) * 1000000 then s.e (PK_CFG_I_PULL k)
      else s.e (PK_CFG_I_HOLD k) : Nat)
    let e := tgt - meas
    let top : Int := 2 ^ 20
    let bad := on && s.holds 1 && (s.on (inpInvalidF ch) || (ok && decide (tgt < 5 * e.natAbs)))
    let integ0 := s.aux.parkInteg.getD k 0
    let integ := clampI 0 top (integ0 + (s.e PK_GAIN_KI_PK * e * s.tNs * 2 ^ 20).fdiv (256 * 100 * 10 ^ 9))
    let duty := (clampI 0 top ((s.e PK_GAIN_KP_PK * e * 2 ^ 20).fdiv (4096 * 100) + integ)).toNat
    let r : Nat × Int := if !on then (0, 0) else if !s.holds 1 then (2 ^ 20, integ0)
      else if !ok then (s.aux.dutyS.getD k 0, integ0) else (duty, integ)
    { s with aux := { s.aux with
        parkOn := listSet s.aux.parkOn k cnt, parkInteg := listSet s.aux.parkInteg k r.2
        dutyS := listSet s.aux.dutyS k r.1
        parkBad := listSet s.aux.parkBad k (if bad then s.aux.parkBad.getD k 0 + 1 else 0)
        parkEp := withBit s.aux.parkEp k (bitOf s.aux.parkEp k && bad) } }

/-- Auxiliary outputs may act: the lane is ACTIVE and no reaction makes them inactive (R266, R373, R488); under
R497 they keep their state until the exclusion. -/
def State.auxFree (s : State) : Bool :=
  s.laneActive && !s.on FLT_REACT_AUX_OFF && !s.hold.lane && !s.hold.pg

/-- At TICK the auxiliary shadow goes into force (R164, R220, R221, R222); an output that would become active waits for a COMMIT in
progress that judges outputs off (R466). -/
def auxTick (s : State) : State :=
  let s := retTick s
  let free := s.auxFree
  let ret := free && s.holds 3 && s.aux.retDutyS != 0 && (s.f AUX_STAT_RET_ACT != 0 || !s.hp.commitHold)
  let s := s.set AUX_STAT_RET_ACT (if ret then s.stagesOk else 0)
  let s := s.setB BLD_STAT_RET_ROLE (s.holds 3)
  let s := s.each [0, 1] (fun k t =>
    let on := free && t.ln.onPark && t.eOn (PK_CFG_EN k) && (t.fbit AUX_STAT_PK_ON k || !t.hp.commitHold)
    let d := if on && !t.aux.auxHeld then t.aux.dutyS.getD k 0 else 0
    let t := ((t.setBit AUX_STAT_PK_ON k on).setBit AUX_STAT_PK_HOLDER k (on && t.holds 1)).set (PK_STAT_DUTY k) (satU 12 (d / 256))
    { t with aux := { t.aux with dutyF := listSet t.aux.dutyF k d } })
  let close := s.laneActive && s.ln.onTq && !s.on FLT_REACT_TQ_OPEN && !s.on SS_STAT_TQ_OPEN && !s.hold.lane && !s.hold.pg
  let s := if close then s.set AUX_STAT_TQ_CMD 3 else openTq s
  rbTick { s with aux := { s.aux with retDuty := if ret then s.aux.retDutyS else 0 } }

/-! ### The commands -/

/-- LINK_MISMATCH (R161). -/
def execLinkMismatch (s : State) : Res := s.runIn 2 linkMismatch

/-- RET_HOLD_EXPIRY (R162). -/
def execRetHoldExpiry (s : State) : Res := s.runIn 2 retHoldExpiry

/-- TRIM_LIMIT (R157). -/
def execTrimLimit (s : State) : Res := s.runIn 2 trimLimit

/-- STEER_TRACK (R172). -/
def execSteerTrack (k : Fin 4) (s : State) : Res := s.runIn 2 (steerTrack k)

end Sys2Proof.Machine
end

