-- ==== Sys2Proof/Machine/Janus.lean ====
section
/-!
DEFINITION. The plain pass and the Janus pass (R86, R175-R198): hold store, comparator, arbitration, slice and march tests,
injection, and the window overruns of R47.
-/
namespace Sys2Proof.Machine

/-! ### Windows -/

/-- The engine runs passes: not in QUIET (R42), not in TERMINAL (R375). -/
def State.engineOn (s : State) : Bool := !s.quiet && s.f LN_STAT_STATE != 4

/-- The timebase period in which a window of the running tick ends (*Tick windows at each tick length*). -/
def State.windowEnd (s : State) (win : Nat) : Nat :=
  s.tk.lastTb + s.tNs * [0, 38, 74, 88, 92, 96].getD win 0 / 100 / 5

/-- A window overran (R47): TICK_OVERRUN at its end, OVR_LAST and the window's counter. The commit and self-test windows run on no
slice, so there the slice field is a free value. -/
def overrun (win : Nat) (slice : Option Nat) (s : State) : State :=
  let r : Nat × State := match slice with
    | some k => (k, s)
    | none => let q := s.fresh; (q.1.toNat % 16, q.2)
  let d := win * 2 ^ 20 + r.1 * 2 ^ 16 + s.tickNo % 2 ^ 16
  let s := (((r.2.set OVR_LAST_WIN win).set OVR_LAST_SLICE r.1).set OVR_LAST_TICK (s.tickNo % 2 ^ 16)).raiseAt (s.windowEnd win) 0x000 d
  match win with
  | 1 => s.inc TICK_OVR_PLAIN
  | 2 => s.inc TICK_OVR_JANUS
  | 3 => s.inc TICK_OVR2_RESERVE
  | 4 => s.inc TICK_OVR_COMMIT
  | _ => s.inc TICK_OVR_BIST

/-- The lowest of the slices, if there is one. -/
def lowest (l : List Nat) : Option Nat := (List.range 9).find? (fun k => l.contains k)

/-! ### Words and bit errors -/

/-- A word with the bits of a mask inverted, as a signed number of `wd` bits. -/
def flipI (wd mask : Nat) (x : Int) : Int := toSigned wd (Nat.xor (ofSigned wd x) (mask % 2 ^ wd))

/-- The bit errors of axis n put into its words. -/
def errInto (wd n : Nat) (l : List BitErr) (w : List Int) : List Int :=
  l.foldl (fun w e => if e.axis.val = n then listSet w e.word (flipI wd e.mask (w.getD e.word 0)) else w) w

/-- A hold-store word: the 24-bit plain word and its even parity in bit 24 (R180). -/
def holdWord (x : Int) : Nat := ofSigned 24 x + popCount 24 (ofSigned 24 x) % 2 * 2 ^ 24

/-- The parity of a hold-store word holds. -/
def parityOk (h : Nat) : Bool := popCount 25 h % 2 == 0

/-- The plain word of a hold-store word. -/
def holdPlain (h : Nat) : Int := toSigned 24 h

/-- Partition n of the hold store, its first `len` words. -/
def State.partition (s : State) (n len : Nat) : List Nat :=
  (List.range len).map (fun i => smGet (fun _ => 0) s.jan.hold (64 * n + i))

/-- The plain result set goes into the axis's partition (R180); a fenced partition takes nothing (R192). -/
def storeSet (n : Nat) (w : List Int) (errs : List BitErr) (s : State) : State :=
  if s.fbit JAN_FENCE_FENCED n then s
  else
    let put := fun (h : SMap Nat) (p : Nat × Int) => smPut (fun _ => 0) h (64 * n + p.1) (holdWord p.2)
    let hold := ((List.range w.length).zip w).foldl put s.jan.hold
    let flip := fun (h : SMap Nat) (e : BitErr) =>
      if e.axis.val = n ∧ e.word < w.length then
        smPut (fun _ => 0) h (64 * n + e.word) (Nat.xor (smGet (fun _ => 0) h (64 * n + e.word)) (e.mask % 2 ^ 25))
      else h
    { s with jan := { s.jan with hold := errs.foldl flip hold } }

/-! ### The plain pass -/

/-- The axis runs its program in this tick: its state is not OFF (R86, R518). -/
def State.runs (s : State) (n : Nat) : Bool := s.e (AX_CFG_STRUCT n) != 0 && s.axState n != 0

/-- Predicted change of the input that axis n names as SRC_X in one tick, in its LSB × 65,536 (R77). -/
def State.predicted (s : State) (n : Nat) (vh : Int) : Nat :=
  let k := s.e (AX_FB_SRC_X n)
  let st := s.e (AX_CFG_STRUCT n)
  -- change in X units times 2^23 × 10^9
  let dx := vh.natAbs * s.e (AX_FS_V_FS_V n) * s.tNs
  let turn := if st = 3 then 1000 else 360000
  if k < 0x60 then
    let g := (s.eI (CH_GAIN_GAIN k)).natAbs
    let fs := s.e (AX_FS_X_FS_X n)
    if g = 0 ∨ fs = 0 then 0 else dx * 2 ^ 14 * 65536 / (10 ^ 9 * fs * g)
  else if k < 0x68 then
    if st = 4 then dx * 65536 * s.tNs * 65536 / (2 ^ 23 * 10 ^ 9 * (60 * 10 ^ 9)) else dx * 65536 * 65536 / (2 ^ 23 * 10 ^ 9 * turn)
  else if k < 0x70 then dx * 2 ^ s.turnBits (k - 0x68) * 65536 / (2 ^ 23 * 10 ^ 9 * turn)
  else 0

/-- The plain run of one axis (R86, R88, R94, R108, R180). -/
def plainAxis (x : PassEnv) (n : Nat) (s : State) : State :=
  let s := lateBegin n s
  if !s.runs n then s
  else
    let s := coastStep n (shareStep n s)
    let sp := spFor n s
    let s := sp.2.setAxs n { sp.2.axs n with spRaw := sp.1 }
    let a := s.axs n
    let rec_ := errInto 24 n x.record a.record
    let bad := (x.parity.filter (fun e => e.axis.val == n)).map (·.word)
    let i := s.progIn n
    let ci := s.chainIn n
    let o := runPlain i ci rec_
    let res : RunRes := ⟨errInto 24 n x.result o.prog.res.words, o.prog.res.flags⟩
    let done := !x.unfinished.any (fun m => m.val == n)
    let s := s.setAxs n { a with record := rec_, badParity := a.badParity ++ bad, runIn := some (i, ci)
                                 plain := if done then some res else none }
    let s := (s.setB (AX_STAT_SP_LIMITED n) o.prog.limited).when o.prog.limited (fun t => t.inc (AX_CNT_LIM_TICKS n))
    let k := s.e (AX_FB_SRC_X n)
    let s := if k < 0x70 then
        let d := s.predicted n (rec_.getD 2 0)
        s.setInp k { s.inp k with frz := (s.inp k).frz.map (fun p => (p.1, p.2.1, smPut (fun _ => 0) p.2.2 n (smGet (fun _ => 0) p.2.2 n + d))) } else s
    if !done then { s with tk := { s.tk with plainOver := s.tk.plainOver ++ [s.e (AX_CFG_SLICE n)] } }
    else
      let s := (s.set (AX_SAT_LAST_PLAIN n) res.flags).hwSet (AX_SAT_A n) (BitVec.ofNat 32 res.flags)
      let s := storeSet n res.words x.hold s
      match o.chain with
      | some c => if s.retHost == some n then hostRun ci c s else s
      | none => s

/-- Axes begin a tick without results (R184); that a suspect slice failed stays with an axis that waits for its march test (R190). -/
def clearRuns (s : State) : State :=
  { s.each (List.range 16) (fun n t =>
      let a := t.axs n
      t.setAxs n { a with runIn := none, plain := none, coded := none, rerun := none, verdict := .none
                          sliceFail := a.sliceFail && t.fbit JAN_PEND_PENDING n })
    with jan := { s.jan with mism := [], waiting := [], rerunAt := none, susp := [], failed := [], capNow := false } }

/-- PLAIN_PASS (R39, R86). -/
def plainPass (x : PassEnv) (s : State) : State :=
  let s := parkPass 1 (parkPass 0 (steerPass (vehInputs (clearRuns s))))
  s.each (List.range 16) (plainAxis x)

/-! ### The Janus pass -/

/-- The coded run of one axis from the inputs of its plain run (R175-R179). -/
def codedAxis (x : PassEnv) (n : Nat) (s : State) : State :=
  let a := s.axs n
  match a.runIn with
  | none => s
  | some (i, ci) =>
    let rec_ := errInto 30 n x.record a.recordC
    let r := runCoded i ci rec_
    let done := !x.unfinished.any (fun m => m.val == n)
    let s := s.setAxs n { a with recordC := rec_, coded := if done then some ⟨errInto 30 n x.result r.words, r.flags⟩ else none }
    if done then s.set (AX_SAT_LAST_CODED n) r.flags
    else { s with tk := { s.tk with janusOver := s.tk.janusOver ++ [(s.e (AX_CFG_SLICE n) + 3) % 8] } }

/-- JANUS_PASS (R178): the plain pass has ended, with the overruns it leaves. -/
def janusPass (x : PassEnv) (s : State) : State :=
  let late := lowest s.tk.plainOver
  let s := if late.isSome then overrun 1 late s else s
  let s := { s with tk := { s.tk with plainOver := [] }, jan := { s.jan with passRan := true } }
  s.each (List.range 16) (codedAxis x)

/-! ### The comparator (R182-R184) -/

/-- The first word of a result set that fails a check: its cause and index (R182). -/
def firstBad : Nat → List Nat → List Int → Option (Nat × Nat)
  | i, h :: hs, c :: cs =>
    if !parityOk h then some (3, i)
    else if c % 59 ≠ 0 then some (1, i)
    else if c.fdiv 59 ≠ holdPlain h then some (0, i)
    else firstBad (i + 1) hs cs
  | _, _, _ => none

/-- What one rail's comparison logic finds: cause and word. -/
def railFinds (hold : List Nat) (coded : List Int) (fp fc : Nat) : Option (Nat × Option Nat) :=
  match firstBad 0 hold coded with
  | some (c, w) => some (c, some w)
  | none => if fp ≠ fc then some (2, none) else none

/-- What a rail reports (R182): its code, and the cause and word that its logic has found. -/
structure RailSays where
  code : Nat
  found : Option (Nat × Option Nat)

/-- A sound rail. -/
def soundRail (f : Option (Nat × Option Nat)) : RailSays := ⟨if f.isNone then 1 else 2, f⟩

/-- A rail as an input gives it; cause FLAG has no word. -/
def railOf (x : RailRep) : RailSays :=
  ⟨x.code.toNat, x.found.map (fun p => (p.1.val, if p.1.val = 2 then none else some p.2.val))⟩

/-- What a mismatch records (R183): the finding of the rail that reported 0b10, rail A first; else rail A's finding, else B's. -/
def recorded (a b : RailSays) : Option (Nat × Option Nat) :=
  if a.code = 2 then a.found else if b.code = 2 then b.found else a.found <|> b.found

/-- Clear the captures and re-arm CAP_FIRST (R198). -/
def clearCap (s : State) : State :=
  let s := [JAN_CAP_AX_A, JAN_CAP_PLAIN_A, JAN_CAP_CODED_A, JAN_CAP_RERUN_A, JAN_CAP_FLAGS_A, JAN_CAP_TIME_A].foldl
    (fun t a => t.setWord a 0) s
  { s with jan := { s.jan with capArmed := true, capAxis := none, capNow := false } }

/-- The capture registers take a mismatch (R198). -/
def capture (n cause rails word plain coded fp fc : Nat) (s : State) : State :=
  if s.e JAN_CFG_CAP_FIRST = 1 ∧ !s.jan.capArmed then s
  else
    let s := (((s.setWord JAN_CAP_AX_A 0).set JAN_CAP_AX_CAUSE cause).set JAN_CAP_AX_RAILS rails).set JAN_CAP_AX_AXIS n
    let s := ((s.set JAN_CAP_AX_SLICE_P (s.e (AX_CFG_SLICE n))).set JAN_CAP_AX_SLICE_R 0xF).set JAN_CAP_AX_WORD word
    let s := ((s.set JAN_CAP_PLAIN_PLAIN plain).set JAN_CAP_CODED_CODED coded).set JAN_CAP_RERUN_RERUN 0
    let s := ((s.set JAN_CAP_FLAGS_CODED fc).set JAN_CAP_FLAGS_PLAIN fp).set JAN_CAP_TIME_TIME (s.f SNAP_TIME_TIME)
    { s with jan := { s.jan with capArmed := false, capAxis := some n, capNow := true } }

/-- Act on the capture registers where they describe this tick's mismatch of axis n. -/
def capOf (n : Nat) (f : State → State) (s : State) : State := s.when (s.jan.capAxis == some n && s.jan.capNow) f

/-- The class of the captured mismatch of axis n is settled by its march test (R190). -/
def capClass (n c : Nat) (s : State) : State :=
  s.when (s.jan.capAxis == some n) (fun t =>
    let t := if c = 0 then t else t.set JAN_CAP_AX_CLASS c
    { t with jan := { t.jan with capAxis := none } })

/-- One mismatching axis (R183, R184, R192, R197, R198). `found` is what the comparison logic finds; `a` and `b` are the
codes the rails report. A mismatch without a recorded word leaves the word and its contents open: they are free values. A fenced partition has failed its march test: class HOLD. -/
def mismatch (n : Nat) (found : Option (Nat × Option Nat)) (a b : Nat) (hold : List Nat) (coded : List Int) (fp fc : Nat)
    (s : State) : State :=
  let cause := match found with
    | some (c, _) => c
    | none => 0
  let fenced := s.fbit JAN_FENCE_FENCED n
  let r : (Nat × Nat × Nat) × State := match found with
    | some (_, some w) => ((w, if fenced then 0 else (hold.getD w 0) % 2 ^ 24, ofSigned 30 (coded.getD w 0)), s)
    | _ =>
      let q1 := s.fresh
      let q2 := q1.2.fresh
      let q3 := q2.2.fresh
      ((q1.1.toNat % 64, q2.1.toNat % 2 ^ 24, q3.1.toNat % 2 ^ 30), q3.2)
  let w := r.1.1
  let plain := r.1.2.1
  let cw := r.1.2.2
  let s := r.2
  let data := cause * 2 ^ 30 + (if cause = 2 then fc % 64 * 64 + fp % 64 else cw)
  let s := if s.eOn JAN_CFG_LOG_CONT then s.raiseC (0x040 + n) data (w * 2 ^ 24 + plain) else s.raise (0x040 + n) data
  let s := if cause = 3 then (s.raise 0x053 (w * 2 ^ 16 + n)).inc JAN_CNT_C_PARITY else s
  let s := (s.inc JAN_CNT_A_MISMATCH).setBit JAN_STAT_MIS_LAST n true
  let s := if n % 2 = 0 then s.inc (JAN_AXCNT_EVEN (n / 2)) else s.inc (JAN_AXCNT_ODD (n / 2))
  let s := capture n cause (b2n (a == 2) + 2 * b2n (b == 2)) w plain cw fp fc s
  let s := if fenced then capOf n (fun t => t.set JAN_CAP_AX_CLASS 3) s else s
  let x := s.axs n
  let s := s.setAxs n { x with verdict := .waiting, cause := cause }
  { s with jan := { s.jan with mism := s.jan.mism ++ [n], waiting := s.jan.waiting ++ [n] } }

/-- The verdict of one axis (R182-R184): `rails` are the axes whose rails do not both report what the comparison finds. -/
def compareAxis (rails : List RailOut) (n : Nat) (s : State) : State :=
  let x := s.axs n
  match x.plain, x.coded with
  | some p, some c =>
    let fenced := s.fbit JAN_FENCE_FENCED n
    let hold := s.partition n p.words.length
    let found := if fenced then some (3, some 0) else railFinds hold c.words p.flags c.flags
    let s := s.setAxs n { x with plainOk := !fenced && hold.all parityOk, codedOk := c.words.all (fun w => w % 59 == 0) }
    let r : RailSays × RailSays := match rails.find? (fun r => r.axis.val == n) with
      | some x => (railOf x.rails.a, railOf x.rails.b)
      | none => (soundRail found, soundRail found)
    let bad := r.1.code != r.2.code || r.1.code == 0 || r.1.code == 3 || r.2.code == 0 || r.2.code == 3
    let s := if bad then (s.raise 0x054 (r.2.code * 2 ^ 10 + r.1.code * 2 ^ 8 + n)).inc JAN_CNT_B_RAIL else s
    if r.1.code == 1 && r.2.code == 1 then s.setAxs n { s.axs n with verdict := .match_ }
    else mismatch n (recorded r.1 r.2) r.1.code r.2.code hold c.words p.flags c.flags s
  | _, _ => s

/-- The verdicts are published (R183), after the overruns of the Janus pass. -/
def janusVerdicts (rails : List RailOut) (s : State) : State :=
  let late := lowest s.tk.janusOver
  let s := if late.isSome then overrun 2 late s else s
  let s := ({ s with tk := { s.tk with janusOver := [] } }).set JAN_STAT_MIS_LAST 0
  s.each (List.range 16) (compareAxis rails)

/-! ### Arbitration (R185-R189) -/

/-- A verdict is settled, and the capture shows it. -/
def settle (n : Nat) (v : Verdict) (s : State) : State :=
  let s := s.setAxs n { s.axs n with verdict := v }
  let s := { s with jan := { s.jan with waiting := s.jan.waiting.filter (· != n) } }
  match v with
  | .noVerdict => capOf n (fun t => t.set JAN_CAP_AX_VERDICT 2) ((s.raise 0x056 n).inc JAN_CNT_B_NO_VERDICT)
  | .rerun => capOf n (fun t => t.set JAN_CAP_AX_VERDICT 1) s
  | _ => s

/-- The record check of R188 on words plain and coded: the word used, the two words afterwards, whether one was rewritten;
none where the word is unusable. -/
def checkWord (p c : Int) (badParity : Bool) : Option (Int × Int × Bool) :=
  if 59 * p = c then some (p, c, false)
  else if c % 59 = 0 then some (c.fdiv 59, c, true)
  else if badParity then none
  else some (p, 59 * p, true)

/-- Load the record of axis n through the record check (R188). Every word that can be rewritten is, counted and reported, also where another
word makes the record unusable (DESIGN CHOICE, log entry 126). -/
def loadRecord (n : Nat) (s : State) : Bool × State :=
  let a := s.axs n
  let l := (List.range a.record.length).map (fun k =>
    let p := a.record.getD k 0
    let c := a.recordC.getD k 0
    (p, c, checkWord p c (a.badParity.contains k)))
  let rec_ := l.map (fun x => match x.2.2 with
    | some y => y.1
    | none => x.1)
  let recC := l.map (fun x => match x.2.2 with
    | some y => y.2.1
    | none => x.2.1)
  let cnt := (l.filter (fun x => match x.2.2 with
    | some y => y.2.2
    | none => false)).length
  let ok := l.all (fun x => x.2.2.isSome)
  let s := s.setAxs n { a with record := rec_, recordC := recC, badParity := if ok then [] else a.badParity }
  let s := s.addSat JAN_CNT_D_RECORD cnt
  (ok, if cnt = 0 then s else s.raise 0x057 n)

/-- The next axes in the queue are arbitrated until one's re-run starts (R187). -/
def nextRerun : List Nat → State → State
  | [], s => s
  | n :: ns, s =>
    let need := (wcOf (s.e (AX_CFG_STRUCT n)) (s.eOn (AX_CFG_SIX n))).1 + 200
    match s.jan.slice with
    | none => nextRerun ns (settle n .noVerdict s)
    | some sl =>
      if s.jan.left < need then nextRerun ns (settle n .noVerdict s)
      else
        let r := loadRecord n s
        if !r.1 then nextRerun ns (settle n .noVerdict r.2)
        else
          let t := capOf n (fun t => t.set JAN_CAP_AX_SLICE_R sl) r.2
          { t with jan := { t.jan with rerunAt := some n, left := t.jan.left - need } }

/-- The physical slices that ran a pass of axis n (R185). -/
def State.suspects (s : State) (n : Nat) : List Nat :=
  let l := s.e (AX_CFG_SLICE n)
  [s.physOf l, s.physOf ((l + 3) % 8)]

/-- The slice in rotation next (R402): the physical slices in turn, the spare last. -/
def State.rotation (s : State) : Nat := s.f BIST_SLC_NEXT % 9

/-- ARBITRATION_RESERVE (R185-R187, R402): slice tests start on the suspect slices and on the slice in rotation, and the
mismatching axes are re-run in slot order. Where every slice is under test there is no re-run slice (R186), and RERUN_SLICE keeps its
value (DESIGN CHOICE, log entry 103). -/
def arbReserve (s : State) : State :=
  let susp := (s.jan.mism.flatMap s.suspects).eraseDups
  let p := s.rotation
  let spare := s.on RP_SPARE_SLICE_FREE
  let defer := p == 8 && spare && s.jan.mism != []
  let rot := if defer then none else some p
  let s := s.set BIST_SLC_NEXT (if defer then p else (p + 1) % 9)
  let test := (susp ++ rot.toList).eraseDups
  let slice := if spare then some 8 else (List.range 8).find? (fun l => !test.contains (s.physOf l))
  let s := match slice with
    | some k => s.set JAN_STAT_RERUN_SLICE k
    | none => s
  let s := { s with jan := { s.jan with susp := susp, rot := rot, test := test, failed := [], slice := slice,
                                        left := reserveCycles s.tNs s.engMhz, rerunAt := none } }
  nextRerun s.jan.waiting s

/-- The verdict of R187 from the eligible plain result, the eligible decoded result and the re-run. -/
def arbitrate (a c : Option RunRes) (r : RunRes) : Verdict :=
  if a.isSome ∧ (a = some r ∨ a = c) then .plain
  else if c = some r then .rerun
  else .noVerdict

/-- RERUN_COMPLETE (R187): the re-run of axis n ends, with the bit errors it met. -/
def rerunComplete (n : Nat) (err : List BitErr) (s : State) : State :=
  let x := s.axs n
  match x.runIn, x.plain, x.coded with
  | some (i, ci), some p, some c =>
    if s.jan.rerunAt ≠ some n then s
    else
      let run := runPlain i ci x.record
      let o := run.prog.res
      let r : RunRes := ⟨errInto 24 n err o.words, o.flags⟩
      let hold := (s.partition n p.words.length).map holdPlain
      let a := if x.plainOk then some (⟨hold, p.flags⟩ : RunRes) else none
      let d := if x.codedOk then some (⟨c.words.map (fun w => w.fdiv 59), c.flags⟩ : RunRes) else none
      let s := (s.setAxs n { x with rerun := some r }).inc JAN_CNT_D_RERUN
      let s := capOf n (fun t => t.set JAN_CAP_RERUN_RERUN (ofSigned 24 (r.words.getD (t.f JAN_CAP_AX_WORD) 0))) s
      let v := arbitrate a d r
      let s := (settle n v s).when (v == .rerun && s.retHost == some n) (fun t => match run.chain with
        | some k => hostPub ci k t
        | none => t)
      nextRerun s.jan.waiting { s with jan := { s.jan with rerunAt := none } }
  | _, _, _ => s

/-- At the end of the reserve an unfinished arbitration is a verdict of NONE (R187), and an overrun (R47). -/
def reserveEnd (s : State) : State :=
  let s := if s.jan.rerunAt.isSome then overrun 3 s.jan.slice s else s
  let s := s.each s.jan.waiting (settle · .noVerdict)
  { s with jan := { s.jan with rerunAt := none } }

/-- The run that axis n commits, and the coded record with it (R177, R189); a program that waits for its first valid measurement has
nothing to commit (R104). -/
def State.toCommit (s : State) (n : Nat) : Option (RunRes × List Int) :=
  let a := s.axs n
  let np := s.axPhases n
  let rebuilt := fun (r : RunRes) => (r.words.drop (recAt np 0)).map (fun x => 59 * x)
  if !a.live then none
  else match a.verdict, a.plain, a.coded, a.rerun with
  | .match_, some p, some c, _ => some (p, c.words.drop (recAt np 0))
  | .plain, some p, _, _ => some (p, rebuilt p)
  | .rerun, _, _, some r => some (r, rebuilt r)
  | _, _, _, _ => none

/-! ### Slice and march tests (R185, R190-R192, R402) -/

/-- SLICE_TEST_COMPLETE (R190, R402) of physical slice p. -/
def sliceTest (p : Nat) (pass : Bool) (s : State) : State :=
  if !s.jan.test.contains p then s
  else
    let susp := s.jan.susp.contains p
    let rot := s.jan.rot == some p
    let s := { s with jan := { s.jan with test := s.jan.test.filter (· != p) } }
    if pass then s
    else
      -- a spare that serves no logical slice has no number for bits 3:0: a free value
      let r : Nat × State := match s.logicalOf p with
        | some l => (l, s)
        | none => let q := s.fresh; (q.1.toNat % 16, q.2)
      let data := 6 * 2 ^ 28 + p * 2 ^ 16 + r.1
      let s := r.2
      let s := (if susp then s.raise 0x051 data else s).inc JAN_CNT_B_SLICE_FAIL
      let s := if rot then (s.raise 0x3E6 data).inc BIST_CNT_B_SLICE_FAIL else s
      let s := s.each (s.jan.mism.filter (fun n => (s.suspects n).contains p)) (fun n t =>
        capOf n (fun t => t.set JAN_CAP_AX_CLASS 2) (t.setAxs n { t.axs n with sliceFail := true }))
      sliceRepair p { s with jan := { s.jan with failed := s.jan.failed ++ [p] } }

/-- GUARD (R41, R190, R191): partitions to be tested queue, and one march test starts. -/
def guardMarch (s : State) : State :=
  let s := s.each s.jan.mism (fun n t =>
    let a := t.axs n
    if (a.cause = 3 ∨ !a.sliceFail) ∧ !t.fbit JAN_FENCE_FENCED n ∧ !t.jan.queue.contains n then
      { t.setBit JAN_PEND_PENDING n true with jan := { t.jan with queue := t.jan.queue ++ [n] } }
    else if t.jan.capNow && !t.fbit JAN_PEND_PENDING n then capClass n 0 t
    else t)
  match s.jan.marching with
  | some _ => s
  | none => { s with jan := { s.jan with marching := (List.range 16).find? (fun n => s.jan.queue.contains n) } }

/-- MARCH_TEST_COMPLETE (R190-R192): `row` is the row that failed. -/
def marchComplete (pass : Bool) (row : Nat) (s : State) : State :=
  match s.jan.marching with
  | none => s
  | some n =>
    let s := { s with jan := { s.jan with marching := none, queue := s.jan.queue.filter (· != n) } }
    let s := s.setBit JAN_PEND_PENDING n false
    if pass then
      if (s.axs n).sliceFail then capClass n 0 s
      else capClass n 1 ((s.raise 0x050 n).inc JAN_CNT_A_TRANSIENT)
    else
      let s := ((s.raise 0x052 n).inc JAN_CNT_B_HOLD_FAIL).setBit JAN_FENCE_FENCED n true
      rowRepair 2 row (capClass n 3 s)

/-! ### Injection (R193-R196) -/

/-- The word pair and coded flags of injection pattern `idx`, and the cause it must bring (*Injection patterns*). -/
def injection (idx : Nat) : Nat × Int × Nat × Option Nat :=
  let p0 : Nat := 0x123456
  let h0 := holdWord p0
  let c0 : Int := 59 * p0
  let xorC := fun m => ((Nat.xor c0.toNat m : Nat) : Int)
  if idx < 6 then (holdWord ((Nat.xor p0 (2 ^ (4 * idx)) : Nat) : Int), c0, 0, some 0)
  else if idx < 12 then (Nat.xor h0 (2 ^ (4 * (idx - 6) + 2)), c0, 0, some 3)
  else if idx < 24 then (h0, xorC (2 ^ (2 * (idx - 12) + 7)), 0, some 1)
  else if idx < 36 then (h0, xorC (3 * 2 ^ (2 * (idx - 24))), 0, some 1)
  else if idx < 46 then (h0, c0 + ([1, 2, 3, 5, 8, 13, 21, 34, 55, 58] : List Int).getD (idx - 36) 0, 0, some 1)
  else if idx < 58 then
    (h0, c0 + 59 * ([1, -1, 2, -2, 3, -3, 256, -256, 65536, -65536, 4194304, -4194304] : List Int).getD (idx - 46) 0, 0, some 0)
  else if idx < 64 then (h0, c0, 2 ^ (idx - 58), some 2)
  else (h0, c0, 0, none)

/-- The rails that fail pattern `idx`, bit 0 = A, bit 1 = B (R193): `rails` is what the rails report where it is not what the
comparison finds. -/
def injFails (idx : Nat) (rails : Option RailPair) : Nat :=
  let p := injection idx
  let f := railFinds [p.1] [p.2.1] 0 p.2.2.1
  let r : RailSays × RailSays := match rails with
    | some x => (railOf x.a, railOf x.b)
    | none => (soundRail f, soundRail f)
  let ok := fun (x : RailSays) =>
    if p.2.2.2.isNone then x.code == 1 else x.code == 2 && x.found.map (·.1) == p.2.2.2
  b2n (!ok r.1) + 2 * b2n (!ok r.2)

/-- The periodic and the manual injection of a self-test slice (R195, R196). -/
def injections (inj man : Option RailPair) (s : State) : State :=
  let n := s.tickNo
  let idx := n / 1000 % 65
  let s := s.set JAN_INJ_STAT_NEXT ((idx + 1) % 65)
  let s := if n % 1000 = 0 ∧ s.jan.passRan then
      let bad := injFails idx inj
      let s := s.incWrap JAN_CNT_C_INJ_RUN
      if bad = 0 then s
      else (((s.inc JAN_INJ_STAT_FAIL).set JAN_INJ_STAT_FAIL_RAILS bad).set JAN_INJ_STAT_LAST_FAIL idx).raise 0x055
        (bad * 2 ^ 16 + idx * 2 ^ 8)
    else s
  match s.jan.goIdx with
  | none => s
  | some k =>
    { s.set JAN_INJ_STAT_MAN_RESULT (if injFails k man = 0 then 1 else 2) with jan := { s.jan with goIdx := none } }

/-- JAN_INJ_GO (R196): in service mode pattern IDX is presented in the self-test slice after the next TICK; above 64, or
outside service mode, the write is refused. -/
def injGo (idx : Nat) (s : State) : Bool × State :=
  if !s.service || decide (64 < idx) then (true, s)
  else (false, { s with jan := { s.jan with goPend := some idx } })

/-- What a TICK does for the Janus unit: remaps, and a manual injection asked for (R12, R190). -/
def janTick (s : State) : State :=
  let s := remapTick s
  { s with jan := { s.jan with goIdx := if s.jan.goPend.isSome then s.jan.goPend else s.jan.goIdx, goPend := none } }

/-- JAN_CLR.CLR_CNT (R198). -/
def janClrCnt (s : State) : State :=
  let s := [JAN_CNT_A_A, JAN_CNT_B_A, JAN_CNT_C_A, JAN_CNT_D_A].foldl (fun t a => t.setWord a 0) (s.set JAN_INJ_STAT_FAIL 0)
  s.each (List.range 8) (fun i t => t.setWord (JAN_AXCNT_A i) 0)

/-! ### The commands -/

/-- PLAIN_PASS (R39, R42, R86). -/
def execPlainPass (x : PassEnv) (s : State) : Res := s.runIf 2 s.engineOn (plainPass x)

/-- JANUS_PASS (R42, R178). -/
def execJanusPass (x : PassEnv) (s : State) : Res := s.runIf 2 s.engineOn (janusPass x)

/-- ARBITRATION_RESERVE (R185). -/
def execArbitrationReserve (s : State) : Res := s.runIf 2 s.engineOn arbReserve

/-- RERUN_COMPLETE (R187). -/
def execRerunComplete (n : Fin 16) (err : List BitErr) (s : State) : Res := s.runIf 2 s.engineOn (rerunComplete n err)

/-- SLICE_TEST_COMPLETE (R190). -/
def execSliceTestComplete (sl : Fin 9) (pass : Bool) (s : State) : Res := s.runIf 2 (!s.quiet) (sliceTest sl pass)

/-- MARCH_TEST_COMPLETE (R191). -/
def execMarchTestComplete (pass : Bool) (row : Fin 1024) (s : State) : Res := s.runIf 2 (!s.quiet) (marchComplete pass row)

/-- JAN_INJ_GO (R196). -/
def execJanInjGo (idx : BitVec 7) (s : State) : Res := s.runIn 2 (fun s => counted 0x00D (injGo idx.toNat s))

/-- JAN_CLR_CAP (R198). -/
def execJanClrCap (s : State) : Res := s.runIn 2 clearCap

/-- JAN_CLR_CNT (R198). -/
def execJanClrCnt (s : State) : Res := s.runIn 2 janClrCnt

end Sys2Proof.Machine
end

