-- ==== Sys2Proof/Machine/Moamel.lean ====
section
/-!
DEFINITION. The Moamel cascade (R289-R310): links, spans, reachability, departure, ring master, SYNC_N, ALARM_N.
-/
namespace Sys2Proof.Machine

def State.link (s : State) (m : Nat) : LinkSt := smGet (fun _ => {}) s.mm.links m
def State.setLink (s : State) (m : Nat) (v : LinkSt) : State :=
  { s with mm := { s.mm with links := smPut (fun _ => {}) s.mm.links m v } }

def State.ringN (s : State) : Nat := s.f MM_CFG_RING_N
def State.pos (s : State) : Nat := s.f MM_STAT_POS
def State.letter (s : State) : Nat := s.f LN_STAT_LETTER
def State.lsys (s : State) : Nat := s.f MM_CFG_LSYS

/-- The record of a position in the last exchange. -/
def State.recAtPos (s : State) (p : Nat) : Option XRec := smGet (fun _ => none) s.ln.recs p

/-- Links of a span: west M_0 and M_2, east M_1 and M_3 (R289). -/
def spanLinks (east : Bool) : List Nat := if east then [1, 3] else [0, 2]

def State.linkUp (s : State) (m : Nat) : Bool := s.f (LK_STAT_STATE m) == 2

def spanF (east : Bool) : Fld := if east then MM_SPAN_EAST else MM_SPAN_WEST

/-- The position that link m should reach (R289). -/
def State.neighbour (s : State) (m : Nat) : Nat :=
  if m % 2 = 0 then (s.pos + s.ringN - 1) % s.ringN else (s.pos + 1) % s.ringN

/-! ### Links -/

/-- 1,024 consecutive valid training words from a peer (R290). -/
def linkTrained (m pos ringN lsys delayNs : Nat) (s : State) : State :=
  if s.f (LK_STAT_STATE m) ≠ 1 ∧ s.f (LK_STAT_STATE m) ≠ 3 then s
  else
    let t := ((s.set (LK_STAT_PEER_POS m) pos).set (LK_STAT_PEER_RING_N m) ringN).set (LK_STAT_PEER_LSYS m) lsys
    let t := t.set (LK_STAT_DELAY_NS m) delayNs
    let t := { t with mm := { t.mm with lsysAt := smPut (fun _ => 8) t.mm.lsysAt pos lsys } }
    if pos = s.neighbour m ∧ ringN = s.ringN then
      (t.set (LK_STAT_STATE m) 1).setLink m { pendUp := true }
    else
      let ep := (s.link m).wiringEp
      let t := (t.set (LK_STAT_STATE m) 3).setLink m { wiringEp := true }
      if ep then t else t.raiseU 0x301

/-- An UP link goes down and trains again (R291). -/
def linkDown (m : Nat) (s : State) : State :=
  if s.linkUp m then
    -- the receiver retrains, so its queue has lost one side (R442)
    peerReset (6 + m) ((((s.set (LK_STAT_STATE m) 1).setLink m {}).inc (LK_CNT_DOWNS m)).raiseU (0x310 + 2 * m))
  else s

/-- A link at TICK: it goes UP, is switched off, or starts training (R290, R291, R293, R476, R477). -/
def linkTick (m : Nat) (s : State) : State :=
  if !s.on (LK_CFG_EN m) || !s.su.nets || decide (s.ringN ≤ s.pos) then
    let up := s.linkUp m
    let t := (s.set (LK_STAT_STATE m) 0).setLink m {}
    if up then (t.inc (LK_CNT_DOWNS m)).raiseU (0x310 + 2 * m) else t
  else if (s.link m).pendUp then (s.set (LK_STAT_STATE m) 2).setLink m { got := true }
  else if s.f (LK_STAT_STATE m) = 0 then s.set (LK_STAT_STATE m) 1
  else s

/-! ### Spans -/

/-- A span at TICK (R292, R477). -/
def spanTick (east : Bool) (s : State) : State :=
  let up := (spanLinks east).any s.linkUp
  let was := s.f (spanF east)
  let seen := if east then s.mm.eastSeen else s.mm.westSeen
  let put := fun (ticks : Nat) (t : State) =>
    if east then { t with mm := { t.mm with eastTicks := ticks, eastSeen := seen || up } }
    else { t with mm := { t.mm with westTicks := ticks, westSeen := seen || up } }
  if up then
    if was = 0 then put 0 (s.set (spanF east) (if seen then 1 else 2))
    else put ((if east then s.mm.eastTicks else s.mm.westTicks) + 1) s
  else if was ≠ 0 then ((put 0 (s.set (spanF east) 0)).inc MM_CNT_BREAKS).raise 0x300 (b2n east)
  else s

/-- SPAN_BREAK_CLEARED: 20,000 consecutive ticks UP (R292). -/
def spanCleared (east : Bool) (s : State) : State :=
  if s.f (spanF east) = 1 ∧ 20000 ≤ (if east then s.mm.eastTicks else s.mm.westTicks) then s.set (spanF east) 2 else s

/-- Ticks since the last span became UP (MM_SPAN.UP_TICKS): `old` holds the spans before this TICK. -/
def upTicks (old s : State) : Nat :=
  let rose := fun (f : Fld) => old.f f == 0 && s.f f != 0
  if rose MM_SPAN_WEST || rose MM_SPAN_EAST then 0
  else if s.mm.westSeen || s.mm.eastSeen then satU 16 (s.f MM_SPAN_UP_TICKS + 1)
  else 0

/-! ### Topology (R295-R297) -/

/-- What is known of the span between positions i and i + 1: the worst of its own span register and of what the two
modules reported in the last exchange; none where nobody reported. -/
def State.spanAt (s : State) (i : Nat) : Option Nat :=
  let j := (i + 1) % s.ringN
  let l := (if i = s.pos then [s.f MM_SPAN_EAST] else []) ++ (if j = s.pos then [s.f MM_SPAN_WEST] else []) ++
    (match s.recAtPos i with
      | some r => if i = s.pos then [] else [r.east]
      | none => []) ++
    (match s.recAtPos j with
      | some r => if j = s.pos then [] else [r.west]
      | none => [])
  match l with
  | [] => none
  | x :: xs => some (xs.foldl min x)

/-- The span carries traffic as far as this module knows. -/
def State.spanCarries (s : State) (i : Nat) : Bool := match s.spanAt i with
  | some x => decide (0 < x)
  | none => false

/-- Positions reached from `p` over at most `n` spans in one direction, as a mask. -/
def State.walk (s : State) (east : Bool) : Nat → Nat → Nat → Nat
  | 0, _, m => m
  | n + 1, p, m =>
    let q := if east then (p + 1) % s.ringN else (p + s.ringN - 1) % s.ringN
    if s.spanCarries (if east then p else q) then s.walk east n q (withBit m q true) else m

/-- Positions reachable over an unbroken chain of UP spans, the own one included (R295). -/
def State.reachMask (s : State) : Nat :=
  let n := s.ringN - 1
  Nat.lor (s.walk true n s.pos (2 ^ s.pos)) (s.walk false n s.pos (2 ^ s.pos))

def State.departed (s : State) (p : Nat) : Bool := s.fbit MM_CAND_DEPARTED p

/-- A span counts as broken: below `least` where it is reported, between two departed modules where nobody reports it. -/
def State.spanBad (s : State) (least i : Nat) : Bool := match s.spanAt i with
  | some x => decide (x < least)
  | none => s.departed i && s.departed ((i + 1) % s.ringN)

/-- Length of the run of bad spans that starts at span i, at most n. -/
def State.runLen (s : State) (least : Nat) : Nat → Nat → Nat
  | 0, _ => 0
  | n + 1, i => if s.spanBad least i then 1 + s.runLen least n ((i + 1) % s.ringN) else 0

/-- Gaps (R297): first span and number of spans; where every span is bad they are one gap around the own position. -/
def State.gaps (s : State) (least : Nat) : List (Nat × Nat) :=
  let n := s.ringN
  if (List.range n).all (s.spanBad least) then [(s.pos, n)] else
  ((List.range n).filter (fun i => s.spanBad least i && !s.spanBad least ((i + n - 1) % n))).map
    (fun i => (i, s.runLen least n i))

/-- What one gap counts in this lane system (R297). -/
def State.gapCount (s : State) (g : Nat × Nat) : Nat :=
  let inside := (List.range (g.2 - 1)).map (fun k => (g.1 + 1 + k) % s.ringN)
  if inside ≠ [] ∧ inside.all s.departed ∧ inside.any (fun p => smGet (fun _ => 8) s.mm.lsysAt p == s.lsys) then 0 else 1

/-- Breaks counted for this lane system; a module whose two spans are both broken counts 2. -/
def State.breaks (s : State) : Nat :=
  if s.f MM_SPAN_WEST = 0 ∧ s.f MM_SPAN_EAST = 0 then 2
  else (s.gaps 2).foldl (fun n g => n + s.gapCount g) 0

/-- MM_STAT.TOPO. -/
def State.topo (s : State) : Nat :=
  if s.f MM_SPAN_WEST = 0 ∧ s.f MM_SPAN_EAST = 0 then 3
  else match (s.gaps 1).length with
    | 0 => 0
    | 1 => 1
    | _ => 2

/-- Reports of LEAVING and departure (R296). -/
def departTick (s : State) : State :=
  let reach := s.reachMask
  (List.range 16).foldl (fun t p =>
    let said := match t.recAtPos p with
      | some r => r.leaving
      | none => bitOf t.mm.said p
    let gone := said && !bitOf reach p && p != t.pos
    let t := { t with mm := { t.mm with said := withBit t.mm.said p said } }
    t.setBit MM_CAND_DEPARTED p gone) s

/-- The ring as a TICK finds it (R295-R297). -/
def ringTick (s : State) : State :=
  let t := departTick (spanTick true (spanTick false (s.each (List.range 4) linkTick)))
  let t := { t with mm := { t.mm with cut := (List.range t.ringN).filter (fun i => t.spanAt i == some 0) } }
  let t := (t.set MM_REACH_REACH t.reachMask).set MM_STAT_TOPO t.topo
  (t.set MM_STAT_BREAKS (satU 4 t.breaks)).set MM_SPAN_UP_TICKS (upTicks s t)

/-! ### Records on the spans (R299-R301) -/

/-- The span between positions i and i + 1 is known to be broken while record r is forwarded: as the last TICK found the spans, as
this window's records or the own links show them, or as r itself says. -/
def State.isCut (s : State) (r : XRec) (i : Nat) : Bool :=
  s.mm.cut.contains i || s.spanAt i == some 0 || (i == r.pos && r.east == 0) || ((i + 1) % s.ringN == r.pos && r.west == 0)

/-- Position `k` spans from `p`, and the spans on the way there. -/
def State.stepTo (s : State) (east : Bool) (p k : Nat) : Nat := if east then (p + k) % s.ringN else (p + k * (s.ringN - 1)) % s.ringN
def State.spansTo (s : State) (east : Bool) (p k : Nat) : List Nat :=
  (List.range k).map (fun j => s.stepTo east p (if east then j else j + 1))

/-- Positions beyond this module on a record's way, up to its sender and to the first broken span. -/
def State.beyond (s : State) (east : Bool) (r : XRec) : List Nat :=
  let d := if east then (r.pos + s.ringN - s.pos) % s.ringN else (s.pos + s.ringN - r.pos) % s.ringN
  ((List.range (d - 1)).filter (fun k => !(s.spansTo east s.pos (k + 1)).any (s.isCut r))).map (fun k => s.stepTo east s.pos (k + 1))

/-- A record is forwarded towards peers of its lane system further along the path that have not received it already (R299): to the
next module while both are of the record's lane system, whose positions are consecutive; else to one of the at most two peers on
the sender's other side, when the direct way to it is broken. A position never heard of may be a peer. -/
def State.forwards (s : State) (east : Bool) (r : XRec) : Bool :=
  let at_ := fun (q : Nat) => smGet (fun _ => 8) s.mm.lsysAt q
  let way := s.beyond east r
  (s.lsys == r.lsys && (way.head?.map at_) == some r.lsys) ||
    [1, 2].any (fun k =>
      let q := s.stepTo (!east) r.pos k
      way.contains q && (at_ q == r.lsys || at_ q == 8) && (s.spansTo (!east) r.pos k).any (s.isCut r))

/-- What link m receives reaches the engine (R291, R440). -/
def State.linkHears (s : State) (m : Nat) : Bool := s.linkUp m && !s.xStopped (6 + m)

/-- A frame on link m, a copy of a record or an idle frame (R289, R291, R310); `used` says that the receiver takes it, which alone counts. Four
frames that fail their CRC within 16 consecutive ticks take the link down (R291). -/
def frameOn (m : Nat) (c : XCopy) (used : Bool) (s : State) : State :=
  if !s.linkHears m then s
  else
    let t := s.addSat (LK_ERR_CODE m) c.code
    if c.ok then (t.setLink m { s.link m with got := true }).when used (·.incWrap (LK_CNT_FRAMES m))
    else
      let l := (s.link m).crcAt.filter (fun x => decide (s.tickNo < x + 16)) ++ [s.tickNo]
      let t := ((t.inc (LK_ERR_CRC m)).raiseU (0x311 + 2 * m)).setLink m { s.link m with crcAt := l }
      t.when (decide (4 ≤ l.length)) (linkDown m)

/-- A compare-and-exchange window begins: a link without a valid frame in the last two is silent and goes down (R291). -/
def linkWindow (m : Nat) (s : State) : State :=
  if !s.linkUp m then s
  else
    let l := s.link m
    let n := if l.got then 0 else l.silent + 1
    (s.setLink m { l with got := false, silent := n }).when (decide (2 ≤ n)) (linkDown m)

/-- EXCHANGE_RECORD: a record arrives on a span (R293, R299, R301). `atNs` is the arrival of its last byte, ns from the start
of the window. -/
def exchangeRecord (east : Bool) (a b : XCopy) (r : XRec) (atNs : Nat) (s : State) : State :=
  let l := spanLinks east
  let m0 := l.getD 0 0
  let m1 := l.getD 1 0
  let okA := s.linkHears m0 && a.ok
  let okB := s.linkHears m1 && b.ok
  let good := okA || okB
  let idle := r.kind == .idle
  let takeB := okB && (!okA || (a.second && !b.second))
  -- the copies of a record are one frame received; the idle frames of the two links are a frame of each
  let s := frameOn m1 b (idle || takeB) (frameOn m0 a (idle || !takeB) s)
  if !good || idle then s
  else
    let s := if s.forwards (!east) r && !s.xStopped 10 then { s with mm := { s.mm with fwd := s.mm.fwd ++ [(!east, r.pos)] } } else s
    let s := { s with mm := { s.mm with lsysAt := smPut (fun _ => 8) s.mm.lsysAt r.pos r.lsys } }
    if r.pos = s.pos then
      let ep := s.mm.posDup
      let s := { s with mm := { s.mm with dupNow := true, posDup := true } }
      if ep then s else s.raiseU 0x302
    else if s.tNs * 6 / 100 < atNs then (s.inc MM_CNT_LATE).raise 0x304 r.pos
    else
      let s := s.set MM_TIMING_LAST_NS (max (s.f MM_TIMING_LAST_NS) (satU 16 atNs))
      let s := s.set MM_TIMING_MAX_NS (max (s.f MM_TIMING_MAX_NS) (satU 16 atNs))
      if (s.recAtPos r.pos).isSome then s
      else { s with ln := { s.ln with recs := smPut (fun _ => none) s.ln.recs r.pos (some r) } }

/-! ### Ring master and SYNC_N (R302-R306) -/

/-- The lowest position in a list. -/
def lowestPos (l : List Nat) : Option Nat := (List.range 16).find? (fun p => l.contains p)

/-- The ring master as the vote selects it: `out` lists positions excluded in this vote or before, `heir` is the position to which an
exclusion in this vote moves the MASTER role (R302, R303). -/
def masterVote (heir : Option Nat) (out : List Nat) (s : State) : State :=
  let reach := s.f MM_REACH_REACH
  let peers := (List.range 16).filter (fun p => bitOf reach p && p != s.pos && !out.contains p)
  let ownIn := !out.contains s.pos
  let cand := peers.filter (fun p => heir == some p || (match s.recAtPos p with
    | some r => r.cand
    | none => false))
  let act := peers.filter (fun p => match s.recAtPos p with
    | some r => r.state == 1
    | none => false)
  let cand := if ownIn && (s.fbit LN_ROLE_HELD 0 || heir == some s.pos) then s.pos :: cand else cand
  let act := if ownIn && s.f LN_STAT_STATE == 1 then s.pos :: act else act
  let s := s.set MM_CAND_CAND (packBits 16 (fun p => cand.contains p))
  let none_ := cand == []
  let ep := s.mm.noCandEp
  let s := { s with mm := { s.mm with
    noCandEp := none_, nextMaster := lowestPos (if none_ then act else cand) } }
  if none_ && !ep then s.raiseU 0x307 else s

/-- The ring master of this tick (R302); SYNC_N is driven only in the larger segment (R304, R305), and pulses unless its pad group is
held (R427). -/
def masterTick (s : State) : State :=
  let m := s.mm.nextMaster
  let had := s.mm.hasMaster
  let changed := match m with
    | some p => !had || s.f MM_STAT_MASTER_POS != p
    | none => had
  let s := if changed then s.inc MM_CNT_MASTER_CHG else s
  let s := match m with
    | some p => (s.set MM_STAT_MASTER_POS p).setB MM_STAT_MASTER (p == s.pos)
    | none => s.setB MM_STAT_MASTER false
  let seg := popCount 16 (s.f MM_REACH_REACH)
  let drive := s.su.nets && s.on MM_STAT_MASTER && decide (s.ringN < 2 * seg) && !s.mm.conflictNow
  let s := s.setB MM_STAT_SYNC_DRV drive
  { s with mm := { s.mm with hasMaster := m.isSome, pulse := drive && !s.fbit PWR_PAD_HELD 15, conflictEp := s.mm.conflictNow, conflictNow := false } }

/-- TICK_ALIGN, once in a tick (R38). -/
def alignRaise (s : State) : State := ({ s with mm := { s.mm with alignSaid := true } }).raiseU 0x002

/-- A falling edge of SYNC_N, `offNs` from the own TICK (R304-R306): delayed, it is the ring master's tick, against which OFFSET
is measured, however far off it lies, and, where it is the reference, the phase of TICK corrected (R37, R38). TICK_ALIGN is raised once
per tick. Within 2 µs of the own TICK it shows that the ring master's tick is present (R306). -/
def syncEdge (offNs : Int) (s : State) : State :=
  let driving := s.on MM_STAT_SYNC_DRV
  let conflict := (driving || s.mm.conflictEp) && decide (offNs < -50)
  let newEp := conflict && driving && !s.mm.conflictEp && !s.mm.conflictNow
  let s := { s with mm := { s.mm with conflictNow := s.mm.conflictNow || conflict } }
  let s := if newEp then (s.inc MM_CNT_SYNC_CONF).raiseU 0x306 else s
  let off := -(offNs + (s.f MM_CFG_SYNC_DLY : Nat))
  let s := s.setI TICK_ALIGN_OFFSET (satSigned 16 off)
  let s := s.setB TICK_STAT_ALIGNED (decide (off.natAbs ≤ 100))
  let s := if s.f TICK_STAT_SRC_ACT = 2 then { s with tk := { s.tk with phase := off } } else s
  let s := s.when (decide (100 < off.natAbs) && s.on SU_STAT_ADMITTED && !s.mm.alignSaid) alignRaise
  if 2000 < offNs.natAbs then s
  else { (s.setB MM_STAT_SYNC_OK true) with mm := { s.mm with syncEdge := true, syncMiss := 0, syncLossEp := false } }

/-- Ticks without an edge (R306); ALIGNED follows the offset last measured (R38; log entry 18). -/
def syncTick (s : State) : State :=
  let s := s.setB TICK_STAT_ALIGNED (decide ((s.fI TICK_ALIGN_OFFSET).natAbs ≤ 100))
  { s with mm := { s.mm with syncMiss := if s.mm.syncEdge then 0 else s.mm.syncMiss + 1, syncEdge := false, alignSaid := false } }

/-- MM_SYNC_LOSS: 3 consecutive ticks without an edge (R306). -/
def syncLoss (s : State) : State :=
  if 3 ≤ s.mm.syncMiss then
    let ep := s.mm.syncLossEp
    let s := s.setB MM_STAT_SYNC_OK false
    let s := { s with mm := { s.mm with syncLossEp := true } }
    if ep then s else s.raiseU 0x305
  else s

/-! ### ALARM_N (R307) -/

/-- MM_STAT.ALARM_IN follows the line while this module does not pull it. -/
def alarmSeen (s : State) : State :=
  let in_ := s.mm.alarmPin && !s.on MM_STAT_ALARM_OUT
  let was := s.on MM_STAT_ALARM_IN
  let s := s.setB MM_STAT_ALARM_IN in_
  if in_ && !was then s.raiseU 0x308 else s

/-- ALARM_N at TICK: TERMINAL, safe stop, or isolated; not before start-up step 6 (R307, R476), and where TERMINAL has survived the POR
no start-up runs (R379). -/
def alarmTick (s : State) : State :=
  let out := (s.su.nets || s.on SU_STAT_TERMINAL) && (s.f LN_STAT_STATE == 4 || s.ssActive || s.on LN_STAT_ISOLATED)
  alarmSeen (s.setB MM_STAT_ALARM_OUT out)

/-- The module pulls ALARM_N low: ALARM_OUT, unless its pad group is held (R427). -/
def State.pullsAlarm (s : State) : Bool := s.on MM_STAT_ALARM_OUT && !s.fbit PWR_PAD_HELD 15

/-- The Moamel blocks at TICK. -/
def moamelTick (s : State) : State := alarmTick (syncTick (masterTick (ringTick s)))

/-! ### The commands -/

/-- LINK_TRAINED (R290). -/
def execLinkTrained (m : Fin 4) (pos : BitVec 4) (ringN : BitVec 5) (lsys : BitVec 3) (delayNs : BitVec 16) (s : State) : Res :=
  s.runIn 4 (linkTrained m pos.toNat ringN.toNat lsys.toNat delayNs.toNat)

/-- LK_DOWN (R291). -/
def execLkDown (m : Fin 4) (s : State) : Res := s.runIn 4 (linkDown m)

/-- SPAN_BREAK_CLEARED (R292). -/
def execSpanBreakCleared (east : Bool) (s : State) : Res := s.runIn 4 (spanCleared east)

/-- EXCHANGE_RECORD (R299). -/
def execExchangeRecord (east : Bool) (a b : XCopy) (r : XRec) (atNs : Nat) (s : State) : Res :=
  s.runIn 4 (exchangeRecord east a b r atNs)

/-- SYNC_N_EDGE (R304). -/
def execSyncNEdge (offNs : Int) (s : State) : Res := s.runIn 4 (syncEdge offNs)

/-- SYNC_PULSE_END (R304). -/
def execSyncPulseEnd (s : State) : Res := s.runIn 4 (fun s => { s with mm := { s.mm with pulse := false } })

/-- MM_SYNC_LOSS (R306). -/
def execMmSyncLoss (s : State) : Res := s.runIn 4 syncLoss

/-- MM_ALARM_IN (R307). -/
def execMmAlarmIn (s : State) : Res := s.runIn 4 (fun s => alarmSeen { s with mm := { s.mm with alarmPin := true } })

/-- ALARM_N_RELEASE (R307). -/
def execAlarmNRelease (s : State) : Res := s.runIn 4 (fun s => alarmSeen { s with mm := { s.mm with alarmPin := false } })

end Sys2Proof.Machine
end

