-- ==== Sys2Proof/Machine/SafeStop.lean ====
section
/-!
DEFINITION. Safe stop (R246-R264): triggers, phases, monitored deceleration, securing, peers, exit.
-/
namespace Sys2Proof.Machine

/-- The lane acts on trigger c (R246, R247): not in QUIET (R413), and on CMD_TIMEOUT only once admitted, since admission waits for
the command streams (R478; DEDUCED, log entry 19). -/
def State.ssLive (s : State) (c : Nat) : Bool :=
  (c != 3 || s.on SU_STAT_ADMITTED || s.ssActive) && !s.quiet && !s.inLrst

def State.tgt (s : State) (sel : Nat) : Nat := s.e (SS_TGT_A_TGT sel)

/-! ### Peers (R259, R261) -/

/-- Peers of the lane system in the last exchange: letter and record. -/
def State.peers (s : State) : List (Nat × XRec) :=
  s.ln.recs.filterMap (fun p => match p.2 with
    | some r => if r.lsys = s.lsys ∧ r.pos ≠ s.pos ∧ r.letter < 3 ∧ r.letter ≠ s.letter then some (r.letter, r) else none
    | none => none)

/-- Peers whose phase counts: not one that stands where it stood at this lane's exit (R261). -/
def State.ssPeers (s : State) : List XRec :=
  (s.peers.filter (fun p => !s.ss.ignore.contains (p.1, p.2.phase))).map Prod.snd

/-- Peers that make PEER present (R246): a phase other than INACTIVE. Of lanes that all stand in SECURED none draws another, or none
could ever leave (R260; DEDUCED, log entry 16). -/
def State.drawing (s : State) : List XRec :=
  s.ssPeers.filter (fun r => r.phase != 0 && !(r.phase == 4 && s.f SS_STAT_PHASE == 4))

/-- The most advanced phase a counting peer reports, with its record. -/
def State.ahead (s : State) : Option XRec :=
  s.ssPeers.foldl (fun m r => match m with
    | some q => if q.phase < r.phase then some r else m
    | none => if s.f SS_STAT_PHASE < r.phase then some r else none) none

/-- A peer that has escalated draws a decelerating lane with it. -/
def State.peerEsc (s : State) : Bool := s.ssPeers.any (fun r => r.esc && r.phase != 0)

/-- A peer that was left behind at the exit counts again once its phase has changed (R261). -/
def ignoreTick (s : State) : State :=
  let still := s.ss.ignore.filter (fun p => s.peers.all (fun q => q.1 != p.1 || q.2.phase == p.2))
  { s with ss := { s.ss with ignore := still } }

/-! ### Triggers (R246-R248) -/

/-- The triggers present now, as code and selector. -/
def State.triggers (s : State) : List (Nat × Nat) :=
  let d := s.e SS_CFG_DEF_SEL
  let t := fun (c : Nat) (b : Bool) => if b then [(c, d)] else []
  t 1 (s.on LN_STAT_LAST_LANE) ++
    (match s.sl.ssReq with
      | some (1, sel) => [(2, sel % 4)]
      | _ => []) ++
    t 3 s.sl.cmdOut ++ t 4 s.ss.pin ++ t 5 (s.on FLT_REACT_SAFE_STOP || s.ss.fault2) ++
    s.drawing.map (fun r => (6, r.sel % 4)) ++
    t 7 s.ss.disagree ++ t 8 s.ss.host

/-- A larger target replaces the one in force, never a smaller one (R248). -/
def raiseSel (sel : Nat) (s : State) : State :=
  if s.tgt (s.f SS_STAT_SEL) < s.tgt sel then s.set SS_STAT_SEL sel else s

/-- DECEL is entered (R247-R249). -/
def enterDecel (trig : List (Nat × Nat)) (s : State) : State :=
  let first := (((List.range 9).find? (fun c => bitOf (2 * s.f SS_TRIG_LATCHED) c)).getD 0)
  -- a trigger other than PDU and PEER that is latched, present or gone again, brings the default selector
  let own := (List.range 8).any (fun k => k != 1 && k != 5 && s.fbit SS_TRIG_LATCHED k)
  let sel := if own then s.e SS_CFG_DEF_SEL else (trig.head?.map Prod.snd).getD (s.e SS_CFG_DEF_SEL)
  let s := ((s.set SS_STAT_PHASE 1).set SS_STAT_FIRST first).set SS_STAT_SEL sel
  let s := ((s.set SS_TIME_TIME (s.ns % 2 ^ 32)).inc SS_CNT_ENTRIES).setWord SS_TMR_A 0
  let s := { s with ss := { s.ss with below := 0, still := 0 } }
  s.raise 0x3B0 first

/-- The bits of a list of triggers. -/
def trigMask (l : List (Nat × Nat)) : Nat := l.foldl (fun m p => withBit m (p.1 - 1) true) 0

/-- The triggers of a TICK are recorded and acted on; a PIN that was recorded since the last TICK is acted on also when it is gone. -/
def trigTick (s : State) : State :=
  let l := s.triggers
  let mask := trigMask l
  let acts := (if s.ss.pinRec && !s.ss.pin then [(4, s.e SS_CFG_DEF_SEL)] else []) ++ l.filter (fun p => s.ssLive p.1)
  let s := s.set SS_TRIG_ACTIVE mask
  let s := { s with ss := { s.ss with
    host := false, pinRec := false, freeTicks := if mask = 0 then s.ss.freeTicks + 1 else 0 } }
  if s.quiet then s
  else
    let s := s.set SS_TRIG_LATCHED (Nat.lor (s.f SS_TRIG_LATCHED) (trigMask acts))
    let s := if !s.ssActive && s.f SS_TRIG_LATCHED != 0 then enterDecel acts s else s
    if s.ssActive then acts.foldl (fun t p => raiseSel p.2 t) s else s

/-- SAFE_STOP_N asserted for PIN_FILT: recorded without waiting for a TICK (R247). -/
def pinAsserted (s : State) : State :=
  let t := { (s.setBit SS_TRIG_ACTIVE 3 true) with ss := { s.ss with pin := true, freeTicks := 0 } }
  if t.ssLive 4 then { (t.setBit SS_TRIG_LATCHED 3 true) with ss := { t.ss with pinRec := true } } else t

def pinReleased (s : State) : State :=
  { (s.setBit SS_TRIG_ACTIVE 3 false) with ss := { s.ss with pin := false } }

/-! ### Monitored deceleration (R251, R252) -/

/-- The filter on a_acc: a time constant of 20 ms. -/
def accStep (s : State) : State :=
  match s.aLong with
  | some a => { s with ss := { s.ss with
      aAcc := satPu (s.ss.aAcc + ((-a - s.ss.aAcc) * s.tNs).fdiv (20 * 10 ^ 6)), aAccOk := true } }
  | none => { s with ss := { s.ss with aAccOk := false } }

/-- a_mon in mm/s²; none when neither measurement is valid. -/
def State.aMon (s : State) : Option Int :=
  let acc := s.ss.aAcc.fdiv 256
  match s.maxWheel.isSome, s.ss.aAccOk with
  | true, true => some (min s.aMeas acc)
  | true, false => some s.aMeas
  | false, true => some acc
  | false, false => none

/-- Lower band edge in mm/s². -/
def State.aLo (s : State) : Int := ((s.e SS_MON_LO_FRAC : Nat) * s.aC).fdiv 256

/-- The reference speed is below V_STOP. -/
def State.slow (s : State) : Bool := decide (s.vRef < (640 * s.e SS_STOP_V_STOP : Nat))

/-- The measurements and interval counters of a TICK (R251, R252, R254, R258); the counts go on where SS_TMR saturates (DEDUCED, log
entry 106). -/
def measTick (s : State) : State :=
  let s := accStep s
  let m := s.aMon
  let was := s.on SS_STAT_NO_MEAS
  let s := s.setB SS_STAT_NO_MEAS m.isNone
  let s := if m.isNone && !was then s.raiseU 0x3B4 else s
  let s := (s.setI SS_MEAS_A_MON (satSigned 16 (m.getD 0))).set SS_MEAS_A_LO (satU 16 (max s.aLo 0).toNat)
  let ph := s.f SS_STAT_PHASE
  let s := if ph = 1 then
      let past := match m with
        | some x => decide ((s.e SS_MON_HI_FRAC : Nat) * s.aC < 64 * x)
        | none => false
      let below := decide (500 ≤ s.aC) && (match m with
        | some x => decide (256 * x < (s.e SS_MON_LO_FRAC : Nat) * s.aC)
        | none => false)
      let s := if past then s.inc SS_CNT_OVER else s
      let n := if below then s.ss.below + 1 else 0
      { s with ss := { s.ss with below := n } }.set SS_TMR_BELOW (satU 16 n)
    else s
  if ph = 1 ∨ ph = 2 then
    let n := if s.slow then s.ss.still + 1 else 0
    { s with ss := { s.ss with still := n } }.set SS_TMR_STILL (satU 16 n)
  else if ph = 3 then { s with ss := { s.ss with secure := s.ss.secure + 1 } }
  else if ph = 4 then
    let fast := decide ((640 * s.e SS_STOP_V_STOP : Nat) < s.vRef)
    let was := s.on SS_STAT_MOVE
    let still := if s.slow then s.ss.moveStill + 1 else 0
    let s := { s with ss := { s.ss with
      moveStill := still, notBelow := s.ss.notBelow || !s.slow, moveSeen := s.ss.moveSeen || fast } }
    if fast && !was then (s.setB SS_STAT_MOVE true).raiseU 0x3B3
    else if was && decide (s.e SS_STOP_T_HOLD * 1000000 ≤ still * s.tNs) then s.setB SS_STAT_MOVE false
    else s
  else s

/-! ### Phases -/

/-- The request to the braking chain (R250, R253, R255). -/
def showReq (s : State) : State :=
  let a := s.e BLD_LIM_A_MAX
  s.set SS_STAT_A_REQ (match s.f SS_STAT_PHASE with
    | 0 => 0
    | 1 => min (s.tgt (s.f SS_STAT_SEL)) a
    | 2 => a
    | _ => s.ss.heldReq)

/-- ESCALATE (R252, R253). -/
def escalate (s : State) : State :=
  if s.f SS_STAT_PHASE = 1 then
    showReq ((((s.set SS_STAT_PHASE 2).setB SS_STAT_ESC true).inc SS_CNT_ESC).raiseU 0x3B1)
  else s

/-- SECURE with a held request (R254, R255). -/
def secure (held : Nat) (s : State) : State :=
  showReq { s.set SS_STAT_PHASE 3 with ss := { s.ss with heldReq := held, secure := 0 } }

/-- SECURED: the park application is complete (R256). -/
def secured (s : State) : State :=
  let s := ((s.set SS_STAT_PHASE 4).setB SS_STAT_PARK_DONE true).setB SS_STAT_TQ_OPEN true
  let s := openTq { s with ss := { s.ss with moveStill := 0, notBelow := false, moveSeen := false } }
  showReq (s.each (List.range 4) (fun k t =>
    if t.e (STR_AX_EN k) = 1 then t.setB (PG_CTL_EN (0x010 + t.e (STR_AX_AXIS k))) false else t))

/-- SS_ESCALATE: BELOW × T has reached T_ESC, or a measurement is missing. -/
def ssEscalate (s : State) : State :=
  if s.f SS_STAT_PHASE = 1 ∧
      (s.on SS_STAT_NO_MEAS ∨ s.e SS_MON_T_ESC * 1000000 ≤ s.ss.below * s.tNs) then escalate s else s

/-- STANDSTILL_CONFIRMED (R254). -/
def standstill (s : State) : State :=
  if (s.f SS_STAT_PHASE = 1 ∨ s.f SS_STAT_PHASE = 2) ∧ s.e SS_STOP_T_HOLD * 1000000 ≤ s.ss.still * s.tNs then
    secure (s.f SS_STAT_A_REQ) s
  else s

/-- Every PARK axis whose state is not OFF reports APPLIED (R256, R518; AX_STAT.MODE). -/
def State.parkApplied (s : State) : Bool :=
  (List.range 16).all (fun n => s.e (AX_CFG_STRUCT n) != 3 || s.axState n == 0 || s.f (AX_STAT_MODE n) == 2)

/-- PARK_APPLICATION_COMPLETE (R256). -/
def parkComplete (s : State) : State :=
  if s.f SS_STAT_PHASE = 3 ∧ s.parkApplied ∧ s.e SS_PARK_T_APPLY * 1000000 ≤ s.ss.secure * s.tNs then secured s else s

/-- SS_PARK_TMO (R256). -/
def parkTmo (s : State) : State :=
  if s.f SS_STAT_PHASE = 3 ∧ !s.parkApplied ∧ 2 * s.e SS_PARK_T_APPLY * 1000000 ≤ s.ss.secure * s.tNs then
    secured (s.raiseU 0x3B2)
  else s

/-- The phases of more advanced peers are adopted (R259). -/
def adopt (s : State) : State :=
  if !s.ssActive then s
  else
    let s := if s.peerEsc then escalate s else s
    match s.ahead with
    | none => s
    | some r =>
      let s := if r.phase = 2 then escalate s else s
      let s := if 3 ≤ r.phase ∧ s.f SS_STAT_PHASE < 3 then secure r.aReq s else s
      if 4 ≤ r.phase ∧ s.f SS_STAT_PHASE = 3 then secured s else s

/-! ### Exit (R260, R261) -/

/-- The first failing condition, 0 when the lane may leave; EXIT_MS runs from the first TICK that found no trigger. v_ref must have
stayed below V_STOP since entry to SECURED, or an SS_MOVE episode have come and ended. -/
def State.exitFails (s : State) : Nat :=
  if s.f SS_TRIG_ACTIVE ≠ 0 then 1
  else if (s.ss.freeTicks - 1) * s.tNs < s.e SS_CFG_EXIT_MS * 1000000 then 2
  else if s.ss.notBelow && (s.on SS_STAT_MOVE || !s.ss.moveSeen) then 3
  else if s.f SS_STAT_PHASE ≠ 4 then 4
  else 0

/-- Safe stop is left; no other lane that is still in SECURED, heard in the last exchange or not, draws this lane back (R261). -/
def leave (s : State) : State :=
  let s := ((s.setWord SS_STAT_A 0).setB SS_STAT_NO_MEAS (s.on SS_STAT_NO_MEAS)).set SS_TRIG_LATCHED 0
  { s.setWord SS_TMR_A 0 with ss := { s.ss with
      moveStill := 0, notBelow := false, moveSeen := false, secure := 0, heldReq := 0, below := 0, still := 0
      ignore := ([0, 1, 2].filter (· != s.letter)).map (fun l => (l, 4)) } }

/-- The exit requests of a TICK: a REARM edge, or SS_CTL.EXIT. -/
def exitTick (s : State) : State :=
  if s.ss.exitHost || s.sl.rearmEdge then
    let s := { s with ss := { s.ss with exitHost := false }, sl := { s.sl with rearmEdge := false } }
    let c := s.exitFails
    if c = 0 then leave s else s.raise 0x3B5 c
  else s

/-- Safe stop at TICK, the intervals of the phase so far first; in QUIET only what is present is shown (R413). -/
def ssTick (s : State) : State :=
  let s := ignoreTick s
  if s.quiet then trigTick s
  else
    let s := exitTick (trigTick (measTick s))
    (showReq (adopt s)).set (PG_STAT_STATE 0x00F) (s.f SS_STAT_PHASE)

/-- SS_CTL.TRIG = 1: trigger HOST from the next TICK. -/
def hostTrig (s : State) : State := { s with ss := { s.ss with host := true } }

/-- SS_CTL.EXIT = 1: an exit request in service mode, refused otherwise. -/
def hostExit (s : State) : Bool × State :=
  if s.service then (false, { s with ss := { s.ss with exitHost := true } }) else (true, s)

/-! ### The commands -/

/-- SAFE_STOP_PIN (R246). -/
def execSafeStopPin (s : State) : Res := s.runIn 2 pinAsserted

/-- SAFE_STOP_N_RELEASE (R247). -/
def execSafeStopNRelease (s : State) : Res := s.runIn 2 pinReleased

/-- SS_HOST_TRIG (R246). -/
def execSsHostTrig (s : State) : Res := s.runIn 2 hostTrig

/-- SS_EXIT_REQUEST (R260). -/
def execSsExitRequest (s : State) : Res := s.runIn 2 (fun s => counted 0x00F (hostExit s))

/-- SS_ESCALATE (R252). -/
def execSsEscalate (s : State) : Res := s.runIf 2 (!s.quiet) ssEscalate

/-- STANDSTILL_CONFIRMED (R254). -/
def execStandstillConfirmed (s : State) : Res := s.runIf 2 (!s.quiet) standstill

/-- PARK_APPLICATION_COMPLETE (R256). -/
def execParkApplicationComplete (s : State) : Res := s.runIf 2 (!s.quiet) parkComplete

/-- SS_PARK_TMO (R256). -/
def execSsParkTmo (s : State) : Res := s.runIf 2 (!s.quiet) parkTmo

end Sys2Proof.Machine
end

