-- ==== Sys2Proof/Machine/Lane.lean ====
section
/-!
DEFINITION. Lane redundancy (R19-R23, R265-R288) and admission (R479): the exchange record, the votes, exclusion, roles,
faults, take-back, and what a TICK puts in force.
-/
namespace Sys2Proof.Machine

/-! ### The exchange record -/

/-- Causes in this lane that release role r (*Role release causes*), but for the lane state. -/
def State.roleCause (s : State) (r : Nat) : Bool :=
  match r with
  | 0 => s.tk.refLoss
  | 1 => s.aux.parkEp != 0 || bitOf s.aux.rbEp 6 || bitOf s.aux.rbEp 7
  | 2 => s.aux.tqRbEp != 0
  | _ => s.aux.rbEp / 4 % 16 != 0 || (s.e BLD_CFG_RET_STAGES != 0 && s.stagesOk == 0)

/-- What keeps this lane from a role beside its lane state (R274, R282). -/
def State.roleFree (s : State) (r : Nat) : Bool :=
  !s.roleCause r && !s.hold.present && !bitOf s.ln.gaveUp r && !s.fbit LN_ROLE_BARRED r

/-- Enabled axes: at run time those whose state is not OFF (R518). -/
def State.axesEn (s : State) : List (Fin 16) := (List.finRange 16).filter (fun n => s.axState n.val != 0)

/-- One axis of the record: the demand is that of the plain pass (R111). -/
def State.recAxis (s : State) (n : Fin 16) : XAxis :=
  let a := s.axs n
  { slot := n, state := s.axState n, verdict := a.verdict, contrib := s.contributes n
    lost := s.fbit AXIS_LOST_LOST n
    u := match a.plain with
      | some r => r.words.getD (1 + s.axPhases n) 0
      | none => 0 }

/-- Record length L (R298). -/
def State.recLen (s : State) : Nat :=
  64 + 8 * s.axesEn.length + 4 * s.sharedInputs.length + 96 * b2n s.blendOn

/-- What grant and consent have in common (R273): ACTIVE, safe stop INACTIVE in this tick (DEDUCED, log entry 108), the request in the
frozen commands (in QUIET none, R413). -/
def State.mayPermit (s : State) (r : Nat) : Bool := s.laneActive && bitOf s.sl.perm (r - 1) && !s.quiet && !s.ssActive

/-- The lane grants role r in this tick (R273). -/
def State.grants (s : State) (r : Nat) : Bool := s.holds r && s.mayPermit r

/-- The record this module sends (R298). -/
def State.buildRec (s : State) : XRec :=
  let term := s.f LN_STAT_STATE == 4
  let act := s.laneActive
  let rel := s.ln.handover.foldl (fun m h => if h.src = s.letter then withBit m h.role true else m) 0
  { kind := if term then .status else .full, lsys := s.lsys, pos := s.pos, letter := s.letter, state := s.f LN_STAT_STATE, tick := s.tickNo % 65536, len := s.recLen
    crc := s.word CS_SETCRC_A, hold := s.f LN_ROLE_HELD
    release := packBits 4 (fun r => bitOf rel r || (s.holds r && !s.roleFree r))
    ready := if act || s.f LN_STAT_STATE == 0 then packBits 4 s.roleFree else 0
    parkGrant := s.grants 1, tqGrant := s.grants 2
    phase := s.f SS_STAT_PHASE, esc := s.on SS_STAT_ESC, sel := s.f SS_STAT_SEL, still := s.f SS_TMR_STILL, aReq := s.f SS_STAT_A_REQ
    sitil := b2n (s.on SIT_STAT_LOST_X) + 2 * b2n (s.on SIT_STAT_LOST_Y)
    inputs := s.sharedInputs.filter (fun k => s.on (inpInvalidF k))
    axesLost := (List.range 16).filter (fun n => s.fbit AXIS_LOST_LOST n)
    west := s.f MM_SPAN_WEST, east := s.f MM_SPAN_EAST
    links := (List.range 4).map (fun m => s.f (LK_STAT_STATE m)), cand := s.holds 0, leaving := s.hold.present, excl := s.f LN_STAT_EXCL_CAUSE
    wait := s.f SU_WAIT_WAIT, meet := s.ln.meet
    braking := if term then none else s.sl.brake.map (fun c => ⟨s.sl.brakeCycle, c⟩)
    steering := if term then none else s.sl.steer.map (fun c => ⟨s.sl.steerCycle, c⟩)
    axes := if term || s.quiet then [] else s.axesEn.map s.recAxis
    shared := if term then [] else s.sharedInputs.map (fun k => ⟨k, !s.ownOk k, s.ownVal k⟩)
    chain := if term || !s.blendOn then none else s.hostChain.map Chain.sent }

/-- A role this lane holds and has a cause to release is given up (R275, R282). -/
def giveUp (r : Nat) (s : State) : State :=
  if s.holds r && (s.roleCause r || s.hold.present) && !bitOf s.ln.gaveUp r then
    let s := { s with ln := { s.ln with gaveUp := withBit s.ln.gaveUp r true } }
    let s := s.raise 0x385 r
    if s.f LN_TB_ROLE_RET / 4 ^ r % 4 = 3 then (s.setBit LN_ROLE_BARRED r true).raiseU 0x38B else s
  else s

/-- The compare-and-exchange window opens: the last exchange is over and the own record goes out (R298). -/
def sendRecord (s : State) : State :=
  let s := (s.each [0, 1, 2, 3] linkWindow).each [0, 1, 2, 3] giveUp
  let s := { s with
    ln := { s.ln with recs := [], own := some s.buildRec }
    mm := { s.mm with fwd := [], posDup := s.mm.dupNow, dupNow := false } }
  (s.set MM_TIMING_LAST_NS 0).setB MM_STAT_LEAVING s.hold.present

/-! ### Who is there (R265-R268) -/

def State.excluded (s : State) (l : Nat) : Bool := s.ln.excl.contains l

/-- The record of lane letter l in this exchange. -/
def State.laneRec (s : State) (l : Nat) : Option XRec :=
  if l = s.letter then s.ln.own else (s.peers.find? (fun p => p.1 == l)).map Prod.snd

/-- Letters of the other lanes. -/
def State.others (s : State) : List Nat := [0, 1, 2].filter (fun l => l != s.letter)

def State.keptOf (s : State) (l : Nat) : Option XRec := smGet (fun _ => none) s.ln.kept l
def State.missOf (s : State) (l : Nat) : Nat := smGet (fun _ => 0) s.ln.miss l

/-- The path to the lane is there, or it has departed: missing records make it absent, not unreachable (R268, R296). -/
def State.pathTo (s : State) (l : Nat) : Bool := match s.keptOf l with
  | some r => s.fbit MM_REACH_REACH r.pos || s.departed r.pos
  | none => false

/-- A lane whose records are missing and whose path is broken (R268). -/
def State.unreachable (s : State) (l : Nat) : Bool :=
  decide (2 ≤ s.missOf l) && (s.keptOf l).isSome && !s.pathTo l

/-- The last known record says ACTIVE and nobody has excluded the lane. -/
def State.stands (s : State) (l : Nat) : Bool := match s.keptOf l with
  | some r => r.state == 1 && !s.excluded l
  | none => false

/-- A lane counts in the votes: ACTIVE, heard in this exchange, not excluded. -/
def State.counts (s : State) (l : Nat) : Bool :=
  if l = s.letter then s.laneActive
  else !s.excluded l && (match s.laneRec l with
    | some r => r.state == 1
    | none => false)

def State.activeLanes (s : State) : List Nat := [0, 1, 2].filter s.counts

/-- A peer is put out (R268, R272, R278, R497); `voted` says that the vote itself puts it out. -/
def outPeer (voted : Bool) (l : Nat) (s : State) : State :=
  if s.excluded l then s
  else
    let s := { s with ln := { s.ln with excl := s.ln.excl ++ [l], exclSeen := s.ln.exclSeen.filter (· != l) } }
    (if voted then s.inc LN_CNT_VOTE_OUT else s).raise 0x383 l

/-- The next TICK excludes this lane with a cause, or bars it (R282). -/
def outNext (cause : Nat) (s : State) : State :=
  let bar := s.f LN_TB_LANE_RET == 3 || !s.on LN_CFG_TB_EN
  let s := { s with ln := { s.ln with next := some (if bar then 3 else 2, cause) } }
  s.set LN_TB_CLEAN 0

/-- This lane is to be excluded from the next TICK on (R266, R282). -/
def outOwn (cause : Nat) (s : State) : State := if s.f LN_STAT_STATE ≠ 1 then s else outNext cause s

/-- Presence of one other lane (R268). -/
def presence (l : Nat) (s : State) : State :=
  match s.laneRec l with
  | some r =>
    -- a lane that reports itself out contributes to nothing, whatever its bits say (R267)
    let mask := if r.state = 1 then r.axes.foldl (fun m a => if a.contrib then withBit m a.slot.val true else m) 0 else 0
    let seen := s.excluded l && (r.state != 1 || s.ln.exclSeen.contains l)
    let back := seen && r.state == 1
    let s := { s with ln := { s.ln with
      miss := smPut (fun _ => 0) s.ln.miss l 0, kept := smPut (fun _ => none) s.ln.kept l (some r)
      contribMask := smPut (fun _ => 0) s.ln.contribMask l mask
      exclSeen := (s.ln.exclSeen.filter (· != l)) ++ (if seen && !back then [l] else [])
      excl := if back then s.ln.excl.filter (· != l) else s.ln.excl } }
    (s.setBit LN_STAT_PRESENT l true).setBit LN_STAT_UNREACH l false
  | none =>
    let s := { s with ln := { s.ln with miss := smPut (fun _ => 0) s.ln.miss l (min 2 (s.missOf l + 1)) } }
    let s := s.setBit LN_STAT_PRESENT l false
    let s := s.setBit LN_STAT_UNREACH l (s.unreachable l)
    if s.missOf l = 2 ∧ s.stands l ∧ s.pathTo l then outPeer true l s else s

/-- Isolation (R287); a peer that its own record shows EXCLUDED, BARRED or TERMINAL is excluded too. -/
def isolation (s : State) : State :=
  let reach := s.others.any (fun l => !s.excluded l && (match s.keptOf l with
    | some r => s.fbit MM_REACH_REACH r.pos && (r.state == 0 || r.state == 1)
    | none => false))
  let was := s.ln.isolEp
  let s := { s.setB LN_STAT_ISOLATED (!reach) with ln := { s.ln with isolEp := !reach } }
  if !reach && !was then s.raiseU 0x38C else s

/-! ### Shared inputs (R19, R20, R76, R150) -/

/-- The median of three. -/
def median3 (a b c : Int) : Int := max (min a b) (min (max a b) c)

/-- The voted value: the median of three, the mean of two rounded towards minus infinity, or the only one. -/
def voteVals : List Int → Option Int
  | [] => none
  | [a] => some a
  | [a, b] => some ((a + b).fdiv 2)
  | a :: b :: c :: _ => some (median3 a b c)

/-- Peers whose values count. -/
def State.votePeers (s : State) : List XRec := (s.others.filter s.counts).filterMap s.laneRec

/-- The values that count in a vote (R19, R267): an excluded lane ignores its own while a peer sends one. -/
def State.voters {α : Type} (s : State) (own ps : List α) : List α :=
  if (s.f LN_STAT_STATE == 2 || s.f LN_STAT_STATE == 3) && !ps.isEmpty then ps else own ++ ps

/-- The vote over one shared input, and its cross-lane count. -/
def sharedVote (k : Nat) (s : State) : State :=
  let own := if s.ownOk k then [s.ownVal k] else []
  let ps := s.votePeers.filterMap (fun r => (r.shared.find? (fun x => x.k == k && !x.invalid)).map (·.value))
  let vals := s.voters own ps
  let v : Voted := { ok := vals != [], val := (voteVals vals).getD 0, three := vals.length == 3 }
  let s := { s with afe := { s.afe with voted := smPut (fun _ => {}) s.afe.voted k v } }
  let far : Option Bool := match own, ps with
    | [x], [y] => some (decide (s.xlTol k < (x - y).natAbs))
    | [x], [y, z] => some (decide (s.xlTol k < (x - median3 x y z).natAbs))
    | _, _ => none
  match far with
  | some true => s.inc (inpXlF k)
  | some false => (s.set (inpXlF k) 0).setInp k { s.inp k with xlRaised := false }
  | none => s

/-- The vote over the chain state, word by word (R150). -/
def chainVote (s : State) : State :=
  let own := match s.ln.own with
    | some r => r.chain.toList
    | none => []
  let l := s.voters own (s.votePeers.filterMap (·.chain))
  let v := if l = [] then none else some ((List.range 20).map (fun i => (voteVals (l.map (·.getD i 0))).getD 0))
  { s with veh := { s.veh with chainVoted := v } }

/-! ### The output vote (R269-R271) -/

/-- The record reports a Janus match for the axis (R269, R280). -/
def axMatched (a : XAxis) : Bool := a.verdict == .match_

/-- The eligible value of an axis in a record. -/
def axVal (n : Nat) (r : XRec) : Option Int :=
  match r.axes.find? (fun a => a.slot.val == n) with
  | some a => if a.state == 2 && !a.lost && axMatched a then some a.u else none
  | none => none

def State.devCnt (s : State) (l n : Nat) : Nat :=
  if l = s.letter then s.f (LN_AXST_DEV_CNT n) else smGet (fun _ => 0) s.ln.devPeer (16 * l + n)

def State.setDevCnt (s : State) (l n v : Nat) : State :=
  if l = s.letter then s.set (LN_AXST_DEV_CNT n) v
  else { s with ln := { s.ln with devPeer := smPut (fun _ => 0) s.ln.devPeer (16 * l + n) v } }

/-- What the vote over the axes has found: lanes that reached VOTE_N, a pair of which this lane is one that has disagreed for 21
ticks, and that it has just reached them. -/
structure VoteOut where
  st : State
  reached : List Nat
  pair : Bool
  newPair : Bool

/-- One lane's deviation from the median. -/
def deviate (n : Nat) (m : Int) (o : VoteOut) (p : Nat × Int) : VoteOut :=
  let d := (p.2 - m).natAbs
  let far := decide (128 * o.st.e (LN_AXTOL_TOL n) < d)
  let c := if far then min 255 (o.st.devCnt p.1 n + 1) else 0
  let s := o.st.setDevCnt p.1 n c
  let s := if p.1 = s.letter then s.set (LN_AXST_DEV n) (satU 14 (d / 128)) else s
  let hit := far && decide (s.e (LN_AXTOL_VOTE_N n) ≤ c)
  { o with st := s, reached := if hit && !o.reached.contains p.1 then o.reached ++ [p.1] else o.reached }

/-- The vote over one axis. -/
def voteAxis (o : VoteOut) (n : Nat) : VoteOut :=
  let s := o.st
  let struct := s.e (AX_CFG_STRUCT n)
  let act := s.activeLanes
  let vals := act.filterMap (fun l => (s.laneRec l).bind (fun r => (axVal n r).map (fun u => (l, u))))
  let own := vals.any (fun p => p.1 == s.letter)
  let left := s.set (LN_AXST_VOTE n) (if own then 2 else 3)
  let stands := s.laneActive && act.length == 2 && decide (21 ≤ s.f (LN_AXST_DIS_CNT n))
  if struct = 0 ∨ 4 < struct then { o with st := s.set (LN_AXST_VOTE n) 3 }
  else match vals with
  | [a, b, c] =>
    let o := [a, b, c].foldl (deviate n (median3 a.2 b.2 c.2)) o
    { o with st := o.st.set (LN_AXST_VOTE n) (if own then 0 else 3) }
  | [a, b] =>
    if act.length = 2 then
      let d := (a.2 - b.2).natAbs
      let far := decide (128 * s.e (LN_AXTOL_TOL n) < d)
      let c := if far then min 255 (s.f (LN_AXST_DIS_CNT n) + 1) else 0
      let s := (s.set (LN_AXST_DIS_CNT n) c).set (LN_AXST_VOTE n) (if own then 1 else 3)
      let s := if own then s.set (LN_AXST_DEV n) (satU 14 (d / 128)) else s
      { o with st := s, pair := o.pair || (own && decide (21 ≤ c)), newPair := o.newPair || (own && c == 21) }
    else { o with st := left }
  | _ => { o with st := left, pair := o.pair || stands }

/-- Double activity beyond its bound (R278): the lanes found, with the counts. -/
def doubleVote (s : State) : List Nat × State :=
  let cnt := fun (l r : Nat) => match s.laneRec l with
    | some x => if s.counts l && bitOf x.hold r && s.f LN_ROLE_HOLDER / 4 ^ r % 4 != l && s.f LN_ROLE_HOLDER / 4 ^ r % 4 != 3
        then smGet (fun _ => 0) s.ln.dissent (4 * l + r) + 1 else 0
    | none => 0
  let dissent := (List.range 12).foldl (fun m i => smPut (fun _ => 0) m i (min 5 (cnt (i / 4) (i % 4)))) s.ln.dissent
  ([0, 1, 2].filter (fun l => (List.range 4).any (fun r => decide (5 ≤ cnt l r))), { s with ln := { s.ln with dissent := dissent } })

/-- The output vote and its exclusions (R270-R272, R278); trigger DISAGREE is present while the disagreement stands. -/
def outputVote (s : State) : State :=
  let o : VoteOut := ⟨s, [], false, false⟩
  let o := if s.on LN_STAT_ISOLATED then o else (List.range 16).foldl voteAxis o
  let two := decide (2 ≤ o.reached.length)
  let was := s.ss.disagree
  let s := { o.st with ss := { o.st.ss with disagree := o.pair || two } }
  let s := if o.newPair || (two && !was) then s.raiseU 0x384 else s
  let s := match o.reached with
    | [l] => if l = s.letter then ((outOwn 1 s).inc LN_CNT_VOTE_OUT).raiseU 0x382 else outPeer true l s
    | _ => s
  let d := doubleVote s
  d.1.foldl (fun t l =>
    let t := t.raiseU 0x387
    if l = t.letter then ((outOwn 6 t).inc LN_CNT_VOTE_OUT).raiseU 0x382 else outPeer true l t) d.2

/-! ### Admission (R478, R479) -/

/-- Bits 0-12 and 14 of the admission conditions, 1 while not met. -/
def State.waitBits (s : State) : Nat :=
  let chan := fun (st lost : Fld) (port : Nat) => s.on (PG_CTL_EN port) && s.f st == 4 && !s.on lost
  packBits 15 (fun b => match b with
    | 0 => !(s.on RP_STAT_MAP_OK && s.on JAN_STAT_START_OK && s.on BIST_STAT_FAST_OK)
    | 1 => !s.su.confOk || s.f PWR_STAT_RESTORING != 0
    | 2 => s.on FEAT_STAT_OPEN || s.su.conflict
    | 3 => s.letter == 3 || decide (s.ringN ≤ s.pos) || s.hold.present
    | 4 => s.f TICK_CFG_SRC != 0
    | 5 => !(chan SIT_STAT_STATE_X SIT_STAT_LOST_X 0x041 || chan SIT_STAT_STATE_Y SIT_STAT_LOST_Y 0x043)
    | 6 => s.sl.cmdOut
    | 7 => (s.f MM_SPAN_WEST == 0 && s.f MM_SPAN_EAST == 0) || s.mm.posDup || s.mm.lsysEp
    | 8 => !s.on TICK_STAT_ALIGNED
    | 9 => (List.range 8).any (fun g => s.fbit SU_GROUPS_REQ g && s.groupState g != 3)
    | 10 => !s.blendOn
    | 11 => decide (0 < s.countClass 2) || decide (0 < s.countClass 3)
    | 12 => s.ln.dupEp
    | 13 => false
    | _ => s.f LN_STAT_STATE == 3)

/-- The set CRC of the lane ranked first (R479); every lane is judged by its record of this exchange, so that all find the same one. -/
def State.firstCrc (s : State) : Option Word :=
  let crcOf := fun (l : Nat) => if l = s.letter then some (s.word CS_SETCRC_A) else (s.laneRec l).map (·.crc)
  let meets := fun (l : Nat) => !s.excluded l && (match s.laneRec l with
    | some r => r.wait % 2 ^ 13 == 0
    | none => false)
  match s.activeLanes with
  | l :: _ => crcOf l
  | [] => ([0, 1, 2].find? meets).bind crcOf

/-- A lane letter of this lane system is presented twice, this lane's among them (R22). -/
def dupId (s : State) : State :=
  let dup := s.ln.recs.any (fun p => match p.2 with
    | some r => r.lsys == s.lsys && r.pos != s.pos && r.letter == s.letter
    | none => false)
  let was := s.ln.dupEp
  let s := { s with ln := { s.ln with dupEp := dup } }
  if dup && !was then s.raiseU 0x380 else s

/-- Position p may belong to this lane system, and does as far as this module sees: a position without a record may be either's. -/
def State.mayBeOurs (s : State) (p : Nat) : Bool := match s.recAtPos p with
  | some r => p == s.pos || r.lsys == s.lsys
  | none => true
def State.isOurs (s : State) (p : Nat) : Bool := p == s.pos || (match s.recAtPos p with
  | some r => r.lsys == s.lsys
  | none => false)

/-- The view of the ring allows N_CFG consecutive positions of this lane system and no other (R294). -/
def State.layoutOk (s : State) : Bool :=
  let n := s.ringN
  let w := s.f LN_CFG_N_CFG
  decide (w ≤ n) && (List.range n).any (fun p0 =>
    let win := (List.range w).map (fun k => (p0 + k) % n)
    win.all s.mayBeOurs && (List.range n).all (fun p => !s.isOurs p || win.contains p))

/-- The lane system's layout before admission (R294; DEDUCED, log entry 110). -/
def layout (s : State) : State :=
  let bad := !s.on SU_STAT_ADMITTED && !s.layoutOk
  let was := s.mm.lsysEp
  let s := { s with mm := { s.mm with lsysEp := bad } }
  if bad && !was then s.raiseU 0x303 else s

/-- Lanes that meet every condition, with the ticks for which they have: each as its record of this exchange says, the own lane too,
so that every lane of one vote finds the same quorum. -/
def State.meeting (s : State) : List (Nat × Nat) :=
  [0, 1, 2].filterMap (fun l => match s.laneRec l with
    | some r => if r.wait = 0 ∧ r.state = 0 then some (l, r.meet) else none
    | none => none)

/-- The quorum rule (R479). -/
def State.quorum (s : State) : Bool :=
  let m := s.meeting
  decide (s.f LN_CFG_N_CFG ≤ m.length) ||
    (decide (2 ≤ m.length) && m.any (fun p => decide (500000000 ≤ p.2 * s.tNs)))

/-- Admission in this vote: the letters that join with the quorum. -/
def admission (s : State) : List Nat × State :=
  let s := layout (dupId s)
  if s.on SU_STAT_ADMITTED then
    ((if s.activeLanes = [] && s.quorum then (s.meeting.map Prod.fst).filter (fun l => l != s.letter) else []), s)
  else
    let w := s.waitBits
    let differs := match s.firstCrc with
      | some c => c != s.word CS_SETCRC_A
      | none => false
    let was := s.ln.cfgEp
    let s := { s.set SU_WAIT_WAIT (withBit w 13 differs) with ln := { s.ln with cfgEp := differs } }
    let s := if differs && !was then s.raiseU 0x381 else s
    let ok := s.f SU_WAIT_WAIT == 0 && s.f LN_STAT_STATE == 0
    let s := { s with ln := { s.ln with meet := if ok then s.ln.meet + 1 else 0 } }
    let some_ := s.activeLanes != []
    let go := ok && (some_ || s.quorum)
    let join := if !some_ && s.quorum then s.meeting.map Prod.fst else []
    let join := if ok then join else join.filter (fun l => l != s.letter)
    if go then
      (join, { (s.setB SU_STAT_ADMITTED true).set SU_TIME_ADMIT_MS (satU 16 ((s.tb - s.su.startTb) / 200000)) with
        ln := { s.ln with next := some (1, 0) } })
    else (join, s)

/-! ### Roles (R274-R279) -/

/-- This lane will be ACTIVE after this vote. -/
def State.goesOn (s : State) : Bool := match s.ln.next with
  | some (x, _) => x == 1
  | none => s.laneActive

/-- Lane l may hold role r in this vote. -/
def State.mayHold (s : State) (join : List Nat) (r l : Nat) : Bool :=
  if l = s.letter then
    (match s.ln.own with
      | some x => bitOf x.ready r
      | none => false) && (join.contains l || (s.laneActive && s.goesOn))
  else if s.excluded l then false
  else match s.laneRec l with
    | some x => bitOf x.ready r && (x.state == 1 || join.contains l)
    | none => s.stands l && (match s.keptOf l with
      | some x => bitOf x.ready r
      | none => false)

def State.holder (s : State) (r : Nat) : Nat := s.f LN_ROLE_HOLDER / 4 ^ r % 4

def State.setHolder (s : State) (r l : Nat) : State :=
  s.set LN_ROLE_HOLDER (s.f LN_ROLE_HOLDER - s.holder r * 4 ^ r + l * 4 ^ r)

/-- Lane l reports HOLD for role r. -/
def State.saysHold (s : State) (r l : Nat) : Bool :=
  if l = s.letter then s.holds r
  else match s.laneRec l with
    | some x => bitOf x.hold r
    | none => match s.keptOf l with
      | some x => bitOf x.hold r
      | none => false

/-- The vote on one role. -/
def roleVote (join : List Nat) (r : Nat) (s : State) : State :=
  let old := s.holder r
  match [0, 1, 2].find? (s.mayHold join r) with
  | none =>
    let was := bitOf s.ln.vacantEp r
    let s := { s.setHolder r 3 with ln := { s.ln with vacantEp := withBit s.ln.vacantEp r true } }
    if was then s else s.raiseU 0x386
  | some l =>
    let s := { s with ln := { s.ln with vacantEp := withBit s.ln.vacantEp r false } }
    if old = l then s
    else
      let gone := old == 3 || s.excluded old || (if old = s.letter then !s.goesOn else !s.stands old)
      let s := s.setHolder r l
      let s := if old = 3 then s else s.inc LN_CNT_HANDOVER
      let kept := s.ln.handover.filter (fun h => h.role != r)
      let h : List Handover := if gone || s.saysHold r l then [] else [⟨r, old, l, 0, false⟩]
      { s with ln := { s.ln with handover := kept ++ h } }

/-- The outgoing lane has missed the successor's HOLD: it still reports its own in the exchange after. -/
def State.missedHold (s : State) (h : Handover) : Bool :=
  h.src != s.letter && h.sawHold && (match s.laneRec h.src with
    | some x => bitOf x.hold h.role
    | none => false)

/-- Handovers in progress see the exchange (R275); one whose outgoing lane acts a tick longer shows as double activity. -/
def handoverVote (s : State) : State :=
  let late := s.ln.handover.filter s.missedHold
  let s := s.when (late != []) (fun s =>
    (s.set LN_ROLE_DOUBLE (late.foldl (fun m h => withBit m h.role true) (s.f LN_ROLE_DOUBLE))).inc LN_CNT_DOUBLE)
  { s with ln := { s.ln with handover := s.ln.handover.map (fun h =>
      { h with ticks := h.ticks + 1, sawHold := h.sawHold || s.saysHold h.role h.dst }) } }

/-- LN_ROLE.READY (R274). -/
def showReady (s : State) : State := s.set LN_ROLE_READY (if s.laneActive then packBits 4 s.roleFree else 0)

/-- Grant or consent to role r (R273); the holder is the one of the last exchange, before this vote moves the role. -/
def State.consents (s : State) (r : Nat) : Bool :=
  s.grants r ||
    (s.mayPermit r && s.holder r != s.letter &&
      (match s.laneRec (s.holder r) with
        | some x => if r = 1 then x.parkGrant else x.tqGrant
        | none => false))

def rolesVote (join : List Nat) (s : State) : State :=
  let s := { s with ln := { s.ln with onPark := s.consents 1, onTq := s.consents 2 } }
  let s := handoverVote s
  let s := if s.on LN_STAT_ISOLATED then s else s.each [0, 1, 2, 3] (roleVote join)
  let s := s.set LN_ROLE_RELEASING (packBits 4 (fun r => s.ln.handover.any (fun h => h.role == r && h.src == s.letter)))
  showReady s

/-! ### Faults (R283-R285) -/

/-- Another lane is ACTIVE after this vote as far as this lane knows: it joins, or reports it, or did when it was last heard. -/
def State.activeAfter (s : State) (join : List Nat) (l : Nat) : Bool :=
  join.contains l || (!s.excluded l && (match s.laneRec l with
    | some r => r.state == 1
    | none => s.stands l))

/-- Lane l does not count under LANE. -/
def State.laneOk (s : State) (join : List Nat) (l : Nat) : Bool :=
  if l = s.letter then s.goesOn else s.unreachable l || s.activeAfter join l

/-- The fault count by category (R283). -/
def faultVote (join : List Nat) (s : State) : State :=
  if !s.on SU_STAT_ADMITTED then s
  else
    let n := s.f LN_CFG_N_CFG
    let ok := [0, 1, 2].filter (s.laneOk join)
    let lanes := n - ok.length
    let known := if n = 3 then [0, 1, 2] else [0, 1, 2].filter (fun l => l == s.letter || (s.keptOf l).isSome)
    let recs := (if s.goesOn then s.ln.own.toList else []) ++ s.votePeers
    let sit := recs.foldl (fun m r => Nat.lor m r.sitil) 0
    let nSit := if s.part = .s then 2 * (sit % 2) else popCount 2 sit
    let inp := recs.foldl (fun m r => m + r.inputs.length) 0
    let ax := recs.foldl (fun m r => m + r.axesLost.length) 0
    let mm := s.f MM_STAT_BREAKS
    let cats := [lanes, nSit, mm, inp, ax]
    let total := cats.foldl (· + ·) 0
    let codes := ((List.range 5).map (fun i => List.replicate (min 2 (cats.getD i 0)) (i + 1))).flatten
    let was := s.f LN_STAT_FAULTS
    let s := (((s.set LN_FCAT_SITIL sit).set LN_FCAT_MOAMEL (satU 2 mm)).set LN_FCAT_LANES
      (packBits 3 (fun l => known.contains l && !ok.contains l)))
    let s := (((s.set LN_FCAT_INPUTS (satU 8 inp)).set LN_FCAT_AXES (satU 8 ax)).set LN_STAT_FAULTS (satU 4 total)).setB
      LN_STAT_DEGRADED (decide (1 ≤ total))
    let s := if was = 0 ∧ 1 ≤ total then (s.setB LN_STAT_MAINT true).raiseU 0x388 else s
    let s := if was < 2 ∧ 2 ≤ total then s.raise 0x389 (Config.fault2Data (codes.getD 0 0) (codes.getD 1 0)).toNat else s
    let last := s.goesOn && !(s.others.any (s.activeAfter join))
    { s.setB LN_STAT_LAST_LANE last with ss := { s.ss with fault2 := decide (2 ≤ total) } }

/-! ### Take-back (R280-R282) -/

/-- The demands of two records for axis n lie within TOL where both are eligible; those of a CHOP axis are not compared (R269). -/
def State.axAgree (s : State) (x y : XRec) (n : Nat) : Bool :=
  let struct := s.e (AX_CFG_STRUCT n)
  struct == 0 || decide (4 < struct) || (match axVal n x, axVal n y with
    | some a, some b => decide ((a - b).natAbs ≤ 128 * s.e (LN_AXTOL_TOL n))
    | _, _ => true)

/-- The tick is clean (R280). -/
def State.clean (s : State) : Bool :=
  let own := s.ln.own
  decide (s.countClass 2 = 0) && decide (s.countClass 3 = 0) && !s.ln.bistFail &&
    (match own with
      | some r => r.axes.all axMatched && s.votePeers.all (fun q => (List.range 16).all (s.axAgree r q))
      | none => false) &&
    (List.range 4).all (fun r => !bitOf s.ln.gaveUp r || !(s.roleCause r || s.hold.present)) &&
    s.others.all (fun l => match s.keptOf l with
      | some r => !s.fbit MM_REACH_REACH r.pos || (s.laneRec l).isSome
      | none => true)

/-- CLEAN of this vote. -/
def cleanVote (s : State) : State :=
  let run := s.f LN_STAT_STATE == 2 || s.ln.gaveUp != 0
  let out := match s.ln.next with
    | some (x, _) => x != 1
    | none => false
  { s.set LN_TB_CLEAN (if run && !out && s.clean then satU 16 (s.f LN_TB_CLEAN + 1) else 0) with
    ln := { s.ln with bistFail := false } }

/-- LN_TAKEBACK: CLEAN has reached 20,000 (R281). -/
def takeBack (s : State) : State :=
  if s.f LN_TB_CLEAN < 20000 then s
  else
    let back := s.f LN_STAT_STATE == 2 && s.on LN_CFG_TB_EN && s.ln.next.isNone
    let s := if back then
        (((s.set LN_TB_LANE_RET (satU 2 (s.f LN_TB_LANE_RET + 1))).inc LN_CNT_TAKEBACK).raiseU 0x38A)
      else s
    let s := if back then { s with ln := { s.ln with next := some (1, 0) } } else s
    s.each [0, 1, 2, 3] (fun r t =>
      if bitOf t.ln.gaveUp r && !t.fbit LN_ROLE_BARRED r then
        let ret := t.f LN_TB_ROLE_RET
        let t := t.set LN_TB_ROLE_RET (if ret / 4 ^ r % 4 = 3 then ret else ret + 4 ^ r)
        { t.inc LN_CNT_TAKEBACK with ln := { t.ln with gaveUp := withBit t.ln.gaveUp r false } }
      else t)

/-! ### The vote as a whole, and TICK -/

/-- LN_STAT.ACTIVE as the last exchange shows the lanes. -/
def State.activeMask (s : State) : Nat :=
  packBits 3 (fun l => if l = s.letter then s.laneActive else s.counts l || s.unreachable l && s.stands l)

/-- Which records the exchange has brought (MM_REACH.RECORD, LN_STAT.PRESENT). -/
def showRecords (s : State) : State :=
  let s := s.set MM_REACH_RECORD (packBits 16 (fun p => (s.recAtPos p).isSome))
  s.set LN_STAT_PRESENT (packBits 3 (fun l => (s.laneRec l).isSome))

/-- Everything lane redundancy does in the vote-and-commit window. -/
def laneVote (s : State) : State :=
  let s := showRecords s
  let s := isolation (s.each s.others presence)
  let s := chainVote (s.each s.sharedInputs sharedVote)
  let s := outputVote s
  -- PRESENT_N excludes at the next vote (R497), this lane and a peer that reports LEAVING
  let s := if s.hold.present && s.ln.next.isNone then outOwn 5 s else s
  let s := s.each s.others (fun l t => match t.laneRec l with
    | some r => if r.leaving && r.state == 1 then outPeer false l t else t
    | none => t)
  let a := admission s
  let o := a.2
  let s := cleanVote (faultVote a.1 (rolesVote a.1 o))
  let s := s.set LN_STAT_ACTIVE s.activeMask
  -- the successor of a MASTER that this vote puts out is a candidate already (R276, R302)
  let heir := s.holder 0
  let heirPos := if o.holder 0 = 3 ∨ heir = 3 ∨ heir = o.holder 0 ∨ s.ln.handover.any (fun h => h.role == 0) then none
    else if heir = s.letter then some s.pos else (s.keptOf heir).map (·.pos)
  let outPos := s.others.filterMap (fun l => if s.excluded l then (s.keptOf l).map (·.pos) else none)
  masterVote heirPos (outPos ++ (if s.goesOn then [] else [s.pos])) s

/-- An excluded lane gives up the roles it holds (R266); after its third return a role is barred (R282). -/
def dropRole (r : Nat) (s : State) : State :=
  if s.holds r && !bitOf s.ln.gaveUp r then
    let s := { s with ln := { s.ln with gaveUp := withBit s.ln.gaveUp r true } }
    if s.f LN_TB_ROLE_RET / 4 ^ r % 4 = 3 then (s.setBit LN_ROLE_BARRED r true).raiseU 0x38B else s
  else s

/-- A new lane state goes into force (R265, R266, R281, R282). -/
def enterLane (st cause : Nat) (s : State) : State :=
  let was := s.f LN_STAT_STATE
  let s := s.set LN_STAT_STATE st
  if st = 1 then { s.set LN_STAT_EXCL_CAUSE 0 with ln := { s.ln with back := was == 2 } }
  else
    let s := if st = 4 then s else s.each [0, 1, 2, 3] dropRole
    let s := { s.set LN_STAT_EXCL_CAUSE cause with
      hold := { s.hold with lane := true }
      ln := { s.ln with handover := [], onPark := false, onTq := false, back := false } }
    let s := if st = 3 then (s.setB LN_TB_BARRED true).raiseU 0x38B else s
    openTq (auxInactive (applyHolds s))

/-- Exclusions that a TICK finds without a vote: a source at class LANE_LOSS or TERMINAL (*Lane states*, R372), also of a lane that
this TICK would make ACTIVE. -/
def ownCauses (s : State) : State :=
  if s.f LN_STAT_STATE = 4 then s
  else if 0 < s.countClass 3 then { s with ln := { s.ln with next := some (4, 4) } }
  else if 0 < s.countClass 2 ∧ (s.f LN_STAT_STATE = 1 ∨ s.ln.next.any (fun x => x.1 == 1)) then outNext 3 s
  else s

/-- Roles in force from this TICK (R275, R278). -/
def rolesTick (s : State) : State :=
  -- the outgoing lane stops once it has seen HOLD, or at the second TICK; another lane cannot know that it saw it, so a handover is
  -- over there only at that TICK, whose last exchange may still show both lanes
  let moving := s.ln.handover
  let here := moving.filter (fun h => decide (h.ticks < 2) && !(h.sawHold && h.src == s.letter))
  let live := here.filter (fun h => !h.sawHold)
  let s := { s with ln := { s.ln with handover := here } }
  let own := s.laneActive
  let rival := fun (r l : Nat) => s.holds r && !moving.any (fun h => h.role == r) && s.counts l && s.saysHold r l
  let both := fun (r : Nat) => s.others.any (rival r)
  -- of two lanes that report HOLD outside a handover the lower-ranked one stops
  let yields := fun (r : Nat) => s.others.any (fun l => decide (l < s.letter) && rival r l)
  let held := packBits 4 (fun r => own && !yields r && (s.holder r == s.letter || live.any (fun h => h.role == r && h.src == s.letter)))
  let dbl := packBits 4 (fun r => live.any (fun h => h.role == r) || (bitOf held r && both r))
  let s := ((s.set LN_ROLE_HELD held).set LN_ROLE_DOUBLE dbl).set LN_ROLE_RELEASING
    (packBits 4 (fun r => live.any (fun h => h.role == r && h.src == s.letter)))
  showReady (if dbl ≠ 0 ∨ (List.range 4).any both then s.inc LN_CNT_DOUBLE else s)

/-- The hold of R266 ends one TICK after the return, before that TICK puts set-points into force (R281). -/
def backTick (s : State) : State :=
  if s.ln.back then { s with hold := { s.hold with lane := false }, ln := { s.ln with back := false } } else s

/-- Lane redundancy at TICK; LN_STAT.ACTIVE follows the own state also in QUIET. -/
def laneTick (s : State) : State :=
  let s := if s.quiet then showRecords { s with ln := { s.ln with onPark := false, onTq := false } } else s
  let s := ownCauses s
  let s := match s.ln.next with
    | some (st, c) =>
      let t := enterLane st c s
      { t with ln := { t.ln with next := none } }
    | none => s
  rolesTick (s.setBit LN_STAT_ACTIVE s.letter s.laneActive)

/-- LN_TAKEBACK (R281). -/
def execLnTakeback (s : State) : Res := s.runIf 2 (!s.quiet) takeBack

end Sys2Proof.Machine
end

