-- ==== Sys2Proof/Machine/NetTime.lean ====
section
/-!
DEFINITION. Network time (R355-R364): steps, the time master, the correction at the end of a cycle.
-/
namespace Sys2Proof.Machine

/-- Ticks of a Sitil cycle, and its length in ns (R34), as the running grid has them (R53). -/
def State.cycleTicks (s : State) : Nat := s.e TICK_CFG_CYCLE_TICKS
def State.cycleNs (s : State) : Nat := s.cycleTicks * s.tNs

/-- Cycle number of the tick that runs (R356), and its counter on the wire (R34). -/
def State.cycNo (s : State) : Nat := s.tickNo / max 1 s.cycleTicks
def State.cycle (s : State) : Nat := s.cycNo % 65536

def State.phaseNs (s : State) : Nat := s.e TICK_PHASE_PHASE_NS

/-- Tick number, cycle counter and tick in cycle (R34). -/
def showTick (s : State) : State :=
  let s := s.set TICK_COUNT_N_LOW (s.tickNo % 2 ^ 32)
  (s.set TICK_POS_CYCLE s.cycle).set TICK_POS_TICK_IN_CYCLE (s.tickNo % max 1 s.cycleTicks)

/-- The cycle counter and cycle number in force (R340, R356). -/
def showCycle (s : State) : State :=
  ((s.set SIT_STAT_CYCLE s.cycle).set NT_CYC_LO_N_C (s.cycNo % 2 ^ 32)).set NT_CYC_HI_N_C (s.cycNo / 2 ^ 32 % 2 ^ 14)

/-- The NT_STAT state with its LOCKED bit (R360). -/
def setNt (st : Nat) (s : State) : State :=
  (s.set NT_STAT_STATE st).setB NT_STAT_LOCKED (st == 1 || st == 2 || st == 3)

/-- HOLDOVER is entered: an episode begins, or goes on; the last rate holds, without offset correction (R361). -/
def enterHoldover (s : State) : State :=
  let t := setNt 4 { s with nt := { s.nt with slew := 0, slewPer := 0, holdEp := true } }
  if s.nt.holdEp then t else (t.setWord NT_HOLD_A 0).raiseU 0x2E0

/-- Sitil channel state fields. -/
def chStateF (c : Nat) : Fld := if c = 0 then SIT_STAT_STATE_X else SIT_STAT_STATE_Y
def chLostF (c : Nat) : Fld := if c = 0 then SIT_STAT_LOST_X else SIT_STAT_LOST_Y
def State.chState (s : State) (c : Nat) : Nat := s.f (chStateF c)
def State.chActive (s : State) (c : Nat) : Bool := s.chState c == 4
def State.anyActive (s : State) : Bool := s.chActive 0 || s.chActive 1

/-- Every receive connection returns to START, with no reference and no accepted PDU (R350). -/
def restartConns (s : State) : State :=
  let t := s.each (List.range 32) (fun k t =>
    if t.f (SL_CONN0_TYPE k) < 6 then ((t.setB (SL_CST_RUN k) false).set (SL_CST_SEQ k) 0).set (SL_CST_AGE k) 0x3FFF else t)
  { t with sl := { t.sl with conns := [] } }

/-- Network time is stepped to `new` (2^-32 ns) (R357): the TICK that has passed keeps its instant and takes the number of the
nearest one of the new grid; where TICK follows network time, its distance from that is taken up by the phase correction of
R37. No frame has been sent yet in a cycle of the new grid. -/
def stepTime (new : Nat) (s : State) : State :=
  let since : Int := (s.time - s.tk.at_ : Nat)
  let last : Int := ((new : Int) - since).fdiv (2 ^ 32)
  let t : Int := (s.tNs : Nat)
  let p : Int := (s.phaseNs : Nat)
  let r := (last - p) % t
  let ph := if 2 * r < t then r else r - t
  let n := (last - p - ph).fdiv t
  let k : Nat × Int := if n < 0 then (0, last - p) else (n.toNat, ph)
  let s := { s with tickNo := k.1, tk := { s.tk with phase := if s.f TICK_STAT_SRC_ACT = 0 then k.2 else s.tk.phase } }
  let s := { s with
    time := new
    tk := { s.tk with at_ := ((new : Int) - since).toNat }
    nt := { s.nt with stepped := true }
    sit := { s.sit with tx := smMap (fun _ => {}) (fun _ x => { x with cycle := none }) s.sit.tx } }
  restartConns (enterHoldover ((showCycle (showTick (s.inc NT_CNT_STEPS))).raiseU 0x2E4))

def State.chan (s : State) (c : Nat) : ChanSt := smGet (fun _ => {}) s.sit.chans c
def State.setChan (s : State) (c : Nat) (v : ChanSt) : State :=
  { s with sit := { s.sit with chans := smPut (fun _ => {}) s.sit.chans c v } }

/-! ### Candidates and the time master (R358) -/

/-- Own SYNC or CSTART entries exist: `own` lists the node's entries with their kinds. -/
def cycleCand (ownSync : Bool) (s : State) : State :=
  let cand := s.on NT_CFG_TC_EN && ownSync && (s.holds 0 || (s.on MM_STAT_MASTER && s.mm.noCandEp))
  let tm := cand && s.anyActive && !s.nt.lowTc
  let s := { (s.setB NT_STAT_TC cand).setB NT_STAT_TM tm with nt := { s.nt with lowTc := false } }
  if tm then setNt 2 s else s

/-- The time master of the ended cycle: the lowest sender with TM = 1 (R358). -/
def electMaster (s : State) : State :=
  let all := (if s.on NT_STAT_TM then [s.f SIT_ID_NODE_ID] else []) ++ s.nt.tms
  match all with
  | [] => s
  | x :: xs =>
    let m := xs.foldl min x
    let changed := s.nt.lastMaster.isSome && s.nt.lastMaster != some m
    let s := { (s.set NT_STAT_MASTER_ID m).setB NT_STAT_MASTER_VALID true with nt := { s.nt with lastMaster := some m } }
    if changed then (s.inc NT_CNT_MASTER_CHG).raiseU 0x2E1 else s

/-! ### The correction (R359) -/

/-- One channel goes to LISTEN, its listen timer at 0; a return from INTEGRATE or ACTIVE counts (R327). -/
def toListen (c : Nat) (s : State) : State :=
  let st := s.chState c
  let t := s.set (chStateF c) 1
  let t := t.setChan c { t.chan c with heardTb := t.tb }
  if st = 3 ∨ st = 4 then t.inc (if c = 0 then SIT_CNT2_REINT_X else SIT_CNT2_REINT_Y) else t

/-- What a channel keeps for the running cycle is dropped. -/
def freshChan (c : Nat) (s : State) : State :=
  s.setChan c { s.chan c with next := none, sent := 0, full := false, nodes := [], seen := [], syncN := 0, noSync := 0 }

/-- Both channels that run go to LISTEN (R331, R362). -/
def listenAll (s : State) : State :=
  s.each [0, 1] (fun c t => if t.chState c = 0 then t else freshChan c (toListen c t))

/-- Charon closes every transmitter (R331, R337, R339). -/
def charonClose (s : State) : State :=
  let was := s.on CHN_STAT_CLOSED
  let s := (s.setB CHN_STAT_CLOSED true).set CHN_STAT_OPEN 0
  let s := (s.each [0, 1, 2, 3] (fun p t => t.setB (SP_STAT_OPEN p) false)).setB CHN_STAT_ALIGNED false
  let s := { s with cn := { s.cn with pred := false, okRun := 0, rej := 0 } }
  if was then s else s.inc CH_CNT_CLOSE

/-- R331: an offset or rate correction beyond its limit. -/
def syncLimit (kind : Nat) (s : State) : State := charonClose (listenAll (s.raise 0x282 kind))

/-- A slew of `ofs` in 2^-32 ns over `n` timebase periods. -/
def startSlew (total : Int) (n : Nat) (s : State) : State :=
  let per := if n = 0 then total else (if total < 0 then -((-total + n - 1) / n) else (total + n - 1) / n)
  { s with nt := { s.nt with slew := total, slewPer := per } }

def showRate (s : State) : State :=
  s.setI NT_RATE_RATE (satSigned 32 ((s.nt.rate * 10 ^ 9).fdiv (2 ^ 32)))

/-- A cycle without a usable master frame (R361). FREE stays FREE (log entry 20). -/
def holdover (s : State) : State := if s.f NT_STAT_STATE = 0 then s else (enterHoldover s).inc NT_HOLD_CYCLES

/-- NT_CORRECTION: the end of a cycle (R359-R362). -/
def ntCorrection (s : State) : State :=
  let s := electMaster s
  let m := s.nt.lastMaster
  let out := s.nt.masterOut
  let devs := (s.nt.devs.filter (fun p => some p.1 == m)).map Prod.snd
  let outRun := if out then s.nt.outRun + 1 else 0
  let s := { s with nt := { s.nt with devs := [], tms := [], masterOut := false, outRun := outRun } }
  -- a node whose TM = 1 met a lower NODE_ID is not the time master of that cycle (R358)
  if s.on NT_STAT_TM && m == some (s.f SIT_ID_NODE_ID) then { s with nt := { s.nt with holdEp := false } }
  else if s.e SIT_CFG_LOST_CYC ≤ outRun ∧ 0 < outRun then
    let s := setNt 0 (listenAll s)
    { s with nt := { s.nt with outRun := 0, holdEp := false } }
  else match devs with
  | [] => holdover s
  | d :: ds =>
    let ofs := (ds.foldl (· + ·) d).fdiv (1 + ds.length)
    let st := s.f NT_STAT_STATE
    let first := s.nt.stepped
    let s := { s.setI NT_OFS_OFS (satSigned 32 ofs) with nt := { s.nt with holdEp := false, stepped := false } }
    let lim := 160 * s.e SIT_CFG_OFS_LIM
    let total : Int := -(ofs * 2 ^ 28)
    if st = 3 ∨ (st = 4 ∧ !first) then
      let s := if st = 4 then ((setNt 3 s).inc NT_CNT_RELOCK).raiseU 0x2E2 else s
      -- at most 10 ppm of 5 ns each timebase period
      let cap : Int := 214748
      let s := { s with nt := { s.nt with slew := total, slewPer := if total < 0 then -cap else cap } }
      if ofs.natAbs ≤ lim then setNt 1 s else s
    else
      let c := s.cycleNs
      let rate := s.nt.rate - (ofs * 2 ^ 32).fdiv (16 * c * 2 ^ s.e NT_CFG_KR : Nat)
      let s := showRate { setNt 1 s with nt := { s.nt with rate := rate, stepped := false, holdEp := false } }
      -- RATE_LIM in ppm against a rate in 2^-32 (R331)
      let fast : Bool := Nat.blt (s.e SIT_CFG_RATE_LIM * 4294967296) (rate.natAbs * 1000000)
      let s := if lim < ofs.natAbs then syncLimit 1 s else if fast then syncLimit 2 s else s
      startSlew total (c / 10) s

/-- NT_CORRECTION (R359). -/
def execNtCorrection (s : State) : Res := s.runIn 3 ntCorrection

end Sys2Proof.Machine
end

