-- ==== Sys2Proof/Machine/Sitil.lean ====
section
/-!
DEFINITION. Sitil (R311-R335): the schedule, frames sent and received, the channel state machine, loss, data age.
-/
namespace Sys2Proof.Machine

/-! ### The schedule (R319, R320) -/

/-- Word k of schedule entry e in force. -/
def State.schW (s : State) (e k : Nat) : Word := s.word (schBase + 16 * e + 4 * k)

/-- A schedule entry (R319). -/
structure SchE where
  idx : Nat
  mux : Nat
  base : Nat
  tick : Nat
  offset : Nat
  sender : Nat
  chmask : Nat
  kind : Nat
  len : Nat
  pduId : Nat
  maxAge : Nat
  rx : Bool
  deriving DecidableEq, Repr

/-- An entry from its three words. -/
def SchE.ofWords (e : Nat) (w0 w1 w2 : Word) : SchE :=
  { idx := e, mux := fieldGet w0 29 3, base := fieldGet w0 23 6, tick := fieldGet w0 15 8, offset := fieldGet w0 0 15
    sender := fieldGet w1 16 16, chmask := fieldGet w1 14 2, kind := fieldGet w1 11 3, len := fieldGet w1 0 8
    pduId := fieldGet w2 16 16, maxAge := fieldGet w2 12 4, rx := fieldGet w2 0 1 == 1 }

/-- Entry e in force. -/
def State.sch (s : State) (e : Nat) : SchE := SchE.ofWords e (s.schW e 0) (s.schW e 1) (s.schW e 2)

/-- SYNC and CSTART entries (R320: a CSTART entry is also a SYNC entry). -/
def SchE.sync (e : SchE) : Bool := e.kind == 2 || e.kind == 3

/-- The entries below `n` that are not UNUSED, in index order. -/
def State.entriesTo (s : State) (n : Nat) : List SchE :=
  (s.regs.filterMap (fun p =>
    if schBase ≤ p.1 ∧ p.1 < schBase + 16 * 8192 ∧ (p.1 - schBase) % 16 = 4 ∧ (p.1 - schBase) / 16 < n then
      some (s.sch ((p.1 - schBase) / 16)) else none)).filter (fun e => e.kind != 0)

/-- The entries in use (R319): the table has 2,048 while EXT_SCHEDULE is not active (R323). -/
def State.entries (s : State) : List SchE :=
  s.entriesTo (min (s.f SCH_CFG_N) (if s.feature 6 then 8192 else 2048))

/-- The entry is active in cycle c (R320). -/
def SchE.activeIn (e : SchE) (c : Nat) : Bool := c % 2 ^ e.mux == e.base

def SchE.onCh (e : SchE) (c : Nat) : Bool := bitOf e.chmask c

/-- Frame duration in ns (R312). -/
def frameNs (len : Nat) : Nat := 1005 + 50 * len

def State.nodeId (s : State) : Nat := s.f SIT_ID_NODE_ID

def State.ownEntries (s : State) : List SchE := s.entries.filter (fun e => e.sender == s.nodeId)

/-- Network time at which cycle `n` starts, 62.5 ps units (R356). -/
def State.cycleStart16 (s : State) (n : Nat) : Nat := 16 * (n * s.cycleNs + s.phaseNs)

/-- Scheduled start of an entry in cycle `n`, 62.5 ps units (R320). -/
def State.sched16 (s : State) (e : SchE) (n : Nat) : Nat := s.cycleStart16 n + 16 * (e.tick * s.tNs) + 80 * e.offset

/-! ### Frames (R314, R315) -/

structure Frame where
  node : Nat
  slot : Nat
  ver : Nat
  cycle : Nat
  age : Nat
  bcast : Bool
  sync : Bool
  cstart : Bool
  null : Bool
  len : Nat
  payload : List Nat
  corr : Nat
  deriving DecidableEq, Repr

/-- Bytes 0 to 13 + LEN of a frame. -/
def Frame.body (f : Frame) : List Nat :=
  bytesBE 2 f.node ++ bytesBE 2 (f.slot * 8 + f.ver) ++ bytesBE 2 f.cycle ++
    [f.age * 16 + b2n f.bcast * 8 + b2n f.sync * 4 + b2n f.cstart * 2 + b2n f.null, f.len] ++ f.payload ++ bytesBE 6 f.corr

/-- A whole frame; a frame forwarded after a failed CRC carries the complement (R316). -/
def Frame.bytes (f : Frame) (crcOk : Bool) : List Nat :=
  let c := crc32 f.body
  f.body ++ bytesBE 4 (if crcOk then c else 2 ^ 32 - 1 - c)

/-- The fields of received bytes; none where the length does not fit (R314). -/
def Frame.parse (b : List Nat) : Option Frame :=
  let n := b.getD 7 0
  if b.length = 18 + n ∧ n ≤ 240 then
    let h := fieldAt b 2 2
    let g := b.getD 6 0
    some { node := fieldAt b 0 2, slot := h / 8, ver := h % 8, cycle := fieldAt b 4 2, age := g / 16, bcast := bitOf g 3
           sync := bitOf g 2, cstart := bitOf g 1, null := bitOf g 0, len := n, payload := (b.drop 8).take n
           corr := fieldAt b (8 + n) 6 }
  else none

/-- The frame CRC of received bytes is correct. -/
def frameCrcOk (b : List Nat) : Bool := crc32 (b.take (b.length - 4)) == fieldAt b (b.length - 4) 4

/-! ### Ports and channels -/

def State.port (s : State) (p : Nat) : PortSt := smGet (fun _ => {}) s.sit.ports p
def State.setPort (s : State) (p : Nat) (v : PortSt) : State :=
  { s with sit := { s.sit with ports := smPut (fun _ => {}) s.sit.ports p v } }
def State.rx (s : State) (e : Nat) : RxSt := smGet (fun _ => {}) s.sit.rx e
def State.setRx (s : State) (e : Nat) (v : RxSt) : State :=
  { s with sit := { s.sit with rx := smPut (fun _ => {}) s.sit.rx e v } }
def State.tx (s : State) (e : Nat) : TxSt := smGet (fun _ => {}) s.sit.tx e
def State.setTx (s : State) (e : Nat) (v : TxSt) : State :=
  { s with sit := { s.sit with tx := smPut (fun _ => {}) s.sit.tx e v } }

/-- Channel c bridges (R316); never while TRANSPARENT_CLOCK is not active (R459). -/
def State.bridges (s : State) (c : Nat) : Bool := s.feature 4 && bitOf (s.f SIT_CFG2_BRIDGE) c

/-- Port p may drive and receive: enabled in force; port 1 of a channel only while it bridges (R311); a QX880-S has no
channel Y (R2, R3). -/
def State.portOn (s : State) (p : Nat) : Bool :=
  (s.port p).en && (p % 2 == 0 || s.bridges (p / 2)) && (decide (p < 2) || s.part == .a) && !s.rep.deadPhy.contains p

/-- Ports of a channel that are on. -/
def State.chPorts (s : State) (c : Nat) : List Nat := [2 * c, 2 * c + 1].filter s.portOn

/-- The rank of the node in the coldstart list (R327). -/
def State.csRank (s : State) : Option Nat :=
  let at_ := fun (r : Nat) => match r with
    | 0 => s.f SIT_CS_01_CS_0
    | 1 => s.f SIT_CS_01_CS_1
    | 2 => s.f SIT_CS_23_CS_2
    | _ => s.f SIT_CS_23_CS_3
  (List.range 4).find? (fun r => s.fbit SIT_CFG2_CS_VALID r && at_ r == s.nodeId)

/-- SIT_STAT.BACKOFF: the back-off cycles left, 0 while no channel is in BACKOFF (R340). -/
def showBackoff (s : State) : State :=
  let left := fun (c : Nat) => if s.chState c = 5 then (s.chan c).back else 0
  s.set SIT_STAT_BACKOFF (max (left 0) (left 1))

/-- BACKOFF with its cycles left (R327, R329). -/
def toBackoff (c : Nat) (s : State) : State :=
  let s := freshChan c (s.set (chStateF c) 5)
  showBackoff (s.setChan c { s.chan c with back := 1 + s.csRank.getD 0 })

/-- A collision (R329). -/
def collide (c : Nat) (s : State) : State :=
  let x := s.chan c
  let s := toBackoff c ((s.setChan c { x with collEp := true }).inc SIT_CNT2_CS_COLL)
  if x.collEp then s else s.raiseU 0x285

/-- Timing is adopted from a frame (R328, R357): its cycle starts at N_c × C + P and its deviation is 0. The shift is what
separates the frame's start from its place. -/
def adopt16 (e : SchE) (f : Frame) (c start : Nat) (s : State) : State :=
  let n := fieldAt f.payload 4 4 % 2 ^ 30 * 65536 + f.cycle
  let prop := if c = 0 then s.f SIT_PROP_PROP_X else s.f SIT_PROP_PROP_Y
  let place := s.sched16 e n + f.corr + 16 * prop
  let new : Int := (s.time : Int) + ((place : Int) - (start : Int)) * 2 ^ 28
  stepTime new.toNat s

/-- COLDSTART is entered: own cycle 0 starts at network time P (R327, R357); while the other channel is ACTIVE network time
is not stepped. -/
def toColdstart (c : Nat) (s : State) : State :=
  let s := showBackoff (freshChan c (s.set (chStateF c) 2))
  if s.anyActive then s else stepTime (s.phaseNs * 2 ^ 32) s

/-! ### Receiving (R313, R316, R318, R324-R334) -/

def earlyF (c : Nat) : Fld := if c = 0 then SIT_CNT_X_EARLY else SIT_CNT_Y_EARLY
def lateF (c : Nat) : Fld := if c = 0 then SIT_CNT_X_LATE else SIT_CNT_Y_LATE
def devF (c : Nat) : Fld := if c = 0 then SIT_DEV_DEV_X else SIT_DEV_DEV_Y

/-- A failure of coding, length or CRC on a port (R324). -/
def portFail (p : Nat) (s : State) : State :=
  let x := s.port p
  let fails := x.fails.filter (fun k => decide (s.cycNo < k + 16)) ++ [s.cycNo]
  let hit := decide (16 ≤ fails.length)
  let s := s.setPort p { x with fails := fails, errEp := x.errEp || hit }
  if hit && !x.errEp then s.raiseU (0x291 + 4 * p) else s

/-- A failed frame lay where a SYNC or CSTART entry of the channel stands; only its start is known. -/
def State.syncPlace (s : State) (c start : Nat) : Bool :=
  s.entries.any (fun e => e.sync && e.onCh c && e.activeIn s.cycNo && e.sender != s.nodeId &&
    (let d : Int := (start : Int) - (s.sched16 e s.cycNo : Nat)
     let w : Int := (160 * s.f SIT_CFG_ACC_WIN : Nat)
     decide (-w ≤ d) && decide (d ≤ w + (16 * s.f SIT_CFG2_SPAN_NS : Nat))))

/-- INTEGRATE ends on a wrong SYNC or CSTART frame of its full cycle (R327). -/
def integrateBad (c : Nat) (s : State) : State :=
  if s.chState c = 3 ∧ (s.chan c).full then freshChan c (toListen c s) else s

/-- The entry a frame's header names, where it fits it (R324): `cyc` is the cycle counter it is held against. -/
def State.headerEntry (s : State) (c : Nat) (f : Frame) (cyc : Nat) : Option SchE :=
  (s.entries.find? (fun e => e.idx == f.slot)).filter (fun e =>
    e.onCh c && e.activeIn cyc && e.len == f.len && f.ver == 1 && f.cycle == cyc % 65536)

/-- Own identity in an entry that another node sends (R313). -/
def nodeDup (c : Nat) (f : Frame) (cyc : Nat) (s : State) : State :=
  match s.headerEntry c f cyc with
  | some e =>
    if f.node = s.nodeId ∧ e.sender ≠ s.nodeId then
      let ep := s.sit.dupEp
      let s := { s with sit := { s.sit with dupEp := true, dupNow := true } }
      if ep then s else s.raise 0x284 e.idx
    else s
  | none => s

/-- The schedule CRC and time word of a SYNC or CSTART frame (R315, R356). -/
def Frame.schedCrc (f : Frame) : Nat := fieldAt f.payload 0 4
def Frame.timeWord (f : Frame) : Nat := fieldAt f.payload 4 4

/-- A valid frame counts on its port (R341). -/
def validFrame (p : Nat) (e : SchE) (s : State) : State :=
  ((s.incWrap (SP_RX_FRAMES p)).set (SP_STAT_LAST_SLOT p) e.idx).setPort p { s.port p with got := true }

/-- A frame heard in LISTEN or BACKOFF (R313, R324, R327): the header is held against the node's cycle counter where the other channel
is ACTIVE, else against the frame's own. -/
def hearListen (p start : Nat) (f : Frame) (s : State) : State :=
  let c := p / 2
  let cyc := if s.anyActive then s.cycNo else f.cycle
  match (s.headerEntry c f cyc).filter (fun e => f.node == e.sender) with
  | none => (nodeDup c f cyc s).inc (SP_ERR2_FMT p)
  | some e =>
    let x := s.chan c
    let s := validFrame p e s
    if !e.sync then s
    else if f.schedCrc = s.f SIT_SCRC_SCHED_CRC then
      let s := freshChan c ((s.setChan c { x with misEp := false, collEp := false }).set (chStateF c) 3)
      -- its sender has been seen before the first full cycle begins (R330)
      let s := showBackoff (s.setChan c { s.chan c with nodes := [f.node] })
      if s.anyActive then s else adopt16 e f c start s
    else if s.chState c = 1 then
      let s := (s.setChan c { x with misEp := true }).inc SIT_CNT2_SCHED_MIS
      if x.misEp then s else s.raiseU 0x283
    else s

/-- Received data of an entry with RX = 1: X before Y within one cycle (R326, R334). -/
def keepRx (e : SchE) (c : Nat) (f : Frame) (s : State) : State :=
  if !e.rx then s
  else
    let x := s.rx e.idx
    let s := { s with sit := { s.sit with buf := s.sit.buf ++ [⟨e.idx, c, f.null, f.cycle, f.payload⟩] } }
    if x.got && x.ch == 1 && c == 1 && x.cycle == f.cycle then s
    else
      let valid := decide (f.age ≤ e.maxAge) && !f.null
      let s := s.setRx e.idx { payload := f.payload, age := f.age, null := f.null, valid := valid, ch := c + 1, cycle := f.cycle, got := true }
      if x.valid && !valid then s.raise 0x287 e.idx else s

/-- A valid SYNC or CSTART frame: integration, the answer to a coldstart, time master and correction (R327, R330, R358,
R359). `dev` in 62.5 ps units. -/
def syncFrame (c : Nat) (f : Frame) (dev : Int) (s : State) : State :=
  let x := s.chan c
  let s := s.setI (devF c) (satSigned 16 (dev.fdiv 16))
  if s.chState c = 3 ∧ f.schedCrc ≠ s.f SIT_SCRC_SCHED_CRC then integrateBad c s
  else
    let nodes := if x.nodes.contains f.node then x.nodes else x.nodes ++ [f.node]
    let answer := s.chState c == 2 && f.sync
    let s := s.setChan c { x with nodes := nodes, syncN := x.syncN + 1, next := if answer then some 4 else x.next }
    let tw := f.timeWord
    let tm := bitOf tw 31
    let s := { s with nt := { s.nt with
      tms := if tm then s.nt.tms ++ [f.node] else s.nt.tms
      lowTc := s.nt.lowTc || (bitOf tw 30 && decide (f.node < s.nodeId)) } }
    if tw % 2 ^ 30 = s.cycNo / 65536 % 2 ^ 30 then
      { s with nt := { s.nt with devs := if tm then s.nt.devs ++ [(f.node, dev)] else s.nt.devs, twEp := false } }
    else
      let ep := s.nt.twEp
      let s := { s.inc NT_CNT_TWORD with nt := { s.nt with twEp := true } }
      if ep then s else s.raiseU 0x2E3

/-- A frame heard while the channel keeps the node's timing: COLDSTART, INTEGRATE or ACTIVE (R324, R325, R327). -/
def hearTimed (p start : Nat) (f : Frame) (s : State) : State :=
  let c := p / 2
  match (s.headerEntry c f s.cycNo).filter (fun e => f.node == e.sender) with
  | none =>
    let s := (nodeDup c f s.cycNo s).inc (SP_ERR2_FMT p)
    -- another node's SYNC or CSTART frame in another cycle lies outside this node's timing
    let named := match s.headerEntry c f f.cycle with
      | some e => e.sync && f.node == e.sender && f.node != s.nodeId
      | none => false
    let place := match s.entries.find? (fun e => e.idx == f.slot) with
      | some e => e.sync
      | none => false
    let s := if named && s.chState c == 2 then collide c s else s
    if place then integrateBad c s else s
  | some e =>
    let prop := if c = 0 then s.f SIT_PROP_PROP_X else s.f SIT_PROP_PROP_Y
    let dev : Int := (start : Int) - (f.corr : Nat) - (16 * prop : Nat) - (s.sched16 e s.cycNo : Nat)
    let w : Int := (160 * s.f SIT_CFG_ACC_WIN : Nat)
    if dev < -w ∨ w < dev then
      let s := s.inc (if dev < 0 then earlyF c else lateF c)
      if e.sync then
        let tm := bitOf f.timeWord 31 && s.nt.lastMaster == some f.node
        let s := { s with nt := { s.nt with masterOut := s.nt.masterOut || tm } }
        if s.chState c = 2 then collide c s else integrateBad c s
      else s
    else
      let s := validFrame p e s
      let s := if e.sync then syncFrame c f dev s else s
      let s := if e.sync || e.rx then s.setChan c { s.chan c with rxAny := true } else s
      keepRx e c f s

/-- The bytes of received code groups, with a free value for each group that is no data character. -/
def fillBytes : List (Option Nat) → State → List Nat × State
  | [], s => ([], s)
  | some x :: l, s => let r := fillBytes l s; (x :: r.1, r.2)
  | none :: l, s => let q := s.fresh; let r := fillBytes l q.2; (q.1.toNat % 256 :: r.1, r.2)

/-- The bytes a bridge sends on (R316): CORR, which stands where LEN says, rises by the residence; the CRC is made anew, complemented
where the received one failed. -/
def fwdBytes (b : List Nat) (crcOk : Bool) (residence : Nat) : List Nat :=
  let body := b.take (b.length - 4)
  let k := 8 + b.getD 7 0
  let body := if k + 6 ≤ body.length then
      body.take k ++ bytesBE 6 (min (fieldAt body k 6 + residence) (2 ^ 48 - 1)) ++ body.drop (k + 6)
    else body
  let c := crc32 body
  (body ++ bytesBE 4 (if crcOk then c else 2 ^ 32 - 1 - c)).take b.length

/-- Duration of a frame of `n` bytes in 62.5 ps units (R312). -/
def wire16 (n : Nat) : Nat := 16 * (105 + 50 * n)

/-- A forwarded frame is cut, or a received one not forwarded, because of an own frame (R318). -/
def clash (q : Nat) (s : State) : State :=
  let ep := s.sit.clashEp
  let s := { s.inc (SP_ERR2_CLASH q) with sit := { s.sit with clashEp := true, clashNow := true } }
  if ep then s else s.raiseU 0x286

/-- A bridge repeats a frame onto the channel's other port (R316, R318, R363), unless Charon holds it closed (R339). -/
def forward (p : Nat) (g : List Nat) (start residence : Nat) (s : State) : State :=
  let c := p / 2
  let q := if p % 2 = 0 then p + 1 else p - 1
  if !(s.bridges c && s.portOn q) || s.on CHN_STAT_CLOSED then s
  else
    let x := s.chan c
    let from_ := start + residence
    -- Charon enables the driver for at most 13.2 µs from the start of the received frame (R338)
    let till := min (from_ + wire16 (g.length - 2)) (max from_ (start + 211200))
    if x.ownFrom < till ∧ from_ < x.ownTo then clash q s
    else
      let b := fillBytes (lineBytes g) s
      let out := fwdBytes b.1 (match codedBytes g with | some y => frameCrcOk y | none => false) residence
      let s := b.2
      (s.incWrap (SP_FWD_FRAMES q)).setPort q
        { s.port q with fwd := out, fwdLine := (lineOf out).take ((till - from_) / 800 + 1), fwdFrom := from_, fwdTo := till }

/-- An own frame that starts at `t0` cuts what the port forwards (R318). -/
def cutForward (p t0 : Nat) (s : State) : State :=
  let x := s.port p
  if x.fwdFrom ≤ t0 ∧ t0 < x.fwdTo ∧ x.fwd ≠ [] then
    let s := s.set (SP_FWD_FRAMES p) ((s.f (SP_FWD_FRAMES p) + (2 ^ 32 - 1)) % 2 ^ 32)
    clash p (s.setPort p { x with fwd := [], fwdLine := [], fwdTo := t0 })
  else s

/-- A frame start is heard: the listen timer begins anew (R327). -/
def heard (c start : Nat) (s : State) : State :=
  s.setChan c { s.chan c with heardTb := s.tb - (s.time / 2 ^ 28 - start) / 80 }

/-- A frame on port p that fails its coding or does not cross (R324, R440). -/
def badFrame (p : Nat) (s : State) : State := portFail p (s.inc (SP_ERR_CODE p))

/-- SITIL_FRAME_RECEIVE: a frame ends on port p. `g` are its code groups from the start delimiter on, `start` is the time stamp of its
start (network time, 62.5 ps units), `residence` the time a bridge held it. -/
def frameReceive (p : Nat) (g : List Nat) (start residence : Nat) (s : State) : State :=
  let c := p / 2
  if !s.portOn p ∨ s.chState c = 0 then s
  else if s.xStopped (2 + p) then badFrame p s
  else
    let s := forward p g start residence (heard c start s)
    match codedBytes g with
    | none =>
      let s := badFrame p s
      if s.syncPlace c start then integrateBad c s else s
    | some b => match Frame.parse b with
      | none =>
        let s := badFrame p s
        if s.syncPlace c start then integrateBad c s else s
      | some f =>
        if !frameCrcOk b then
          let s := portFail p (s.inc (SP_ERR_CRC p))
          if s.syncPlace c start then integrateBad c s else s
        else if s.chState c = 1 ∨ s.chState c = 5 then hearListen p start f s
        else hearTimed p start f s

/-! ### Charon's windows (R336) -/

def blkF (p : Nat) : Fld :=
  if p = 0 then CH_BLK_01_PORT_0 else if p = 1 then CH_BLK_01_PORT_1 else if p = 2 then CH_BLK_23_PORT_2 else CH_BLK_23_PORT_3

/-- A drive outside a window (R336): an episode lasts while cycles bring one. -/
def chBlock (p : Nat) (s : State) : State :=
  let x := s.port p
  let s := (s.inc (blkF p)).setPort p { x with blkEp := true, blkNow := true }
  if x.blkEp then s else s.raiseU (0x2A0 + p)

/-- An open window of Charon covers a drive of the port from `t0` to `t1`. -/
def State.inWindow (s : State) (p t0 t1 : Nat) : Bool :=
  s.cn.win.any (fun w => decide (w.2.1 ≤ t0) && decide (t1 ≤ w.2.2) &&
    (match s.cn.table.find? (fun x => x.entry == w.1) with
      | some x => bitOf x.chmask (p / 2)
      | none => false))

/-- Charon lets port p drive from `t0` to `t1`: in a window, and its driver enabled. -/
def State.drives (s : State) (p t0 t1 : Nat) : Bool := s.inWindow p t0 t1 && s.fbit CHN_STAT_OPEN p

/-- The pins of port p are driven now: an own frame or a forwarded one, unless their pad group is held (R427). -/
def State.portDriven (s : State) (p : Nat) : Bool := s.lineCode p != 0 && !s.fbit PWR_PAD_HELD 14

/-- An own frame goes to port p: what is forwarded there is cut (R318); outside a window it is blocked and lost (R336); it counts where
it goes out, and as a mismatch where it is not read back right (R331, log entry 95). -/
def sendPort (p st t0 t1 : Nat) (rb : Bool) (s : State) : State :=
  let s := cutForward p t0 s
  let out := s.drives p t0 t1
  let s := if s.inWindow p t0 t1 then s else chBlock p s
  let s := if out then s.incWrap (SP_TX_FRAMES p) else s
  if out && rb then s
  else
    let s := s.inc (SP_ERR2_RB p)
    if st = 4 then s.raiseU (0x290 + 4 * p) else s

/-! ### Sending (R320, R327, R333, R346) -/

/-- CRC-32C of RFC 3720 (R345). -/
def crc32c (b : List Nat) : Nat := Nat.xor (crcLsb 0x82F63B78 b 0xFFFFFFFF) 0xFFFFFFFF

/-- The enabled transmit connection of an entry. -/
def State.txConn (s : State) (e : SchE) : Option Nat :=
  (List.range 32).find? (fun k => s.on (SL_CONN0_EN k) && decide (6 ≤ s.f (SL_CONN0_TYPE k)) && s.f (SL_CONN0_PDU_ID k) == e.pduId)

/-- Bytes of an entry's frame that carry its PDU. -/
def SchE.pduLen (e : SchE) : Nat := if e.sync then e.len - 8 else e.len

/-- `n` bytes: the list cut, or filled with zeros. -/
def padTo (n : Nat) (l : List Nat) : List Nat := (l ++ List.replicate n 0).take n

/-- The PDU of a newly written buffer is sealed (R344, R346); an entry without a connection carries the buffer as it is. -/
def sealPdu (e : SchE) (s : State) : State :=
  let x := s.tx e.idx
  if !x.fresh then s
  else
    let data := x.cur.getD []
    match s.txConn e with
    | none => s.setTx e.idx { x with pdu := padTo e.pduLen data }
    | some k =>
      let seq := (s.f (SL_CST_SEQ k) + 1) % 65536
      let body := bytesBE 2 s.nodeId ++ bytesBE 2 (s.f (SL_CONN1_CONN k)) ++ bytesBE 2 seq ++
        bytesBE 4 (x.tickNs / 10 % 2 ^ 32) ++ bytesBE 2 (s.f (SL_CONN2_DL k)) ++ padTo (e.pduLen - 16) data
      (s.set (SL_CST_SEQ k) seq).setTx e.idx { x with pdu := body ++ bytesBE 4 (crc32c body) }

/-- The time word (R356). -/
def State.timeWord (s : State) : Nat :=
  b2n (s.on NT_STAT_TM) * 2 ^ 31 + b2n (s.on NT_STAT_TC) * 2 ^ 30 + s.cycNo / 65536 % 2 ^ 30

/-- The payload of an own REMOTE frame (R456, R457): the oldest reply, or EMPTY = 1; a reply goes out once. -/
def remotePdu (e : SchE) (s : State) : State :=
  let empty := s.setTx e.idx { s.tx e.idx with pdu := [0, 0, 2, 0], fresh := true }
  match s.hp.replies with
  | [] => empty
  | r :: rs =>
    -- replies keep the order of their requests, so one that waits holds back those behind it
    if r.bytes = [] then empty
    else
      let s := { s with hp := { s.hp with replies := rs } }
      (s.set HP_STAT_REMOTE (rs.filter (fun x => x.counts)).length).setTx e.idx { s.tx e.idx with pdu := r.bytes, fresh := true }

/-- SITIL_FRAME_SEND: the scheduled start of entry e on channel c; `rb0`, `rb1` say that the port read its frame back
right. -/
def frameSend (idx c : Nat) (rb0 rb1 : Bool) (s : State) : State :=
  match s.ownEntries.find? (fun e => e.idx == idx) with
  | none => s
  | some e =>
    let st := s.chState c
    let ports := s.chPorts c
    if !(e.onCh c && e.activeIn s.cycNo && ports != [] && (st == 4 || (st == 2 && e.kind == 3))) then s
    else
      let x := s.tx idx
      let again := x.cycle == some s.cycNo
      let s := if again then s else if e.kind = 4 then remotePdu e s else sealPdu e s
      let x := s.tx idx
      let age := if again then x.age else if x.fresh then 0 else min 15 (x.age + 2 ^ e.mux)
      let null := e.kind != 4 && !bitOf x.ever c
      let pdu := if null then List.replicate e.pduLen 0 else padTo e.pduLen x.pdu
      let head := if e.sync then bytesBE 4 (s.f SIT_SCRC_SCHED_CRC) ++ bytesBE 4 s.timeWord else []
      let f : Frame := { node := s.nodeId, slot := idx, ver := 1, cycle := s.cycle, age := age, bcast := false
                         sync := st == 4 && e.sync, cstart := st == 2, null := null, len := e.len, payload := head ++ pdu, corr := 0 }
      let s := s.setTx idx { x with age := age, fresh := false, cycle := some s.cycNo }
      let t0 := s.sched16 e s.cycNo
      let t1 := t0 + 16 * frameNs e.len
      -- a held group keeps the drivers off: the frame is not read back (R427)
      let rb := fun (p : Nat) => !s.fbit PWR_PAD_HELD 14 && (if p % 2 = 0 then rb0 else rb1)
      let good := ports.all (fun p => s.drives p t0 t1 && rb p)
      let s := s.each ports (fun p => sendPort p st t0 t1 (rb p))
      let s := s.setChan c { s.chan c with out := f.bytes true, line := lineOf (f.bytes true), ownFrom := t0, ownTo := t1 }
      if st = 2 ∧ !good then collide c s else s

/-! ### The cycle start (R34, R311, R327, R330, R332, R334) -/

/-- The full cycle that has ended is valid for INTEGRATE (R330); frames that failed have already ended INTEGRATE. -/
def State.cycleValid (s : State) (c : Nat) : Bool :=
  let x := s.chan c
  let need := if s.csRank.isSome || s.on SIT_CFG_LONE_OK then 1 else 2
  let due := (s.entries.filter (fun e => e.sync && e.onCh c && e.activeIn (s.cycNo - 1) && x.seen.contains e.sender)).length
  decide (need ≤ x.nodes.length) && decide (due ≤ x.syncN)

/-- The loss counters of the cycle that has ended (R332). -/
def lossCycle (c : Nat) (s : State) : State :=
  let x := s.chan c
  let good := s.chActive c && x.rxAny
  s.setChan c { x with
    lostRun := if good then 0 else x.lostRun + 1, goodRun := if good then x.goodRun + 1 else 0, rxAny := false
    noSync := if x.syncN = 0 then x.noSync + 1 else 0 }

/-- A channel becomes lost (R332), and the dual comparison is suspended (R354); a QX880-S never reports channel Y. -/
def loseChan (c : Nat) (s : State) : State :=
  if s.on (chLostF c) ∨ (c = 1 ∧ s.part = .s) then s
  else ((s.setB (chLostF c) true).setB SL_STAT_DUAL_SUSP true).raiseU (0x280 + c)

/-- A channel becomes ACTIVE: no own buffer has been written since (R333). -/
def chanActive (c : Nat) (s : State) : State :=
  let s := s.set (chStateF c) 4
  let x := s.chan c
  -- the shortcut of R477 is for the first stay in ACTIVE after the start
  let s := s.setChan c { x with collEp := false, misEp := false, noSync := 0, ended := x.ended || x.been, been := true }
  s.each (s.ownEntries.map (·.idx)) (fun e t => t.setTx e { t.tx e with ever := withBit (t.tx e).ever c false })

/-- One channel at a cycle start (R327); `other`: the other channel was ACTIVE in the cycle that ends. A channel that enters INTEGRATE
here has its first full cycle before it (R328). -/
def chanCycle (c : Nat) (other : Bool) (s : State) : State :=
  let s := lossCycle c s
  let x := s.chan c
  let on := s.portOn (2 * c)
  let sent := if s.chState c = 2 then x.sent + 1 else 0
  let s := if !on then
      loseChan c (if s.chState c = 0 then s else freshChan c (s.set (chStateF c) 0))
    else match s.chState c with
    | 0 => if s.su.nets then freshChan c (toListen c s) else s
    | 1 =>
      if other then
        let t := freshChan c (s.set (chStateF c) 3)
        t.setChan c { t.chan c with full := true }
      else s
    | 2 => match x.next with
      | some 4 => chanActive c s
      | _ => s
    | 3 =>
      if !x.full then s.setChan c { x with full := true }
      else if s.cycleValid c then chanActive c s
      else s
    | 4 => if s.e SIT_CFG_LOST_CYC ≤ x.noSync then freshChan c (toListen c s) else s
    | _ => s.setChan c { x with back := x.back - 1 }
  let y := s.chan c
  showBackoff (s.setChan c { y with
    next := none, sent := sent, seen := x.nodes, nodes := [], syncN := 0, back := if s.chState c = 5 then y.back else 0 })

/-- A port at a cycle start (R311, R324, R466). -/
def portCycle (p : Nat) (s : State) : State :=
  let x := s.port p
  let fails := x.fails.filter (fun k => decide (s.cycNo < k + 16))
  let s := s.setB (SP_STAT_ACT p) x.got
  s.setPort p { x with
    en := s.on (PG_CTL_EN (0x041 + p)) && (x.en || !s.hp.commitHold), got := false, fails := fails, errEp := x.errEp && decide (16 ≤ fails.length)
    blkEp := x.blkNow, blkNow := false }

/-- Received data ages at the end of each active cycle without a valid frame (R334). -/
def ageRx (e : SchE) (s : State) : State :=
  if !(e.rx && e.activeIn (s.cycNo - 1)) then s
  else
    let x := s.rx e.idx
    if x.got then s.setRx e.idx { x with got := false }
    else
      let age := min 15 (x.age + 2 ^ e.mux)
      let valid := x.valid && decide (age ≤ e.maxAge)
      let s := s.setRx e.idx { x with age := age, valid := valid }
      if x.valid && !valid then s.raise 0x287 e.idx else s

/-- A Sitil cycle starts (R34). -/
def cycleStart (s : State) : State :=
  let s := s.entries.foldl (fun t e => ageRx e t) s
  let s := s.each [0, 1, 2, 3] portCycle
  let x := s.chActive 0
  let y := s.chActive 1
  let s := chanCycle 1 x (chanCycle 0 y s)
  let s := { s with sit := { s.sit with
    dupEp := s.sit.dupNow, dupNow := false, clashEp := s.sit.clashNow, clashNow := false } }
  let rank := s.csRank
  let s := (s.setB SIT_STAT_CS_NODE rank.isSome).set SIT_STAT_RANK (rank.getD 0)
  let s := cycleCand (s.ownEntries.any (·.sync)) s
  showCycle s

/-- At every TICK the written transmit buffers go into force (R333). -/
def txTick (s : State) : State :=
  s.each (s.ownEntries.map (·.idx)) (fun e t =>
    let x := t.tx e
    match x.next with
    | none => t
    | some d => t.setTx e { x with next := none, cur := some d, fresh := true, ever := 3, tickNs := t.nt.tickNs })

/-! ### The commands -/

/-- Two cycles of the own timebase have passed since the last frame start, in timebase periods of 5 ns (R327). -/
def State.silent (s : State) (c : Nat) : Bool := decide (2 * s.cycleNs ≤ 5 * (s.tb - (s.chan c).heardTb))

/-- LISTEN_TIMEOUT: two cycles without a frame start (R327). -/
def listenTimeout (c : Nat) (s : State) : State :=
  if s.chState c = 1 ∧ s.csRank.isSome ∧ s.silent c then toColdstart c s else s

/-- COLDSTART_TIMEOUT: the cycle start that ends 6 cycles without an answer (R327). -/
def coldstartTimeout (c : Nat) (s : State) : State :=
  if s.chState c = 2 ∧ 6 ≤ (s.chan c).sent ∧ (s.chan c).next.isNone then
    (if s.on SIT_CFG_LONE_OK then
      let s := chanActive c s
      s.setChan c { s.chan c with sent := 0 }
    else toBackoff c s)
  else s

/-- BACKOFF_END: the (1 + rank)-th own cycle starts (R329). -/
def backoffEnd (c : Nat) (s : State) : State :=
  if s.chState c = 5 ∧ (s.chan c).back = 0 then toColdstart c s else s

/-- SIT_LOST (R332). -/
def sitLost (c : Nat) (s : State) : State := if s.e SIT_CFG_LOST_CYC ≤ (s.chan c).lostRun then loseChan c s else s

/-- SIT_LOSS_END: 100 good cycles, or the first one after the start (R332, R477). -/
def sitLossEnd (c : Nat) (s : State) : State :=
  let x := s.chan c
  if 100 ≤ x.goodRun ∨ (!x.ended ∧ 1 ≤ x.goodRun) then (s.setB (chLostF c) false).setChan c { x with ended := true } else s

/-- SITIL_FRAME_SEND (R320). -/
def execSitilFrameSend (e : BitVec 13) (ch : Fin 2) (rb0 rb1 : Bool) (s : State) : Res :=
  s.runIn 3 (frameSend e.toNat ch rb0 rb1)

/-- SITIL_FRAME_RECEIVE (R324). -/
def execSitilFrameReceive (p : Fin 4) (first : BitVec 10) (groups : List (BitVec 10)) (start residence : Nat) (s : State) : Res :=
  s.runIn 3 (frameReceive p ((first :: groups).map BitVec.toNat) start residence)

/-- LISTEN_TIMEOUT (R327). -/
def execListenTimeout (ch : Fin 2) (s : State) : Res := s.runIn 3 (listenTimeout ch)

/-- COLDSTART_TIMEOUT (R327). -/
def execColdstartTimeout (ch : Fin 2) (s : State) : Res := s.runIn 3 (coldstartTimeout ch)

/-- BACKOFF_END (R329). -/
def execBackoffEnd (ch : Fin 2) (s : State) : Res := s.runIn 3 (backoffEnd ch)

/-- SIT_LOST (R332). -/
def execSitLost (ch : Fin 2) (s : State) : Res := s.runIn 3 (sitLost ch)

/-- SIT_LOSS_END (R332). -/
def execSitLossEnd (ch : Fin 2) (s : State) : Res := s.runIn 3 (sitLossEnd ch)

end Sys2Proof.Machine
end

