-- ==== Sys2Proof/Machine/Charon.lean ====
section
/-!
DEFINITION. Charon, the transmitter guardian (R336-R339, R343).
-/
namespace Sys2Proof.Machine

/-- Charon's copy of the node's own entries (R336); no chapter gives the byte form of its CRC, so CH_TCRC is a free value. -/
def charonCopy (s : State) : State :=
  let t := s.ownEntries.map (fun e => ({ entry := e.idx, w0 := s.schW e.idx 0, chmask := e.chmask, len := e.len } : CharonE))
  let r := s.fresh
  let s := (r.2.setWord CH_TCRC_A r.1).set CHN_STAT_NWIN t.length
  { s with cn := { s.cn with table := t } }

/-- Something keeps Charon closed (R339). -/
def State.charonCause (s : State) : Bool := s.cn.clkBad || s.cn.railBad || s.cn.tableBad

/-- A cycle-start strobe, `dev` ns from Charon's prediction (R337). -/
def strobe (dev : Int) (s : State) : State :=
  if !(s.chState 0 == 2 || s.chState 1 == 2 || s.anyActive) || s.cn.railBad then s
  else if !s.cn.pred || decide (dev.natAbs ≤ 50 * s.e CHN_CFG_STROBE_TOL) then
    let run := s.cn.okRun + 1
    let s := { s.setB CHN_STAT_ALIGNED true with cn := { s.cn with pred := true, rej := 0, okRun := run } }
    if 2 ≤ run ∧ !s.charonCause ∧ !s.xStopped 16 then s.setB CHN_STAT_CLOSED false else s
  else
    let rej := s.cn.rej + 1
    let s := { (s.inc CH_CNT_STROBE_REJ).setB CHN_STAT_ALIGNED false with cn := { s.cn with rej := rej, okRun := 0 } }
    if 2 ≤ rej then (charonClose s).raiseU 0x2A7 else s

/-- Ports of a channel mask. -/
def State.maskPorts (s : State) (m : Nat) : List Nat := [0, 1, 2, 3].filter (fun p => bitOf m (p / 2) && s.portOn p)

/-- A window of Charon in cycle n (R336), 62.5 ps units, from the fields of its own table: rounded outward to its 50 ns clock. -/
def State.charonSpan (s : State) (x : CharonE) (n : Nat) : Nat × Nat :=
  let e := SchE.ofWords x.entry x.w0 0 0
  let guard := 16 * 50 * s.f CHN_CFG_GUARD
  let t := s.sched16 e n
  ((t - guard) / 800 * 800, (t + 16 * frameNs x.len + guard + 799) / 800 * 800)

/-- The cycle a window of the entry opens in: the running one while its window is not over, or the next where the window begins before
that cycle does; none in a cycle the entry is not active in (R320). -/
def State.charonCycle (s : State) (x : CharonE) : Option Nat :=
  let e := SchE.ofWords x.entry x.w0 0 0
  let now := s.time / 2 ^ 28
  let n := s.cycNo
  if e.activeIn n && decide (now ≤ (s.charonSpan x n).2) then some n
  else if e.activeIn (n + 1) && decide ((s.charonSpan x (n + 1)).1 < s.cycleStart16 (n + 1)) then some (n + 1)
  else none

/-- A window edge of an entry, in Charon's own time (R336). -/
def window (e : Nat) (opens : Bool) (s : State) : State :=
  match s.cn.table.find? (fun x => x.entry == e) with
  | none => s
  | some x =>
    let win := s.cn.win.filter (fun w => w.1 != e)
    let show_ := fun (b : Bool) (s : State) =>
      s.each (s.maskPorts x.chmask) (fun p t => (t.setBit CHN_STAT_OPEN p b).setB (SP_STAT_OPEN p) b)
    if !opens then show_ false { s with cn := { s.cn with win := win } }
    else match s.charonCycle x with
    | none => s
    | some n =>
      let w := s.charonSpan x n
      show_ (!s.on CHN_STAT_CLOSED) { s with cn := { s.cn with win := win ++ [(e, w.1, w.2)] } }

/-- The oscillator check of a cycle (R339). -/
def chClk (ppm : Int) (s : State) : State :=
  let bad := decide (200 < ppm.natAbs)
  let was := s.cn.clkBad
  let s := { (s.setI CH_FREQ_DEV_PPM (satSigned 16 ppm)).setB CHN_STAT_CLK_OK (!bad) with cn := { s.cn with clkBad := bad } }
  if bad then (if was then charonClose s else (charonClose s).raiseU 0x2A4) else s

/-- The rail leaves its window: no logic acts, the drivers are off (R339). -/
def chSupply (s : State) : State := charonClose { s with cn := { s.cn with railBad := true } }

/-- The rail returns (R339). -/
def railReturn (s : State) : State :=
  if s.cn.railBad then ({ s with cn := { s.cn with railBad := false } }).raiseU 0x2A5 else s

/-- The table check of every 64th cycle (R339). -/
def chTable (same : Bool) (s : State) : State :=
  let was := s.cn.tableBad
  let s := { s.setB CHN_STAT_TABLE_OK same with cn := { s.cn with tableBad := !same } }
  if same then s else if was then charonClose s else (charonClose s).raiseU 0x2A6

/-- CHARON_STROBE (R337). -/
def execCharonStrobe (devNs : Int) (s : State) : Res := s.runIn 3 (strobe devNs)

/-- CHARON_WINDOW (R336). -/
def execCharonWindow (e : BitVec 13) (opens : Bool) (s : State) : Res := s.runIn 3 (window e.toNat opens)

/-- CH_BLOCK (R336). -/
def execChBlock (p : Fin 4) (s : State) : Res := s.runIn 3 (chBlock p)

/-- CH_FWD_CUT (R338). -/
def execChFwdCut (p : Fin 4) (s : State) : Res :=
  s.runIn 3 (fun s => if s.portOn p && s.bridges (p / 2) then (s.inc CH_CNT_FWD_CUT).setPort p { s.port p with fwd := [], fwdLine := [] } else s)

/-- CH_CLK (R339). -/
def execChClk (ppm : Int) (s : State) : Res := s.runIn 3 (chClk ppm)

/-- CH_SUPPLY (R339). -/
def execChSupply (s : State) : Res := s.runIn 3 chSupply

/-- CHARON_RAIL_RETURN (R339). -/
def execCharonRailReturn (s : State) : Res := s.runIn 3 railReturn

/-- CH_TABLE_CHECK (R339). -/
def execChTableCheck (same : Bool) (s : State) : Res := s.runIn 3 (chTable same)

end Sys2Proof.Machine
end

