-- ==== Sys2Proof/Machine/SafetyLayer.lean ====
section
/-!
DEFINITION. The safety layer (R344-R354): receive checks, sequence, freshness, dual comparison, what each connection's data
does, the PDUs the lane produces, and commands coordinated over Moamel (R286).
-/
namespace Sys2Proof.Machine

def State.conn (s : State) (k : Nat) : ConnSt := smGet (fun _ => {}) s.sl.conns k
def State.setConn (s : State) (k : Nat) (v : ConnSt) : State :=
  { s with sl := { s.sl with conns := smPut (fun _ => {}) s.sl.conns k v } }

def State.connType (s : State) (k : Nat) : Nat := s.f (SL_CONN0_TYPE k)

/-- Data bytes of a type (R348). -/
def dataLen (ty : Nat) : Nat := match ty with
  | 1 => 8
  | 2 => 12
  | 7 => 8
  | 8 => 8
  | _ => 4

/-- Enabled receive connections. -/
def State.rxConns (s : State) : List Nat :=
  (List.range 32).filter (fun k => s.on (SL_CONN0_EN k) && decide (1 ≤ s.connType k) && decide (s.connType k ≤ 5))

/-- The schedule entry of a receive connection (R347). -/
def State.rxEntry (s : State) (k : Nat) : Option SchE :=
  s.entries.find? (fun e => e.rx && e.kind != 4 && e.pduId == s.f (SL_CONN0_PDU_ID k) && e.sender == s.f (SL_CONN1_SRC k))

/-- The PDU of a received payload (R344). -/
def SchE.pdu (e : SchE) (payload : List Nat) : List Nat := if e.sync then payload.drop 8 else payload

/-- Network time of the TICK in 10 ns units. -/
def State.tick10 (s : State) : Nat := s.nt.tickNs / 10

/-- Age of a send time at this TICK, 10 ns units (R349). -/
def State.pduAge (s : State) (tSend : Nat) : Int := toSigned 32 ((s.tick10 + 2 ^ 32 - tSend % 2 ^ 32) % 2 ^ 32)

/-- Step 8: the age is within the deadline (µs) and the connection's limit. -/
def State.fresh8 (s : State) (k tSend dl : Nat) : Bool :=
  decide (s.pduAge tSend ≤ (100 * min dl (s.f (SL_CONN2_DL k)) : Nat))

/-- Steps 2 to 4 on one PDU: none where they pass, else the source and counter of the failure (R349). -/
def State.check24 (s : State) (k : Nat) (p : List Nat) : Option (Nat × Fld) :=
  let n := p.length
  if n < 16 + dataLen (s.connType k) then some (0x2C1, SL_CNT_A_ID)
  else if crc32c (p.take (n - 4)) ≠ fieldAt p (n - 4) 4 then some (0x2C0, SL_CNT_A_CRC)
  else if fieldAt p 0 2 ≠ s.f (SL_CONN1_SRC k) ∨ fieldAt p 2 2 ≠ s.f (SL_CONN1_CONN k) then some (0x2C1, SL_CNT_A_ID)
  else none

/-- Accepted data of permissions, a safe-stop request or available retarding is what its consumers see (R263, R348). -/
def present (ty : Nat) (d : List Nat) (s : State) : State :=
  match ty with
  | 3 => { s with sl := { s.sl with perm := d.getD 0 0 % 8 } }
  | 4 => { s with sl := { s.sl with ssReq := some (d.getD 0 0 % 2, d.getD 0 0 / 4 % 4) } }
  | 5 => { s with sl := { s.sl with avail := (clipCmd 0 10000000 (fieldAt d 0 4)).1.toNat } }
  | _ => s

/-- What accepted data does (R152, R263, R348). -/
def consume (k cycle : Nat) (d : List Nat) (s : State) : State :=
  match s.connType k with
  | 1 =>
    let b := brakeFields d
    let s := s.addSat BLD_STAT_CMD_CLIP b.2
    { s with sl := { s.sl with brake := some b.1, brakeCycle := cycle } }
  | 2 =>
    let b := steerFields d
    let s := s.when (b.2 && !s.veh.strClip) (fun t => { t.inc STR_STAT_CLIPPED with veh := { t.veh with strClip := true } })
    { s.setI STR_CMD_ANGLE (b.1.getD 0 0) with sl := { s.sl with steer := some b.1, steerCycle := cycle } }
  | 4 =>
    let x := d.getD 0 0
    let edge := bitOf x 1 && !bitOf x 0 && (s.conn k).zero
    present 4 d { s with sl := { s.sl with rearmEdge := s.sl.rearmEdge || edge } }
  | 5 => present 5 d (s.addSat BLD_STAT_CMD_CLIP (b2n (clipCmd 0 10000000 (fieldAt d 0 4)).2))
  | ty => present ty d s

/-- Steps 6 to 8 on a PDU that has passed the steps before (R349, R350). -/
def accept (k cycle : Nat) (p : List Nat) (s : State) : State :=
  let c := s.conn k
  let seq := fieldAt p 4 2
  let tSend := fieldAt p 6 4
  let dl := fieldAt p 10 2
  if s.pduAge tSend < -100 then (s.inc SL_CNT_C_TIME).raise 0x2C3 k
  else if !c.hasRef then (s.setConn k { c with hasRef := true }).set (SL_CST_SEQ k) seq
  else
    let d := (seq + 65536 - s.f (SL_CST_SEQ k)) % 65536
    if d = 0 then s.inc SL_CNT_B_DUP
    else if 8 < d then
      let run := s.on (SL_CST_RUN k)
      let s := (s.set (SL_CST_SEQ k) seq).setB (SL_CST_RUN k) false
      if run then (s.inc SL_CNT_B_SEQ).raise 0x2C2 k else s
    else if !s.fresh8 k tSend dl then (s.inc SL_CNT_C_EXPIRED).raise 0x2C4 k
    else
      let data := (p.drop 12).take (p.length - 16)
      let s := (s.set (SL_CST_SEQ k) seq).setB (SL_CST_RUN k) true
      let s := consume k cycle data s
      s.setConn k { c with acc := some data, tSend := tSend, dl := dl, zero := !bitOf (data.getD 0 0) 1, taken := true }

/-- One frame through steps 2 to 8. -/
def takeFrame (k : Nat) (e : SchE) (f : InFrame) (s : State) : State :=
  let p := e.pdu f.payload
  match s.check24 k p with
  | some (src, cnt) => (s.inc cnt).raise src k
  | none => accept k f.cycle p s

/-- Dual comparison is in force for a connection (R353, R354). -/
def State.dualOn (s : State) (k : Nat) : Bool :=
  s.on (SL_CONN0_DUAL k) && s.feature 2 && !s.on SL_STAT_DUAL_SUSP && s.part == .a

/-- The frames of one cycle for a connection with dual comparison (R353). -/
def takePair (k : Nat) (e : SchE) (fs : List InFrame) (s : State) : State :=
  let r := fs.foldl (fun (m : List InFrame × State) f =>
    match m.2.check24 k (e.pdu f.payload) with
    | some (src, cnt) => (m.1, (m.2.inc cnt).raise src k)
    | none => (m.1 ++ [f], m.2)) ([], s)
  -- of a channel whose two ports both heard the frame, one copy counts
  match r.1.find? (fun f => f.ch == 0), r.1.find? (fun f => f.ch != 0) with
  | none, none => r.2
  | some _, none => r.2.inc SL_CNT_D_SINGLE
  | none, some _ => r.2.inc SL_CNT_D_SINGLE
  | some a, some b =>
    if e.pdu a.payload = e.pdu b.payload then accept k a.cycle (e.pdu a.payload) r.2
    else (r.2.inc SL_CNT_D_DUAL_MIS).raise 0x2C5 k

/-- All frames of a connection in the tick buffer (R326, R349). -/
def takeConn (k : Nat) (s : State) : State :=
  match s.rxEntry k with
  | none => s
  | some e =>
    let all := s.sit.buf.filter (fun f => f.entry == e.idx)
    if s.dualOn k then
      let fs := all.filter (fun f => !f.null)
      (fs.map (·.cycle)).eraseDups.foldl (fun t c => takePair k e (fs.filter (fun f => f.cycle == c)) t) s
    else
      let use := all.filter (fun f => f.ch == 0 || !all.any (fun g => g.ch == 0 && g.cycle == f.cycle))
      (use.filter (fun f => !f.null)).foldl (fun t f => takeFrame k e f t) s

/-- Validity of a connection's data at this TICK (R351, R352). -/
def judge (k : Nat) (s : State) : State :=
  let c := s.conn k
  let entry := match s.rxEntry k with
    | some e => (s.rx e.idx).valid
    | none => false
  let ok := c.acc.isSome && s.fresh8 k c.tSend c.dl && entry
  let was := s.on (SL_CST_VALID k)
  let age := if c.acc.isSome then (if s.pduAge c.tSend < 0 then 0 else min 16383 ((s.pduAge c.tSend).toNat / 1000)) else 0x3FFF
  let s := ((s.setB (SL_CST_VALID k) ok).setBit SL_VALID_VALID k ok).set (SL_CST_AGE k) age
  let s := if was && !ok then s.raise 0x2C6 k else s
  -- a PDU accepted while the data is not valid is no predecessor of a REARM edge (R352)
  let s := s.setConn k { c with taken := false, zero := c.zero && (ok || !c.taken) }
  -- data that is valid again without a new PDU is what was accepted last (R352)
  if ok then (if was then s else present (s.connType k) (c.acc.getD []) s)
  else
    match s.connType k with
    | 3 => { s with sl := { s.sl with perm := 0 } }
    | 4 => { s with sl := { s.sl with ssReq := none, rearmEdge := false } }
    | 5 => { s with sl := { s.sl with avail := 0 } }
    | _ => s

/-- A connection type is enabled and its data valid. -/
def State.typeValid (s : State) (ty : Nat) : Bool :=
  s.rxConns.any (fun k => s.connType k == ty && s.on (SL_CST_VALID k))

/-! ### Commands over Moamel (R286) -/

/-- Every Sitil channel the part has is lost. -/
def State.bothLost (s : State) : Bool := s.on SIT_STAT_LOST_X && (s.on SIT_STAT_LOST_Y || s.part == .s)

/-- The command in use: the largest cycle counter, on a tie the lowest-ranked sender's. -/
def pickCmd (l : List (Nat × XCmd)) : Option (Nat × XCmd) :=
  l.foldl (fun m p => match m with
    | none => some p
    | some q => if q.2.cycle < p.2.cycle ∨ (q.2.cycle = p.2.cycle ∧ q.1 < p.1) then some p else m) none

/-- A coordinated command of type `ty` is missing or over its maximum age, counted in cycles. -/
def State.coordOld (s : State) (ty : Nat) (c : Option (Nat × XCmd)) : Bool :=
  match c, s.rxConns.find? (fun k => s.connType k == ty) with
  | some (_, x), some k =>
    decide (s.f (SL_CONN2_DL k) * 1000 < (s.cycle + 65536 - x.cycle % 65536) % 65536 * s.cycleNs)
  | _, _ => true

/-- Coordination at a TICK: the commands in use beside the lane's own, which it goes on sending; LN_COORD; and whether one is too
old. -/
def coordinate (s : State) : State :=
  let on := s.bothLost && s.su.nets && s.on SU_STAT_ADMITTED
  if !on then { s.setB LN_COORD_COORD false with sl := { s.sl with coBrake := none, coSteer := none } }
  else
    let own := s.letter
    let bs := (match s.sl.brake with
        | some f => [(own, (⟨s.sl.brakeCycle, f⟩ : XCmd))]
        | none => []) ++ s.peers.filterMap (fun p => p.2.braking.map (fun c => (p.1, c)))
    let ss := (match s.sl.steer with
        | some f => [(own, (⟨s.sl.steerCycle, f⟩ : XCmd))]
        | none => []) ++ s.peers.filterMap (fun p => p.2.steering.map (fun c => (p.1, c)))
    let b := pickCmd bs
    let t := pickCmd ss
    let out := s.coordOld 1 b || s.coordOld 2 t
    let s := { s with sl := { s.sl with cmdOut := out, coBrake := b.map Prod.snd, coSteer := t.map Prod.snd } }
    let s := s.setB LN_COORD_COORD true
    match t with
    | some (l, c) => ((s.set LN_COORD_SRC l).set LN_COORD_CYCLE c.cycle).setI STR_CMD_ANGLE (c.fields.getD 0 0)
    | none => s

/-- The safety layer at TICK (R349-R354, R286). -/
def slTick (s : State) : State :=
  let s := { s with veh := { s.veh with strClip := false } }
  -- while crossing 11 is stopped the tick buffer is not taken (R440)
  let s := s.when (!s.xStopped 11) (·.each s.rxConns takeConn)
  let s := { s with sit := { s.sit with buf := [] } }
  let s := s.each (List.range 32) (fun k t =>
    if s.rxConns.contains k then judge k t
    else if t.on (SL_CST_VALID k) then (t.setB (SL_CST_VALID k) false).setBit SL_VALID_VALID k false else t)
  let has := fun (ty : Nat) => s.rxConns.any (fun k => s.connType k == ty)
  let s := { s with sl := { s.sl with
    cmdOut := !(s.typeValid 1 && s.typeValid 2)
    perm := if has 3 then s.sl.perm else 0
    ssReq := if has 4 then s.sl.ssReq else none
    avail := if has 5 then s.sl.avail else 0 } }
  let s := s.setB SL_STAT_DUAL_ACT (s.rxConns.any s.dualOn)
  coordinate s

/-- At a cycle start the comparison is suspended or resumes (R354). -/
def dualCycle (s : State) : State :=
  s.setB SL_STAT_DUAL_SUSP (s.on SIT_STAT_LOST_X || s.on SIT_STAT_LOST_Y)

/-! ### What the lane sends (R173, R263, R348) -/

/-- The achieved angle: x̂ of steering entry 0, mdeg. -/
def State.achieved (s : State) : Int :=
  let n := s.e (STR_AX_AXIS 0)
  if s.e (STR_AX_EN 0) = 1 then ((s.axs n).record.getD 1 0 * (s.e (AX_FS_X_FS_X n) : Nat)).fdiv (2 ^ 23) else 0

/-- Values of a transmit type outside their range count (R152): a retarding request, the achieved deceleration and speed in
BLD_STAT.CMD_CLIP, the achieved angle in STR_STAT.CLIPPED, once in a tick. -/
def txClips (ty : Nat) (s : State) : State :=
  let outside := fun (lo hi x : Int) => b2n (decide (x < lo) || decide (hi < x))
  match ty with
  | 6 => s.addSat BLD_STAT_CMD_CLIP (outside 0 10000000 s.veh.tReq)
  | 8 =>
    let s := s.addSat BLD_STAT_CMD_CLIP (outside (-32768) 32767 s.aMeas + outside 0 65535 (s.vRef.fdiv 640))
    s.when (outside (-90000) 90000 s.achieved == 1 && !s.veh.strClip)
      (fun t => { t.inc STR_STAT_CLIPPED with veh := { t.veh with strClip := true } })
  | _ => s

/-- Data bytes of a transmit type. -/
def State.txData (s : State) (ty : Nat) : List Nat :=
  match ty with
  | 6 => bytesBE 4 (min 10000000 s.veh.tReq)
  | 7 =>
    [s.letter * 64 + s.f LN_STAT_STATE * 8, s.f LN_ROLE_HELD, s.f FLT_STAT_CLASS_MAX,
     (if s.on LN_STAT_DEGRADED then s.f LN_CFG_DEG_SPEED else 100),
     b2n (s.on LN_STAT_DEGRADED) + 2 * b2n (s.on LN_STAT_MAINT), 0] ++
      bytesBE 2 (if s.on FLT_FIRST_VALID then 2 ^ 15 + s.f FLT_FIRST_SRC else 0)
  | 8 =>
    let ang := s.achieved
    bytesBE 4 (ofSigned 32 (clampI (-90000) 90000 ang)) ++ bytesBE 2 (ofSigned 16 (satSigned 16 s.aMeas)) ++ bytesBE 2 (satU 16 (s.vRef.toNat / 640))
  | _ =>
    -- TQ: bit 0 TQOFF_A, bit 1 TQOFF_B, 1 = open as read back
    let tq := packBits 2 (fun x => !s.fbit AUX_STAT_TQ_RB x)
    [s.f SS_STAT_PHASE, b2n (s.on SS_STAT_ESC) + 2 * b2n (s.on SS_STAT_PARK_DONE) + 4 * tq, s.f SS_STAT_FIRST, 0]

/-- The producers write their transmit buffers in the vote-and-commit window (R333); in TERMINAL only lane status and
safe-stop state (R375). -/
def publish (s : State) : State :=
  let term := s.f LN_STAT_STATE == 4
  s.ownEntries.foldl (fun t e =>
    match t.txConn e with
    | some k =>
      if term && !(t.connType k == 7 || t.connType k == 9) then t
      else txClips (t.connType k) (t.setTx e.idx { t.tx e.idx with next := some (t.txData (t.connType k)) })
    | none => t) s

end Sys2Proof.Machine
end

