-- ==== Sys2Proof/Machine/Windows.lean ====
section
/-!
DEFINITION. The windows of a tick after the Janus pass (R39-R43, R47): compare and exchange, vote and commit, self-test
slice, guard.
-/
namespace Sys2Proof.Machine

/-- COMPARE_AND_EXCHANGE (R183, R298): verdicts, then the record goes out. Where no pass runs there are no verdicts, and no axis has
mismatched (R198, R413). -/
def compareExchange (rails : List RailOut) (s : State) : State :=
  sendRecord (if s.engineOn then janusVerdicts rails s else s.set JAN_STAT_MIS_LAST 0)

/-- One axis in the commit (R48, R89, R189). -/
def commitOne (missed : List Nat) (n : Nat) (s : State) : State :=
  match s.toCommit n with
  | none => s
  | some (r, coded) =>
    if missed.contains n then { s with tk := { s.tk with missed := s.tk.missed ++ [n] } }
    else
      let s := commitAxis n r coded s
      if s.retHost == some n then hostCommit s else s

/-- VOTE_AND_COMMIT (R21, R48, R269, R333). -/
def voteCommit (missed : List Nat) (s : State) : State :=
  let s := laneVote (reserveEnd s)
  publish (s.each (List.range 16) (commitOne missed))

/-- The commit window has ended: missed commits are an overrun (R47). -/
def commitEnd (s : State) : State :=
  if s.tk.missed = [] then s
  else
    let mask := packBits 16 (fun n => s.tk.missed.contains n)
    let s := (overrun 4 none s).raise 0x001 mask
    { s with tk := { s.tk with missed := [] } }

/-- Steps of a self-test slice (R390). -/
def State.sliceSteps (s : State) : Nat := max 1 (s.tNs / 25000)

/-- SELF_TEST_SLICE (R43, R195, R196): the injections; `late` says that the slice will be cut off at its end. -/
def selfTestSlice (inj man : Option RailPair) (late : Bool) (s : State) : State :=
  let s := injections inj man (commitEnd s)
  { s with tk := { s.tk with bistLate := late, bistLeft := if late then s.sliceSteps - 1 else 0 } }

/-- Largest phase correction in a tick, ns (R37). -/
def slewNs (tNs : Nat) : Nat := tNs / 200

/-- The phase correction at the end of the guard (R37). -/
def phaseStep (s : State) : State :=
  let p := s.tk.phase
  let m : Int := slewNs s.tNs
  let p' := if 10 < p.natAbs ∨ s.on TICK_STAT_SLEWING then p - clampI (-m) m p else p
  ({ s with tk := { s.tk with phase := p', move := s.tk.move + (p' - p) } }).setB TICK_STAT_SLEWING (p' != p && p' != 0)

/-- GUARD (R37, R41, R47). -/
def guardWin (s : State) : State :=
  let s := if s.tk.bistLate then overrun 5 none { s with tk := { s.tk with bistLate := false } } else s
  phaseStep (if s.engineOn then guardMarch s else s)

/-- COMPARE_AND_EXCHANGE (R298). -/
def execCompareAndExchange (rails : List RailOut) (s : State) : Res := s.runIn 2 (compareExchange rails)

/-- VOTE_AND_COMMIT (R42, R269). -/
def execVoteAndCommit (missed : List (Fin 16)) (s : State) : Res :=
  s.runIf 2 (!s.quiet) (voteCommit (missed.map Fin.val))

/-- SELF_TEST_SLICE (R43). -/
def execSelfTestSlice (inj man : Option RailPair) (late : Bool) (s : State) : Res :=
  s.runIf 2 (!s.quiet) (selfTestSlice inj man late)

/-- GUARD (R41). -/
def execGuardWindow (s : State) : Res := s.runIn 2 guardWin

end Sys2Proof.Machine
end

