-- ==== Sys2Proof/Machine/Bist.lean ====
section
/-!
DEFINITION. The self-test (R390-R404): the sweep's order, shadows, passes, failures and skips, the repair actions of
what it finds, and the start-up sweep.
-/
namespace Sys2Proof.Machine

/-! ### The order of the sweep (R390, R391) -/

/-- The item of a sweep step (*Sweep content*): kind, ordinal of the item in its test, step of the item, steps of the item.
Ordinals 0-47 of the windows are windows, 48-51 the spares; kind 8 stands for the bus threshold comparators. -/
structure Item where
  test : Nat
  ord : Nat
  step : Nat
  len : Nat
  deriving DecidableEq, Repr

/-- The item of the `q`-th step that is no reference step. -/
def itemOf (q : Nat) : Item :=
  if q < 1000 then ⟨1, q / 40, q % 40, 40⟩
  else if q < 4840 then ⟨2, (q - 1000) / 40, (q - 1000) % 40, 40⟩
  else if q < 9832 then ⟨3, (q - 4840) / 96, (q - 4840) % 96, 96⟩
  else if q < 10600 then ⟨8, (q - 9832) / 64, (q - 9832) % 64, 64⟩
  else if q < 14600 then ⟨4, (q - 10600) / 40, (q - 10600) % 40, 40⟩
  else ⟨5, (q - 14600) / 100, (q - 14600) % 100, 100⟩

/-- The item of the step at sweep position `p`: every 16th step tests a reference, in turn (R391). -/
def itemAt (p : Nat) : Item := if p % 16 = 0 then ⟨0, p / 16 % 4, 0, 1⟩ else itemOf (15 * (p / 16) + p % 16 - 1)

/-- KIND of a test (*Resource kinds*). -/
def Item.kind (i : Item) : Nat := if i.test = 8 then 3 else i.test

/-- Steps of ports 2 and 3 on a QX880-S test nothing (R397). -/
def State.idleStep (s : State) (i : Item) : Bool := i.test == 5 && decide (2 ≤ i.ord) && s.part == .s

/-- The index of spare comparator window j, beyond those of *Resource kinds* (log entry 121). -/
def spareIndex (j : Nat) : Nat := 0x3C + Config.spareBase.toNat + j

/-- The index of the item's resource (*Resource kinds*). -/
def itemIndex (i : Item) (slice : Nat) : Nat :=
  if i.test = 3 ∧ 48 ≤ i.ord then spareIndex (i.ord - 48)
  else if i.test = 8 then 0x30 + i.ord else if i.test = 4 then 8 * i.ord + slice else i.ord

/-! ### Shadows (R393, R394) -/

/-- The resource that spare window j stands for (RP_WIN). -/
def State.winFor (s : State) (j : Nat) : Nat := s.f RP_WIN_FOR_j / 256 ^ j % 256

/-- Spare window j is free but for a shadow, which the TICK after its item takes away (R393). -/
def State.winUnused (s : State) (j : Nat) : Bool :=
  s.winFor j == 0xFF && !s.fbit BIST_SHADOW_HELD j && !s.rep.usedWin.contains j

/-- Spare window j is free: neither assigned, held, failed nor shadowing. -/
def State.winFree (s : State) (j : Nat) : Bool := s.winUnused j && !s.bist.shadow.any (fun p => p.1 == j)

/-- The resource that spare window j drives, permanently or held in place until the next POR. -/
def State.standsFor (s : State) (j : Nat) : Option Nat :=
  if s.winFor j != 0xFF then some (s.winFor j)
  else (s.rep.map.find? (fun e => fieldGet e.1 24 4 == 3 && fieldGet e.1 28 2 == 0 && fieldGet e.1 0 12 == j)).map
    (fun e => fieldGet e.1 12 12)

/-- The resource that an item tests as RP_WIN codes it: a window or a bus comparator; a spare in use is what it stands for. -/
def State.windowOf (s : State) (i : Item) : Option Nat :=
  if i.test = 3 then (if i.ord < 48 then some i.ord else s.standsFor (i.ord - 48))
  else if i.test = 8 then some (0x30 + i.ord) else none

/-- The item is tested behind a shadow (R393): a window of a unit in REGULATE, or a bus threshold comparator; not one that a spare
already replaces. -/
def State.needsShadow (s : State) (i : Item) : Bool :=
  match s.windowOf i with
  | none => false
  | some r =>
    (i.test == 3 && decide (48 ≤ i.ord) || !s.rep.map.any (fun e => fieldGet e.1 24 4 == 3 && fieldGet e.1 12 12 == r)) &&
      (decide (48 ≤ r) || s.f (VDU_STAT_STATE (r / 3)) == 1)

/-- A shadow stands for the item's resource. -/
def State.shadowed (s : State) (i : Item) : Bool :=
  match s.windowOf i with
  | some r => s.bist.shadow.any (fun p => p.2 == r)
  | none => false

/-- A shadow is loaded for resource r, where a spare is free. -/
def addShadow (r : Nat) (s : State) : State :=
  if s.bist.shadow.any (fun p => p.2 == r) then s
  else match [0, 1, 2, 3].find? s.winFree with
  | some j => { s with bist := { s.bist with shadow := s.bist.shadow ++ [(j, r)] } }
  | none => s

/-- BIST_SHADOW.ACTIVE follows the shadows. -/
def showShadow (s : State) : State :=
  s.set BIST_SHADOW_ACTIVE (packBits 4 (fun j => s.bist.shadow.any (fun p => p.1 == j)))

/-- BIST_STAT shows the step at position `p`. -/
def showStep (p : Nat) (s : State) : State :=
  let i := itemAt p
  ((s.set BIST_STAT_KIND i.kind).set BIST_STAT_ITEM (if i.test = 4 then i.ord else itemIndex i 0)).set BIST_STAT_STEP p

/-! ### Positions -/

/-- The item passed over covers the step at `p`. -/
def State.dropped (s : State) (p : Nat) : Bool :=
  match s.bist.drop with
  | some (t, o) => (itemAt p).test == t && (itemAt p).ord == o
  | none => false

/-- The first position from `p` on that is not passed over; sixteen tries reach one or the next reference step. -/
def skipOver (s : State) : Nat → Nat → Nat
  | 0, p => p
  | n + 1, p => if p < 16000 && s.dropped p then skipOver s n (p + 1) else p

/-- An item is over: what the sweep has covered of it. A driver output without an edge counts as untested (R395). -/
def leaveItem (i : Item) (s : State) : State :=
  match i.test with
  | 3 => { s with bist := { s.bist with winDone := s.bist.winDone + 1 } }
  | 8 => { s with bist := { s.bist with thrDone := s.bist.thrDone + 1 } }
  | 4 =>
    if s.bist.edge then { s with bist := { s.bist with drvDone := s.bist.drvDone + 1, edge := false } }
    else s.inc BIST_CNT_B_NO_EDGE
  | _ => s

/-- A sweep has ended; the next one starts at step 0 (R390, R400). -/
def sweepEnd (s : State) : State :=
  let ms := (s.tb - s.bist.startTb) / 200000
  let s := (s.incWrap BIST_SWEEP_SWEEPS).set BIST_SWEEP_LAST_MS (satU 16 ms)
  let s := ((s.set BIST_COV_DRV_DONE s.bist.drvDone).set BIST_COV_WIN_DONE s.bist.winDone).set BIST_COV_THR_DONE s.bist.thrDone
  { s with bist := { s.bist with startTb := s.tb, drvDone := 0, winDone := 0, thrDone := 0, stallEp := false, drop := none
                                 edge := false } }

/-- Entry to the step at `p`: an item that needs a shadow, has none and finds no spare free is passed over (R394). At a TICK a spare
is free that shadows nothing; between two, one that the next TICK has to offer. -/
def enterStep (tick : Bool) (p : Nat) (s : State) : State :=
  let i := itemAt p
  let free := [0, 1, 2, 3].any (if tick then s.winFree else s.winUnused)
  if s.needsShadow i && !s.shadowed i && !s.dropped p && !free then
    ({ s with bist := { s.bist with drop := some (i.test, i.ord) } }).inc BIST_CNT_B_NO_SHADOW
  else s

/-- The sweep goes on to the step after position `p`, over items without a free spare, at most `n` of them. -/
def goTo (tick : Bool) (s : State) : Nat → Nat → State
  | 0, p => showStep p s
  | n + 1, p =>
    let p := skipOver s 16 p
    if 16000 ≤ p then showStep 0 (sweepEnd s)
    else
      let t := enterStep tick p s
      if t.dropped p then goTo tick t n p else showStep p t

def advance (p : Nat) (s : State) : State := goTo false s 40 (p + 1)

/-! ### Failures (R399, R407, *Repair actions*) -/

/-- The spare windows that neither a repair nor a hold uses. -/
def showWinFree (s : State) : State :=
  s.set RP_SPARE_WIN_FREE (([0, 1, 2, 3].filter s.winUnused).length)

/-- A comparator window or bus threshold comparator r has failed. -/
def windowRepair (r step : Nat) (s : State) : State :=
  match s.bist.shadow.find? (fun p => p.2 == r) with
  | some (j, _) =>
    let s := addEntry 0 3 r j step s
    showWinFree (s.setBit BIST_SHADOW_HELD j true)
  | none =>
    let s := if r < 48 then { s with rep := { s.rep with failWin := s.rep.failWin ++ [r] } } else s
    match [0, 1, 2, 3].find? s.winFree with
    | some j =>
      let s := addEntry 0 3 r j step s
      -- a bus comparator's stand-in is put in place at once
      if r < 48 then showWinFree { s with rep := { s.rep with usedWin := s.rep.usedWin ++ [j] } }
      else showWinFree (s.setBit BIST_SHADOW_HELD j true)
    | none =>
      let s := lose 3 r step s
      if r < 48 then (if s.f (VDU_STAT_STATE (r / 3)) = 0 then s else senseOff (r / 3) s)
      else applyHolds { s with rep := { s.rep with deadBus := s.rep.deadBus ++ [(r - 0x30) / 3] } }

/-- Slice `sl` of driver output `o` has failed (R216). -/
def driverRepair (o sl step : Nat) (s : State) : State :=
  let spent := s.rep.usedDrv.contains o
  let s := if o < 96 ∧ (sl < 7 ∨ spent) then
      let b := s.hb (o / 2)
      s.setHb (o / 2) (if o % 2 = 1 then { b with pendH := b.pendH ++ [sl] } else { b with pendL := b.pendL ++ [sl] })
    else s
  if spent ∨ sl = 7 then
    let s := lose 4 (8 * o + sl) step s
    if spent then s else { s with rep := { s.rep with usedDrv := s.rep.usedDrv ++ [o] } }
  else
    let s := addEntry 0 4 (8 * o + sl) (8 * o + 7) step s
    let s := { s with rep := { s.rep with usedDrv := s.rep.usedDrv ++ [o] } }
    s.set RP_SPARE_DRV_USED (satU 8 (s.f RP_SPARE_DRV_USED + 1))

/-- SAR core c is lost: the channels that convert on it are out of use, those of the core it replaces where it is the spare. -/
def coreLost (c : Nat) (s : State) : State :=
  let dead := fun (k : Nat) (s : State) =>
    { s with rep := { s.rep with deadCh := s.rep.deadCh ++ [4 * k, 4 * k + 1, 4 * k + 2, 4 * k + 3] } }
  if c ≠ 24 then dead c s
  else
    let s := s.setB RP_SPARE_CORE_FREE false
    if s.on CORE_MAP_SPARE_USED then dead (s.f CORE_MAP_SPARE_FOR) s else s

/-- What a confirmed failure does (*Repair actions*); a resource that has its entry gets no second one. -/
def repairOf (kind res step : Nat) (s : State) : State :=
  if s.mapped kind res then s
  else match kind with
  | 0 => lose 0 res step s
  | 1 =>
    if res < 24 ∧ s.on RP_SPARE_CORE_FREE then (addEntry 0 1 res 24 step s).setB RP_SPARE_CORE_FREE false
    else
      coreLost res (lose 1 res step s)
  | 2 =>
    let s := lose 2 res step s
    { s with rep := { s.rep with deadCh := s.rep.deadCh ++ [res] } }
  | 3 => windowRepair res step s
  | 4 => driverRepair (res / 8) (res % 8) step s
  | 5 =>
    let s := lose 5 res step s
    { s with rep := { s.rep with deadPhy := s.rep.deadPhy ++ [res] } }
  | 6 => sliceRepair res s
  | _ =>
    let s := rowRepair (res / 1024) (res % 1024) s
    s.when (res / 1024 == 2) (fun t => t.setBit JAN_FENCE_FENCED (res % 1024 / 64) true)

/-- The source of a kind: for a driver slice of a gate output SLICE_FAIL of its group (R216), which those of an auxiliary output lack;
engine slices have theirs at their own test (R402), and rows none. -/
def bistSrc (kind res : Nat) : Option Nat :=
  match kind with
  | 0 => some 0x3E0
  | 1 => some 0x3E1
  | 2 => some 0x3E2
  | 3 => some (if 0x30 ≤ res ∧ res < 0x3C then 0x3E4 else 0x3E3)
  | 4 => if res / 8 < 96 then some (0x09E + 0x20 * (res / 96)) else none
  | 5 => some 0x3E5
  | _ => none

/-- What a confirmed failure counts and raises (R399). -/
def noteFailure (kind res step : Nat) (s : State) : State :=
  let s := s.inc BIST_CNT_B_CONFIRMED
  let s := match bistSrc kind res with
    | some id => s.raise id (kind * 2 ^ 28 + res % 2 ^ 12 * 2 ^ 16)
    | none => s
  ((s.set BIST_LAST_KIND kind).set BIST_LAST_ITEM (res % 2 ^ 12)).set BIST_LAST_STEP step

/-- A failure is confirmed (R399). -/
def confirm (kind res step : Nat) (s : State) : State := repairOf kind res step (noteFailure kind res step s)

/-- The failure of spare window j is confirmed. It is no spare any longer; one that a repair uses fails as the resource it stands
for. -/
def confirmSpare (j step : Nat) (s : State) : State :=
  let s := noteFailure 3 (spareIndex j) step s
  let w := s.winFor j
  if s.rep.usedWin.contains j then s
  else
    let s := { s with rep := { s.rep with usedWin := s.rep.usedWin ++ [j] } }
    if w = 0xFF then showWinFree (lose 3 (spareIndex j) step s)
    else if s.rep.failWin.contains w then s
    else windowRepair w step s

/-- A confirmed failure of the item at `p`. -/
def confirmItem (p sl : Nat) (s : State) : State :=
  let i := itemAt p
  if i.test = 3 ∧ 48 ≤ i.ord then confirmSpare (i.ord - 48) p s else confirm i.kind (itemIndex i sl) p s

/-! ### Steps (R391-R399) -/

/-- The line of a port is in use, or a window of Charon is open for it (R396). -/
def State.portBusy (s : State) (p : Nat) : Bool :=
  s.on (SP_STAT_OPEN p) || s.lineCode p != 0

/-- A step waits, and the sweep with it, for the next slice: for its port (R396), or for the TICK that loads its shadow, or takes away
the one that the spare under test has been (R393). -/
def State.stepWaits (s : State) (i : Item) : Bool :=
  i.test == 5 && s.portBusy i.ord || s.needsShadow i && !s.shadowed i ||
    i.test == 3 && decide (48 ≤ i.ord) && s.bist.shadow.any (fun p => p.1 == i.ord - 48)

/-- A rank-1 condition of *Decision precedence* has arisen for the unit of a shadowed window: the step is discarded and comes again
(R394). -/
def State.stepVoid (s : State) (i : Item) : Bool :=
  match s.windowOf i with
  | some r => s.shadowed i && decide (r < 48) && s.rank1 (r / 3)
  | none => false

/-- A step is skipped with causes of BIST_SKIP (R398). -/
def skipStep (causes : Nat) (s : State) : State := (s.inc BIST_CNT_A_SKIP).setWord BIST_SKIP_A (BitVec.ofNat 32 causes)

/-- What a skip names beside a DVFS transition. -/
def skipCauses : BistOut → Nat
  | .skip c => c.toNat
  | _ => 0

/-- A step that has ended (R391, R394, R396, R398, R399), unless it waits. -/
def stepEnd (o : BistOut) (s : State) : State :=
  let p := s.f BIST_STAT_STEP
  let i := itemAt p
  let pass := fun (e : Bool) =>
    let s := if s.bist.rep then s.raiseU 0x3E7 else s
    let s := { s with bist := { s.bist with rep := false, edge := if i.test = 4 then s.bist.edge || e else s.bist.edge } }
    advance p (if i.step + 1 = i.len then leaveItem i s else s)
  let wait := { s with bist := { s.bist with waits := true } }
  if s.f BIST_STAT_MODE ≠ 1 ∨ s.bist.waits then s
  else if s.idleStep i then advance p s
  else if s.stepWaits i then wait
  else if s.stepVoid i then s
  else if s.on PWR_DVFS_BUSY then skipStep (Nat.lor 2 (skipCauses o)) s
  else match o with
  | .wait => wait
  | .discard => s
  | .skip c => skipStep c.toNat s
  | .pass e => pass e
  | .fail sl =>
    let s := { s.inc BIST_CNT_A_FAIL with ln := { s.ln with bistFail := true } }
    if s.bist.rep then
      let s := confirmItem p sl { s with bist := { s.bist with rep := false } }
      let s := { s with bist := { s.bist with
        drop := if i.test = 0 then s.bist.drop else some (i.test, i.ord)
        edge := s.bist.edge || i.test == 4 } }
      advance p (leaveItem i s)
    else { s with bist := { s.bist with rep := true } }

/-- BIST_STEP (R391): in a slice that is cut off, its last step is abandoned and comes again (R47). -/
def bistStep (o : BistOut) (s : State) : State :=
  if !s.tk.bistLate then stepEnd o s
  else if s.tk.bistLeft = 0 then s
  else stepEnd o { s with tk := { s.tk with bistLeft := s.tk.bistLeft - 1 } }

/-- What a TICK does for the self-test: the running sweep starts after FAST_OK, pauses in QUIET (R401, R476), and the shadows of
the items that the tick's slice reaches are loaded, the others removed (R393). -/
def bistTick (s : State) : State :=
  let s := { s with bist := { s.bist with waits := false } }
  if s.quiet then s.set BIST_STAT_MODE 0
  else if !s.on BIST_STAT_FAST_OK then s
  else
    let s := if s.bist.started then s else
      showStep 0 { s with bist := { s.bist with started := true, startTb := s.tb } }
    let s := s.set BIST_STAT_MODE 1
    let p := s.f BIST_STAT_STEP
    let items := ((List.range s.sliceSteps).map (fun k => itemAt ((p + k) % 16000))).filter (fun i =>
      s.needsShadow i && !(s.bist.drop == some (i.test, i.ord)))
    -- an item that a reference step interrupts keeps its shadow
    let items := if p % 16 = 0 ∧ 0 < p ∧ p + 1 < 16000 ∧ 0 < (itemAt (p + 1)).step ∧ s.needsShadow (itemAt (p + 1)) then
      itemAt (p + 1) :: items else items
    let want := items.filterMap s.windowOf
    let s := { s with bist := { s.bist with shadow := s.bist.shadow.filter (fun x =>
      want.contains x.2 && !s.fbit BIST_SHADOW_HELD x.1) } }
    let s := want.foldl (fun t r => addShadow r t) s
    let i := itemAt p
    showShadow (if s.needsShadow i && !s.shadowed i then goTo true s 40 p else s)

/-- BIST_STALL (R400): `STALL` sweep lengths of 400 ms without a completed sweep. -/
def bistStall (s : State) : State :=
  if s.bist.started && !s.bist.stallEp && decide (s.e BIST_CFG_STALL * 80000000 ≤ s.tb - s.bist.startTb) then
    { s with bist := { s.bist with stallEp := true } }.raiseU 0x3E8
  else s

/-- BIST_STEP (R391). -/
def execBistStep (r : BistOut) (s : State) : Res := s.runIf 2 (!s.quiet) (bistStep r)

/-- BIST_STALL (R400). -/
def execBistStall (s : State) : Res := s.runIn 2 bistStall

end Sys2Proof.Machine
end

