-- ==== Sys2Proof/Machine/Result.lean ====
section
/-!
DEFINITION. What completes a command of the host port or of a remote node: results in their slots, the tag cache, replies
(R453, R454, R456, R457).
-/
namespace Sys2Proof.Machine

/-- Remote requests outstanding (R454). -/
def State.remoteOut (s : State) : Nat := (s.hp.replies.filter (fun r => r.counts)).length

/-- HP_STAT follows the slots and the outstanding remote requests (R454, R472). -/
def showHost (s : State) : State :=
  let ready := (s.hp.slots.filter (fun x => x.res.isSome)).length
  ((s.set HP_STAT_IN_FLIGHT s.hp.slots.length).set HP_STAT_READY ready).set HP_STAT_REMOTE (satU 6 s.remoteOut)

/-- HP_IRQ_N is asserted (R447). -/
def State.irqN (s : State) : Bool := decide (0 < s.f HP_STAT_READY) && s.on HP_CFG_IRQ_EN

/-- The first cache entry of a tag that has no status takes it. -/
def cacheDone (tag status : Nat) : List HCache → List HCache
  | [] => []
  | c :: cs => if c.req.tag = tag ∧ c.status.isNone then { c with status := some status } :: cs else c :: cacheDone tag status cs

/-- The slot holds a command of the tag that is in flight. -/
def HSlot.isOpen (tag : Nat) (x : HSlot) : Bool := x.tag == tag && x.res.isNone

/-- The slots without the `i`-th of a tag that are in flight; these stand in the order of acceptance. -/
def dropOpen (tag : Nat) : Nat → List HSlot → List HSlot
  | _, [] => []
  | i, x :: xs =>
    if x.isOpen tag then
      match i with
      | 0 => xs
      | j + 1 => x :: dropOpen tag j xs
    else x :: dropOpen tag i xs

/-- The `i`-th command in flight of a tag completes: its slot becomes the newest ready one (R454). The cache knows the newest command of a
tag only, since a tag may come again once its entry has lapsed (R453). -/
def closeSlot (i tag status : Nat) (data : List Word) (s : State) : State :=
  let n := (s.hp.slots.filter (·.isOpen tag)).length
  if i < n then
    showHost { s with hp := { s.hp with
      slots := dropOpen tag i s.hp.slots ++ [⟨tag, some (status, data)⟩]
      cache := if i + 1 = n then cacheDone tag status s.hp.cache else s.hp.cache } }
  else s

/-- The command accepted last completes: it ran beside those in progress (R452). -/
def completeLast (tag status : Nat) (data : List Word) (s : State) : State :=
  closeSlot ((s.hp.slots.filter (·.isOpen tag)).length - 1) tag status data s

/-- The command completes that was accepted before all others in flight (R452). -/
def completeFirst (tag status : Nat) (data : List Word) (s : State) : State := closeSlot 0 tag status data s

/-- The WAIT or COMMIT in progress completes; a WAIT that came during the entry takes its place (R419). -/
def completeBusy (tag status : Nat) (data : List Word) (s : State) : State :=
  let s := completeFirst tag status data s
  { s with hp := { s.hp with busy := s.hp.waitNext, waitNext := none } }

/-- The WAIT command code (*Commands*). -/
def cWait : Nat := 0x10

/-- A WAIT completes: the one that came during the entry where it is superseded or where no other WAIT is in progress (R419). -/
def completeWait (tag status : Nat) (data : List Word) (s : State) : State :=
  let other := match s.hp.busy with
    | some b => b.cmd != cWait
    | none => true
  if s.hp.waitNext.isSome && (status == 0x12 || other) then
    let before := match s.hp.busy with
      | some b => b2n (b.tag == tag)
      | none => 0
    let s := closeSlot before tag status data s
    { s with hp := { s.hp with waitNext := none } }
  else completeBusy tag status data s

/-- A frame of the host port with its CRC-16, most significant byte first (R449). -/
def withCrc (bs : List Nat) : List Nat := bs ++ bytesBE 2 (crc16 bs)

/-- The bytes of an acknowledge (*Frame layouts*). -/
def HAck.bytes (a : HAck) : List Nat := withCrc [a.tag, a.code, a.ready]

/-- The bytes of a result record (*Frame layouts*): TAG, STATUS, LEN, DATA. -/
def HOut.bytes (o : HOut) : List Nat :=
  withCrc ([o.tag, o.status] ++ bytesBE 2 o.data.length ++ (o.data.map (fun w => bytesLE 4 w.toNat)).flatten)

/-- A COMMIT that waits its turn holds enables back (R466). -/
def State.queueHolds (s : State) : Bool := s.hp.queue.any (fun c => match c.verdict with
  | some v => v.2
  | none => false)

/-- A COMMIT has been accepted and judged and is not completed (R466). -/
def State.committing (s : State) : Bool := s.cf.commit.isSome || s.hp.queue.any (fun c => c.verdict.isSome)

/-- The bytes of a reply (*REMOTE payload*, R456). -/
def replyBytes (node tag status : Nat) (data : List Word) : List Nat :=
  bytesBE 2 node ++ [1, 0, tag, status] ++ bytesBE 2 data.length ++ (data.map (fun w => bytesLE 4 w.toNat)).flatten

/-- The first unanswered reply of a node and tag takes its bytes. -/
def fillReply (node tag : Nat) (bytes : List Nat) : List Reply → List Reply
  | [] => []
  | r :: rs => if r.node = node ∧ r.tag = tag ∧ r.bytes = [] then { r with bytes := bytes } :: rs else r :: fillReply node tag bytes rs

/-- A remote request completes (R457). -/
def remoteDone (node tag status : Nat) (data : List Word) (s : State) : State :=
  showHost { s with hp := { s.hp with
    replies := fillReply node tag (replyBytes node tag status data) s.hp.replies
    remotes := s.hp.remotes.map (fun c => if c.node = node ∧ c.req.tag = tag then { c with done := true } else c) } }

/-- Who asked for a power state is told its outcome. -/
def answer (w : Who) (status : Nat) (data : List Word) (s : State) : State :=
  match w with
  | .host tag => completeWait tag status data s
  | .remote node tag => remoteDone node tag status data s
  | .nobody => s

/-- The page's status bits that copy the lock and service mode are computed where they are read; here the lock falls and
rises (R461, R463): a relock cancels a service request (R464). -/
def relock (s : State) : State := (s.setB CS_STAT_LOCKED true).setB CS_STAT_SERVICE_REQ false

/-- RESULT_EXPIRY (R454): a ready result, 100 ms old, is discarded and frees its slot. -/
def resultExpiry (tag : Nat) (s : State) : State :=
  let old := fun (x : HSlot) => x.tag == tag && x.res.isSome
  if s.hp.slots.any old then
    showHost { s.inc HP_CNT2_EXPIRED with hp := { s.hp with slots := s.hp.slots.eraseP old } }
  else s

/-- TAG_CACHE_EXPIRY (R453): the cache forgets a tag. -/
def tagExpiry (tag : Nat) (s : State) : State :=
  { s with hp := { s.hp with cache := s.hp.cache.filter (fun c => c.req.tag != tag) } }

/-- RESULT_EXPIRY (R454). -/
def execResultExpiry (tag : BitVec 8) (s : State) : Res := s.runIn 7 (resultExpiry tag.toNat)

/-- TAG_CACHE_EXPIRY (R453). -/
def execTagCacheExpiry (tag : BitVec 8) (s : State) : Res := s.runIn 7 (tagExpiry tag.toNat)

/-- REQUEST_ABORT (R448). -/
def execRequestAbort (s : State) : Res := s.runIn 7 (fun s => s.inc HP_CNT2_ABORT)

end Sys2Proof.Machine
end

