-- ==== Sys2Proof/Machine/Flush.lean ====
section
/-!
DEFINITION. What a stopped or reset domain crossing brings about (R439-R443).
-/
namespace Sys2Proof.Machine

/-- A crossing is armed (*Crossing inventory*). Frames of the host are events at their end, so 13 and 14 are at rest; 16 is armed while a
COMMIT is under way and in the timebase period that completes it (log entry 122). -/
def State.xArmed (s : State) (i : Nat) : Bool :=
  if i = 0 then s.dom 5 && s.dom 2 && !s.on PWR_STAT_D5_PART
  else if i = 1 then s.dom 6
  else if i < 6 then s.on (PG_CTL_EN (0x041 + (i - 2))) && s.dom 3
  else if i < 10 then s.on (LK_CFG_EN (i - 6)) && s.dom 4
  else if i = 10 then s.dom 4 && [0, 1, 2, 3].any (fun m => s.on (LK_CFG_EN m))
  else if i = 11 then s.dom 3 && s.dom 2
  else if i = 12 then s.dom 6
  else if i < 15 then false
  else if i = 15 then s.dom 6
  else if i = 16 then s.dom 3 && (s.committing || decide (s.ck.copyTb = some s.tb))
  else i == 17 && s.pw.entry.isSome

/-- A timeout can find crossing i armed: the event of 13 or 14 itself says that a frame or a reply was under way. -/
def State.xOpen (s : State) (i : Nat) : Bool := s.xArmed i || ((i == 13 || i == 14) && s.dom 7)

/-- The source belongs to a page of the gate array, whose events cross 12. -/
def gateSrc (id : Nat) : Bool := (srcPage id).any (fun pg => decide (0x020 ≤ pg) && decide (pg ≤ 0x02A))

/-- After a flush of crossing 12 the gate array raises again every source whose sticky status still stands (R443). -/
def reRaise (s : State) : State :=
  let s := s.each (List.range 48) (fun h t =>
    let g := h / 6
    let k := h % 6
    let t := if t.on (HB_STAT_LOCKOUT h) then t.raiseU (hbSrc h 3) else t
    let t := if t.on (HB_STAT_BOOT_BLOCK h) && t.groupState g != 2 then t.raiseU (hbSrc h 2) else t
    let t := if t.fbit (SUP_LATCH_DSAT_H g) k then t.raise (hbSrc h 0) 1 else t
    if t.fbit (SUP_LATCH_DSAT_L g) k then t.raise (hbSrc h 1) 0 else t)
  -- cause 4, LOST, comes with SLICE_FAIL (R216)
  let s := s.each (List.range 8) (fun g t => if t.fbit (SUP_LATCH_CAUSES g) 3 then t.raiseU (0x09E + 0x20 * g) else t)
  let s := s.each (List.range 8) (fun g t =>
    if t.fbit (SUP_LATCH_CAUSES g) 2 then (t.grp g).gsup.foldl (fun t x => if x.1 = 0x1AF then t.raise x.1 x.2 else t.raiseU x.1) t else t)
  let s := s.each (List.range 4) (fun k t =>
    if (List.range 8).any (fun g => t.busOf g == k && t.fbit (SUP_LATCH_CAUSES g) 1) then t.raiseU (0x1A0 + k) else t)
  s.each (List.range 5) (fun j t =>
    let t := if t.fbit SUP_GSTAT_UV j then t.raiseU (0x1AA + j) else t
    if t.fbit SUP_GSTAT_OV j then t.raise 0x1AF j else t)

/-- The gate events not yet registered are lost (crossing 12). -/
def dropGate (s : State) : State :=
  { s with flt := { s.flt with raised := s.flt.raised.filter (fun r => r.forced || !gateSrc r.src) } }

/-- The consequence of a timeout or a peer reset (*Crossing inventory*, last column). A record or a command that is lost is one that
the environment does not bring. -/
def xConsequence (i : Nat) (s : State) : State :=
  if i = 0 then freezeEnd (List.range 96) s
  else if i = 1 then s.each (List.range 16) takeBackCommit
  else if i < 6 then (if i < 2 then s else portFail (i - 2) (s.inc (SP_ERR_CODE (i - 2))))
  else if i = 11 then { s with sit := { s.sit with buf := [] } }
  else if i = 12 then reRaise (dropGate s)
  else if i = 14 then { s with hp := { s.hp with ack := none, out := none } }
  else if i = 15 then s.each (List.range 16) (fun u t => if t.f (VDU_STAT_STATE u) = 0 then t else senseOff u t)
  else if i = 16 then charonClose s
  else if i = 17 then { s with pw := { s.pw with cdc := true } }
  else s

/-- One side of crossing i restarts (R442, R443): its flush has the consequence of the inventory where the crossing was armed; that of 12 is
followed by the gate array's report in any case. -/
def peerFlush (i : Nat) (s : State) : State :=
  let s := peerReset i s
  if s.xArmed i then xConsequence i s else if i = 12 then reRaise s else s

end Sys2Proof.Machine
end

