-- ==== Sys2Proof/Machine/Reset.lean ====
section
/-!
DEFINITION. Resets (R14, R15, R472-R474, R488-R497): LRST, POR, power-good, the hot-plug pin, boundary scan, the release of
pads, the clearing of retention banks.
-/
namespace Sys2Proof.Machine

/-! ### LRST -/

/-- FEAT_ACCEPT as the stored image gives it, 0 without one (R458). -/
def State.storedAccept (s : State) : Word × Word :=
  match s.nv.image with
  | some i => if i.ok then (i.acceptLo, i.acceptHi) else (0, 0)
  | none => (0, 0)

/-- The register file after LRST; what LRST leaves of the levels of pins and comparators, of the windows held by a repair (R407),
of FEAT_ACCEPT (R458) and of network time (R364) is put back. -/
def lrstRegs (s : State) : State :=
  let t := { s with regs := smMap porWord lrstWord s.regs, engOld := [] }
  let t := t.each (List.range 8) (fun g t => t.setB (BG_STAT_GD_EN g) (s.on (BG_STAT_GD_EN g)))
  let t := ((t.set SUP_GSTAT_UV (s.f SUP_GSTAT_UV)).set SUP_GSTAT_OV (s.f SUP_GSTAT_OV)).set BIST_SHADOW_HELD (s.f BIST_SHADOW_HELD)
  let acc := s.storedAccept
  let t := (t.setWord FEAT_ACCEPT_LO_A acc.1).setWord FEAT_ACCEPT_HI_A acc.2
  let t := showRate (t.when (s.on NT_STAT_LOCKED) (setNt 4))
  let t := if s.part = .s then t.setB SIT_STAT_LOST_Y false else t
  t.set LN_STAT_STATE (if s.on FLT_TERM_TERM then 4 else if s.on LN_TB_BARRED then 3 else 0)

/-- A write that waits for a TICK keeps the fields that LRST does not set. -/
def keepWaiting (l : List (Nat × Word × Word)) : List (Nat × Word × Word) :=
  (l.map (fun p => (p.1, p.2.1 &&& ~~~ maskWhere (fun f => f.scope == .lrst) (fieldsAt p.1), p.2.2))).filter (fun p => p.2.1 != 0)

/-- The pads an entry has latched are released (R418, R421). -/
def releaseEntryPads (s : State) : State :=
  match s.pw.entry with
  | some e => s.set PWR_PAD_HELD (Nat.land (s.f PWR_PAD_HELD) (Nat.xor e.latched 0xFFFF))
  | none => s

/-- The lane is halted until POR over its repair map (*Start-up steps*). -/
def State.mapHalted (s : State) : Bool := s.on SU_STAT_HALTED && s.f SU_STAT_CAUSE == 0x20

/-- LRST (R14, R15, R370, R421, R473, R474): start-up begins at Configuration with the given origin. Configuration, the change
log, the event log, the first-fault latch, the repair map, writes that await a COMMIT, pads held by a completed entry and
what lies outside the lane's logic survive. -/
def lrstCore (origin : Nat) (s : State) : State :=
  let o := s
  let s := faultLrst (lrstRegs (releaseEntryPads s))
  let s := { s with
    tk := { phase := o.tk.phase, lastTb := o.tk.lastTb, at_ := o.tk.at_, reg := keepWaiting o.tk.reg, cyc := keepWaiting o.tk.cyc }
    flt := { s.flt with raised := [] }
    hbs := []
    vdus := []
    grps := []
    aux := { hovEp := o.aux.hovEp, chopAbove := o.aux.chopAbove, auxHeld := o.aux.auxHeld }
    afe := {}
    axes := []
    jan := {}
    veh := {}
    ss := { pin := o.ss.pin }
    ln := {}
    mm := { alarmPin := o.mm.alarmPin }
    sit := {}
    sl := {}
    nt := { rate := o.nt.rate, atAp4 := o.nt.atAp4, lastMaster := o.nt.lastMaster, tickNs := o.nt.tickNs }
    cn := { o.cn with win := [], pred := false, rej := 0, okRun := 0 }
    hp := {}
    su := { startTb := o.tb, stopped := o.on SU_STAT_TERMINAL }
    bist := {}
    cf := { pend := o.cf.pend }
    pw := {}
    ck := { pll := o.ck.pll, bad := o.ck.bad, lrstTb := o.tb, clrTb := o.tb }
    hold := { o.hold with
      lane := o.on LN_TB_BARRED || o.on FLT_TERM_TERM, present := false, lrst := o.hold.lrst || o.hold.present } }
  -- where the TERMINAL flag has survived the POR, start-up runs no step (R379, R473)
  let s := (s.set SU_STAT_ORIGIN origin).when (!s.on SU_STAT_TERMINAL) (·.set SU_STAT_STEP 2)
  let s := if o.mapHalted then
      (((s.set SU_STAT_STEP 1).setB SU_STAT_HALTED true).set SU_STAT_FAIL_STEP 1).set SU_STAT_CAUSE 0x20
    else s
  let s := (openTq (auxInactive s)).setB HPL_STAT_HELD false
  s.each (List.range 8) (fun g t => if t.wantsHold g then holdGroup g t else t)

/-- LRST with origin LRST (R473). -/
def lrst (s : State) : State := lrstCore 1 s

/-! ### POR and power-good -/

/-- The registers whose reset value is "non-volatile" or the flag's, with their words. -/
def nvRegs : List Nat := [CL_NEXT_A, CL_ACKED_A, CL_STAT_A, HPL_CNT_A, RP_PORS_A]

/-- The TERMINAL flag survives an interruption of less than 100 ms, is lost from 110 ms on, and may do either between (R378);
`bit` is the free choice. -/
def flagSurvives (offMs : Nat) (bit : Bool) : Bool := decide (offMs < 100) || (decide (offMs < 110) && bit)

/-- The registers whose reset value is non-volatile, from those before POR. -/
def porKept (o s : State) : State :=
  let s := nvRegs.foldl (fun t a => t.setWord a (o.word a)) s
  let s := (s.set CS_STAT_ATTEMPTS (o.f CS_STAT_ATTEMPTS)).set CS_STAT_LOCKOUT_S (o.f CS_STAT_LOCKOUT_S)
  let s := ((s.set HPL_HOURS_HOURS o.nv.hours).set HPL_KM_KM o.nv.km).set HPL_TEMP_T_MAX o.nv.tMax
  let s := s.setB HPL_LIFE_END (o.on HPL_LIFE_END)
  match o.nv.image with
  | some i => (s.setWord CS_CRC_A i.crc).setWord CS_SETCRC_A i.setCrc
  | none => s

/-- What a POR counts, straps (R293, R493) and pins. -/
def porPins (pos laneId : Nat) (s : State) : State :=
  let s := (s.inc HPL_CNT_INSERTIONS).inc RP_PORS_PORS
  let s := ((s.set LN_STAT_LETTER laneId).set MM_STAT_POS pos).set ID_STRAPS_POS pos
  let s := (s.set ID_STRAPS_LANE_ID laneId).setB HPL_STAT_PRESENT true
  let s := if s.part = .s then s.setB SIT_STAT_LOST_Y false else s
  let acc := s.storedAccept
  ((s.setWord FEAT_ACCEPT_LO_A acc.1).setWord FEAT_ACCEPT_HI_A acc.2).setB RP_STAT_MAP_OK false

/-- The lane returns from POR straight into TERMINAL (R378, R379, R473). -/
def enterTerminal (src : Nat) (s : State) : State :=
  let s := ((s.setB FLT_TERM_TERM true).set FLT_TERM_SRC src).set FLT_STAT_CLASS_MAX 4
  let s := (((s.set LN_STAT_STATE 4).setB SU_STAT_TERMINAL true).setB LN_STAT_MAINT true).setBit (FLT_ACT_ACTIVE (src / 32)) (src % 32) true
  let s := { s.setCls src { s.cls src with active := true, promoted := true, term := true } with
    hold := { s.hold with lane := true }, su := { s.su with stopped := true } }
  openTq (auxInactive (applyHolds s))

/-- POR (R14, R473, R474, R488): everything volatile is at its POR value; repair entries not yet written are lost (R406). -/
def por (offMs pos laneId : Nat) (s : State) : State :=
  let r := s.fresh
  let o := s
  let n := o.rep.map.length - o.rep.unwritten
  let t : State := {
    pending := o.pending
    part := o.part
    freeSeq := r.2.freeSeq
    rep := { map := o.rep.map.take n }
    nv := { o.nv with lockTb := 0, opTb := 0 } }
  let t := porPins pos laneId (porKept o t)
  if o.on FLT_TERM_TERM && flagSurvives offMs (r.1.getLsbD 0) then enterTerminal (o.f FLT_TERM_SRC) t else t

/-- Operating time counts up to now (R499): 0.1 h is 72 x 10^9 timebase periods; `more` is what passed while the timebase stood still,
in 0.1 h. -/
def State.hoursRun (s : State) : Nat := (s.nv.opRest + (s.tb - s.nv.opTb)) / (72 * 10 ^ 9)
def countHours (more : Nat) (s : State) : State :=
  let n := s.hoursRun + more
  let rest := (s.nv.opRest + (s.tb - s.nv.opTb)) % (72 * 10 ^ 9)
  let s := { s with nv := { s.nv with opRest := rest, opTb := s.tb } }
  if n = 0 then s
  else
    let s := s.addSat HPL_HOURS_HOURS n
    s.when (decide (1000000 < s.f HPL_HOURS_HOURS)) (·.setB HPL_LIFE_END true)

/-- The sensor's baseplate temperature, 0.1 °C (R485, R502). -/
def noteTemp (temp : Int) (s : State) : State :=
  let s := s.setI HPL_TEMP_T_BASE temp
  s.when (decide (s.fI HPL_TEMP_T_MAX < temp)) (·.setI HPL_TEMP_T_MAX temp)

/-- The counters of R499 go to non-volatile memory. -/
def storeLife (s : State) : State :=
  { s with nv := { s.nv with hours := s.f HPL_HOURS_HOURS, km := s.f HPL_KM_KM, tMax := s.f HPL_TEMP_T_MAX } }

/-- POWER_GOOD_FALL (R488, R499). -/
def powerGoodFall (s : State) : State :=
  if s.tap.pgFell then s
  else
    let s := if s.dom 7 then storeLife (countHours 0 s) else s
    let s := { s.setB HPL_STAT_HOLDUP true with tap := { s.tap with pgFell := true }, hold := { s.hold with pg := true } }
    openTq (auxInactive (applyHolds s))

/-- HOLDUP_EXHAUSTED (R488): the module has no supply until the next POR. -/
def holdupExhausted (s : State) : State := if s.tap.pgFell then { s with powered := false } else s

/-! ### Hot plug (R459, R497) -/

/-- PRESENT_N is deasserted, filtered. -/
def presentOff (s : State) : State :=
  let s := s.setB HPL_STAT_PRESENT false
  let s := if s.tap.pgFell then s else s.inc HPL_CNT_REMOVALS
  if s.feature 5 then
    applyHolds { s.setB HPL_STAT_HELD true with hold := { s.hold with present := true } }
  else lrst { s with hold := { s.hold with lrst := true } }

/-- PRESENT_N has been asserted again for 10 ms before power-good fell: its hold ends at the next TICK; a lane that it held in LRST
leaves it, and its start-up begins (R459, R474). -/
def presentOn (s : State) : State :=
  if s.tap.pgFell then s
  else
    let t := { (s.setB HPL_STAT_PRESENT true).setB HPL_STAT_HELD false with hold := { s.hold with present := false, lrst := false } }
    t.when s.hold.lrst lrst

/-! ### Boundary scan (R500, R501) -/

/-- Instructions marked "Held in LRST" (*Instructions*). -/
def irHolds (ir : Nat) : Bool := ir == 0 || ir == 3 || ir == 4 || ir == 8 || ir == 9

/-- An instruction becomes current: the lane enters LRST, stays in it, or leaves it and starts up with origin LRST. -/
def tapCurrent (ir : Nat) (s : State) : State :=
  let h := irHolds (ir % 16)
  let was := s.tap.held
  let s := { s with tap := { s.tap with ir := ir % 16, held := h } }
  if h != was then lrst s else s

/-- TAP_INSTRUCTION: the scan of the instruction register has shifted out what it captures, 0b0001 (R500), least significant bit first. -/
def tapInstr (ir : Nat) (s : State) : State :=
  tapCurrent ir { s with tap := { s.tap with tdo := [true, false, false, false] } }

/-- Instructions that select the boundary register (*Instructions*). -/
def irBoundary (ir : Nat) : Bool := ir == 0 || ir == 1 || ir == 8 || ir == 9

/-- Boundary scan drives gate pin q high (R501): its cell asks for it while every BV_g is below 20 V. Under an instruction that holds
the lane every other gate pin is low, and its cell captures low. -/
def State.scanHigh (s : State) (q : Nat) : Bool := s.tap.held && s.tap.ir != 4 && s.tap.bvLow && s.tap.gates.getD q false

/-- The gate outputs are high-impedance, under HIGHZ (R501). -/
def State.gatesFloat (s : State) : Bool := s.tap.held && s.tap.ir == 4

/-- The device identification (R500). -/
def State.idcode (s : State) : Word := if s.part = .a then 0x1088054B else 0x1088154B

/-- The level of gate pin q, which its cell captures: the lane's own output, or what the scan drives (R500, R501). -/
def State.gatePin (s : State) (q : Nat) : Bool :=
  if s.tap.held then s.scanHigh q else if q % 2 = 0 then (s.hb (q / 2)).gh else (s.hb (q / 2)).gl

/-- What the selected data register captures and a scan shifts out (R500): the boundary cells the pins, the identification its code, least
significant bit first, the bypass register 0 (IEEE 1149.1). -/
def State.scanOut (s : State) (pins : List Bool) : List Bool :=
  if irBoundary s.tap.ir then (List.range 96).map s.gatePin ++ pins
  else if s.tap.ir = 2 then (List.range 32).map (fun k => s.idcode.getLsbD k)
  else [false]

/-- UPDATE_DR: the selected register has shifted out what it captured; the boundary register, where the instruction selects it, takes its
cells. -/
def updateDr (u : ScanUpdate) (s : State) : State :=
  let s := { s with tap := { s.tap with tdo := s.scanOut u.pins } }
  if irBoundary s.tap.ir then
    { s with tap := { s.tap with gates := u.gates, cells := u.cells, bvLow := (List.range 8).all (fun g => decide (u.bv.getD g 0 < 20000)) } }
  else s

/-! ### The commands -/

/-- POR (R488). -/
def execPor (offMs : Nat) (pos : BitVec 4) (laneId : BitVec 2) (s : State) : Res :=
  .next { por offMs pos.toNat laneId.toNat s with pending := s.pending, part := s.part, powered := true }

/-- POWER_GOOD_FALL (R488). -/
def execPowerGoodFall (s : State) : Res := .next (if s.powered then framed s (powerGoodFall s) else s)

/-- HOLDUP_EXHAUSTED (R488). -/
def execHoldupExhausted (s : State) : Res := .next (holdupExhausted s)

/-- LRST_N (R492). -/
def execLrstN (s : State) : Res := s.runIn 2 lrst

/-- LRST_CMD (R461, R472): the LRST host command, refused while locked; the reset follows 10 µs later. -/
def execLrstCmd (s : State) : Res :=
  s.runIn 7 (fun s => if s.locked then s.refuse 0x001 else { s with hp := { s.hp with lrstDue := true } })

/-- LRST (R14). -/
def execLrst (s : State) : Res := s.runIn 2 lrst

/-- PRESENT_N_DEASSERT (R497). -/
def execPresentNDeassert (s : State) : Res := s.runIn 2 presentOff

/-- PRESENT_N_REASSERT (R497). -/
def execPresentNReassert (s : State) : Res := s.runIn 2 presentOn

/-- TAP_INSTRUCTION (R501). -/
def execTapInstruction (ir : BitVec 8) (s : State) : Res := s.runIn 2 (tapInstr ir.toNat)

/-- TEST_LOGIC_RESET (R501): IDCODE becomes current. -/
def execTestLogicReset (s : State) : Res := s.runIn 2 (tapCurrent 2)

/-- UPDATE_DR (R501). -/
def execUpdateDr (u : ScanUpdate) (s : State) : Res := s.runIn 2 (updateDr u)

end Sys2Proof.Machine
end

