-- ==== Sys2Proof/Machine/Power.lean ====
section
/-!
DEFINITION. The power manager (R411-R431): refusers, abort points, the states QUIET, RETAIN and DORMANT, wakes, DVFS, pads.
-/
namespace Sys2Proof.Machine

/-! ### Requests, refusers, outcomes (R412, R414, R419, R420) -/

/-- A transition of *Power-state transitions* that a request may ask for; states coded as PWR_MODE.TARGET. -/
def pwrAllowed (src tgt : Nat) : Bool := (src == 0 && tgt == 1) || (src == 1 && tgt != 1)

/-- One of AUX_2-AUX_7 is active. -/
def State.auxOn (s : State) : Bool := s.f AUX_STAT_RET_ACT != 0 || s.f AUX_STAT_PK_ON != 0

/-- A host command other than the WAIT itself is in flight, or a remote register request is outstanding. -/
def State.hostBusy (s : State) (w : Who) : Bool :=
  let open_ := (s.hp.slots.filter (fun x => x.res.isNone)).length
  let own := match w with
    | .host _ => 1
    | _ => 0
  decide (own < open_) || s.hp.replies.any (fun r => r.bytes != [])

/-- The blocks that refuse a transition (*Refusers*), as a mask by code. -/
def State.refusers (s : State) (src tgt : Nat) (w : Who) : Nat :=
  let down := tgt != 0
  packBits 12 (fun c => match c with
    | 1 => !pwrAllowed src tgt || s.inLrst
    | 3 => down && s.f SS_STAT_PHASE != 0
    | 4 => down && (s.f LN_ROLE_RELEASING != 0 || s.f LN_ROLE_DOUBLE != 0)
    | 5 => src == 0 && tgt == 1 && ((List.range 8).any (fun g => s.groupState g != 0) || s.auxOn || s.f AUX_STAT_TQ_CMD != 0)
    | 6 => src == 0 && tgt == 1 && !s.slow
    | 7 => down && s.cf.commit.isSome
    | 8 => down && s.on RP_STAT_NV_BUSY
    | 9 => down && s.on FLT_TERM_TERM
    | 10 => src == 1 && tgt == 3 && decide (0 < s.f LOG_STAT_UNREAD) && !s.on PWR_CFG_DORM_DISCARD
    | 11 => src == 1 && decide (2 ≤ tgt) && s.hostBusy w
    | _ => false)

/-- The counter of a refuser code in PWR_REF. -/
def refF (c : Nat) : Fld :=
  match c % 4 with
  | 0 => PWR_REF_CNT_0 (c / 4)
  | 1 => PWR_REF_CNT_1 (c / 4)
  | 2 => PWR_REF_CNT_2 (c / 4)
  | _ => PWR_REF_CNT_3 (c / 4)

/-- The refuser codes below `n` that a mask names. -/
def codesOf (mask n : Nat) : List Nat := (List.range n).filter (bitOf mask)

/-- PWR_LAST and PWR_REF take an outcome (R420): 1 DONE, 2 REFUSED, 3 ABORTED, 4 SUPERSEDED, with the codes that refused,
ascending. -/
def pwrOutcome (out tgt ap : Nat) (codes : List Nat) (s : State) : State :=
  let s := if s.feature 1 then codes.foldl (fun t c => t.inc (refF c)) s else s
  let s := (((s.setWord PWR_LAST_A 0).set PWR_LAST_OUTCOME out).set PWR_LAST_TGT tgt).set PWR_LAST_AP ap
  (s.set PWR_LAST_REFUSER (codes.headD 0)).set PWR_LAST_REF_MASK (packBits 15 (fun b => codes.contains (b + 1)))

/-- PWR_LAST as it reads (R420). -/
def State.pwrLast (s : State) : Word := if s.feature 1 then s.word PWR_LAST_A else 0

/-- The status code of an outcome (*Status codes*). -/
def pwrStatus (out : Nat) : Nat := if out = 1 then 0 else if out = 2 then 0x10 else if out = 3 then 0x11 else 0x12

/-- A request ends with an outcome. -/
def pwrEnd (w : Who) (out tgt ap : Nat) (codes : List Nat) (s : State) : State :=
  let s := pwrOutcome out tgt ap codes s
  answer w (pwrStatus out) [s.pwrLast] s

/-- A request arrives (R414, R419). -/
def pwrRequest (tgt : Nat) (w : Who) (s : State) : State :=
  if s.pw.entry.isSome || s.pw.req.isSome then
    let s := match s.pw.pend with
      | some p => pwrEnd p.who 4 p.tgt 0 [0x1F] s
      | none => s
    { (s.setB PWR_STAT_PEND true).set PWR_STAT_PEND_TGT tgt with pw := { s.pw with pend := some ⟨tgt, w, false⟩ } }
  else { s with pw := { s.pw with req := some ⟨tgt, w, false⟩ } }

/-- The pending request takes its turn. -/
def pwrNext (s : State) : State :=
  { (s.setB PWR_STAT_PEND false).set PWR_STAT_PEND_TGT 0 with pw := { s.pw with req := s.pw.pend, pend := none } }

/-! ### DVFS (R46, R426) -/

/-- The loads that the last budget check left fit the windows of a point (R45, R46). -/
def State.loadsFit (s : State) (point : Nat) : Bool :=
  let w := passCycles s.tNs (100 * (point + 1))
  (List.range 8).all (fun l => decide (s.f (SLICE_LOAD_PLAIN l) ≤ w) && decide (s.f (SLICE_LOAD_CODED l) ≤ w)) &&
    decide (s.f SPARE_LOAD_RERUN ≤ reserveCycles s.tNs (100 * (point + 1)))

/-- Voltage of D2 at a point in mV (*DVFS points*). -/
def pointMv (p : Nat) : Nat := if p = 0 then 720 else if p = 1 then 760 else if p = 2 then 820 else 880

/-- The timebase period before which a ramp that starts now from point `a` has not settled at point `p`: 10 mV/µs, then 2 µs. -/
def State.rampEnds (s : State) (a p : Nat) : Nat := s.tb + 400 + 20 * ((pointMv a : Int) - pointMv p).natAbs

/-- A transition to a point starts, or its target is replaced: upwards, and at the clock in force, the voltage ramps at once; downwards
the clock falls first. A ramp that takes over another starts from where that one stands, which its 2 µs bound alone. -/
def startDvfs (point : Nat) (s : State) : State :=
  let clk := s.f PWR_DVFS_FPT
  if s.pw.dvfs = none ∧ clk = point ∧ s.f PWR_DVFS_VPT = point then
    { s.setB PWR_DVFS_BUSY false with pw := { s.pw with dvfs := none, fell := false, rampEnd := none } }
  else
    let from_ := if s.pw.dvfs.isNone then s.f PWR_DVFS_VPT else point
    { s.setB PWR_DVFS_BUSY true with pw := { s.pw with
      dvfs := some point
      fell := point == clk
      rampEnd := if point < clk then none else some (s.rampEnds from_ point) } }

/-- Start-up still holds D2 at the 400 MHz point (*Start-up steps*, R403). -/
def State.startPoint (s : State) : Bool := decide (s.f SU_STAT_STEP < 5) && !s.on BIST_STAT_FAST_OK

/-- A point is requested: refused by TICK when the loads do not fit; in QUIET and during start-up it is stored. -/
def dvfsJudge (point : Nat) (s : State) : Bool × State :=
  if s.loadsFit point then
    let s := s.set PWR_DVFS_POINT point
    (false, if s.f PWR_STAT_STATE = 0 ∧ !s.startPoint then startDvfs point s else s)
  else (true, pwrOutcome 2 0 0 [2] s)

/-- A write of PWR_DVFS.POINT: during a COMMIT it is judged at its completion (R466); whether it was refused. -/
def dvfsRequest (point : Nat) (s : State) : Bool × State :=
  if s.committing then (false, { s with pw := { s.pw with late := some point } })
  else
    let r := dvfsJudge point s
    (r.1, r.2)

/-- The engine clock switches at a TICK: upwards once the voltage has settled, downwards before the voltage ramps. -/
def dvfsSwitch (s : State) : State :=
  match s.pw.dvfs with
  | none => s
  | some p =>
    if s.f PWR_DVFS_FPT < p then
      let s := ((s.set PWR_DVFS_VPT p).set PWR_DVFS_FPT p).setB PWR_DVFS_BUSY false
      { s with pw := { s.pw with dvfs := none, rampEnd := none, switchTb := some s.tb } }
    else
      let end_ := if s.pw.fell then s.pw.rampEnd else some (s.rampEnds (s.f PWR_DVFS_VPT) p)
      { s.set PWR_DVFS_FPT p with pw := { s.pw with fell := true, rampEnd := end_, switchTb := some s.tb } }

/-- The voltage of a ramp may have settled by now: no sooner than its nominal end, and after that when it does is a free choice
(log entry 119). VPT then shows the target, and a transition whose clock already runs at it is over. -/
def dvfsSettle (s : State) : State :=
  match s.pw.dvfs, s.pw.rampEnd with
  | some p, some e =>
    if s.tb < e then s
    else
      let q := s.fresh
      let s := q.2
      if !q.1.getLsbD 0 then s
      else
        let s := { s.set PWR_DVFS_VPT p with pw := { s.pw with rampEnd := none } }
        if s.pw.fell then { s.setB PWR_DVFS_BUSY false with pw := { s.pw with dvfs := none, fell := false } } else s
  | _, _ => s

/-- DVFS_TMO: the ramp goes on at the clock of the lower point. -/
def dvfsTmo (s : State) : State := if s.pw.dvfs.isSome then s.raiseU 0x341 else s

/-! ### States (R413, R415, R424) -/

/-- The registers of a page but its header are at their LRST values (R511). -/
def pageOff (pg : Nat) (s : State) : State :=
  { s with regs := smMap porWord (fun a w => if a / 0x400 = pg ∧ 0x040 ≤ a % 0x400 then lrstWord a w else w) s.regs }

/-- D6 switches off: the gate array, gate supplies and auxiliary outputs keep nothing but pins and repairs; a retry of the off-state
diagnostics stays due (R478). -/
def d6Off (s : State) : State :=
  let gd := (List.range 8).map (fun g => s.on (BG_STAT_GD_EN g))
  let s := s.each ((List.range 11).map (fun k => 0x020 + k)) pageOff
  let s := s.each (List.range 8) (fun g t => t.setB (BG_STAT_GD_EN g) (gd.getD g false))
  { s with hbs := [], vdus := [], grps := smMap (fun _ => {}) (fun _ g => ({ retry := g.retry } : GroupSt)) s.grps, aux := { hovEp := s.aux.hovEp, chopAbove := s.aux.chopAbove } }

/-- QUIET is entered: the 100 MHz point, D6 off, D5 for the wheel-speed inputs only (R415). Start-up before admission stops
(R480). -/
def enterQuiet (s : State) : State :=
  let s := d6Off s
  let s := ((s.set PWR_STAT_STATE 1).setBit PWR_STAT_DOM_ON 6 false).setB PWR_STAT_D5_PART true
  let s := (((s.set PWR_DVFS_FPT 0).set PWR_DVFS_VPT 0).setB PWR_DVFS_BUSY false).set BIST_STAT_MODE 0
  { s.inc PWR_CNT_QUIET with
    pw := { s.pw with dvfs := none, fell := false, rampEnd := none, switchTb := some s.tb }
    su := { s.su with stopped := s.su.stopped || !s.on SU_STAT_ADMITTED } }

/-- QUIET is left for RUN (R415, R422, R426, R442): D6 restarts, and start-up that had stopped resumes at step 3 (R480), or in
the step before it that it had not passed. -/
def toRun (s : State) : State :=
  let s := ((s.set PWR_STAT_STATE 0).setBit PWR_STAT_DOM_ON 6 true).setB PWR_STAT_D5_PART false
  let s := (s.set PWR_PADCHK_PASS 0).set PWR_PADCHK_FAIL 0
  let s := peerFlush 12 (peerFlush 1 (peerReset 0 s))
  if s.su.stopped && !s.on FLT_TERM_TERM then
    startDvfs 3 { ((s.set SU_STAT_STEP (min 3 (s.f SU_STAT_STEP))).setB JAN_STAT_START_OK false).setB BIST_STAT_FAST_OK false with
      su := { s.su with stopped := false, diag := false } }
  else startDvfs (s.f PWR_DVFS_POINT) s

/-- The event log, its pointers and counters are cleared (R389). -/
def clearLog (s : State) : State :=
  let s := [LOG_STAT_A, LOG_WPTR_A, LOG_RPTR_A, LOG_TOTAL_A, LOG_CNT_A].foldl (fun t a => t.setWord a (porWord a)) s
  { s with flt := { s.flt with
    buf := [], ring := [], lossNext := false, lossEp := false, fullEp := false, overEp := false, freeze := none } }

/-- The STATE bank is at its POR values: first-fault latch, return counts, role bars, PWR_CNT, PWR_REF (R429). The bar of the lane is none
of it and lasts until POR (R265, R282). -/
def clearState (s : State) : State :=
  let barred := s.on LN_TB_BARRED
  let s := [FLT_FIRST_A, FLT_FIRST_T_LO_A, FLT_FIRST_T_HI_A, FLT_FIRST_DATA_A, LN_TB_A, PWR_CNT_A].foldl
    (fun t a => t.setWord a (porWord a)) s
  let s := (s.setB LN_TB_BARRED barred).set LN_ROLE_BARRED 0
  s.each (List.range 8) (fun i t => t.setWord (PWR_REF_A i) 0)

/-- The fields of configuration at their POR values: CONFIG is lost, non-volatile memory follows at Configuration. -/
def configWord (a : Nat) (w : Word) : Word :=
  if fsBase ≤ a then porWord a
  else
    let m := maskWhere (fun f => f.scope == .por && (f.acc == .rwl || f.acc == .rw)) (fieldsAt a)
    (w &&& ~~~ m) ||| (porWord a &&& m)

def clearConfig (s : State) : State := { s with regs := smMap porWord configWord s.regs }

/-- What a wake from RETAIN or DORMANT keeps of the power manager's registers, with the time slept (R424): `slow` periods of
32.768 kHz. -/
def wakeRegs (code slow : Nat) (o s : State) : State :=
  let s := (s.setWord PWR_PAD_A (o.word PWR_PAD_A)).setWord PWR_WAKE_A (o.word PWR_WAKE_A)
  let s := (s.inc PWR_WAKE_COUNT).set PWR_WAKE_LAST_SRC code
  let s := s.set PWR_SLEEP_DURATION (satU 32 slow)
  let ns := o.pw.wakeNs + slow * 10 ^ 9 * 2 ^ 32 / 32768
  setNt 0 { s with time := ns, tk := { s.tk with phase := o.pw.wakePhase } }

/-- A wake from RETAIN (R424, R429): `bad` are the banks whose signature fails. -/
def wakeRetain (code slow bad : Nat) (s : State) : State :=
  let o := s
  let s := { wakeRegs code slow o (lrstCore 2 s) with cf := {} }
  let s := (s.setWord PWR_CNT_A (o.word PWR_CNT_A)).each (List.range 8) (fun i t => t.setWord (PWR_REF_A i) (o.word (PWR_REF_A i)))
  let s := (s.set PWR_DVFS_FPT 0).set PWR_DVFS_VPT 0
  let s := if bitOf bad 1 then ((clearState s).set LN_TB_LANE_RET 3).set LN_TB_ROLE_RET 0xFF else s
  let s := if bitOf bad 0 then
      let t := clearLog s
      let e : LogE := ⟨BitVec.ofNat 32 t.ns, BitVec.ofNat 32 (t.ns / 2 ^ 32),
        BitVec.ofNat 32 (0x340 * 2 ^ 22 + t.srcClass 0x340 * 2 ^ 20 + b2n t.unsync * 2 ^ 19 + 2 ^ 13), 0xFFFFFFFF⟩
      bufferEntry e t
    else s
  let s := if bitOf bad 2 then (clearConfig s).set PWR_STAT_RESTORING 4 else s
  let s := if bad % 8 = 0 then s else (s.hwSet PWR_RET_A (BitVec.ofNat 32 (bad % 8))).raise 0x340 (bad % 8)
  let s := if s.on LN_TB_BARRED || s.on FLT_TERM_TERM then s else
    { s.set LN_STAT_STATE 0 with hold := { s.hold with lane := false } }
  startDvfs 3 s

/-- A wake from DORMANT (R424, R425): D1 is cleared. -/
def wakeDormant (code slow : Nat) (s : State) : State :=
  let o := s
  let s := { wakeRegs code slow o (lrstCore 3 s) with cf := {} }
  let s := clearConfig (clearState (clearLog ((s.set PWR_DVFS_FPT 0).set PWR_DVFS_VPT 0)))
  let s := if s.on LN_TB_BARRED || s.on FLT_TERM_TERM then s else
    { s.set LN_STAT_STATE 0 with hold := { s.hold with lane := false } }
  startDvfs 3 s

/-- The wake record: network time and tick phase (R364, R415). -/
def wakeRecord (s : State) : State := { s with pw := { s.pw with wakeNs := s.time, wakePhase := s.tk.phase } }

/-- RETAIN or DORMANT is entered (R415): the wake record, the domains off. -/
def enterDeep (tgt : Nat) (s : State) : State :=
  let s := wakeRecord s
  let s := (s.inc (if tgt = 2 then PWR_CNT_RETAIN else PWR_CNT_DORMANT)).set PWR_STAT_STATE tgt
  s.set PWR_STAT_DOM_ON (if tgt = 2 then 3 else 1)

/-! ### Wakes (R422) -/

/-- A wake source is armed in the entry that runs (*Wake sources*). -/
def State.armed (s : State) (code : Nat) : Bool :=
  match s.pw.entry with
  | none => false
  | some e =>
    let ap := s.f PWR_STAT_AP
    match code with
    | 0x10 => true
    | 0x11 => e.tgt == 3 && decide (2 ≤ ap)
    | 0x12 => e.tgt == 2 && decide (2 ≤ ap)
    | 0x13 => e.tgt == 2 && decide (2 ≤ ap)
    | _ => e.tgt == 1 && decide (4 ≤ ap)

/-- The states a source wakes from. -/
def wakesFrom (code st : Nat) : Bool :=
  match code with
  | 0x10 => st != 0
  | 0x11 => st == 3
  | 0x12 => st == 2
  | 0x13 => st == 2
  | _ => st == 1

/-- The lane wakes. -/
def wakeNow (code slow bad : Nat) (s : State) : State :=
  match s.f PWR_STAT_STATE with
  | 1 => toRun (s.set PWR_WAKE_LAST_SRC code)
  | 2 => wakeRetain code slow bad s
  | 3 => wakeDormant code slow s
  | _ => s

/-- The period of 32.768 kHz that runs, counted in the timebase. -/
def State.slowPeriod (s : State) : Nat := s.tb * 32768 / 200000000

/-- A source fires now: it is the first that did, or takes the first one's place with a lower code in the same period (R422). -/
def noteWake (code : Nat) (s : State) : State :=
  let me := (s.slowPeriod, code, s.f PWR_STAT_STATE)
  let first := match s.pw.first with
    | none => me
    | some f => if f.1 = me.1 ∧ code < f.2.1 then (f.1, code, f.2.2) else f
  { s with pw := { s.pw with first := some first } }

/-- The code of the first wake, `c` where none is noted. -/
def State.firstWake (s : State) (c : Nat) : Nat := match s.pw.first with
  | some f => f.2.1
  | none => c

/-- A source that wakes from the state just left fires in the period of the wake, with a lower code (R422). -/
def State.sameWake (s : State) (code : Nat) : Bool := match s.pw.first with
  | some f => f.1 == s.slowPeriod && decide (code < f.2.1) && wakesFrom code f.2.2 && s.f PWR_STAT_STATE == 0
  | none => false

/-- The lane wakes with a source that fires now. -/
def wakeFresh (code slow bad : Nat) (s : State) : State :=
  let me := (s.slowPeriod, code, s.f PWR_STAT_STATE)
  let s := wakeNow code slow bad s
  { s with pw := { s.pw with first := some me } }

/-- A wake source fires: an ordinary wake, or one that falls in an entry (R416, R417, R422). -/
def wakeFires (code slow bad : Nat) (s : State) : State :=
  if !s.fbit PWR_CFG_WAKE_EN (code - 0x10) then s
  else if s.pw.entry.isSome then
    if s.armed code && !s.pw.fired.contains code then noteWake code { s with pw := { s.pw with fired := s.pw.fired ++ [code] } } else s
  else if wakesFrom code (s.f PWR_STAT_STATE) then wakeFresh code slow bad s
  else if s.sameWake code then noteWake code (s.set PWR_WAKE_LAST_SRC code)
  else s

/-! ### Entry (R414-R418) -/

/-- POWER_REQUEST_EVALUATE: at the first TICK after its arrival. -/
def pwrEvaluate (s : State) : State :=
  match s.pw.req with
  | none => s
  | some r =>
    if !r.ready then s
    else
      let src := s.f PWR_STAT_STATE
      let s := { s with pw := { s.pw with req := none } }
      if r.tgt = src then pwrNext (pwrEnd r.who 1 r.tgt 0 [] s)
      else
        let m := s.refusers src r.tgt r.who
        if m ≠ 0 then pwrNext (pwrEnd r.who 2 r.tgt 0 (codesOf m 12) s)
        else if r.tgt = 0 then pwrNext (pwrEnd r.who 1 0 0 [] (toRun s))
        else
          let s := (s.setB PWR_STAT_ENTRY true).set PWR_STAT_AP 0
          { s with pw := { s.pw with
            entry := some { tgt := r.tgt, src := src, who := r.who }, fired := [], first := none, cdc := false } }

/-- What stops an entry at an abort point: refuser codes and, with NATIVE_ABORT, the wakes that fired. -/
def State.stoppers (s : State) (e : PEntry) : List Nat :=
  let m := s.refusers e.src e.tgt e.who
  let m := if s.pw.cdc || s.xStopped 17 then withBit m 1 true else m
  codesOf m 12 ++ (if s.feature 0 then (List.range 5).filterMap (fun k =>
    if s.pw.fired.contains (0x10 + k) then some (0x10 + k) else none) else [])

/-- The networks are detached (*Abort points*, AP2). -/
def State.detached (s : State) : Bool :=
  match s.pw.entry with
  | some e => decide (2 ≤ e.tgt) && decide (2 ≤ s.f PWR_STAT_AP)
  | none => false

/-- The entry is abandoned at abort point `ap` (R416, R418). -/
def abandon (e : PEntry) (ap : Nat) (codes : List Nat) (s : State) : State :=
  let det := s.detached
  let s := releaseEntryPads s
  let s := match codes.find? (fun c => decide (0x10 ≤ c)) with
    | some c => s.set PWR_WAKE_LAST_SRC (s.firstWake c)
    | none => s
  let s := { (s.setB PWR_STAT_ENTRY false).inc PWR_CNT_ABORTED with
    pw := { s.pw with entry := none, fired := [], cdc := false, wakeNs := 0, wakePhase := 0, sig := [] } }
  let s := if det then
      s.each [0, 1] (fun c t => if bitOf e.chans c && t.portOn (2 * c) then freshChan c (toListen c t) else t)
    else s
  let out := if codes.any (fun c => decide (c < 0x10)) then 2 else 3
  pwrNext (pwrEnd e.who out e.tgt ap codes s)

/-- The entry passes abort point `ap`, latching pad groups. -/
def passAp (e : PEntry) (ap pads : Nat) (s : State) : State :=
  let new := Nat.land pads (Nat.xor (s.f PWR_PAD_HELD) 0xFFFF)
  let s := (s.set PWR_PAD_HELD (Nat.lor (s.f PWR_PAD_HELD) new)).set PWR_STAT_AP ap
  { s with pw := { s.pw with entry := some { e with latched := Nat.lor e.latched new, ticked := false, cycled := false } } }

/-- At an abort point: abandon, or go on. -/
def atAp (ap : Nat) (ok : PEntry → Bool) (go : PEntry → State → State) (s : State) : State :=
  match s.pw.entry with
  | none => s
  | some e =>
    if s.f PWR_STAT_AP + 1 ≠ ap ∨ !ok e then s
    else
      let l := s.stoppers e
      if l = [] then go e s else abandon e ap l s

/-- The networks detach: every channel OFF, Charon closed, Moamel transmitters idle. -/
def detach (s : State) : State :=
  let s := charonClose (s.each [0, 1] (fun c t => showBackoff (freshChan c (t.set (chStateF c) 0))))
  s.each [0, 1, 2, 3] (fun m t => (t.set (LK_STAT_STATE m) 0).setLink m {})

/-- AP1: outputs safe, at the TICK after acceptance. -/
def ap1 (s : State) : State :=
  atAp 1 (fun e => e.ticked) (fun e s => passAp e 1 (if e.tgt = 1 then 0x1FFF else 0x2000) s) s

/-- AP2: network detached, at the first cycle start after AP1; passed at once towards QUIET. -/
def ap2 (s : State) : State :=
  atAp 2 (fun e => e.tgt == 1 || e.cycled) (fun e s =>
    if e.tgt = 1 then passAp e 2 0 s
    else detach (passAp { e with chans := packBits 2 (fun c => s.chState c != 0) } 2 0xC000 s)) s

/-- The signatures of the three banks are stored. They are CRC-32 over the images of the banks, whose layout the specification does not
give: free values (log entry 120). -/
def signBanks (s : State) : State :=
  let a := s.fresh
  let b := a.2.fresh
  let c := b.2.fresh
  { c.2 with pw := { c.2.pw with sig := [a.1, b.1, c.1] } }

/-- AP3: signatures, towards RETAIN, and wake record written (R415, R429). Towards QUIET the two last abort points pass at once, so the
poll of AP4 is this one too. -/
def ap3 (s : State) : State :=
  atAp 3 (fun _ => true) (fun e s =>
    let s := passAp e (if e.tgt = 1 then 4 else 3) 0 s
    if e.tgt = 1 then s else wakeRecord (s.when (e.tgt == 2) signBanks)) s

/-- The entry ends in its state; without NATIVE_ABORT a wake that fired acts at once from there (R417). -/
def arrive (e : PEntry) (s : State) : State :=
  let fired := s.pw.fired
  let s := (s.setB PWR_STAT_ENTRY false).set PWR_STAT_AP 4
  let s := { s with pw := { s.pw with entry := none, fired := [] } }
  let s := pwrEnd e.who 1 e.tgt 0 [] s
  let s := pwrNext (if e.tgt = 1 then enterQuiet s else enterDeep e.tgt s)
  match fired with
  | c :: _ => wakeNow (s.firstWake c) 0 0 s
  | [] => s

/-- AP4: before the domains switch off; towards QUIET, the TICK after. -/
def ap4 (s : State) : State :=
  match s.pw.entry with
  | none => s
  | some e =>
    if e.tgt = 1 then (if s.f PWR_STAT_AP = 4 ∧ e.ticked then arrive e s else s)
    else atAp 4 (fun _ => true) arrive s

/-- What a TICK does for the power manager: a request becomes due, the entry has seen a TICK and a cycle start. -/
def pwrTick (cycle : Bool) (s : State) : State :=
  let s := { s with pw := { s.pw with
    req := s.pw.req.map (fun r => { r with ready := true })
    entry := s.pw.entry.map (fun e => { e with ticked := true, cycled := e.cycled || (cycle && decide (1 ≤ s.f PWR_STAT_AP)) }) } }
  dvfsSettle s

/-! ### The Halley pattern (R423) -/

/-- The half bits of a run on the wake pair: its differential level in mV (at least 0.5 V either way) and its time in ns, one or two
halves of a bit of 8 periods of 32.768 kHz, within 10 %. -/
def halves (run : Int × Nat) : Option (List Bool) :=
  let high := decide (500 ≤ run.1)
  let near := fun (n : Nat) => decide (36 * n * 10 ^ 9 ≤ 327680 * run.2) && decide (327680 * run.2 ≤ 44 * n * 10 ^ 9)
  if !high && decide (-500 < run.1) then none
  else if near 1 then some [high] else if near 2 then some [high, high] else none

/-- The half bits of a wave, none where one of its runs is out of tolerance. -/
def halfBits : List (Int × Nat) → Option (List Bool)
  | [] => some []
  | r :: rs => match halves r, halfBits rs with
    | some a, some b => some (a ++ b)
    | _, _ => none

/-- Manchester coding: a 1 is high then low, a 0 low then high; none where it is broken. -/
def manchester : List Bool → Option (List Bool)
  | [] => some []
  | true :: false :: l => (manchester l).map (true :: ·)
  | false :: true :: l => (manchester l).map (false :: ·)
  | _ => none

/-- The number that bits spell, most significant first. -/
def ofBits (l : List Bool) : Nat := l.foldl (fun n b => 2 * n + b2n b) 0

/-- The code of a Halley pattern: the preamble 1010 and 16 bits. -/
def halleyCode (wave : List (Int × Nat)) : Option Nat :=
  match (halfBits wave).bind manchester with
  | some bits => if bits.length = 20 ∧ bits.take 4 = [true, false, true, false] then some (ofBits (bits.drop 4)) else none
  | none => none

/-! ### Pads and supplies (R411, R427, R428) -/

/-- The supply of a pad group's pins is on. -/
def State.padSupply (s : State) (g : Nat) : Bool :=
  if g < 12 then s.dom 6 else if g = 12 then s.dom 5 && !s.on PWR_STAT_D5_PART else if g = 13 then s.dom 5
  else if g = 14 then s.dom 3 else s.dom 4

/-- The write of PWR_PAD_REL releases pad group g. -/
def State.padRelease (s : State) (g : Nat) : Bool :=
  s.fbit PWR_PAD_HELD g && s.padSupply g && (decide (8 ≤ g) || s.fbit PWR_PADCHK_PASS g)

/-- A write of PWR_PAD_REL; whether a release was refused. -/
def padRel (v : Nat) (s : State) : Bool × State :=
  let asked := (List.range 16).filter (bitOf v)
  let ok := asked.filter s.padRelease
  let t := s.each ok (fun g t => t.setBit PWR_PAD_HELD g false)
  if ok.length = asked.length then (false, t) else (true, t)

/-- PAD_CHECK (R428): one check of each group follows a power-up of D6. -/
def padCheck (g : Nat) (pass : Bool) (s : State) : State :=
  if s.fbit PWR_PADCHK_PASS g || s.fbit PWR_PADCHK_FAIL g then s
  else if pass then s.setBit PWR_PADCHK_PASS g true else (s.setBit PWR_PADCHK_FAIL g true).raise 0x342 g

/-- A SITIL or MOAMEL wake comes from an enabled receiver. -/
def State.wakePort (s : State) (p : Nat) : Bool := s.on (PG_CTL_EN (0x041 + p)) && (decide (p < 2) || s.part == .a)

/-! ### The commands that complete no host command -/

/-- WAKE_N (R422). -/
def execWakeN (slow : Nat) (bad : BitVec 3) (s : State) : Res := s.runIn 0 (wakeFires 0x10 slow bad.toNat)

/-- HALLEY (R423): a pattern with any other code, or with a broken coding, does not fire. -/
def execHalley (wave : List (Int × Nat)) (slow : Nat) (s : State) : Res :=
  s.runIf 0 (halleyCode wave == some (s.f PWR_HALLEY_CODE)) (wakeFires 0x11 slow 0)

/-- SITIL_WAKE (R422). -/
def execSitilWake (p : Fin 4) (slow : Nat) (bad : BitVec 3) (s : State) : Res :=
  s.runIf 0 (s.wakePort p) (wakeFires 0x12 slow bad.toNat)

/-- MOAMEL_WAKE (R422). -/
def execMoamelWake (m : Fin 4) (slow : Nat) (bad : BitVec 3) (s : State) : Res :=
  s.runIf 0 (s.on (LK_CFG_EN m)) (wakeFires 0x13 slow bad.toNat)

/-- WHEEL_WAKE (R422). -/
def execWheelWake (w : Fin 12) (s : State) : Res := s.runIf 0 (s.on (WS_CFG_EN w)) (wakeFires 0x14 0 0)

/-- PWR_PAD_REL (R427). -/
def execPwrPadRel (v : BitVec 32) (s : State) : Res := s.runIn 7 (fun s => counted 0x005 (padRel v.toNat s))

/-- PAD_CHECK (R428). -/
def execPadCheck (g : Fin 8) (pass : Bool) (s : State) : Res := s.runIn 6 (padCheck g pass)

/-- DVFS_REQUEST (R426). -/
def execDvfsRequest (point : BitVec 2) (s : State) : Res := s.runIn 7 (fun s => counted 0x005 (dvfsRequest point.toNat s))

/-- DVFS_CLOCK_SWITCH (R426). -/
def execDvfsClockSwitch (s : State) : Res := s.runIn 2 dvfsSwitch

/-- DVFS_TMO (R426). -/
def execDvfsTmo (s : State) : Res := s.runIn 2 dvfsTmo

/-- DOM_SUPPLY (R411). -/
def execDomSupply (d : Fin 8) (s : State) : Res := s.runIf d (d.val != 0) (fun s => s.raise 0x343 d)

end Sys2Proof.Machine
end

