-- ==== Sys2Proof/Machine/Clocks.lean ====
section
/-!
DEFINITION. Clock monitoring and the timeouts of domain crossings (R432-R446).
-/
namespace Sys2Proof.Machine

/-! ### TCXO, PLLs, frequencies (R434-R436) -/

/-- TCXO_CHECK: both comparisons off by more than 200 ppm, twice in a row, is a failed TCXO; network time
enters HOLDOVER at its last rate. -/
def tcxoCheck (chr aon : Int) (s : State) : State :=
  let bad := decide (200 < chr.natAbs) && decide (200 < aon.natAbs)
  let run := if bad then min 2 (s.ck.tcxo + 1) else 0
  let was := s.on CLK_TCXO_ST_FAILED
  let s := (s.setI CLK_TCXO_ST_DEV_CHR (satSigned 8 chr)).setI CLK_TCXO_ST_DEV_AON (satSigned 8 aon)
  let s := { s.setB CLK_TCXO_ST_FAILED (run == 2) with ck := { s.ck with tcxo := run } }
  if run = 2 ∧ !was then enterHoldover (s.raiseU 0x360) else s

/-- PLL_LOCK_LOSS: 0 PLL_A, 1 PLL_E, 2 PLL_M. -/
def pllLoss (i : Nat) (s : State) : State :=
  if 3 ≤ i then s
  else
    let s := { (s.setBit CLK_PLL_ST_LOCK i false).inc CLK_CNT_LOCK_LOSS with ck := { s.ck with pll := withBit s.ck.pll i false } }
    let s := s.raise 0x361 i
    if i = 0 then applyHolds { s with hold := { s.hold with pll := true } } else s

/-- PLL_LOCK. -/
def pllLock (i : Nat) (s : State) : State :=
  if 3 ≤ i then s
  else { s.setBit CLK_PLL_ST_LOCK i true with ck := { s.ck with pll := withBit s.ck.pll i true } }

/-- At a TICK a PLL that is locked is used again: the hold of PLL_A may end (R435). -/
def pllTick (s : State) : State :=
  { s.set CLK_PLL_ST_LOCK s.ck.pll with hold := { s.hold with pll := s.hold.pll && !bitOf s.ck.pll 0 } }

/-- Nominal frequency of a clock in kHz, AON in Hz (*Clock domains*); ENG at the clock point in force. -/
def State.nominal (s : State) (i : Nat) : Nat :=
  if i = 0 then 1000 * s.engMhz else if i < 6 then 200000 else if i < 10 then 312500
  else if i = 10 then 80000 else if i = 11 then 800000 else if i = 12 then 20000 else 32768

/-- The ENG window that ends now, of 10 µs, holds a DVFS clock switch (R436). -/
def State.engSwitched (s : State) : Bool := match s.pw.switchTb with
  | some t => decide (s.tb - t < 2000)
  | none => false

/-- CLK_FREQ: one measurement window of a clock; two in a row outside ±5 % are an episode. HP is not counted: the event says only whether
it makes edges (R433, R445). -/
def clkFreq (i meas : Nat) (s : State) : State :=
  if i = 14 then s.setBit CLK_STAT_PRESENT 14 (meas != 0)
  else if 14 ≤ i then s
  else
    let s := { s.setBit CLK_STAT_PRESENT i (meas != 0) with ck := { s.ck with khz := smPut (fun _ => 0) s.ck.khz i (satU 28 meas) } }
    if i = 0 ∧ s.engSwitched then s
    else
      let nom := s.nominal i
      let bad := decide (nom < 20 * ((meas : Int) - nom).natAbs)
      let was := smGet (fun _ => 0) s.ck.bad i
      let run := if bad then min 2 (was + 1) else 0
      let s := { s with ck := { s.ck with bad := smPut (fun _ => 0) s.ck.bad i run } }
      if !bad then s.setBit CLK_STAT_IN_TOL i true
      else if run = 2 ∧ was ≠ 2 then ((s.setBit CLK_STAT_IN_TOL i false).inc CLK_CNT_FREQ).raise 0x362 i
      else s

/-! ### Crossings (R440) -/

/-- CDC_TIMEOUT: once per episode; none while a clock switch holds the watchdog (R441). -/
def cdcTimeout (i : Nat) (s : State) : State :=
  if 18 ≤ i ∨ !s.xOpen i ∨ s.xStopped i ∨ s.xHeld i then s
  else xConsequence i (((flushX i (s.setBit CDC_TMO_STOPPED i true)).inc (CDC_XST_TIMEOUTS i)).raise 0x370 i)

/-- CDC_RESUME. -/
def cdcResume (i : Nat) (s : State) : State := if 18 ≤ i then s else s.setBit CDC_TMO_STOPPED i false

/-! ### The commands -/

/-- TCXO_CHECK (R434). -/
def execTcxoCheck (chrPpm aonPpm : Int) (s : State) : Res := s.runIn 2 (tcxoCheck chrPpm aonPpm)

/-- PLL_LOCK_LOSS (R435). -/
def execPllLockLoss (i : Fin 4) (s : State) : Res := s.runIn 2 (pllLoss i)

/-- PLL_LOCK (R435). -/
def execPllLock (i : Fin 4) (s : State) : Res := s.runIn 2 (pllLock i)

/-- CLK_FREQ (R436). -/
def execClkFreq (i : Fin 16) (meas : BitVec 32) (s : State) : Res := s.runIn 2 (clkFreq i meas.toNat)

/-- CDC_TIMEOUT (R440). -/
def execCdcTimeout (i : Fin 32) (s : State) : Res := s.runIn 2 (cdcTimeout i)

/-- CDC_RESUME (R440). -/
def execCdcResume (i : Fin 32) (s : State) : Res := s.runIn 2 (cdcResume i)

end Sys2Proof.Machine
end

