-- ==== Sys2Proof/Machine/ConfCheck.lean ====
section
/-!
DEFINITION. The checks a COMMIT makes (R466): ranges and relations of the configuration (R517 and the chapters), the schedule
(R322), changes that need outputs off, and the two budget checks (R44, R300). Each judges the state with the pending words in
force.
-/
namespace Sys2Proof.Machine

/-- `lo ≤ v ≤ hi`. -/
def within (lo hi v : Nat) : Bool := decide (lo ≤ v) && decide (v ≤ hi)

/-- A stated range of one field over its instances in use. -/
def State.rng (t : State) (n : Nat) (use : Nat → Bool) (x : Nat → Fld) (lo hi : Nat) : Bool :=
  (List.range n).all (fun i => !use i || within lo hi (t.f (x i)))

/-- A stated range of a field that has one instance. -/
def State.rng1 (t : State) (x : Fld) (lo hi : Nat) : Bool := within lo hi (t.f x)

/-- Every listed condition holds. -/
def allOf (l : List Bool) : Bool := l.all id

/-! ### Instances in use (R517, *Instances checked*) -/

/-- Half-bridges of an axis (R119). -/
def State.confHbs (t : State) (n : Nat) : List Nat :=
  (List.range (if t.on (AX_CFG_SIX n) then 6 else 3)).map (fun k => t.f (AX_CFG_HB_BASE n) + k)

/-- A configured axis uses half-bridge h. -/
def State.hbUsed (t : State) (h : Nat) : Bool := t.confAxes.any (fun n => (t.confHbs n).contains h)

/-- A configured axis uses unit u (R121). -/
def State.unitUsed (t : State) (u : Nat) : Bool :=
  t.confAxes.any (fun n => (t.confHbs n).any (fun h => h / 3 == u))

/-- An enabled wheel-end names axle a (R156). -/
def State.axleUsed (t : State) (a : Nat) : Bool :=
  (List.range 12).any (fun w => t.on (BLD_WHL_EN w) && t.f (BLD_WHL_AXLE w) == a)

/-! ### Ranges and relations (R517), page by page -/

/-- The cycle length that the configuration gives, ns. -/
def State.confC (t : State) : Nat := t.confT * t.f TICK_CFG_CYCLE_TICKS

/-- TICK page (R33, R54). -/
def State.okTick (t : State) : Bool := allOf [
  t.rng1 TICK_CFG_CYCLE_TICKS 10 200, t.rng1 TICK_CFG_SRC 0 1, t.rng1 TICK_CFG_LEN 0 2,
  decide (t.f TICK_PHASE_PHASE_NS < t.confT)]

/-- AIN channels (R85). -/
def State.okChan (t : State) : Bool :=
  let use := fun c => t.on (CH_CFG_EN c)
  allOf [
    t.rng 96 use CH_CFG_FRZ_N 2 255, t.rng 96 use CH_CFG_RANGE_N 1 15, t.rng 96 use CH_CFG_XL_N 1 255,
    t.rng 96 use CH_TOL_FRZ_DELTA 2 65535,
    (List.range 96).all (fun c => !use c || decide (t.fI (CH_LIM_LO c) < t.fI (CH_LIM_HI c)))]

/-- Exactly one configured axis names the input as SRC_X (R520). -/
def State.oneOwner (t : State) (k : Nat) : Bool := (t.confAxes.filter (fun n => t.f (AX_FB_SRC_X n) == k)).length == 1

/-- Resolvers (R67-R69, R85, R520). -/
def State.okRes (t : State) : Bool :=
  let use := fun r => t.on (RES_CFG_EN r)
  allOf [
    t.rng 8 use RES_CFG_BW 0 2, t.rng 8 use RES_CFG_FRZ_N 2 255, t.rng 8 use RES_CFG_XL_N 1 255, t.rng 8 use RES_TOL_FRZ_DELTA 2 65535,
    (List.range 8).all (fun r => !(use r && t.on (RES_CFG_SHARED r)) || t.oneOwner (0x60 + r))]

/-- LEAD of an encoder, ns (R71): BITS + 1 clock periods. -/
def State.confLead (t : State) (e : Nat) : Nat := (t.f (ENC_CFG_BITS e) + 1) * (t.f (ENC_CFG_DIV e) + 1) * 25

/-- Encoders (R70, R71, R85, R520, R521). -/
def State.okEnc (t : State) : Bool :=
  let use := fun e => t.on (ENC_CFG_EN e)
  allOf [
    t.rng 8 use ENC_CFG_PARITY 0 2, t.rng 8 use ENC_CFG_BITS 13 32, t.rng 8 use ENC_CFG_DIV 19 79, t.rng 8 use ENC_CFG_MONO 5 40,
    t.rng 8 use ENC_TOL_FRZ_DELTA 2 65535, t.rng 8 use ENC_N_FRZ_N 2 255, t.rng 8 use ENC_N_XL_N 1 255,
    (List.range 8).all (fun e => !use e || allOf [
      decide (t.f (ENC_N_TURN_BITS e) ≤ t.f (ENC_CFG_BITS e)), decide (t.confLead e ≤ 20000),
      decide (t.confLead e + 1000 * t.f (ENC_CFG_MONO e) ≤ t.confT)]),
    (List.range 8).all (fun e => !(use e && t.on (ENC_CFG_SHARED e)) || t.oneOwner (0x68 + e))]

/-- Wheel-speed inputs (R85). -/
def State.okWs (t : State) : Bool :=
  let use := fun w => t.on (WS_CFG_EN w)
  allOf [
    t.rng 12 use WS_CFG_TEETH 1 255, t.rng 12 use WS_CFG_TMO_MS 1 2000, t.rng 12 use WS_CIRC_CIRC_MM 100 20000,
    t.rng 12 use WS_FS_FS_MMS 1 200000, t.rng 12 use WS_TOL_XL_N 1 255]

/-- The ranges of FS_X and FS_V and the set of SRC_X of a structure (*Units and feedback per structure*). -/
def structLims (struct : Nat) : (Nat × Nat) × (Nat × Nat) × (Nat × Nat) :=
  match struct with
  | 1 => ((1000, 180000), (1000, 1000000), (0x60, 0x6F))
  | 2 => ((1000, 1000000), (1000, 10000000), (0x3A, 0x45))
  | 3 => ((1000, 1000000), (1000, 1000000), (0x68, 0x6F))
  | 4 => ((100, 30000), (100, 1000000), (0x60, 0x67))
  | _ => ((10000, 250000), (1000, 10000000), (0x30, 0x37))

/-- U16.16 bounds of the gain ranges of the parameter tables (R96). -/
def g01 : Nat × Nat := (6554, 13107200)      -- 0.1-200
def g001 : Nat × Nat := (656, 6553600)       -- 0.01-100
def gKi : Nat × Nat := (0, 131072000)        -- 0-2,000
def g10 : Nat × Nat := (0, 655360)           -- 0-10
def g60 : Nat × Nat := (0, 3932160)          -- 0-60

/-- The structure's parameters are within their ranges (*STEER parameters* to *CHOP parameters*). -/
def State.okParams (t : State) (n : Nat) : Bool :=
  let p := fun k => t.f (AX_PAR_PAR n k)
  let pS := fun k => t.fI (AX_PAR_PAR n k)
  let r := fun k (b : Nat × Nat) => within b.1 b.2 (p k)
  let fs : Int := t.f (AX_FS_X_FS_X n)
  match t.f (AX_CFG_STRUCT n) with
  | 1 => allOf [r 0 g01, r 1 g001, r 2 gKi, r 3 g10, r 4 g60, r 5 (0, 1000),
      decide (-fs ≤ pS 6), decide (pS 6 ≤ pS 7), decide (pS 7 ≤ fs)]
  | 2 => allOf [r 0 g001, r 1 gKi, decide (100 ≤ p 2), decide (10 * (p 2 : Int) ≤ fs), r 3 (0, 100000), r 4 g01, r 5 (10, 30000),
      r 6 g60, r 7 g001]
  | 3 => allOf [decide ((pS 0).natAbs ≤ fs), decide ((pS 1).natAbs ≤ fs), pS 0 != pS 1,
      within 1 (t.f (AX_IMAX_IMAX n)) (p 2), r 3 g01, r 4 g001]
  | 4 => allOf [r 0 g001, r 1 gKi, r 2 g60]
  | _ => allOf [r 0 g001, r 1 gKi, p 2 % 8 != 0]

/-- One configured axis (R97, R98, R103, R109, R119, R120, R124). Two pi is taken to nine decimals (log entry 12). -/
def State.okAxis (t : State) (n : Nat) : Bool :=
  let st := t.f (AX_CFG_STRUCT n)
  let lim := structLims st
  let six := t.on (AX_CFG_SIX n)
  let fsX := t.f (AX_FS_X_FS_X n)
  let fsV := t.f (AX_FS_V_FS_V n)
  let c := t.f (AX_FB_SRC_C n)
  let inc := fun (l fs : Nat) => decide (fs * 10 ^ 9 ≤ l * t.confT * 2 ^ 46)
  let base := t.f (AX_CFG_HB_BASE n)
  allOf [
    decide (st ≤ 5), !(six && (st == 3 || st == 5)), t.rng1 (AX_CFG_SP_SRC n) 0 1, t.rng1 (AX_CFG_SHUT_MS n) 1 1000,
    base % (if six then 6 else 3) == 0, decide (base < 48),
    within lim.2.2.1 lim.2.2.2 (t.f (AX_FB_SRC_X n)), (if st = 5 then c == 0xFF else within 0x60 0x67 c),
    within lim.1.1 lim.1.2 fsX, within lim.2.1.1 lim.2.1.2 fsV, t.rng1 (AX_COMM_POLE_PAIRS n) 1 15,
    t.rng1 (AX_IMAX_FS_I n) 1 10000, t.rng1 (AX_IMAX_IMAX n) 1 (t.f (AX_IMAX_FS_I n)),
    t.rng1 (AX_VMAX_VMAX n) 1 fsV, decide (1 ≤ t.f (AX_AMAX_AMAX n)), decide (1 ≤ t.f (AX_JMAX_JMAX n)),
    inc (t.f (AX_VMAX_VMAX n)) fsX, inc (t.f (AX_AMAX_AMAX n)) fsV, inc (t.f (AX_JMAX_JMAX n)) fsV,
    t.rng1 (AX_OBS_T_ACC n) 1 60000, t.rng1 (AX_OBS_OBS_BW n) 5 500,
    decide (6 * twoPiNano * t.f (AX_OBS_OBS_BW n) * t.confT ≤ 10 ^ 18),
    t.okParams n,
    (t.confHbs n).all (fun h => t.on (CH_CFG_EN h) && decide (0 < t.fI (CH_GAIN_GAIN h)))]

/-- Every configured axis, and no half-bridge claimed twice (R119). -/
def State.okAxes (t : State) : Bool :=
  t.confAxes.all t.okAxis && (List.range 48).all (fun h =>
    decide ((t.confAxes.filter (fun n => (t.confHbs n).contains h)).length ≤ 1))

/-- Vector decision units in use (R135, R142, R147, R226). -/
def State.okUnits (t : State) : Bool :=
  let use := t.unitUsed
  allOf [
    t.rng 16 use VDU_CFG_F_TGT 10 60, t.rng 16 use VDU_CFG_SERVO_W 1 64, t.rng 16 use VDU_CFG_KB 0 0x8000,
    t.rng 16 use VDU_BAND_H_MAX 0 32767, t.rng 16 use VDU_BAND_H_MIN 16 65535, t.rng 16 use VDU_FF_T_DLY 20 500,
    t.rng 16 use VDU_FF_BUS_FS 1 250, t.rng 16 use VDU_MINP_MIN_PULSE 50 2050,
    (List.range 16).all (fun u => !use u || allOf [
      decide (t.f (VDU_BAND_H_MIN u) < t.f (VDU_BAND_H_MAX u)), t.f (VDU_MINP_MIN_PULSE u) % 5 == 0,
      !(t.on (VDU_FF_FF_EN u) && t.f (VDU_L_L_UH u) == 0),
      !t.on (VDU_FF_FF_EN u) || t.f (VDU_FF_BUS_FS u) == t.f (SUP_BCFG_BUS_FS (t.f SUP_MAP_BUS_g / 4 ^ (u / 2) % 4)),
      [0, 1, 2].all (fun k => decide (5 * t.f (HB_CFG_DT (3 * u + k)) + 200 ≤ 4 * t.f (VDU_MINP_MIN_PULSE u)))])]

/-- Half-bridges in use, and the group registers (R223). -/
def State.okGates (t : State) : Bool :=
  let use := t.hbUsed
  let always := fun _ => true
  allOf [
    t.rng 48 use HB_CFG_BOOT_MODE 0 2, t.rng 48 use HB_CFG_REF_W 16 160, t.rng 48 use HB_CFG_DT 40 1600,
    t.rng 48 use HB_TGT_T_TGT 20 500, t.rng 48 use HB_TGT_TOL 1 50, t.rng 8 always BG_CFG_BOOT_PRE 0 40,
    t.rng 8 always SUP_DCFG_T_BLANK 5 80, t.rng 8 always SUP_DCFG_V_DESAT 5 100, t.rng 8 always SUP_D2L_V_2L 80 120,
    t.rng 8 always SUP_D2L_T_2L 5 40]

/-- Park stages and buses in use, diagnostic modes (R224, R226, R228, R229, R240, R244). -/
def State.okSupply (t : State) : Bool :=
  let pk := fun k => t.on (PK_CFG_EN k)
  let bus := fun k => t.on (SUP_BCFG_EN k)
  let od := fun h => t.f (OD_MODE_MODE (h / 16)) / 4 ^ (h % 16) % 4
  let served := fun (c : Nat) => ((List.range 4).filter (fun k => bus k && t.f (SUP_BCFG_CHOP k) == c + 1)).length
  allOf [
    t.rng 2 pk PK_TIME_T_PULL 10 2000, t.rng 2 pk PK_TIME_FS 1 65535,
    [0, 1].all (fun k => !pk k || decide (t.f (PK_CFG_I_HOLD k) ≤ t.f (PK_CFG_I_PULL k))),
    t.rng 4 bus SUP_BCFG_CHOP 0 2, t.rng 4 bus SUP_BCFG_FILT 1 100, t.rng 4 bus SUP_BCFG_BUS_FS 1 250,
    t.rng 4 bus SUP_BCFG_TMAX 1 255,
    (List.range 4).all (fun k => !bus k || allOf [
      decide (200 ≤ t.f (SUP_BTH2_U_UV k)), decide (t.f (SUP_BTH2_U_UV k) < t.f (SUP_BTH_U_CH_OFF k)),
      decide (t.f (SUP_BTH_U_CH_OFF k) + 10 ≤ t.f (SUP_BTH_U_CH_ON k)),
      decide (t.f (SUP_BTH_U_CH_ON k) < t.f (SUP_BTH2_U_HOV k)), decide (t.f (SUP_BTH2_U_HOV k) ≤ 2000),
      decide (t.f (SUP_BTH2_U_HOV k) ≤ 10 * t.f (SUP_BCFG_BUS_FS k)), t.on (CH_CFG_EN (48 + k))]),
    [0, 1].all (fun c => decide (served c ≤ 1) && (served c == 0 || t.fbit AUX_CFG_CHOP_EN c)),
    (List.range 48).all (fun h => decide (od h < 3) && (od h != 0 || [0, 1, 2].all (fun k => od (h / 3 * 3 + k) == 0)))]

/-- The slots that enabled wheel-ends and steering entries name (R173, R174). -/
def State.okBlend (t : State) : Bool :=
  let whl := fun w => t.on (BLD_WHL_EN w)
  allOf [
    t.rng1 BLD_CFG_R_DYN_MM 100 4000, t.rng1 BLD_LIM_A_MAX 500 10000, t.rng1 BLD_LIM_R_MAX 100 65535,
    t.rng1 BLD_LIM2_J_MAX 100 65535, t.rng1 BLD_LIM2_TJ_MS 1 500, t.rng1 BLD_ELEC_ELEC_CAP 0 0x8000,
    t.rng1 BLD_ELEC_DERATE_RATE 1 65535, t.rng1 BLD_LINK_U_REF 100 2000,
    t.rng1 BLD_LINK_U_HI (t.f BLD_LINK_U_REF + 10) 2000, t.rng1 BLD_LINK2_LINK_TOL 5 500, t.rng1 BLD_LINK2_HOLD_MS 0 2000,
    t.rng1 BLD_RKP_KP_RET 0 6553, t.rng1 BLD_RKI_KI_RET 0 655360, t.rng1 BLD_PWM_U_FS 100 2000, t.rng1 BLD_PWM_F_PWM 100 2000,
    t.rng1 BLD_SLIP_LAMBDA_TGT 6 102, t.rng1 BLD_SLIP_HYST 0 51, t.rng1 BLD_SLIP_K_BLIND (t.f BLD_SLIP_K_MIN) 255,
    t.rng1 BLD_SLIP2_KS 1 200, t.rng1 BLD_SLIP2_RECOV 1 255, t.rng1 BLD_SLIP2_V_MIN 5 255, t.rng1 BLD_REF_REF_MARGIN 0 5000,
    t.rng1 BLD_REF_A_UP 100 20000, t.rng1 BLD_TRIM_TRIM_HI 0 128, t.rng1 BLD_TRIM_TRIM_LO 0 64, t.rng1 BLD_TRIM_KI_TRIM 0 2560,
    t.rng1 BLD_ACC_ACC_FS 1000 65535, t.rng1 BLD_SHARE_RAMP_TICKS 1 20000,
    (List.range 6).all (fun a => !t.axleUsed a || (t.f (BLD_AXLE_LOAD_FIX a) != 0 &&
      (t.f (BLD_AXLE_SRC a) == 0xFF || (within 0x3A 0x5F (t.f (BLD_AXLE_SRC a)) && t.f (BLD_AXK_K_LOAD a) != 0)))),
    t.rng 12 whl BLD_WHL_AXLE 0 5, t.rng 12 whl BLD_WHL_WS 0 11, t.rng 12 whl BLD_WHL_C_W 128 16384,
    (List.range 12).all (fun w => !whl w || t.f (AX_CFG_STRUCT (t.f (BLD_WHL_AXIS w))) == 2)]

def State.okSteer (t : State) : Bool :=
  let en := fun k => t.on (STR_AX_EN k)
  allOf [
    decide (t.f STR_VLIM_V1 < t.f STR_VLIM_V2), decide (t.f STR_XLIM_X_LO ≤ t.f STR_XLIM_X_HI),
    t.rng1 STR_TRACK_TRACK_TOL 100 20000, t.rng1 STR_TRACK_TRACK_MS 10 5000,
    (List.range 4).all (fun k => !en k || (decide ((t.fI (STR_AX_RATIO k)).natAbs ≤ 16384) &&
      t.f (AX_CFG_STRUCT (t.f (STR_AX_AXIS k))) == 1))]

/-- SAFESTOP, LANE, MOAMEL and NETTIME pages and the small pages (R264, R288, R309, R409, R472). -/
def State.okSmall (t : State) : Bool :=
  let always := fun _ => true
  allOf [
    t.rng1 SS_CFG_EXIT_MS 100 10000, t.rng1 SS_CFG_PIN_FILT 1 255, t.rng 4 always SS_TGT_A_TGT 500 (t.f BLD_LIM_A_MAX),
    t.rng1 SS_LIM_RATE 100 65535, t.rng1 SS_LIM_JERK 100 65535, t.rng1 SS_MON_LO_FRAC 64 255, t.rng1 SS_MON_HI_FRAC 64 255,
    t.rng1 SS_MON_T_ESC 50 5000, t.rng1 SS_STOP_V_STOP 5 200, t.rng1 SS_STOP_T_HOLD 100 10000, t.rng1 SS_PARK_T_APPLY 50 5000,
    t.rng1 LN_CFG_N_CFG 2 3, t.rng1 LN_CFG_DEG_SPEED 10 100, t.rng 16 always LN_AXTOL_VOTE_N 1 255,
    t.rng 16 always LN_AXTOL_TOL 1 32767, t.rng1 MM_CFG_RING_N 2 16, t.rng1 BIST_CFG_SHARE_TOL 5 50, t.rng1 BIST_CFG_STALL 2 8,
    t.rng1 CS_CFG_IDLE_S 30 3600]

/-- SITIL and CHARON pages (R337, R340, R343). -/
def State.okSitil (t : State) : Bool := allOf [
  t.rng1 SIT_CFG_ACC_WIN 10 200, t.rng1 SIT_CFG_OFS_LIM 1 200, t.rng1 SIT_CFG_RATE_LIM 1 100, t.rng1 SIT_CFG_LOST_CYC 1 15,
  t.rng1 SIT_CFG2_SPAN_NS 0 10000, t.rng1 SIT_PROP_PROP_X 0 10000, t.rng1 SIT_PROP_PROP_Y 0 10000,
  t.rng1 CHN_CFG_GUARD 2 40, t.rng1 CHN_CFG_STROBE_TOL 5 100,
  decide (2 * t.confC + 2000000 ≤ 1000000 * t.f CHN_CFG_STROBE_TOL), decide (t.confC + 1000000 ≤ 1000000 * t.f CHN_CFG_GUARD)]

/-- Data of a connection's type, bytes (*Connection types and data*). -/
def State.okConn (feat2 : Bool) (es : List SchE) (t : State) (k : Nat) : Bool :=
  let ty := t.f (SL_CONN0_TYPE k)
  let rx := decide (ty ≤ 5)
  let src := t.f (SL_CONN1_SRC k)
  let node := t.f SIT_ID_NODE_ID
  let carry := es.filter (fun e => e.pduId == t.f (SL_CONN0_PDU_ID k) &&
    (if rx then within 1 3 e.kind && e.sender == src && e.rx else e.sender == node))
  within 1 9 ty && t.rng1 (SL_CONN2_DL k) 1 65535 && (rx || src == node) &&
  ((List.range 32).filter (fun j => t.on (SL_CONN0_EN j) && t.f (SL_CONN0_TYPE j) == ty)).length == 1 &&
  (match carry with
    | [e] => decide (16 + dataLen ty ≤ e.pduLen) && (!t.on (SL_CONN0_DUAL k) || (rx && e.chmask == 3 && feat2))
    | _ => false)

/-- The connection table (R347). -/
def State.okConns (feat2 : Bool) (t : State) : Bool :=
  let es := t.entriesTo (t.f SCH_CFG_N)
  (List.range 32).all (fun k => !t.on (SL_CONN0_EN k) || t.okConn feat2 es k)

/-- FAULTSRC entries (R371): the words that differ from their defaults; the defaults meet the check. -/
def State.okSources (t : State) : Bool :=
  t.regs.all (fun p =>
    if fsBase ≤ p.1 ∧ p.1 < schBase ∧ p.1 % 8 = 0 then
      !srcAssigned ((p.1 - fsBase) / 8) || (fieldGet p.2 20 8 != 0 && decide (fieldGet p.2 30 2 ≤ fieldGet p.2 28 2))
    else true)

/-! ### The schedule (R319, R322) -/

/-- Check 2: every field within its range. -/
def SchE.inRange (e : SchE) (cyc : Nat) : Bool := allOf [
  decide (e.mux ≤ 6), decide (e.base < 2 ^ e.mux), decide (e.tick < cyc), decide (e.offset ≤ 19999), within 1 3 e.chmask,
  decide (e.kind ≤ 4), decide (e.len ≤ 240), decide (e.maxAge ≤ 14)]

/-- Check 5 for entries i and j: the gap after i's frame, in one cycle and into the next. -/
def gapOk (tNs cNs gap : Nat) (i j : SchE) : Bool :=
  let k := 2 ^ min i.mux j.mux
  let at_ := fun (e : SchE) => e.tick * tNs + 5 * e.offset
  let same := i.idx != j.idx && i.base % k == j.base % k && decide (at_ i < at_ j)
  let next := (i.base + 1) % k == j.base % k
  (!same || decide (at_ i + frameNs i.len + gap ≤ at_ j)) &&
  (!next || decide (at_ i + frameNs i.len + gap ≤ at_ j + cNs))

/-- The first check that entry e fails among checks 2 to 5, against the entries in use `es`. -/
def State.entryFail (t : State) (es : List SchE) (e : SchE) : Option Nat :=
  let cyc := t.f TICK_CFG_CYCLE_TICKS
  let acc := 10 * t.f SIT_CFG_ACC_WIN
  let span := t.f SIT_CFG2_SPAN_NS
  let gap := span + 2 * acc + 100 * t.f CHN_CFG_GUARD
  if !e.inRange cyc then some 2
  else if e.sync ∧ e.len < 8 then some 3
  else if e.kind = 0 then none
  else if t.confT < 5 * e.offset + frameNs e.len + span + acc then some 4
  else if es.all (fun j => Nat.land e.chmask j.chmask == 0 || gapOk t.confT t.confC gap e j) then none
  else some 5

/-- The first failing check of a number, with the entry that fails it. -/
def firstFail (l : List (Nat × Nat)) (c : Nat) : Option (Nat × Nat) := (l.find? (fun p => p.2 == c)).map (fun p => (c, p.1))

/-- The schedule checks in order (*Schedule checks*): the failing check and its first failing entry. Checks 1 and 7, and check 6 where
an identity has no or several CSTART entries of MUX 0, concern no one entry, so the entry they name is none. -/
def State.schedFail (ext : Bool) (t : State) : Option (Nat × Option Nat) :=
  let n := t.f SCH_CFG_N
  if 8192 < n ∨ (2048 < n ∧ !ext) then some (1, none)
  else
    let all := (List.range n).map t.sch
    let es := all.filter (fun e => e.kind != 0)
    let fails := all.filterMap (fun e => (t.entryFail es e).map (fun c => (e.idx, c)))
    match [2, 3, 4, 5].filterMap (firstFail fails) with
    | p :: _ => some (p.1, some p.2)
    | [] =>
      let ids := [t.f SIT_CS_01_CS_0, t.f SIT_CS_01_CS_1, t.f SIT_CS_23_CS_2, t.f SIT_CS_23_CS_3]
      let own := fun (r : Nat) => es.filter (fun e => e.kind == 3 && e.sender == ids.getD r 0)
      let bad := (List.range 4).filter (fun r => t.fbit SIT_CFG2_CS_VALID r && !((own r).length == 1 && (own r).all (fun e => e.mux == 0)))
      let named := es.filter (fun e => bad.any (fun r => (own r).contains e && e.mux != 0))
      if bad ≠ [] then some (6, named.head?.map (fun e => e.idx))
      else if 1024 < (es.filter (fun e => e.sender == t.f SIT_ID_NODE_ID)).length then some (7, none)
      else none

/-- SCH_STAT after the schedule checks; an entry that no one entry gives is a free value. -/
def showSched (r : Option (Nat × Option Nat)) (s : State) : State :=
  match r with
  | none => s.setWord SCH_STAT_A 0
  | some (c, e) =>
    let q : Nat × State := match e with
      | some e => (e, s)
      | none => let x := s.fresh; (x.1.toNat % 2 ^ 13, x.2)
    (((q.2.setWord SCH_STAT_A 0).setB SCH_STAT_FAIL true).set SCH_STAT_CHECK c).set SCH_STAT_ENTRY q.1

/-! ### Values that need a feature (R212, R384, R459) -/

/-- The change from `s` to `t` sets no value that needs a feature outside the mask `feats`. -/
def State.okFeatures (feats : Nat) (s t : State) : Bool :=
  let sets := fun (x : Fld) => t.f x != 0 && t.f x != s.f x
  (bitOf feats 3 || !(List.range 48).any (fun h => sets (HB_CFG_ADAPT h))) &&
  (bitOf feats 4 || !sets SIT_CFG2_BRIDGE) && (bitOf feats 7 || !sets LOG_CFG_FREEZE_TERM)

/-- Check 3 of R466 but for the schedule. -/
def State.okParam (feats : Nat) (s t : State) : Bool := allOf [
  t.okTick, t.okChan, t.okRes, t.okEnc, t.okWs, t.okAxes, t.okUnits, t.okGates, t.okSupply, t.okBlend, t.okSteer, t.okSmall,
  t.okSitil, t.okConns (bitOf feats 2), t.okSources, s.okFeatures feats t]

/-! ### Changes that need outputs off (check 4) -/

/-- A register's word differs between two states. -/
def State.differs (s t : State) (a : Nat) : Bool := s.word a != t.word a

/-- A field differs between two states. -/
def State.fdiff (s t : State) (x : Fld) : Bool := s.f x != t.f x

/-- Some word of a range of window addresses differs. -/
def State.schedDiff (s t : State) : Bool :=
  let at_ := fun (p : Nat × Word) => decide (schBase ≤ p.1)
  s.regs.filter at_ != t.regs.filter at_ || s.fdiff t SCH_CFG_N

/-- Some bridge group is out of OFF, or an auxiliary output is active (R53). -/
def State.groupsOn (s : State) : Bool := (List.range 8).any (fun g => s.groupState g != 0)
def State.auxActive (s : State) : Bool := s.auxOn || s.f AUX_STAT_CHOP_ACT != 0

/-- Some Sitil port is enabled (R322, R347). -/
def State.portsOn (s : State) : Bool := [0, 1, 2, 3].any (fun p => (s.port p).en)

/-- The changes that a rule requiring outputs off judges, with whether it lets them pass. -/
def State.outputRules (s t : State) : List (Bool × Bool) :=
  let grid := s.differs t TICK_CFG_A || s.differs t TICK_PHASE_A
  let table := (List.range 32).any (fun k =>
    s.differs t (SL_CONN0_A k) || s.differs t (SL_CONN1_A k) || s.differs t (SL_CONN2_A k))
  [(grid, !s.groupsOn && !s.auxActive), (s.differs t MM_CFG_A, !s.groupsOn), (s.schedDiff t || table, !s.portsOn)] ++
  (List.range 16).map (fun n =>
    (s.fdiff t (AX_CFG_STRUCT n) || s.fdiff t (AX_CFG_SIX n) || s.fdiff t (AX_CFG_SLICE n) || s.fdiff t (AX_CFG_HB_BASE n) ||
      s.fdiff t (AX_CFG_SP_SRC n) || s.differs t (AX_FB_A n) || s.differs t (AX_COMM_A n) || s.fdiff t (AX_IMAX_FS_I n),
      s.axState n == 0)) ++
  (List.range 8).map (fun g =>
    (s.f SUP_MAP_BUS_g / 4 ^ g % 4 != t.f SUP_MAP_BUS_g / 4 ^ g % 4 ||
      (List.range 6).any (fun k =>
        let h := 6 * g + k
        let od := fun (u : State) => u.f (OD_MODE_MODE (h / 16)) / 4 ^ (h % 16) % 4
        s.fdiff t (HB_CFG_DT h) || s.fdiff t (HB_CFG_ADAPT h) || od s != od t), s.groupOff g))

/-- The change holds something that needs outputs off: enables wait until the COMMIT has completed (R466). -/
def State.judgesOff (s t : State) : Bool := (s.outputRules t).any (fun p => p.1)

/-- Check 4 of R466. -/
def State.okOutputs (s t : State) : Bool := (s.outputRules t).all (fun p => !p.1 || p.2)

/-! ### Budgets (check 5) -/

/-- R44 and R45: the verdict for the configuration of `t`, and what the check reports. -/
def budgetCheck (t s : State) : Bool × State :=
  let point := s.f PWR_DVFS_POINT
  let terms := t.budgetTerms (100 * (point + 1))
  let bad := terms.find? (fun x => decide (x.2.2.2 < x.2.2.1))
  let slack := (terms.map (fun x => x.2.2.2 - x.2.2.1)).foldl min 65535
  let s := s.each (List.range 8) (fun l u =>
    (u.set (SLICE_LOAD_PLAIN l) (t.loadOf l).1).set (SLICE_LOAD_CODED l) (t.loadOf l).2)
  let s := (s.set SPARE_LOAD_RERUN t.rerunLoad).setWord TICK_BUDGET_A 0
  let s := match bad with
    | some x => (s.set TICK_BUDGET_FAIL_WIN x.1).set TICK_BUDGET_FAIL_SLICE x.2.1
    | none => s.set TICK_BUDGET_SLACK slack
  let s := match [0, 1, 2, 3].find? t.budgetOk with
    | some p => s.set TICK_BUDGET_MIN_DVFS p
    | none => (s.set TICK_BUDGET_MIN_DVFS 3).setB TICK_BUDGET_NONE true
  (bad.isNone, s)

/-- Length of the exchange record that a configuration gives (R298; every configured axis counts, R518). -/
def State.confLen (t : State) : Nat :=
  let sh := (List.range 124).filter (fun k => t.on (inpEnF k) && t.on (inpSharedF k))
  64 + 8 * t.confAxes.length + 4 * sh.length + 96 * b2n t.blendOn

/-- The exchange check of R300 in tenths of ns, and MM_BUDGET; a time beyond its field is a free value. -/
def exchangeCheck (t s : State) : Bool × State :=
  let ring := t.f MM_CFG_RING_N
  let l := t.confLen
  let nr := if ring = t.f LN_CFG_N_CFG then 2 else 4
  let tx := nr * max l (t.f MM_CFG_L_MAX) * 32 + (ring - 1) * 400 + 2000
  let ok := decide (tx ≤ t.confT * 6 / 10)
  let ns := (tx + 9) / 10
  let q : Nat × State := if ns < 2 ^ 15 then (ns, s) else let x := s.fresh; (x.1.toNat, x.2)
  (ok, ((q.2.setB MM_BUDGET_FAIL (!ok)).set MM_BUDGET_T_X q.1).set MM_BUDGET_LEN l)

end Sys2Proof.Machine
end

