-- ==== Sys2Proof/Machine/Conf.lean ====
section
/-!
DEFINITION. The configuration gate: the pending set, COMMIT, the change log, the CRCs, the stored image, locking, service mode and
feature negotiation (R458-R471).
-/
namespace Sys2Proof.Machine

/-! ### Words and masks -/

/-- One of CS_PWD_0 to CS_PWD_3. -/
def isPwd (a : Nat) : Bool := decide (CS_PWD_A 0 ≤ a) && decide (a ≤ CS_PWD_A 3)

/-- The bits of the word at an address that only a COMMIT puts in force; a window word is one whole. -/
def commitMask (a : Nat) : Word :=
  if fsBase ≤ a ∨ isPwd a then 0xFFFFFFFF else maskWhere (fun f => f.acc == .rwl && f.eff == .commit) (fieldsAt a)

/-- `old` with the bits of `m` taken from `new`. -/
def mergeW (m old new : Word) : Word := (old &&& ~~~ m) ||| (new &&& m)

/-- Pages whose PG_CTL.EN software writes (*Page index*, R508). -/
def enPage (pg : Nat) : Bool := decide (0x010 ≤ pg) && decide (pg < 0x028) || decide (0x041 ≤ pg) && decide (pg < 0x045) || pg == 0x060

/-- The bits that belong to the stored image (R466, R508): every RWL field, the window tables and the writable EN bits. -/
def storedMask (a : Nat) : Word :=
  if fsBase ≤ a then 0xFFFFFFFF
  else if a % 0x400 = 0x00C then (if enPage (a / 0x400) then 1 else 0)
  else maskWhere (fun f => f.acc == .rwl) (fieldsAt a)

/-- The word in force at an address; a password word is that of the stored password. -/
def State.inForce (s : State) (a : Nat) : Word := if isPwd a then s.nv.pwd.getD ((a - CS_PWD_A 0) / 4) 0 else s.word a

/-- The word that the COMMIT in progress will put in force at an address, where it does. -/
def State.commitWord (s : State) (a : Nat) : Option Word :=
  match s.cf.commit with
  | some c => (c.set.find? (fun p => p.1 == a)).map (·.2)
  | none => none

/-- The word written and not yet taken by a COMMIT. -/
def State.pendWord (s : State) (a : Nat) : Option Word := smGet (fun _ => none) s.cf.pend a

/-- Two words agree in what a COMMIT puts in force. -/
def sameConf (a : Nat) (w x : Word) : Bool := (w ^^^ x) &&& commitMask a == 0

/-- The pending words that differ from what is or will be in force (R466, R513), ascending. -/
def State.pendLive (s : State) : List (Nat × Word) :=
  s.cf.pend.filterMap (fun p => match p.2 with
    | some w => if sameConf p.1 w ((s.commitWord p.1).getD (s.inForce p.1)) then none else some (p.1, w)
    | none => none)

/-- The set that a COMMIT takes of pending words (R461, R466): CS_PWD takes part only with STORE. -/
def State.setOf (s : State) (live : List (Nat × Word)) (store : Bool) : List (Nat × Word) :=
  live.filter (fun p => (store || !isPwd p.1) && !sameConf p.1 p.2 (s.inForce p.1))

/-- The pending set of a COMMIT accepted now. -/
def State.pendSet (s : State) (store : Bool) : List (Nat × Word) := s.setOf s.pendLive store

/-- Drop what is no longer pending. -/
def tidyPend (s : State) : State := { s with cf := { s.cf with pend := s.pendLive.map (fun p => (p.1, some p.2)) } }

/-- The state with the words of a set in force; the password is not a register. -/
def applySet (set : List (Nat × Word)) (s : State) : State :=
  set.foldl (fun t p => if isPwd p.1 then t else t.setWord p.1 (mergeW (commitMask p.1) (t.word p.1) p.2)) s

/-- Page of an address; a window entry lies in its window's page (R513). -/
def pageOf (a : Nat) : Nat := if schBase ≤ a then 0x045 else if fsBase ≤ a then 0x009 else a / 0x400

/-- PG_LOCK.PENDING of a page (R513): a word waits for a COMMIT, or a field for its TICK or cycle start. -/
def State.pagePending (s : State) (pg : Nat) : Bool :=
  s.pendLive.any (fun p => pageOf p.1 == pg) ||
  (match s.cf.commit with
    | some c => c.set.any (fun p => pageOf p.1 == pg)
    | none => false) ||
  (s.tk.reg ++ s.tk.cyc).any (fun p => pageOf p.1 == pg && mergeW p.2.1 (s.word p.1) p.2.2 != s.word p.1)

/-! ### CRCs (R321, R468, R469) -/

/-- The schedule CRC (R321). -/
def State.schedCrc (s : State) : Nat :=
  let ent := fun (e : Nat) => bytesBE 4 (s.schW e 0).toNat ++ bytesBE 4 (s.schW e 1).toNat ++
    bytesBE 4 ((s.schW e 2).toNat / 4096 * 4096)
  crc32 (((List.range (s.f SCH_CFG_N)).map ent).flatten ++ [s.f TICK_CFG_LEN, s.f TICK_CFG_CYCLE_TICKS])

/-- The RWL bits of a register that is no window onto a table. -/
def rwlMask (a : Nat) : Word :=
  if a = SCH_W0_A ∨ a = SCH_W1_A ∨ a = SCH_W2_A ∨ a = FS_CFG_A ∨ a = FS_WIN_A then 0
  else maskWhere (fun f => f.acc == .rwl) (fieldsAt a)

/-- Members of the configuration CRC (R468). -/
def cfgMember (a : Nat) : Word := if a = SIT_SCRC_A then 0xFFFFFFFF else rwlMask a

/-- Members of the lane set CRC (*Lane set*, *Per-lane calibration*). -/
def State.setMember (s : State) (a : Nat) : Word :=
  let pg := a / 0x400
  let off := a % 0x400
  if a = SIT_SCRC_A then 0xFFFFFFFF
  else if pg = 0x040 then (if 0x44 ≤ off ∧ off ≤ 0x50 then rwlMask a else 0)
  else if pg = 0x047 then
    let ty := s.f (SL_CONN0_TYPE ((off - 0x80) / 12))
    if 0x80 ≤ off ∧ 1 ≤ ty ∧ ty ≤ 5 then rwlMask a else 0
  else if 0x031 ≤ pg ∧ pg ≤ 0x036 ∧ off % 0x20 ∈ [0x04, 0x08, 0x0C] then 0
  else if pg = 0x037 ∧ off % 0x20 = 0x08 then 0
  else if 0x010 ≤ pg ∧ pg ≤ 0x01F ∧ off = 0x48 then rwlMask a &&& 0xFFFF0000
  else if pg = 0x028 ∧ (off = 0x4C ∨ off = 0x50) then rwlMask a &&& 0xFFFF0000
  else if (0x010 ≤ pg ∧ pg ≤ 0x02A) ∨ (0x030 ≤ pg ∧ pg ≤ 0x039) ∨ pg ∈ [0x004, 0x00D, 0x00E, 0x00F] ∨
      (0x050 ≤ pg ∧ pg ≤ 0x054) ∨ pg = 0x060 ∨ pg = 0x061 then rwlMask a
  else 0

/-- Every register address of the listed pages, ascending. -/
def allAddrs : List Nat := (listedPages.map (fun pg => (List.range 256).map (fun i => pg * 0x400 + 4 * i))).flatten

/-- The bytes of the FAULTSRC table (R468). -/
def State.srcBytes (s : State) : List Nat :=
  ((List.range 1024).map (fun i =>
    bytesLE 4 (s.word (fsBase + 8 * i)).toNat ++ bytesLE 4 (s.word (fsBase + 8 * i + 4)).toNat)).flatten

/-- The bytes a CRC runs over: the registers with members in ascending order, the FAULTSRC table at the place of its window. -/
def State.crcBytes (s : State) (member : Nat → Word) : List Nat :=
  (allAddrs.map (fun a =>
    if a = FS_CFG_A then s.srcBytes
    else if member a = 0 then [] else bytesLE 4 (s.word a &&& member a).toNat)).flatten

def State.cfgCrc (s : State) : Nat := crc32 (s.crcBytes cfgMember)

/-- The lane set CRC, with FEAT_ACTIVE as 8 bytes. -/
def State.setCrc (s : State) : Nat :=
  crc32 (s.crcBytes s.setMember ++ bytesLE 4 (s.word FEAT_ACTIVE_LO_A).toNat ++ bytesLE 4 (s.word FEAT_ACTIVE_HI_A).toNat)

def refreshSetCrc (s : State) : State := s.setWord CS_SETCRC_A (BitVec.ofNat 32 s.setCrc)

def refreshCrcs (s : State) : State := refreshSetCrc (s.setWord CS_CRC_A (BitVec.ofNat 32 s.cfgCrc))

/-! ### Features (R458-R460) -/

/-- FEAT_OFFER_LO (R3). -/
def State.offer (s : State) : Nat := if s.part = .s then 0xFB else 0xFF

/-- The lowest feature bit that a value in force needs and a mask lacks (R460). -/
def State.conflict (s : State) (feats : Nat) : Option Nat :=
  let needs := fun (k : Nat) => match k with
    | 2 => (List.range 32).any (fun i => s.on (SL_CONN0_DUAL i))
    | 3 => (List.range 48).any (fun h => s.on (HB_CFG_ADAPT h))
    | 4 => s.f SIT_CFG2_BRIDGE != 0
    | 6 => decide (2048 < s.f SCH_CFG_N)
    | 7 => s.on LOG_CFG_FREEZE_TERM
    | _ => false
  (List.range 8).find? (fun k => needs k && !bitOf feats k)

/-- Admission is held back while a conflict stands. -/
def judgeConflict (s : State) : State :=
  { s with su := { s.su with conflict := !s.on FEAT_STAT_OPEN && (s.conflict (s.f FEAT_ACTIVE_LO_ACTIVE)).isSome } }

/-- The negotiation window closes (R458, R460): by NEGOTIATE (1) or after 1 s (2). -/
def closeWindow (by_ : Nat) (s : State) : State :=
  if !s.on FEAT_STAT_OPEN then s
  else
    let s := (((s.setB FEAT_STAT_OPEN false).set FEAT_STAT_CLOSED_BY by_).set FEAT_STAT_LEFT_MS 0)
    let s := s.set FEAT_ACTIVE_LO_ACTIVE (Nat.land s.offer (s.f FEAT_ACCEPT_LO_ACCEPT))
    let s := judgeConflict (refreshSetCrc s)
    match s.conflict (s.f FEAT_ACTIVE_LO_ACTIVE) with
    | some k => s.raise 0x3D0 k
    | none => s

/-- NEGOTIATE (R458): status, data. -/
def doNegotiate (data : List Word) (s : State) : Nat × List Word × State :=
  let shown := fun (t : State) => [t.word FEAT_ACTIVE_LO_A, t.word FEAT_ACTIVE_HI_A]
  if !s.on FEAT_STAT_OPEN then (0x0E, shown s, s)
  else
    let s := match data with
      | [lo, hi] => (s.setWord FEAT_ACCEPT_LO_A lo).setWord FEAT_ACCEPT_HI_A hi
      | _ => s
    let t := closeWindow 1 s
    (0, shown t, t)

/-! ### Live parameters (R465) -/

/-- The bits of a register that a COMMIT may change outside service mode. -/
def liveMask (a : Nat) : Word :=
  let pg := a / 0x400
  let off := a % 0x400
  let all : Word := 0xFFFFFFFF
  if fsBase ≤ a ∨ isPwd a then 0
  else if 0x010 ≤ pg ∧ pg < 0x020 then
    if (0x58 ≤ off ∧ off ≤ 0x64) ∨ (0x70 ≤ off ∧ off ≤ 0x8C) then all else if off = 0x54 then 0xFFFF else 0
  else if 0x020 ≤ pg ∧ pg < 0x028 then
    if (List.range 48).any (fun h => HB_TGT_A h == a) || (List.range 16).any (fun u =>
        VDU_CFG_A u == a || VDU_BAND_A u == a || VDU_FF_A u == a || VDU_L_A u == a) then all else 0
  else if a ∈ [BLD_RKP_A, BLD_RKI_A, BLD_SLIP_A, BLD_SLIP2_A, BLD_REF_A, BLD_TRIM_A, BLD_SHARE_A, STR_TRACK_A, JAN_CFG_A, BIST_CFG_A,
      PWR_CFG_A, PWR_HALLEY_A, CS_CFG_A] then all
  else if a = LOG_CFG_A then 1
  else 0

/-- The change of a word is one of a safety parameter. -/
def State.safetyChange (s : State) (p : Nat × Word) : Bool :=
  isPwd p.1 || (mergeW (commitMask p.1) (s.word p.1) p.2 ^^^ s.word p.1) &&& ~~~ liveMask p.1 != 0

/-! ### Change log (R470, R471) -/

/-- Register address and window index of a change. -/
def logPlace (a : Nat) : Nat × Nat :=
  if schBase ≤ a then (SCH_W0_A + (a - schBase) % 16, (a - schBase) / 16)
  else if fsBase ≤ a then (if a % 8 = 0 then FS_CFG_A else FS_WIN_A, (a - fsBase) / 8)
  else (a, 0)

/-- Unacknowledged entries (R471). -/
def showLog (s : State) : State :=
  let n := s.f CL_NEXT_SEQ - 1 - s.f CL_ACKED_SEQ
  (s.set CL_STAT_UNACK n).setB CL_STAT_FULL (n == 1024)

/-- One change: its word's address, the word before, the word after, safety. -/
structure Change where
  addr : Nat
  old : Word
  new : Word
  safety : Bool
  deriving DecidableEq, Repr

/-- A change takes its place by register address and window index. -/
def insChange (c : Change) : List Change → List Change
  | [] => [c]
  | d :: l =>
    let p := logPlace c.addr
    let q := logPlace d.addr
    if p.1 < q.1 ∨ (p.1 = q.1 ∧ p.2 < q.2) then c :: d :: l else d :: insChange c l

/-- One entry is appended (*Change-log entry*). -/
def appendLog (c : Change) (s : State) : State :=
  let seq := s.f CL_NEXT_SEQ
  let p := logPlace c.addr
  let pwd := isPwd c.addr
  let e3 := s.f CS_OP_OPERATOR * 2 ^ 16 + b2n c.safety * 2 ^ 15 + b2n s.unsync * 2 ^ 14 + b2n pwd * 2 ^ 13 + p.2 % 2 ^ 13
  let w := fun (n : Nat) => BitVec.ofNat 32 n
  let e := [w seq, w s.ns, w (s.ns / 2 ^ 32), w e3, w p.1, if pwd then 0 else c.old, if pwd then 0 else c.new, s.word CS_CRC_A]
  showLog { s.set CL_NEXT_SEQ (seq + 1) with nv := { s.nv with clog := smPut (fun _ => []) s.nv.clog (seq % 1024) e } }

/-- A write of LOG_ACK (R461, R471); whether it is refused. -/
def ackLog (v : Nat) (s : State) : Bool × State :=
  if !s.locked && decide (s.f CL_ACKED_SEQ < v) && decide (v < s.f CL_NEXT_SEQ) then
    (false, showLog (s.set CL_ACKED_SEQ v))
  else (true, s)

/-! ### COMMIT (R466, R467) -/

/-- The checks of a COMMIT in their order: 0, or the status of the first that fails; what the checks report. -/
def commitChecks (set : List (Nat × Word)) (s : State) : Nat × State :=
  let t := applySet set s
  if 1024 < s.f CL_STAT_UNACK + set.length then (0x0D, s.raiseU 0x3DB)
  else if !s.service && set.any s.safetyChange then (0x0B, s)
  else
    let feats := s.f FEAT_ACTIVE_LO_ACTIVE
    let sched := t.schedFail (bitOf feats 6)
    let s := showSched sched s
    if sched.isSome || !s.okParam feats t then (0x08, s)
    else if !s.okOutputs t then (0x0A, s)
    else
      let b := budgetCheck t s
      let x := exchangeCheck t b.2
      (if b.1 && x.1 then 0 else 0x09, x.2)

/-- Result DATA of a COMMIT: CS_CRC, first SEQ, entries. -/
def State.commitData (s : State) (first n : Nat) : List Word := [s.word CS_CRC_A, BitVec.ofNat 32 first, BitVec.ofNat 32 n]

/-- A COMMIT is refused with a status. -/
def commitRefused (tag status : Nat) (s : State) : State :=
  let s := s.inc CS_CNT_COMMIT_REF
  let data := s.commitData (s.f CL_NEXT_SEQ) 0
  if status = 0x0C then completeLast tag status data s else completeFirst tag status data s

/-- What the checks say of a COMMIT with the words `live` (R461, R466): its status, and what they report. An empty set with STORE = 0
meets no check; the budget checks report all the same. -/
def commitJudge (store : Bool) (live : List (Nat × Word)) (s : State) : Nat × State :=
  if s.locked then (0x07, s)
  else
    let set := s.setOf live store
    if set = [] ∧ !store then (0, (exchangeCheck s (budgetCheck s s).2).2) else commitChecks set s

/-- A set of words holds a change that a rule requiring outputs off judges. -/
def State.setHolds (s : State) (set : List (Nat × Word)) : Bool := s.judgesOff (applySet set s)

/-- A COMMIT starts (R452, R466) with the words `live` that were pending at its acceptance; where it had to wait, what its checks said
then is `verdict`. -/
def commitStart (tag : Nat) (store : Bool) (live : List (Nat × Word)) (verdict : Option (Nat × Bool)) (s : State) : State :=
  if s.cf.commit.isSome then commitRefused tag 0x0C s
  else
    let set := s.setOf live store
    let r := match verdict with
      | some v => (v.1, s)
      | none => commitJudge store live s
    if r.1 ≠ 0 then commitRefused tag r.1 { r.2 with hp := { r.2.hp with commitHold := r.2.queueHolds } }
    else
      let s := r.2
      let rest := s.pendLive.filter (fun p => !set.contains p)
      let hold := s.setHolds set || s.queueHolds || (match verdict with
        | some v => v.2
        | none => false)
      { s.setB CS_STAT_NV_BUSY true with
        cf := { s.cf with pend := rest.map (fun p => (p.1, some p.2)), commit := some { tag := tag, store := store, set := set } }
        hp := { s.hp with commitHold := hold } }

/-- A COMMIT that must wait its turn is judged at its acceptance, and from then on holds enables back (R466). -/
def commitQueued (store : Bool) (live : List (Nat × Word)) (s : State) : (Nat × Bool) × State :=
  let r := commitJudge store live s
  let hold := r.1 == 0 && s.setHolds (s.setOf live store)
  ((r.1, hold), { r.2 with hp := { r.2.hp with commitHold := r.2.hp.commitHold || hold } })

/-- A COMMIT enables input k: it is valid again (R81), and its counts begin anew (R77, R78, R85). -/
def inputEnabled (k : Nat) (s : State) : State :=
  let s := ((s.setB (inpInvalidF k) false).set (inpCauseF k) 0).set (inpXlF k) 0
  let s := if k < 0x60 then s.set (CH_STAT_FRZ_CNT k) 0
    else if k < 0x68 then s.set (RES_STAT_FRZ_CNT (k - 0x60)) 0
    else if k < 0x70 then s.set (ENC_STAT_FRZ_CNT (k - 0x68)) 0
    else (s.set (WS_EDGE_EDGES (k - 0x70)) 0).setB (WS_STAT_SUP_OFF (k - 0x70)) false
  s.setInp k {}

/-- What new configuration sets at once: inputs and connections that a COMMIT enables (R81, R350), worst-case counts (R97), the
schedule CRC (R321), Charon's table (R336), the outputs of the bus choppers (R229). -/
def configApplied (old s : State) : State :=
  let s := s.each (List.range 124) (fun k t => if t.on (inpEnF k) && !old.on (inpEnF k) then inputEnabled k t else t)
  let s := s.each (List.range 32) (fun k t =>
    -- SEQ of a transmit connection goes on from POR or LRST (R346)
    if t.on (SL_CONN0_EN k) && !old.on (SL_CONN0_EN k) && decide (t.f (SL_CONN0_TYPE k) < 6) then
      (((t.setB (SL_CST_RUN k) false).set (SL_CST_SEQ k) 0).set (SL_CST_AGE k) 0x3FFF).setConn k {}
    else t)
  let s := s.each (List.range 16) (fun n t =>
    let w := wcOf (t.f (AX_CFG_STRUCT n)) (t.on (AX_CFG_SIX n))
    (t.set (AX_WC_PLAIN_WC n) w.1).set (AX_WC_CODED_WC n) w.2)
  charonCopy ((chopConf old s).setWord SIT_SCRC_A (BitVec.ofNat 32 s.schedCrc))

/-- The stored word of an address: the bits of the image, POR values elsewhere. -/
def storedWord (a : Nat) (w : Word) : Word := mergeW (storedMask a) (porWord a) w

/-- The image that the configuration in force makes. -/
def State.makeImage (s : State) : Image :=
  { words := smMap porWord storedWord s.regs, acceptLo := s.word FEAT_ACCEPT_LO_A, acceptHi := s.word FEAT_ACCEPT_HI_A
    crc := s.word CS_CRC_A, setCrc := s.word CS_SETCRC_A }

/-- End of the configuration step: the required set (R478); the CONFIG bank is restored (R429). -/
def configPassed (s : State) : State :=
  let req := packBits 8 (fun g => s.on (PG_CTL_EN (0x020 + g)))
  { ((s.set SU_GROUPS_REQ req).set SU_STAT_STEP 3).set PWR_STAT_RESTORING 0 with su := { s.su with confOk := true, confWait := false } }

/-- The values of a COMMIT go into force; its change-log entries follow (R466, R470). -/
def commitApply (c : CommitSt) (s : State) : State :=
  let old := s
  let s := applySet c.set s
  let eng := c.set.filterMap (fun p =>
    if isPwd p.1 || old.engOld.any (fun q => q.1 == p.1) then none else some (p.1, old.word p.1))
  let pwd := (List.range 4).map (fun i => match c.set.find? (fun p => p.1 == CS_PWD_A i) with
    | some p => p.2
    | none => old.nv.pwd.getD i 0)
  let s := { s with engOld := old.engOld ++ eng, nv := { s.nv with pwd := pwd } }
  let s := refreshCrcs (configApplied old s)
  let changes := (c.set.map (fun p =>
    ({ addr := p.1, old := old.inForce p.1, new := s.inForce p.1, safety := old.safetyChange p } : Change))).foldl
      (fun l x => insChange x l) []
  changes.foldl (fun t x => appendLog x t) s

/-- The COMMIT is over: what waited for it goes on (R466), and start-up that waited for a stored configuration (R475). -/
def commitOver (c : CommitSt) (failed : Bool) (s : State) : State :=
  let s := { s.setB CS_STAT_NV_BUSY false with cf := { s.cf with commit := none }, hp := { s.hp with commitHold := s.queueHolds } }
  let s := judgeConflict (tidyPend s)
  let s := match (if s.committing then none else s.pw.late) with
    | some p => (dvfsJudge p { s with pw := { s.pw with late := none } }).2
    | none => s
  if c.store && !failed && s.su.confWait then configPassed s else s

/-- COMMIT_COMPLETE (R466, R467, R406): `ok` says how the image's read-back went. -/
def commitDone (ok : Bool) (s : State) : State :=
  match s.cf.commit with
  | none => s
  | some c =>
    if c.store && s.rep.unwritten != 0 then s
    else if c.store && !ok && !c.retried then { s with cf := { s.cf with commit := some { c with retried := true } } }
    else
      let failed := c.store && !ok
      let first := s.f CL_NEXT_SEQ
      -- a password goes into force only with a COMMIT that completes OK (R461); it stays pending where the image has failed
      let pwd := if failed then c.set.filter (fun p => isPwd p.1) else []
      let set := if failed then c.set.filter (fun p => !isPwd p.1) else c.set
      -- the CRCs are computed at each completed COMMIT, be its set empty (R468)
      let s := if set = [] then refreshCrcs s else commitApply { c with set := set } s
      let s := pwd.foldl (fun t p => if (t.pendWord p.1).isSome then t else
        { t with cf := { t.cf with pend := smPut (fun _ => none) t.cf.pend p.1 (some p.2) } }) s
      let s := { s with ck := { s.ck with copyTb := some s.tb } }
      let s := if c.store && ok then { s with nv := { s.nv with image := some s.makeImage } } else s
      let s := if failed then s.raiseU 0x3DA else s
      let s := commitOver c failed s
      completeBusy c.tag (if failed then 0x13 else 0) (s.commitData first (s.f CL_NEXT_SEQ - first)) s

/-! ### Locking (R461-R464) -/

/-- UNLOCK: status and the state after it. -/
def doUnlock (data : List Word) (s : State) : Nat × State :=
  if s.f CS_STAT_LOCKOUT_S ≠ 0 then (0x07, s)
  else if data.take 4 = s.nv.pwd then
    let s := (s.setB CS_STAT_LOCKED false).set CS_STAT_ATTEMPTS 0
    (0, s.set CS_OP_OPERATOR ((data.getD 4 0).toNat % 2 ^ 16))
  else
    let s := s.inc CS_CNT_UNLOCK_FAIL
    let n := s.f CS_STAT_ATTEMPTS + 1
    if n < 3 then (0x07, s.set CS_STAT_ATTEMPTS n)
    else
      let s := ((s.set CS_STAT_ATTEMPTS 0).set CS_STAT_LOCKOUT_S 600).inc CS_CNT_LOCKOUTS
      (0x07, { s.raiseU 0x3D8 with nv := { s.nv with lockTb := s.tb } })

/-- Seconds of a lockout that have passed (R462); the last one ends with LOCKOUT_END. -/
def lockTick (s : State) : State :=
  if 1 < s.f CS_STAT_LOCKOUT_S ∧ s.nv.lockTb + 200000000 ≤ s.tb then
    { s.set CS_STAT_LOCKOUT_S (s.f CS_STAT_LOCKOUT_S - 1) with nv := { s.nv with lockTb := s.nv.lockTb + 200000000 } }
  else s

/-- A write of CS_CTL.DISCARD (R463). -/
def discard (s : State) : State := { s with cf := { s.cf with pend := [] } }

/-- A write of CS_CTL.SERVICE_REQ (R461, R464); whether it is refused. -/
def serviceReq (s : State) : Bool × State := if s.locked then (true, s) else (false, s.setB CS_STAT_SERVICE_REQ true)

/-- A write of CS_CTL.SERVICE_EXIT (R464). -/
def serviceExit (s : State) : State := { s.setB CS_STAT_SERVICE_REQ false with cf := { s.cf with exitDue := true } }

/-- The conditions of service mode beside a request (R464). -/
def State.serviceOk (s : State) : Bool := !s.locked && s.typeValid 3 && bitOf s.sl.perm 2 && s.slow

/-- SERVICE_MODE_ENTRY: the first TICK at which a request stands and the conditions hold. -/
def serviceEnter (s : State) : State :=
  if !s.service && s.on CS_STAT_SERVICE_REQ && s.serviceOk then
    (((s.setB CS_STAT_SERVICE true).setB CS_STAT_SERVICE_REQ false).setB FLT_STAT_SERVICE true).raiseU 0x3DC
  else s

/-- At a TICK service mode is left (R464). -/
def serviceTick (s : State) : State :=
  let s' := { s with cf := { s.cf with exitDue := false } }
  if s.service && (s.cf.exitDue || !s.serviceOk) then (s'.setB CS_STAT_SERVICE false).setB FLT_STAT_SERVICE false else s'

/-- CS_CFG_CRC (R468): the checker recomputes CS_CRC from the configuration in force; a difference, be it that the memory of the
configuration reads back as something else (`same` = 0), raises the source. -/
def cfgCrcCheck (same : Bool) (s : State) : State :=
  let ok := same && (s.word CS_CRC_A).toNat == s.cfgCrc
  (s.setB CS_STAT_CRC_OK ok).when (!ok) (·.raiseU 0x3D9)

/-! ### The commands that no host command carries -/

/-- NEGOTIATION_WINDOW_CLOSE (R458): 1 s after its opening. -/
def execNegotiationWindowClose (s : State) : Res := s.runIn 7 (closeWindow 2)

/-- LOCKOUT_END (R462). -/
def execLockoutEnd (s : State) : Res := s.runIn 7 (fun s => s.set CS_STAT_LOCKOUT_S 0)

/-- IDLE_RELOCK (R463). -/
def execIdleRelock (s : State) : Res := s.runIn 7 relock

/-- CS_LOCK (R463). -/
def execCsLock (s : State) : Res := s.runIn 7 relock

/-- CS_DISCARD (R463). -/
def execCsDiscard (s : State) : Res := s.runIn 7 discard

/-- SERVICE_REQ (R464). -/
def execServiceReq (s : State) : Res := s.runIn 7 (fun s => counted 0x003 (serviceReq s))

/-- SERVICE_EXIT (R464). -/
def execServiceExit (s : State) : Res := s.runIn 7 serviceExit

/-- SERVICE_MODE_ENTRY (R464). -/
def execServiceModeEntry (s : State) : Res := s.runIn 7 serviceEnter

/-- LOG_ACK (R471). -/
def execLogAck (v : BitVec 32) (s : State) : Res := s.runIn 7 (fun s => counted 0x003 (ackLog v.toNat s))

/-- CS_CFG_CRC (R468). -/
def execCsCfgCrc (same : Bool) (s : State) : Res := s.runIn 7 (cfgCrcCheck same)

end Sys2Proof.Machine
end

