-- ==== Sys2Proof/Machine/Startup.lean ====
section
/-!
DEFINITION. Start-up from power-good to admission (R404, R405, R473-R483), and the life counters (R499). The vote that admits is
in Lane.
-/
namespace Sys2Proof.Machine

/-- Start-up is at step k and runs. -/
def State.suRuns (s : State) (k : Nat) : Bool :=
  s.f SU_STAT_STEP == k && !s.on SU_STAT_HALTED && !s.su.stopped && !s.inLrst

/-- A step failed: SU_STAT names it and its cause. -/
def suFail (step cause : Nat) (s : State) : State := (s.set SU_STAT_FAIL_STEP step).set SU_STAT_CAUSE cause

/-- The lane is halted at a step (*Start-up steps*). -/
def suHalt (step cause : Nat) (s : State) : State := suFail step cause (s.setB SU_STAT_HALTED true)

/-- Milliseconds since the start. -/
def State.suMs (s : State) : Nat := (s.tb - s.su.startTb) / 200000

/-! ### Steps 0 and 1 -/

/-- Power-up: bit d of `bad` is a domain outside its window; it stays in step 0 until all is well. -/
def startPowerUp (bad : Nat) (s : State) : State :=
  if !s.suRuns 0 then s
  else
    let lock := s.f CLK_PLL_ST_LOCK
    let badDom := [1, 2, 3, 4, 5, 6, 7].find? (bitOf bad)
    let badPll := [0, 1, 2].find? (fun i => !bitOf lock i)
    match badDom, badPll with
    | some d, _ => suFail 0 d s
    | none, some i => suFail 0 (0x11 + i) s
    | none, none => s.set SU_STAT_STEP 1

/-- What a repair leaves in use and spare before the map is applied (R405). -/
def repairStart (s : State) : State :=
  let s := [CORE_MAP_A, RP_SPARE_A, RP_SLICE_A, RP_WIN_A, JAN_FENCE_A].foldl (fun t a => t.setWord a (porWord a)) s
  let s := s.each (List.range 48) (fun h t => (t.set (HB_STAT_SLICE_H h) 0).set (HB_STAT_SLICE_L h) 0)
  let s := s.each (List.range 8) (fun g t => (t.set (BG_STAT_LOST g) 0).setB (BG_STAT_NO_ENABLE g) false)
  let s := (s.set BIST_SHADOW_HELD 0).set BIST_SHADOW_ACTIVE 0
  { s with rep := { map := s.rep.map, unwritten := s.rep.unwritten, retried := s.rep.retried }
           bist := { s.bist with shadow := [] } }

/-- A slice of a gate output failed in the power cycle in which another had failed, before the spare had joined: the half-bridge was
lost, and stays so after every later POR (R216). -/
def State.goneIn (s : State) (e : Word × Word) : Bool :=
  s.rep.map.any (fun p => fieldGet p.1 24 4 == 4 && fieldGet p.1 28 2 != 2 && fieldGet p.1 12 12 / 8 == fieldGet e.1 12 12 / 8 &&
    fieldGet p.2 16 16 == fieldGet e.2 16 16)

/-- A driver slice of the map: codes of HB_STAT.SLICE_H and SLICE_L (R216, R223). -/
def applyDriver (o sl : Nat) (lost gone : Bool) (s : State) : State :=
  let was := s.rep.usedDrv.contains o
  let s := if was then s else { s with rep := { s.rep with usedDrv := s.rep.usedDrv ++ [o] } }
  let s := if lost || was then s else s.set RP_SPARE_DRV_USED (satU 8 (s.f RP_SPARE_DRV_USED + 1))
  if 96 ≤ o then s
  else
    let h := o / 2
    let x := if o % 2 = 1 then HB_STAT_SLICE_H h else HB_STAT_SLICE_L h
    let c := s.f x
    if !lost then s.set x 1
    else if sl = 7 ∧ c = 0 then s
    else if c < 2 ∧ (sl = 7 ∨ !gone) then s.set x 3
    else ((s.set x 4).setBit (BG_STAT_LOST (h / 6)) (h % 6) true).setB (BG_STAT_NO_ENABLE (h / 6)) true

/-- One entry of the map is applied (R83, R405, *Repair actions*). -/
def applyEntry (e : Word × Word) (s : State) : State :=
  let e0 := e.1
  let lost := fieldGet e0 28 2 == 2
  let res := fieldGet e0 12 12
  let spare := fieldGet e0 0 12
  match fieldGet e0 24 4 with
  | 1 =>
    if !lost then
      ((s.setB CORE_MAP_SPARE_USED true).set CORE_MAP_SPARE_FOR res).setB RP_SPARE_CORE_FREE false
    else coreLost res s
  | 2 => { s with rep := { s.rep with deadCh := s.rep.deadCh ++ [res] } }
  | 3 =>
    if !lost then
      let w := s.f RP_WIN_FOR_j
      s.set RP_WIN_FOR_j (w - w / 256 ^ spare % 256 * 256 ^ spare + res % 256 * 256 ^ spare)
    else if res < 48 then { s with rep := { s.rep with failWin := s.rep.failWin ++ [res] } }
    else if res < 0x3C then s
    else { s with rep := { s.rep with usedWin := s.rep.usedWin ++ [0, 1, 2, 3].filter (fun j => spareIndex j == res) } }
  | 4 => applyDriver (res / 8) (res % 8) lost (s.goneIn e) s
  | 5 => { s with rep := { s.rep with deadPhy := s.rep.deadPhy ++ [res] } }
  | 6 =>
    match s.logicalOf res with
    | some l =>
      if lost then { s with rep := { s.rep with lostSlice := s.rep.lostSlice ++ [l] } }
      else
        let w := s.f RP_SLICE_PHYS_l
        (s.set RP_SLICE_PHYS_l (w - w / 16 ^ l % 16 * 16 ^ l + 8 * 16 ^ l)).setB RP_SPARE_SLICE_FREE false
    | none => s.setB RP_SPARE_SLICE_FREE false
  | 7 =>
    let b := res / 1024
    if !lost then
      { s.set RP_SPARE_ROW_FREE (s.f RP_SPARE_ROW_FREE - 1) with
        rep := { s.rep with rowsUsed := listSet s.rep.rowsUsed b (s.rep.rowsUsed.getD b 0 + 1) } }
    else if b < 2 then { s with rep := { s.rep with bankLost := true } }
    else s.setBit JAN_FENCE_FENCED (res % 1024 / 64) true
  | _ => s

/-- A lost bus threshold comparator takes a spare window that this POR finds free; else the groups on its bus stay held off. -/
def applyBus (e0 : Word) (s : State) : State :=
  let res := fieldGet e0 12 12
  if !(fieldGet e0 28 2 == 2 && fieldGet e0 24 4 == 3 && decide (0x30 ≤ res) && decide (res < 0x3C)) then s
  else if [0, 1, 2, 3].any (fun j => s.winFor j == res) then s
  else match [0, 1, 2, 3].find? s.winFree with
  | some j =>
    let w := s.f RP_WIN_FOR_j
    s.set RP_WIN_FOR_j (w - w / 256 ^ j % 256 * 256 ^ j + res * 256 ^ j)
  | none => { s with rep := { s.rep with deadBus := s.rep.deadBus ++ [(res - 0x30) / 3] } }

/-- A pending entry is in force. -/
def entryInForce (e : Word × Word) : Word × Word := if fieldGet e.1 28 2 = 0 then (fieldSet e.1 28 2 1, e.2) else e

/-- The map is applied in index order (R405). -/
def applyMap (s : State) : State :=
  let es := s.rep.map.map (·.1)
  let s := s.rep.map.foldl (fun t e => applyEntry e t) (repairStart s)
  let s := es.foldl (fun t e => applyBus e t) s
  let s := { s with rep := { s.rep with map := s.rep.map.map entryInForce } }
  let s := showWinFree (mapCounts s)
  let fact := (es.filter (fun e => fieldGet e 30 1 == 0)).length
  (s.set RP_STAT_SHIP (satU 8 fact)).setB JAN_STAT_SPARE_SPENT (s.logicalOf 8).isSome

/-- Repair map (step 1). -/
def startMap (crcOk : Bool) (s : State) : State :=
  if !s.suRuns 1 then s
  else if !crcOk then suHalt 1 0x20 ((s.setB RP_STAT_MAP_OK false).raiseU 0x3FB)
  else ((applyMap s).setB RP_STAT_MAP_OK true).set SU_STAT_STEP 2

/-! ### Step 2: configuration (R475) -/

/-- The state with the words of the stored image in force (R467, R508). -/
def loadImage (i : Image) (s : State) : State :=
  let s := i.words.foldl (fun t p => t.setWord p.1 (mergeW (storedMask p.1) (t.word p.1) p.2)) s
  (s.setWord FEAT_ACCEPT_LO_A i.acceptLo).setWord FEAT_ACCEPT_HI_A i.acceptHi

/-- Checks 3 to 5 of R466 on loaded values: whether they pass, and what the checks report. -/
def loadChecks (feats : Nat) (t s : State) : Bool × State :=
  let sched := t.schedFail (bitOf feats 6)
  let s := showSched sched s
  if sched.isSome || !s.okParam feats t || !s.okOutputs t then (false, s)
  else
    let b := budgetCheck t s
    let x := exchangeCheck t b.2
    (b.1 && x.1, x.2)

/-- The configuration is in force: CRCs, what follows from it, and start-up goes on; its tick grid begins at the next TICK. -/
def confGo (old s : State) : State :=
  let t := configPassed (refreshCrcs (configApplied old s))
  { t with tk := { t.tk with first := true } }

/-- The configuration is invalid: the fields have their POR values, and the lane waits for a COMMIT with STORE. -/
def confInvalid (cause : Nat) (s : State) : State :=
  let s := refreshCrcs (configApplied s s)
  { suFail 2 cause s with su := { s.su with confWait := true } }

/-- The step reads the stored image; `crcOk` says how its CRC compares. -/
def confFromImage (crcOk : Bool) (s : State) : State :=
  match s.nv.image with
  | none => confInvalid 0x30 s
  | some i =>
    if !i.ok || !crcOk then confInvalid 0x31 s
    else
      let t := loadImage i s
      let r := loadChecks (Nat.land s.offer i.acceptLo.toNat) t s
      if r.1 then confGo s (loadImage i r.2) else confInvalid 0x32 r.2

/-- Configuration (step 2): from the image after POR, after a wake from DORMANT (origin 3), and where a wake from RETAIN has lost its
bank; else what is in force (R424, R475). -/
def startConfig (crcOk : Bool) (s : State) : State :=
  if !s.suRuns 2 || s.su.confOk || s.su.confWait then s
  else if s.f SU_STAT_ORIGIN % 3 = 0 ∨ s.f PWR_STAT_RESTORING / 4 = 1 then confFromImage crcOk s
  else if s.f SU_STAT_ORIGIN = 1 ∧ (s.word CS_CRC_A).toNat ≠ s.cfgCrc then confInvalid 0x33 (clearConfig s)
  else confGo s s

/-! ### Steps 3 and 4 -/

/-- Janus injection (R194): all 65 patterns are presented, `rails` being what the rails report where it is not what the comparison
finds. JAN_INJ_FAIL and JAN_INJ_STAT describe the last failure (DEDUCED, log entry 102). -/
def startInjection (rails : List (Nat × RailPair)) (s : State) : State :=
  if !s.suRuns 3 then s
  else
    let fails := (List.range 65).map (fun k => (k, injFails k ((rails.find? (fun p => p.1 == k)).map (·.2))))
    match fails.reverse.find? (fun p => p.2 != 0) with
    | none => ((s.setB JAN_STAT_START_OK true).set SU_STAT_STEP 4).set BIST_STAT_MODE 2
    | some (k, bad) => suHalt 3 0x40 (((s.set JAN_INJ_STAT_FAIL_RAILS bad).set JAN_INJ_STAT_LAST_FAIL k).raise 0x055 (bad * 2 ^ 16 + k * 2 ^ 8))

/-- The spare that a repairable finding takes (*Resource kinds*), where one is free. -/
def State.spareFor (s : State) (kind res : Nat) : Option Nat :=
  match kind with
  | 1 => if res < 24 ∧ s.on RP_SPARE_CORE_FREE then some 24 else none
  | 3 => if res < 0x3C then [0, 1, 2, 3].find? s.winFree else none
  | 4 => if res % 8 ≠ 7 ∧ !s.rep.usedDrv.contains (res / 8) then some (8 * (res / 8) + 7) else none
  | 6 => if (s.logicalOf res).isSome ∧ res ≠ 8 ∧ s.spareSlice then some 8 else none
  | 7 =>
    let n := s.rep.rowsUsed.getD (res / 1024) 0
    if n < spareRows (res / 1024) then some n else none
  | _ => none

/-- A repair restart (R404): it counts as a power-on for the map. -/
def repairRestart (s : State) : State :=
  let s := (((s.setB SU_STAT_RESTARTED true).set SU_STAT_STEP 1).inc RP_PORS_PORS).setB JAN_STAT_START_OK false
  { s with su := { s.su with confOk := false, confWait := false, diag := false } }

/-- A failure without a spare of a kind that holds FAST_OK at 0: reference, Sitil PHY, engine slice. -/
def State.fatal (s : State) (kind res : Nat) : Bool :=
  kind == 0 || kind == 5 || (kind == 6 && (s.spareFor 6 res).isNone &&
    !s.rep.map.any (fun e => fieldGet e.1 24 4 == 6 && fieldGet e.1 12 12 == res && fieldGet e.1 28 2 != 2))

/-- The first step of the sweep that tests a resource (R391). -/
def firstStep (kind res : Nat) : Nat :=
  let q := match kind with
    | 1 => 40 * res
    | 2 => 1000 + 40 * res
    | 3 => if res < 0x30 then 4840 + 96 * res else if res < 0x3C then 9832 + 64 * (res - 0x30) else 4840 + 96 * (48 + (res - 0x3C))
    | 4 => 10600 + 40 * (res / 8)
    | 5 => 14600 + 100 * res
    | _ => 0
  if kind = 0 then 16 * res else 16 * (q / 15) + q % 15 + 1

/-- Where a finding comes in the start-up sweep: its part, and within one the order of the steps or of the indices (R403). -/
def findingPlace (x : Finding) : Nat :=
  x.part.val * 2 ^ 24 + (if x.part.val = 0 then firstStep x.kind.val x.res * 2 ^ 8 + x.res % 8 else x.res)

/-- A finding takes its place among those in the order of the sweep. -/
def insFinding (x : Finding) : List Finding → List Finding
  | [] => [x]
  | y :: l => if findingPlace x < findingPlace y then x :: y :: l else y :: insFinding x l

/-- The findings of the sweep in turn; whether it ends in a restart, whether it ends halted. -/
def sweepFindings : List Finding → State → Bool × Bool × State
  | [], s => (false, false, s)
  | x :: xs, s =>
    let k := x.kind.val
    if k = 5 ∧ 2 ≤ x.res ∧ s.part = .s then sweepFindings xs s
    else
      let s := s.addSat BIST_CNT_A_FAIL 2
      let q := s.fresh
      let step := q.1.toNat % 2 ^ 14
      let s := q.2
      match s.spareFor k x.res, s.on SU_STAT_RESTARTED || s.mapped k x.res with
      | some sp, false => (true, false, addEntry 0 k x.res sp step (noteFailure k x.res step s))
      | _, _ =>
        let stop := s.fatal k x.res
        let s := if k = 3 ∧ 0x3C ≤ x.res then confirmSpare (x.res - 0x3C) step s else confirm k x.res step s
        let r := sweepFindings xs s
        (r.1, stop || r.2.1, r.2.2)

/-- Steps that passed on repetition, one report each (R399): each in a timebase period of its own before the sweep's end. -/
def raiseTransients (n : Nat) (s : State) : State :=
  s.each (List.range n) (fun i t =>
    let q := t.fresh
    q.2.raiseAt (t.tb - (n - 1 - i)) 0x3E7 q.1.toNat)

/-- FAST_BIST (R403, R404): the sweep ends, or a repair restarts it; `transient` steps passed on repetition, `skips` are the causes of
those that were repeated, in turn. -/
def fastBist (found : List Finding) (transient : Nat) (skips : List (BitVec 3)) (s : State) : State :=
  if !s.suRuns 4 then s
  else
    let s := s.addSat BIST_CNT_A_FAIL transient
    let s := skips.foldl (fun t c => skipStep c.toNat t) s
    let s := raiseTransients transient s
    let r := sweepFindings (found.foldl (fun l x => insFinding x l) []) s
    let s := r.2.2.set BIST_STAT_MODE 0
    if r.1 then repairRestart s
    else if r.2.1 then suHalt 4 0x50 s
    else
      let s := (s.setB BIST_STAT_FAST_OK true).set SU_MARK_BIST_MS (satU 16 s.suMs)
      startDvfs (s.f PWR_DVFS_POINT) (s.set SU_STAT_STEP 5)

/-! ### Steps 6 and 7, and the watch over start-up -/

/-- STARTUP_NETWORKS (R477): the first TICK after both step 4 and step 5 have ended. -/
def startNets (s : State) : State :=
  if s.suRuns 5 && s.on BIST_STAT_FAST_OK && !s.on FEAT_STAT_OPEN && !s.su.nets then
    { (s.set SU_MARK_NET_MS (satU 16 s.suMs)).set SU_STAT_STEP 6 with su := { s.su with nets := true } }
  else s

/-- STARTUP_DIAGNOSTICS (R478): step 7 begins. The required set was recorded at the end of step 2; a group of it enters DIAG at
the TICK that finds it free to start (R200). -/
def startDiag (s : State) : State := { s with su := { s.su with diag := s.su.diag || s.on BIST_STAT_FAST_OK } }

/-- DIAG_RETRY (R478): 100 ms after a run that ended in NOT_READY. -/
def diagRetry (g : Nat) (s : State) : State :=
  if !s.on SU_STAT_ADMITTED && s.fbit SU_GROUPS_REQ g && (s.grp g).retry && !s.su.stopped then
    (s.setB (PG_CTL_EN (0x020 + g)) true).setGrp g { s.grp g with retry := false }
  else s

/-- STARTUP_OVERDUE (R481). -/
def startOverdue (s : State) : State := if s.on SU_STAT_ADMITTED then s else s.setB SU_STAT_OVERDUE true

/-- STEP once step 4 has ended: 5, then 6, 7 and 8 as their conditions stand (log entry 60). -/
def State.suStep (s : State) : Nat :=
  let w := s.f SU_WAIT_WAIT
  if s.on SU_STAT_ADMITTED then 9
  else if !s.su.nets then 5
  else if w / 2 ^ 5 % 16 ≠ 0 then 6
  else if bitOf w 9 then 7
  else 8

/-- What a TICK shows of start-up (R481, R483, R458). -/
def suTick (s : State) : State :=
  let s := s.set SU_TIME_ELAPSED_MS (satU 16 s.suMs)
  let s := if s.on FEAT_STAT_OPEN then s.set FEAT_STAT_LEFT_MS (1000 - s.suMs) else s
  if 5 ≤ s.f SU_STAT_STEP ∧ !s.su.stopped ∧ !s.on SU_STAT_HALTED then s.set SU_STAT_STEP s.suStep else s

/-! ### Life counters (R485, R499) -/

/-- HOURS_STORE (R499): operating time since the last one that the timebase has not seen, in RETAIN or DORMANT, in 0.1 h; baseplate
temperature in 0.1 °C. -/
def hoursStore (hours : Nat) (temp : Int) (s : State) : State :=
  let s := noteTemp temp (countHours hours s)
  let s := if 1000000 < s.f HPL_HOURS_HOURS ∨ 10000000 < s.f HPL_KM_KM then s.setB HPL_LIFE_END true else s
  storeLife s

/-! ### The commands -/

/-- STARTUP_POWER_UP (R473). -/
def execStartupPowerUp (bad : BitVec 8) (s : State) : Res := s.runIn 0 (startPowerUp bad.toNat)

/-- STARTUP_REPAIR_MAP (R405). -/
def execStartupRepairMap (crcOk : Bool) (s : State) : Res := s.runIn 7 (startMap crcOk)

/-- STARTUP_CONFIGURATION (R475). -/
def execStartupConfiguration (crcOk : Bool) (s : State) : Res := s.runIn 7 (startConfig crcOk)

/-- STARTUP_INJECTION (R194). -/
def execStartupInjection (rails : List (Nat × RailPair)) (s : State) : Res := s.runIn 2 (startInjection rails)

/-- FAST_BIST (R404). -/
def execFastBist (found : List Finding) (transient : Nat) (skips : List (BitVec 3)) (s : State) : Res :=
  s.runIn 2 (fastBist found transient skips)

/-- STARTUP_NETWORKS (R477). -/
def execStartupNetworks (s : State) : Res := s.runIn 2 startNets

/-- STARTUP_DIAGNOSTICS (R478). -/
def execStartupDiagnostics (s : State) : Res := s.runIn 2 startDiag

/-- DIAG_RETRY (R478). -/
def execDiagRetry (g : Fin 8) (s : State) : Res := s.runIn 2 (diagRetry g)

/-- STARTUP_OVERDUE (R481). -/
def execStartupOverdue (s : State) : Res := s.runIn 2 startOverdue

/-- HOURS_STORE (R499). -/
def execHoursStore (hours : Nat) (temp : Int) (s : State) : Res := s.runIn 7 (hoursStore hours temp)

end Sys2Proof.Machine
end

