-- ==== Sys2Proof/Machine/RegRead.lean ====
section
/-!
DEFINITION. What a read of a register returns, and what it does (R3, R7, R8, R13, R84, R503-R515): the value last written,
fields that follow other state, the windows, SNAP, blocks whose domain is off.
-/
namespace Sys2Proof.Machine

/-! ### Values last written (R13) -/

/-- The configuration word last written at an address: awaiting a COMMIT, taken by the COMMIT in progress, or in force; with
the fields that await their TICK or cycle start. -/
def State.written (s : State) (a : Nat) : Word :=
  if isPwd a then 0
  else
    let m := commitMask a
    let w := match s.pendWord a, s.commitWord a with
      | some v, _ => mergeW m (s.word a) v
      | none, some v => mergeW m (s.word a) v
      | none, none => s.word a
    let w := (s.tk.reg ++ s.tk.cyc).foldl (fun w p => if p.1 = a then mergeW p.2.1 w p.2.2 else w) w
    match s.pw.late with
    | some p => if a = PWR_DVFS_A then fieldSet w PWR_DVFS_POINT.lo PWR_DVFS_POINT.width p else w
    | none => w

/-! ### Header (R505-R511) -/

/-- The features that concern a page (*Feature pages*). -/
def pageFeat (pg : Nat) : Nat :=
  if pg = 0x005 then 3 else if pg = 0x047 then 4 else if 0x020 ≤ pg ∧ pg < 0x028 then 8
  else if 0x040 ≤ pg ∧ pg < 0x045 then 0x10 else if pg = 0x00E ∨ pg = 0x070 then 0x20 else if pg = 0x045 then 0x40
  else if pg = 0x00A then 0x80 else if pg = 0x002 then 0xFF else 0

/-- PG_STAT.STATE (*PG_STAT.STATE sources*). -/
def State.pageState (s : State) (pg : Nat) : Nat :=
  if 0x010 ≤ pg ∧ pg < 0x020 then s.f (AX_STAT_STATE (pg - 0x010))
  else if 0x020 ≤ pg ∧ pg < 0x028 then s.f (BG_STAT_STATE (pg - 0x020))
  else if 0x041 ≤ pg ∧ pg < 0x045 then s.chState ((pg - 0x041) / 2)
  else if 0x051 ≤ pg ∧ pg < 0x055 then s.f (LK_STAT_STATE (pg - 0x051))
  else if pg = 0x00E then s.f LN_STAT_STATE
  else if pg = 0x00F then s.f SS_STAT_PHASE
  else if pg = 0x005 then s.f PWR_STAT_STATE
  else if pg = 0x048 then s.f NT_STAT_STATE
  else 0

/-- SOFT_RST of a page is in progress. -/
def State.pageBusy (s : State) (pg : Nat) : Bool := s.cf.soft.contains pg

/-- PG_STAT.READY (R511). -/
def State.pageReady (s : State) (pg : Nat) : Bool := s.cf.ready && !s.pageDark pg && !s.pageBusy pg

/-- A header register; `w` holds the fields that are stored. -/
def State.header (s : State) (pg off : Nat) (w : Word) : Word :=
  let n := fun (v : Nat) => BitVec.ofNat 32 v
  match off with
  | 0x00 => n (pageType pg * 2 ^ 24 + pageInstance pg * 2 ^ 16 + pg)
  | 0x08 =>
    let act := if s.on FEAT_STAT_OPEN then 0 else Nat.land (s.f FEAT_ACTIVE_LO_ACTIVE) (pageFeat pg)
    n (act * 2 ^ 16 + Nat.land s.offer (pageFeat pg))
  | 0x0C => if enPage pg then w else w ||| 1
  | 0x10 => n (s.pageState pg * 2 ^ 28 + b2n s.locked * 8 + b2n (s.on (PG_STAT_PENDING_EN pg)) * 4 + b2n (s.pageReady pg) * 2 +
      b2n (s.pageBusy pg))
  | 0x1C => n (pageFmap pg)
  | 0x20 => n (s.f (PG_LOCK_REFUSED pg) * 2 ^ 8 + b2n (s.pagePending pg) * 4 + b2n s.service * 2 + b2n s.locked)
  | _ => w

/-! ### Windows and fields that follow other state -/

/-- The schedule entry that SCH_IDX selects can be read and written (R323). -/
def State.schOpen (s : State) : Bool := decide (s.f SCH_IDX_IDX < 2048) || s.feature 6

/-- A register of the SCHED page (R342). -/
def State.schedReg (s : State) (off : Nat) (w : Word) : Word :=
  let e := s.f SCH_IDX_IDX
  let at_ := fun (k : Nat) => s.written (schBase + 16 * e + 4 * k)
  match off with
  | 0x48 => if s.schOpen then s.sit.w0.getD (at_ 0) else 0
  | 0x4C => if s.schOpen then s.sit.w1.getD (at_ 1) else 0
  | 0x50 => if s.schOpen then at_ 2 else 0
  | 0x58 =>
    let x := s.rx e
    if !s.schOpen then 0
    else BitVec.ofNat 32 (b2n x.valid * 2 ^ 31 + b2n (x.null && x.ch != 0) * 2 ^ 30 + x.ch % 4 * 2 ^ 28 + min x.age 15 * 2 ^ 24 +
      x.cycle % 2 ^ 16)
  | _ => w

/-- A register of the FAULTSRC page (R388). -/
def State.srcReg (s : State) (off : Nat) (w : Word) : Word :=
  let id := s.f FS_IDX_IDX
  match off with
  | 0x44 => s.written (fsBase + 8 * id)
  | 0x48 => s.written (fsBase + 8 * id + 4)
  | 0x4C => s.fsStat id
  | 0x50 => BitVec.ofNat 32 (s.cls id).last
  | 0x54 => (s.cls id).data
  | _ => w

/-- LOG_E0 to LOG_E3 (R385). -/
def State.logReg (s : State) (off : Nat) (w : Word) : Word :=
  let e := s.logAt (s.f LOG_IDX_IDX)
  match off with
  | 0x64 => e.e0
  | 0x68 => e.e1
  | 0x6C => e.e2
  | 0x70 => e.e3
  | _ => w

/-- RP_E0, RP_E1 and RP_CRC (R410). -/
def State.mapReg (s : State) (off : Nat) (w : Word) : Word :=
  let e := s.rep.map.getD (s.f RP_IDX_IDX) (0, 0)
  if off = 0x54 then e.1 else if off = 0x58 then e.2 else if off = 0x5C then Config.mapCrc s.rep.map else w

/-- Something awaits a COMMIT, a TICK or a cycle start in some page (R513). -/
def State.anyPending (s : State) : Bool :=
  s.pendLive != [] || (match s.cf.commit with
    | some c => c.set != []
    | none => false) ||
  (s.tk.reg ++ s.tk.cyc).any (fun p => mergeW p.2.1 (s.word p.1) p.2.2 != s.word p.1)

/-- A register of the CONFSEC page: CS_STAT.PENDING, and CL_E0 to CL_E7 (R470, R513). -/
def State.confReg (s : State) (off : Nat) (w : Word) : Word :=
  if off = 0x44 then fieldSet w 29 1 (b2n s.anyPending)
  else if 0x94 ≤ off ∧ off < 0xB4 then
    (smGet (fun _ => []) s.nv.clog (s.f CL_IDX_IDX)).getD ((off - 0x94) / 4) 0
  else w

/-- A register of the IDENT page (R514, R515). -/
def State.identReg (s : State) (off : Nat) (w : Word) : Word :=
  let a := s.part == .a
  match off with
  | 0x40 => if a then 0x0880 else 0x0881
  | 0x44 => 0x00B1B101
  | 0x48 => if a then 0x41450000 else 0x53450000
  | 0x4C => Config.serial.extractLsb' 0 32
  | 0x50 => Config.serial.extractLsb' 32 32
  | 0x54 => Config.date
  | 0x5C => s.idcode
  | _ => w

/-- A register of the CDC page: ARMED, STOPPED and PEER_RESET of each crossing (R446). -/
def State.cdcReg (s : State) (off : Nat) (w : Word) : Word :=
  if 0x80 ≤ off ∧ off < 0xC8 then
    let i := (off - 0x80) / 4
    fieldSet (fieldSet (fieldSet w 31 1 (b2n (s.xArmed i))) 30 1 (b2n (s.fbit CDC_TMO_STOPPED i))) 29 1
      (b2n (s.fbit CDC_PEER_PEER_RESET i))
  else w

/-- SP_STAT of port p: LINE, and OPEN with the forwarding driver (R338, R341). -/
def State.portStat (s : State) (p : Nat) (w : Word) : Word :=
  fieldSet w 29 3 (s.lineCode p * 2 + b2n (s.on (SP_STAT_OPEN p) || s.fwdNow p))

/-- A register whose value follows other state than its own; `w` is what is stored at its address. -/
def State.derived (s : State) (pg off : Nat) (w : Word) : Word :=
  match pg with
  | 0x000 => s.identReg off w
  | 0x002 => if off = 0x40 then BitVec.ofNat 32 s.offer else w
  | 0x003 => s.confReg off w
  | 0x005 =>
    let counts := off == 0x48 || off == 0x70 || (decide (0x80 ≤ off) && decide (off < 0xA0))
    if counts && !s.feature 1 then 0 else w
  | 0x006 => if off = 0x4C then fieldSet w 0 28 (smGet (fun _ => 0) s.ck.khz (s.f CLK_MEAS_IDX)) else w
  | 0x007 => s.cdcReg off w
  | 0x009 => s.srcReg off w
  | 0x00A => if off = 0x40 ∧ !s.feature 7 then fieldSet w 1 1 0 else s.logReg off w
  | 0x00C => s.mapReg off w
  | 0x040 => if pg * 0x400 + off = SIT_CFG2_A ∧ !s.feature 4 then
      fieldSet w SIT_CFG2_BRIDGE.lo SIT_CFG2_BRIDGE.width 0 else w
  | 0x041 => if off = 0x40 then s.portStat 0 w else w
  | 0x042 => if off = 0x40 then s.portStat 1 w else w
  | 0x043 => if off = 0x40 then s.portStat 2 w else w
  | 0x044 => if off = 0x40 then s.portStat 3 w else w
  | 0x045 => s.schedReg off w
  | 0x046 => if off = 0x44 then w ||| BitVec.ofNat 32 (packBits 4 s.fwdNow * 2 ^ 28) else w
  | 0x048 => if off = 0x48 then BitVec.ofNat 32 s.ns else if off = 0x50 then BitVec.ofNat 32 s.nt.tickNs else w
  | 0x070 => if pg * 0x400 + off = HPL_STAT_A then
      fieldSet w HPL_STAT_HOTPLUG.lo HPL_STAT_HOTPLUG.width (b2n (s.feature 5)) else w
  | _ =>
    if 0x010 ≤ pg ∧ pg < 0x020 ∧ off = 0x90 then
      fieldSet w (AX_STAT_SLICE_ACT 0).lo 3 (s.e (AX_CFG_SLICE (pg - 0x010)))
    else if 0x020 ≤ pg ∧ pg < 0x028 ∧ !s.feature 3 ∧ (List.range 6).any (fun k => HB_CFG_A (6 * (pg - 0x020) + k) == pg * 0x400 + off)
      then fieldSet w (HB_CFG_ADAPT 0).lo (HB_CFG_ADAPT 0).width 0
    else w

/-- The fields that a read shows as status: RO fields and W1C bits. -/
def isStatus (f : FDef) : Bool := f.acc == .ro || f.acc == .w1c

/-- What a register reads as in LIVE. -/
def State.live (s : State) (a : Nat) : Word :=
  let pg := a / 0x400
  let off := a % 0x400
  if (regAt a).isNone || (s.part == .s && (pg == 0x043 || pg == 0x044)) then 0
  else if off < 0x40 then s.header pg off (s.written a)
  else
    let w := s.derived pg off (s.written a)
    if s.pageDark pg then
      mergeW (maskWhere (fun f => isStatus f && f.scope == .lrst) (fieldsAt a)) w (porWord a)
    else w

/-- Registers that show an entry of a table or PG_STAT: SNAP does not freeze them (R510). -/
def neverFrozen (a : Nat) : Bool :=
  let pg := a / 0x400
  let off := a % 0x400
  off == 0x10 || pg == 0x000 || (pg == 0x00A && decide (0x64 ≤ off)) || (pg == 0x003 && decide (0x94 ≤ off)) ||
    (pg == 0x00C && (off == 0x54 || off == 0x58))

/-- What a register reads as: under SNAP its status fields are those of the TICK at which SNAP came into force (R510). -/
def State.view (s : State) (a : Nat) : Word :=
  match s.cf.snaps.find? (fun p => p.1 == a / 0x400) with
  | none => s.live a
  | some p =>
    if neverFrozen a then s.live a
    else match p.2.find? (fun q => q.1 == a) with
      | some q => mergeW (maskWhere isStatus (fieldsAt a)) (s.live a) q.2
      | none => s.live a

/-- The registers of a page as SNAP keeps them. -/
def State.snapOf (s : State) (pg : Nat) : Nat × List (Nat × Word) :=
  (pg, ((List.range 256).map (fun i => pg * 0x400 + 4 * i)).filterMap (fun a =>
    if maskWhere isStatus (fieldsAt a) = 0 then none else some (a, s.live a)))

/-! ### Reads -/

/-- The bits of `m` are a free value: what a physical queue or line holds at that instant. -/
def freeBits (m w : Word) (s : State) : Word × State :=
  let r := s.fresh
  (mergeW m w r.1, r.2)

/-- A read of NT_TIME_LO latches NT_TIME_HI; of NT_TICK_LO, NT_TICK_HI (R366). -/
def latchTime (s : State) : State := s.setWord NT_TIME_HI_A (BitVec.ofNat 32 (s.ns / 2 ^ 32))
def latchTick (s : State) : State := s.setWord NT_TICK_HI_A (BitVec.ofNat 32 (s.nt.tickNs / 2 ^ 32))

/-- Words may lie in the queue of crossing i: it is armed, its clocks run, and no flush falls in this timebase period; the status queue of 16
runs whether or not a table crosses. -/
def State.xFilled (s : State) (i : Nat) : Bool :=
  (s.xArmed i || (i == 16 && s.dom 3)) && !s.xStopped i && decide (s.ck.lrstTb < s.tb) && smGet (fun _ => 0) s.ck.flushed i != s.tb + 1

/-- LEVEL and MAXLAT of crossing i as they stand now (R438, R446): how many words its queue holds, and by how much its largest latency has
grown since the counters were cleared, are free values (log entry 122). -/
def showX (i : Nat) (s : State) : State :=
  let a := s.fresh
  let b := a.2.fresh
  let s := b.2.set (CDC_XST_LEVEL i) (if s.xFilled i then a.1.toNat % (xDepth i + 1) else 0)
  if s.tb ≤ s.ck.clrTb then s else s.set (CDC_XST_MAXLAT i) (max (s.f (CDC_XST_MAXLAT i)) (b.1.toNat % 256))

/-- A register is read: its value, and what the read does. -/
def readReg (a : Nat) (s : State) : Word × State :=
  let pg := a / 0x400
  let off := a % 0x400
  if a = NT_TIME_LO_A then (s.view a, latchTime s)
  else if a = PWR_DVFS_A then ((dvfsSettle s).view a, dvfsSettle s)
  else if a = NT_TICK_LO_A then (s.view a, latchTick s)
  else if SUP_LATCH_A 0 ≤ a ∧ a ≤ SUP_LATCH_A 7 ∧ a % 4 = 0 ∧ !s.pageDark pg then
    let g := (a - SUP_LATCH_A 0) / 4
    let t := supLatchRead g s
    if s.justLatched g then ((s.grp g).latchWas, t)
    else (if t.on (SUP_LATCH_ARMED g) then t.view a ||| fieldMask 23 1 else t.view a, t)
  else if CDC_XST_A 0 ≤ a ∧ a ≤ CDC_XST_A 17 ∧ a % 4 = 0 then
    let t := showX ((a - CDC_XST_A 0) / 4) s
    (t.view a, t)
  -- whether a frame is arriving while nothing is driven: its command comes at its end
  else if 0x041 ≤ pg ∧ pg < 0x045 ∧ off = 0x40 ∧ s.portOn (pg - 0x041) ∧ s.lineCode (pg - 0x041) = 0 then
    freeBits 0x40000000 (s.view a) s
  else (s.view a, s)

/-- Consecutive registers are read, each on its own, ascending (R512). -/
def readRegs (a : Nat) : Nat → State → List Word × State
  | 0, s => ([], s)
  | n + 1, s =>
    let r := readReg a s
    let q := readRegs (a + 4) n r.2
    (r.1 :: q.1, q.2)

/-- NT_TIME_LO_READ (R366). -/
def execNtTimeLoRead (s : State) : Res := s.runIn 7 latchTime

/-- NT_TICK_LO_READ (R366). -/
def execNtTickLoRead (s : State) : Res := s.runIn 7 latchTick

end Sys2Proof.Machine
end

