-- ==== Sys2Proof/Machine/Clear.lean ====
section
/-!
DEFINITION. The trigger registers: counters cleared, latches cleared, service requests (the CLR fields of every page, R7, R8, R511).
-/
namespace Sys2Proof.Machine

/-- Registers take the value 0. -/
def zero (l : List Nat) (s : State) : State := l.foldl (fun t a => t.setWord a 0) s

/-- Bit 0 of a trigger register at `a` of page `pg`: its counters are cleared. -/
def clearCnt (pg a : Nat) (s : State) : State :=
  if 0x020 ≤ pg ∧ pg < 0x028 then
    let g := pg - 0x020
    if a = BG_CLR_A g then zero ((List.range 6).map (fun k => HB_CNT_A (6 * g + k))) s
    else
      let u := if a = VDU_CLR_A (2 * g) then 2 * g else 2 * g + 1
      zero [VDU_CNT_A_A u, VDU_CNT_B_A u] s
  else if 0x041 ≤ pg ∧ pg < 0x045 then zero [SP_ERR_A (pg - 0x041), SP_ERR2_A (pg - 0x041)] s
  else if 0x051 ≤ pg ∧ pg < 0x055 then zero [LK_ERR_A (pg - 0x051), LK_CNT_A (pg - 0x051)] s
  else
    match pg with
    | 0x001 => zero [HP_CNT_A, HP_CNT2_A] s
    | 0x004 => zero [TICK_OVR_A, TICK_OVR2_A, OVR_LAST_A] s
    | 0x005 => zero (PWR_CNT_A :: (List.range 8).map PWR_REF_A) s
    | 0x006 => zero [CLK_CNT_A] s
    | 0x007 =>
      s.each (List.range 18) (fun i t =>
        let t := ((t.set (CDC_XST_TIMEOUTS i) 0).set (CDC_XST_RESETS i) 0).set (CDC_XST_MAXLAT i) 0
        { t with ck := { t.ck with clrTb := t.tb } })
    | 0x008 => zero [FLT_CNT_A] s
    | 0x00A => zero [LOG_CNT_A] s
    | 0x00B => zero [BIST_CNT_A_A, BIST_CNT_B_A] s
    | 0x00D => janClrCnt s
    | 0x00E => zero [LN_CNT_A] s
    | 0x00F => zero [SS_CNT_A] s
    | 0x028 => zero [AUX_CNT_A] s
    | 0x029 => zero [SUP_CHOP_A, SUP_CNT_A] s
    | 0x02A => zero [OD_CNT_A] s
    | 0x040 => zero [SIT_CNT_X_A, SIT_CNT_Y_A, SIT_CNT2_A] s
    | 0x046 => zero [CH_BLK_01_A, CH_BLK_23_A, CH_CNT_A] s
    | 0x047 => zero [SL_CNT_A_A, SL_CNT_B_A, SL_CNT_C_A, SL_CNT_D_A] s
    | 0x048 => zero [NT_CNT_A, NT_HOLD_A] s
    | 0x050 => zero [MM_CNT_A] (s.set MM_TIMING_MAX_NS 0)
    | 0x060 => zero [BLD_CNT_A] (s.set BLD_STAT_CMD_CLIP 0)
    | 0x061 => zero [STR_ERRMAX_A] (s.set STR_STAT_CLIPPED 0)
    | _ => s

/-- LN_CTL.CLR_MAINT (R284): in service mode, at the next TICK. -/
def clrMaintReq (s : State) : Bool × State :=
  if s.service then (false, { s with ln := { s.ln with clrMaint := true } }) else (true, s)

/-- At a TICK the maintenance request is cleared; it stands again where a source still asks for it. -/
def maintTick (s : State) : State :=
  if s.ln.clrMaint then showMaint { s.setB LN_STAT_MAINT false with ln := { s.ln with clrMaint := false } } else s

/-- HP_CTL.LRST (R461, R472): the lane resets 10 µs later. -/
def hostLrst (s : State) : Bool × State :=
  if s.locked then (true, s) else (false, { s with hp := { s.hp with lrstDue := true } })

/-- The second trigger of a register, at bit 1. -/
def trigger1 (a : Nat) (s : State) : Bool × State :=
  if a = TICK_CLR_A then (false, zero [HOLD_CNT_A] s)
  else if a = JAN_CLR_A then (false, clearCap s)
  else if a = SS_CTL_A then hostExit s
  else if a = LN_CTL_A then clrMaintReq s
  else if a = FLT_CTL_A then clrFirst s
  else if a = LOG_CTL_A then (false, unfreeze s)
  else if a = HP_CTL_A then hostLrst s
  else (false, s)

/-- The trigger of a register at bit 0. -/
def trigger0 (a : Nat) (s : State) : Bool × State :=
  if a = SS_CTL_A then (false, hostTrig s)
  else if a = FS_FORCE_A then fsForce s
  else (false, clearCnt (a / 0x400) a s)

/-- Two triggers of one write; the write is refused where one of them is. -/
def thenDo (b : Bool) (f : State → Bool × State) (r : Bool × State) : Bool × State :=
  if b then
    let q := f r.2
    (r.1 || q.1, q.2)
  else r

/-- CS_CTL (R463, R464). -/
def confCtl (v : Nat) (s : State) : Bool × State :=
  thenDo (bitOf v 3) (fun s => (false, discard s))
    (thenDo (bitOf v 0) (fun s => (false, relock s))
      (thenDo (bitOf v 2) (fun s => (false, serviceExit s)) (thenDo (bitOf v 1) serviceReq (false, s))))

/-- A write of a register whose fields are all triggers; refused while the block's domain is off (R511). A 0 written to a trigger leaves a 1
that still waits for its TICK (DESIGN CHOICE, log entry 127). -/
def trigReg (a v : Nat) (s : State) : Bool × State :=
  if s.pageDark (a / 0x400) then (bitOf v 0, s)
  else if a = JAN_INJ_CTL_A then (if bitOf v 31 then injGo (v % 128) s else (false, s))
  else if a = PWR_PAD_REL_A then padRel v s
  else if a = CS_CTL_A then confCtl v s
  else if a = LOG_ACK_A then ackLog v s
  else thenDo (bitOf v 0) (trigger0 a) (thenDo (bitOf v 1) (trigger1 a) (false, s))

/-- A trigger write of its own row: the value `v` at register `a`. -/
def trigRow (a v : Nat) (s : State) : Res := s.runIn 7 (fun s => counted (a / 0x400) (trigReg a v s))

/-! ### The commands -/

/-- TICK_CLR_HOLD (R54). -/
def execTickClrHold (s : State) : Res := trigRow TICK_CLR_A 2 s

/-- TICK_CLR_OVR (R54). -/
def execTickClrOvr (s : State) : Res := trigRow TICK_CLR_A 1 s

/-- VDU_CLR_CNT (R147). -/
def execVduClrCnt (u : Fin 16) (s : State) : Res := trigRow (VDU_CLR_A u) 1 s

/-- BLD_CLR_CNT (R173). -/
def execBldClrCnt (s : State) : Res := trigRow BLD_CLR_A 1 s

/-- STR_CLR_ERR (R174). -/
def execStrClrErr (s : State) : Res := trigRow STR_CLR_A 1 s

/-- BG_CLR_CNT (R223). -/
def execBgClrCnt (g : Fin 8) (s : State) : Res := trigRow (BG_CLR_A g) 1 s

/-- AUX_CLR_CNT (R224). -/
def execAuxClrCnt (s : State) : Res := trigRow AUX_CLR_A 1 s

/-- SUP_CLR_CNT (R244). -/
def execSupClrCnt (s : State) : Res := trigRow SUP_CLR_A 1 s

/-- OD_CLR_CNT (R245). -/
def execOdClrCnt (s : State) : Res := trigRow OD_CLR_A 1 s

/-- SS_CLR_CNT (R264). -/
def execSsClrCnt (s : State) : Res := trigRow SS_CLR_A 1 s

/-- CLR_MAINT (R284). -/
def execClrMaint (s : State) : Res := trigRow LN_CTL_A 2 s

/-- LN_CLR_CNT (R288). -/
def execLnClrCnt (s : State) : Res := trigRow LN_CTL_A 1 s

/-- MM_CLR_CNT (R309). -/
def execMmClrCnt (s : State) : Res := trigRow MM_CLR_A 1 s

/-- LK_CLR_CNT (R310). -/
def execLkClrCnt (m : Fin 4) (s : State) : Res := trigRow (LK_CLR_A m) 1 s

/-- SIT_CLR_CNT (R340). -/
def execSitClrCnt (s : State) : Res := trigRow SIT_CLR_A 1 s

/-- SP_CLR_CNT (R341); a QX880-S has no ports 2 and 3 (R3). -/
def execSpClrCnt (p : Fin 4) (s : State) : Res := if s.part = .s ∧ 2 ≤ p.val then .next s else trigRow (SP_CLR_A p) 1 s

/-- CH_CLR_CNT (R343). -/
def execChClrCnt (s : State) : Res := trigRow CH_CLR_A 1 s

/-- SL_CLR_CNT (R365). -/
def execSlClrCnt (s : State) : Res := trigRow SL_CLR_A 1 s

/-- NT_CLR_CNT (R366). -/
def execNtClrCnt (s : State) : Res := trigRow NT_CLR_A 1 s

/-- FLT_CLR_CNT (R387). -/
def execFltClrCnt (s : State) : Res := trigRow FLT_CTL_A 1 s

/-- LOG_CLR_CNT (R389). -/
def execLogClrCnt (s : State) : Res := trigRow LOG_CTL_A 1 s

/-- BIST_CLR_CNT (R409). -/
def execBistClrCnt (s : State) : Res := trigRow BIST_CLR_A 1 s

/-- PWR_CLR_CNT (R431). -/
def execPwrClrCnt (s : State) : Res := trigRow PWR_CLR_A 1 s

/-- CLK_CLR_CNT (R445). -/
def execClkClrCnt (s : State) : Res := trigRow CLK_CLR_A 1 s

/-- CDC_CLR_CNT (R446). -/
def execCdcClrCnt (s : State) : Res := trigRow CDC_CLR_A 1 s

/-- HP_CLR_CNT (R472). -/
def execHpClrCnt (s : State) : Res := trigRow HP_CTL_A 1 s

end Sys2Proof.Machine
end

