-- ==== Sys2Proof/Machine/RegWrite.lean ====
section
/-!
DEFINITION. What a write of a register does (R7-R13, R84, R461, R503-R513): access codes, the pending set, the windows, PG_CTL,
block resets. Each operation answers whether a field of the write was refused.
-/
namespace Sys2Proof.Machine

/-! ### Values that wait -/

/-- `v` awaits a COMMIT at `a`; a word that equals what is or will be in force does not (R466). -/
def putPend (a : Nat) (v : Word) (s : State) : State :=
  let w := if sameConf a v ((s.commitWord a).getD (s.inForce a)) then none else some v
  { s with cf := { s.cf with pend := smPut (fun _ => none) s.cf.pend a w } }

/-- The bits `m` of register `a` take those of `v` at their TICK or cycle start; the last value written counts (R12). -/
def putWait (a : Nat) (m v : Word) : List (Nat × Word × Word) → List (Nat × Word × Word)
  | [] => [(a, m, v)]
  | p :: l => if p.1 = a then (a, p.2.1 ||| m, mergeW m p.2.2 v) :: l else p :: putWait a m v l

def waitTick (a : Nat) (m v : Word) (s : State) : State := { s with tk := { s.tk with reg := putWait a m v s.tk.reg } }
def waitCycle (a : Nat) (m v : Word) (s : State) : State := { s with tk := { s.tk with cyc := putWait a m v s.tk.cyc } }

/-! ### PG_CTL (R117, R204, R508-R510) -/

/-- The block of a page is in SHUTDOWN: an enable waits for its end. -/
def State.pageShut (s : State) (pg : Nat) : Bool :=
  if 0x010 ≤ pg ∧ pg < 0x020 then s.axState (pg - 0x010) == 3
  else if 0x020 ≤ pg ∧ pg < 0x028 then s.groupState (pg - 0x020) == 5
  else false

/-- A write of EN: 1 enables, 0 disables; fixed in the other pages. -/
def writeEn (pg : Nat) (en : Bool) (s : State) : State :=
  if !enPage pg then s
  else
    let v : Word := if en then 1 else 0
    let s := if s.pageShut pg then s.setB (PG_STAT_PENDING_EN pg) en
      else if en then s else s.setB (PG_STAT_PENDING_EN pg) false
    if 0x041 ≤ pg ∧ pg < 0x045 then waitCycle (PG_CTL_A pg) 1 v s else waitTick (PG_CTL_A pg) 1 v s

/-- A write of MODE: LIVE or SNAP; any other code leaves it. -/
def writeMode (pg mode : Nat) (s : State) : State :=
  if mode ≤ 1 then waitTick (PG_CTL_A pg) 0x30 (BitVec.ofNat 32 (mode * 16)) s else s

/-- The condition of the SOFT column (*Page index*). -/
def State.softOk (s : State) (pg : Nat) : Bool :=
  if 0x010 ≤ pg ∧ pg < 0x020 then s.axState (pg - 0x010) == 0
  else if 0x020 ≤ pg ∧ pg < 0x028 then s.groupState (pg - 0x020) == 0
  else if 0x031 ≤ pg ∧ pg < 0x037 then (List.range 16).all (fun k => !s.on (CH_CFG_EN (16 * (pg - 0x031) + k)))
  else if pg = 0x037 then (List.range 8).all (fun k => !s.on (RES_CFG_EN k))
  else if pg = 0x038 then (List.range 8).all (fun k => !s.on (ENC_CFG_EN k))
  else if pg = 0x039 then (List.range 12).all (fun k => !s.on (WS_CFG_EN k))
  else if 0x041 ≤ pg ∧ pg < 0x045 then !(s.port (pg - 0x041)).en
  else if 0x051 ≤ pg ∧ pg < 0x055 then !s.on (LK_CFG_EN (pg - 0x051))
  else false

/-- The block's logic restarts; no register field is set (R509). The crossing of a port or a link is flushed (R442). -/
def softLogic (pg : Nat) (s : State) : State :=
  if 0x010 ≤ pg ∧ pg < 0x020 then s.setAxs (pg - 0x010) {}
  else if 0x020 ≤ pg ∧ pg < 0x028 then
    let g := pg - 0x020
    let s := (List.range 6).foldl (fun t k => t.setHb (6 * g + k) {}) (s.setGrp g {})
    (s.setVdu (2 * g) {}).setVdu (2 * g + 1) {}
  else if 0x031 ≤ pg ∧ pg < 0x037 then s.each (List.range 16) (fun k t => t.setInp (16 * (pg - 0x031) + k) {})
  else if pg = 0x037 then s.each (List.range 8) (fun k t => t.setInp (0x60 + k) {})
  else if pg = 0x038 then s.each (List.range 8) (fun k t => t.setInp (0x68 + k) {})
  else if pg = 0x039 then s.each (List.range 12) (fun k t => t.setInp (0x70 + k) {})
  else if 0x041 ≤ pg ∧ pg < 0x045 then peerFlush (2 + (pg - 0x041)) (s.setPort (pg - 0x041) {})
  else if 0x051 ≤ pg ∧ pg < 0x055 then peerFlush (6 + (pg - 0x051)) (s.setLink (pg - 0x051) {})
  else s

/-- SOFT_RST = 1: the block is held in reset while its condition holds; refused otherwise. -/
def softStart (pg : Nat) (s : State) : Bool × State :=
  if !s.softOk pg then (true, s)
  else
    let s := softLogic pg s
    (false, { s with cf := { s.cf with soft := if s.cf.soft.contains pg then s.cf.soft else s.cf.soft ++ [pg] } })

/-- The 2 µs end. -/
def softEnd (pg : Nat) (s : State) : State := { s with cf := { s.cf with soft := s.cf.soft.filter (· != pg) } }

/-- A write of PG_CTL: SOFT_RST = 1 ignores the other fields. -/
def writeCtl (pg : Nat) (v : Word) (s : State) : Bool × State :=
  if fieldGet v 1 1 = 1 then softStart pg s
  else (false, writeMode pg (fieldGet v 4 2) (writeEn pg (fieldGet v 0 1 == 1) s))

/-- A write of PG_FORCE (R377): each bit with a source, in ascending order. -/
def writeForce (pg : Nat) (v : Word) (s : State) : Bool × State :=
  ((List.range 32).filter (bitOf v.toNat)).foldl (fun r k => thenDo true (pgForce pg k) r) (false, s)

/-! ### Windows -/

/-- SCH_IDX (R323, R342): selects an entry and drops staged words. -/
def writeSchIdx (v : Nat) (s : State) : Bool × State :=
  let i := v % 2 ^ 13
  if 2048 ≤ i ∧ !s.feature 6 then (true, s)
  else (false, { s.set SCH_IDX_IDX i with sit := { s.sit with w0 := none, w1 := none } })

/-- A word of the schedule window; `lock`: written while locked or remotely. Reserved bits are ignored. A refused write of SCH_W2
drops the staged words. -/
def writeSchWord (lock : Bool) (k : Nat) (v : Word) (s : State) : Bool × State :=
  if lock || !s.schOpen then (true, if 2 ≤ k then { s with sit := { s.sit with w0 := none, w1 := none } } else s)
  else
    let e := s.f SCH_IDX_IDX
    match k with
    | 0 => (false, { s with sit := { s.sit with w0 := some v } })
    | 1 => (false, { s with sit := { s.sit with w1 := some (v &&& 0xFFFFF8FF) } })
    | _ =>
      let put := fun (k : Nat) (w : Option Word) (t : State) => match w with
        | some w => putPend (schBase + 16 * e + 4 * k) w t
        | none => t
      let s := put 2 (some (v &&& 0xFFFFF001)) (put 1 s.sit.w1 (put 0 s.sit.w0 s))
      let s := { s with sit := { s.sit with w0 := none, w1 := none } }
      (false, if s.on SCH_CFG_AUTO_INC then s.set SCH_IDX_IDX ((e + 1) % 2 ^ 13) else s)

/-- FS_CFG (k = 0) and FS_WIN (k = 1) of the selected source (R367, R388). -/
def writeSrcWord (lock : Bool) (k : Nat) (v : Word) (s : State) : Bool × State :=
  if lock then (true, s)
  else
    let id := s.f FS_IDX_IDX
    let a := if k = 0 then FS_CFG_A else FS_WIN_A
    let s := if srcAssigned id then putPend (fsBase + 8 * id + 4 * k) (v &&& maskWhere (fun _ => true) (fieldsAt a)) s else s
    (false, if k = 1 ∧ s.on FS_IDX_AUTO_INC then s.set FS_IDX_IDX ((id + 1) % 1024) else s)

/-! ### Ordinary registers -/

/-- The bits of `v` that a write of register `a` carries: SHARED of AIN_00 to AIN_47 reads 0 (R85). -/
def writeBits (a : Nat) (v : Word) : Word :=
  if (List.range 48).any (fun c => CH_CFG_A c == a) then fieldSet v (CH_CFG_SHARED 0).lo 1 0 else v

/-- A register without a rule of its own: each field under its access code (R8, R10, R458). -/
def writePlain (lock : Bool) (a : Nat) (v : Word) (s : State) : Bool × State :=
  let fs := fieldsAt a
  let m := fun (p : FDef → Bool) => maskWhere p fs
  let rw := m (fun f => f.acc == .rw)
  let w1c := m (fun f => f.acc == .w1c)
  let rwn := m (fun f => f.acc == .rwn)
  let com := m (fun f => f.acc == .rwl && f.eff == .commit)
  let tick := m (fun f => f.acc == .rwl && f.eff == .tick)
  let v := writeBits a v
  let s := if rw = 0 then s else s.setWord a (mergeW rw (s.word a) v)
  let s := if w1c = 0 then s else s.setWord a (s.word a &&& ~~~ (w1c &&& v &&& ~~~ s.hwBits a))
  let shut := rwn != 0 && !s.on FEAT_STAT_OPEN
  let s := if rwn = 0 ∨ shut then s else s.setWord a (mergeW rwn (s.word a) v)
  let ref := shut || (lock && (com != 0 || tick != 0))
  if lock then (ref, s)
  else
    let s := if com = 0 then s else putPend a (mergeW com (s.written a) v) s
    (ref, if tick = 0 then s else waitTick a tick v s)

/-- The register's fields are all triggers. -/
def isTrigger (a : Nat) : Bool := fieldsAt a != [] && (fieldsAt a).all (fun f => f.acc == .wo)

/-- One register is written; `remote`: over Sitil, where every RWL field counts as locked (R457). A write to a page whose
SOFT_RST runs waits for its end (R509). -/
def writeCore (remote : Bool) (a : Nat) (v : Word) (s : State) : Bool × State :=
  let pg := a / 0x400
  let off := a % 0x400
  let lock := s.locked || remote
  if (regAt a).isNone || (s.part == .s && (pg == 0x043 || pg == 0x044)) then (false, s)
  else
    let s := if s.pageBusy pg then softEnd pg s else s
    if off < 0x40 then
      match off with
      | 0x0C => writeCtl pg v s
      | 0x14 => (false, s.setWord a (s.word a &&& ~~~ (v &&& ~~~ s.hwBits a)))
      | 0x18 => writeForce pg v s
      | _ => (false, s)
    else if isTrigger a then trigReg a v.toNat s
    else if isPwd a then (if lock then (true, s) else (false, putPend a v s))
    else if a = SCH_IDX_A then writeSchIdx v.toNat s
    else if a = SCH_W0_A then writeSchWord lock 0 v s
    else if a = SCH_W1_A then writeSchWord lock 1 v s
    else if a = SCH_W2_A then writeSchWord lock 2 v s
    else if a = FS_CFG_A then writeSrcWord lock 0 v s
    else if a = FS_WIN_A then writeSrcWord lock 1 v s
    else if a = LOG_RPTR_A then (false, writeRptr v.toNat s)
    else if a = PWR_DVFS_A then dvfsRequest (fieldGet v 0 2) s
    else writePlain lock a v s

/-- One register is written, and a refusal counts in its page (R513). -/
def writeReg (remote : Bool) (a : Nat) (v : Word) (s : State) : Bool × State :=
  let r := writeCore remote a v s
  (r.1, counted (a / 0x400) r)

/-- Consecutive registers are written, each on its own, ascending (R512); whether any field was refused. -/
def writeRegs (remote : Bool) (a : Nat) : List Word → State → Bool × State
  | [], s => (false, s)
  | v :: vs, s =>
    let r := writeReg remote a v s
    let q := writeRegs remote (a + 4) vs r.2
    (r.1 || q.1, q.2)

/-- RMW (R451): the old value, whether a field was refused. -/
def rmwReg (remote : Bool) (a : Nat) (mask value : Word) (s : State) : Word × Bool × State :=
  let r := readReg a s
  let q := writeReg remote a ((r.1 &&& ~~~ mask) ||| (value &&& mask)) r.2
  (r.1, q.1, q.2)

/-! ### At a TICK and at a cycle start -/

/-- Values that wait take effect. -/
def applyWait (l : List (Nat × Word × Word)) (s : State) : State :=
  l.foldl (fun t p => t.setWord p.1 (mergeW p.2.1 (t.word p.1) p.2.2)) s

/-- SNAP comes into force or ends (R510). -/
def snapTick (s : State) : State :=
  let snap := listedPages.filter (fun pg => s.f (PG_CTL_MODE pg) == 1)
  let old := s.cf.snaps.filter (fun p => snap.contains p.1)
  let fresh := snap.filter (fun pg => !old.any (fun p => p.1 == pg))
  let s := s.when (fresh.contains 0x007) (·.each (List.range 18) showX)
  let new := fresh.map s.snapOf
  { s with cf := { s.cf with snaps := old ++ new } }

/-! ### The commands -/

/-- SOFT_RST (R509). -/
def execSoftRst (pg : BitVec 14) (s : State) : Res := s.runIn 7 (fun s => (writeReg false (PG_CTL_A pg.toNat) 2 s).2)

/-- SOFT_RST_END (R509). -/
def execSoftRstEnd (pg : BitVec 14) (s : State) : Res := s.runIn 2 (softEnd pg.toNat)

/-- PG_CTL_EN (R508). -/
def execPgCtlEn (pg : BitVec 14) (en : Bool) (s : State) : Res :=
  s.runIf 7 (s.pageThere pg.toNat) (writeEn pg.toNat en)

/-- PG_CTL_MODE (R510). -/
def execPgCtlMode (pg : BitVec 14) (mode : Bool) (s : State) : Res :=
  s.runIf 7 (s.pageThere pg.toNat) (writeMode pg.toNat (b2n mode))

/-- REGISTER_WRITE (R7). -/
def execRegisterWrite (addr : BitVec 24) (v : BitVec 32) (s : State) : Res :=
  s.runIn 7 (fun s => (writeReg false (addr.toNat / 4 * 4) v s).2)

/-- SCH_IDX_WRITE (R342). -/
def execSchIdxWrite (v : BitVec 32) (s : State) : Res := s.runIn 7 (fun s => counted 0x045 (writeSchIdx v.toNat s))

/-- SCH_W2_WRITE (R342). -/
def execSchW2Write (v : BitVec 32) (s : State) : Res := s.runIn 7 (fun s => counted 0x045 (writeSchWord s.locked 2 v s))

/-- FS_WIN_WRITE (R388). -/
def execFsWinWrite (v : BitVec 32) (s : State) : Res := s.runIn 7 (fun s => counted 0x009 (writeSrcWord s.locked 1 v s))

end Sys2Proof.Machine
end

