-- ==== Sys2Proof/Machine/Host.lean ====
section
/-!
DEFINITION. The host port and remote register access (R447-R457): the checks of a request, tags and duplicates, bounds, the order
in which accepted commands run, results; and the events that complete a WAIT or a COMMIT.
-/
namespace Sys2Proof

/-! ### The REMOTE payload of a request (R456) -/

/-- The number in bytes `o` to `o + n - 1`, most significant first. -/
def RemoteReq.num (r : RemoteReq) (o n : Nat) : Nat := Machine.fieldAt (r.payload.map (fun b => b.toNat)) o n

def RemoteReq.dest (r : RemoteReq) : BitVec 16 := BitVec.ofNat 16 (r.num 0 2)
def RemoteReq.reply (r : RemoteReq) : Bool := r.num 2 1 % 2 == 1
def RemoteReq.empty (r : RemoteReq) : Bool := r.num 2 1 / 2 % 2 == 1
def RemoteReq.cmd (r : RemoteReq) : BitVec 8 := BitVec.ofNat 8 (r.num 4 1)
def RemoteReq.tag (r : RemoteReq) : BitVec 8 := BitVec.ofNat 8 (r.num 5 1)
def RemoteReq.addr (r : RemoteReq) : BitVec 24 := BitVec.ofNat 24 (r.num 6 3)
def RemoteReq.len (r : RemoteReq) : BitVec 16 := BitVec.ofNat 16 (r.num 9 2)

/-- The data words the payload has room for, least significant byte first (R7). -/
def RemoteReq.data (r : RemoteReq) : List (BitVec 32) :=
  let bs := r.payload.map (fun b => b.toNat)
  (List.range ((bs.length - 11) / 4)).map (fun i => BitVec.ofNat 32 (Machine.ofBytesLE ((bs.drop (11 + 4 * i)).take 4)))

end Sys2Proof

namespace Sys2Proof.Machine

/-! ### Command codes (*Commands*) -/

def cRead : Nat := 0x01
def cWrite : Nat := 0x02
def cRmw : Nat := 0x03
def cNegotiate : Nat := 0x20
def cUnlock : Nat := 0x21
def cCommit : Nat := 0x22
def cStatus : Nat := 0x30
def cLogpull : Nat := 0x31

/-- CMD is in *Commands*, and LEN in the range it gives. -/
def lenOk (cmd len : Nat) : Bool :=
  if cmd = cRead ∨ cmd = cWrite then decide (1 ≤ len) && decide (len ≤ 256)
  else if cmd = cRmw then len == 2
  else if cmd = cWait ∨ cmd = cStatus then len == 0
  else if cmd = cNegotiate then len == 0 || len == 2
  else if cmd = cUnlock then len == 5
  else if cmd = cCommit then len == 1
  else if cmd = cLogpull then decide (1 ≤ len) && decide (len ≤ 64)
  else false

/-- The command carries LEN data words (R448). -/
def carriesData (cmd : Nat) : Bool := !(cmd == cRead || cmd == cWait || cmd == cStatus || cmd == cLogpull)

/-- ADDR is one that R450 lets pass. -/
def addrOk (cmd addr len : Nat) : Bool :=
  if cmd = cRead ∨ cmd = cWrite then addr % 4 == 0 && decide (addr % 0x400 + 4 * len ≤ 0x400)
  else if cmd = cRmw then addr % 4 == 0
  else if cmd = cStatus then true
  else addr == 0

/-- A request as a command to run; WAIT takes its target now (R414), COMMIT the pending words (R452). -/
def hostCmd (cmd : Nat) (q : HostReq) (s : State) : HCmd :=
  { cmd := cmd, tag := q.tag.toNat, addr := q.addr.toNat, len := q.len.toNat
    data := if carriesData cmd then q.data.take q.len.toNat else [], tgt := s.f PWR_MODE_TARGET
    pend := if cmd = cCommit then s.pendLive else [] }

/-- The bytes that the CRC of a request covers (R449). -/
def requestBytes (c : HCmd) : List Nat :=
  [c.cmd, c.tag] ++ bytesBE 3 c.addr ++ bytesBE 2 c.len ++ (c.data.map (fun w => bytesLE 4 w.toNat)).flatten

/-- Two requests are identical (R453). -/
def sameReq (a b : HCmd) : Bool := a.cmd == b.cmd && a.addr == b.addr && a.len == b.len && a.data == b.data

/-! ### Acknowledges -/

/-- The module acknowledges a tag with a code. -/
def ackHost (tag code : Nat) (s : State) : State :=
  { s with hp := { s.hp with ack := some ⟨tag, code, s.f HP_STAT_READY⟩, out := none } }

/-- A request fails with CRC or FORMAT: counted, and HP_FRAME raised. -/
def frameFails (tag code : Nat) (x : Fld) (s : State) : State := ackHost tag code ((s.inc x).raiseU 0x3C8)

/-! ### Running a command (R452) -/

/-- STORE of a COMMIT. -/
def HCmd.store (c : HCmd) : Bool := (c.data.getD 0 0).toNat % 2 == 1

/-- A WAIT: its request goes to the power manager; where another WAIT is in progress it is the one that came during the entry (R419). -/
def runWait (c : HCmd) (s : State) : State :=
  let t := pwrRequest c.tgt (.host c.tag) s
  if t.hp.busy.isNone then { t with hp := { t.hp with busy := some c } } else { t with hp := { t.hp with waitNext := some c } }

/-- COMMIT: it is in progress until COMMIT_COMPLETE, or completes at once. -/
def runCommit (c : HCmd) (s : State) : State :=
  let was := s.cf.commit.isSome
  let t := commitStart c.tag c.store c.pend c.verdict s
  if !was && t.cf.commit.isSome then { t with hp := { t.hp with busy := some c } } else t

/-- An accepted command starts. -/
def runHost (c : HCmd) (s : State) : State :=
  if c.cmd = cRead then
    let r := readRegs c.addr c.len s
    completeLast c.tag 0 r.1 r.2
  else if c.cmd = cWrite then
    let r := writeRegs false c.addr c.data s
    completeLast c.tag (if r.1 then 0x06 else 0) [] r.2
  else if c.cmd = cRmw then
    let r := rmwReg false c.addr (c.data.getD 0 0) (c.data.getD 1 0) s
    completeLast c.tag (if r.2.1 then 0x06 else 0) [r.1] r.2.2
  else if c.cmd = cWait then runWait c s
  else if c.cmd = cNegotiate then
    let r := doNegotiate c.data s
    completeFirst c.tag r.1 r.2.1 r.2.2
  else if c.cmd = cUnlock then
    let r := doUnlock c.data s
    completeFirst c.tag r.1 [r.2.view CS_STAT_A] r.2
  else if c.cmd = cCommit then runCommit c s
  else
    let r := pullLog c.len s
    completeLast c.tag 0 r.1 r.2

/-- The command runs while a WAIT or a COMMIT is in progress (R452); a WAIT then, where a request for a power state is being served and
nothing accepted before it waits: it takes the pending slot (R419). -/
def runsBeside (c : HCmd) (s : State) : Bool :=
  c.cmd == cRead || c.cmd == cWrite || c.cmd == cRmw || c.cmd == cLogpull || (c.cmd == cCommit && s.cf.commit.isSome) ||
    (c.cmd == cWait && s.hp.queue == [] && (s.pw.entry.isSome || s.pw.req.isSome))

/-- Commands that waited for a WAIT or COMMIT run in the order of their acceptance, at most `n` of them. -/
def drain : Nat → State → State
  | 0, s => s
  | n + 1, s =>
    match s.hp.busy, s.hp.queue with
    | none, c :: rest => drain n (runHost c { s with hp := { s.hp with queue := rest } })
    | _, _ => s

def drained (s : State) : State := drain s.hp.queue.length s

/-- An accepted command runs, or waits its turn. -/
def startHost (c : HCmd) (s : State) : State :=
  if (s.hp.busy.isNone && s.hp.queue == []) || runsBeside c s then drained (runHost c s)
  else if c.cmd = cCommit then
    let r := commitQueued c.store c.pend s
    { r.2 with hp := { r.2.hp with queue := r.2.hp.queue ++ [{ c with verdict := some r.1 }] } }
  else { s with hp := { s.hp with queue := s.hp.queue ++ [c] } }

/-! ### STATUS (R451, R453, R454) -/

/-- The record of a ready slot goes out, and the slot is free. -/
def fetch (x : HSlot) (s : State) : State :=
  match x.res with
  | none => s
  | some (st, data) =>
    let mark := fun (c : HCache) => if c.req.tag = x.tag ∧ c.status.isSome then { c with fetched := true } else c
    showHost { s with hp := { s.hp with
      slots := s.hp.slots.erase x
      out := some ⟨x.tag, st, data⟩
      cache := s.hp.cache.map mark } }

def hostStatus (c : HCmd) (s : State) : State :=
  let tag := c.addr % 256
  let oldest := c.addr / 2 ^ 23 % 2 == 1
  match s.hp.slots.find? (fun x => x.res.isSome && (oldest || x.tag == tag)) with
  | some x => fetch x (ackHost c.tag 0 s)
  | none =>
    let lapsed := if oldest then none else s.hp.cache.find? (fun e => e.req.tag == tag && e.fetched)
    match lapsed.bind (fun e => e.status) with
    | some st =>
      let s := ackHost c.tag 0 s
      { s with hp := { s.hp with out := some ⟨tag, st, []⟩ } }
    | none =>
      let s := ackHost c.tag 0x03 s
      { s with hp := { s.hp with out := some ⟨tag, 0, []⟩ } }

/-! ### Requests (R448-R454) -/

/-- A request that the checks let pass: duplicates, the bound, acceptance. -/
def acceptHost (c : HCmd) (s : State) : State :=
  let open_ : State → State := fun s =>
    if 16 ≤ s.hp.slots.length then ackHost c.tag 0x01 (s.inc HP_CNT_BUSY)
    else
      let s := { s with hp := { s.hp with
        slots := s.hp.slots ++ [{ tag := c.tag }]
        cache := s.hp.cache.filter (fun e => e.req.tag != c.tag) ++ [{ req := c }] } }
      startHost c (showHost (ackHost c.tag 0 s))
  match s.hp.cache.find? (fun e => e.req.tag == c.tag) with
  | none => open_ s
  | some e =>
    if sameReq e.req c then ackHost c.tag 0x04 (s.inc HP_CNT_DUP)
    else if e.status.isNone then ackHost c.tag 0x05 (s.inc HP_CNT2_CONFLICT)
    else open_ s

/-- A request frame arrives at the host port. -/
def hostRequest (cmd : Nat) (q : HostReq) (s : State) : State :=
  let c := hostCmd cmd q s
  if !lenOk cmd c.len then frameFails c.tag 0x03 HP_CNT_FORMAT s
  else if carriesData cmd && decide (q.data.length < c.len) then s.inc HP_CNT2_ABORT
  else if crc16 (requestBytes c) ≠ q.crc.toNat then frameFails c.tag 0x02 HP_CNT_CRC s
  else if !addrOk cmd c.addr c.len then frameFails c.tag 0x03 HP_CNT_FORMAT s
  else if cmd = cStatus then hostStatus c s
  else acceptHost c s

/-! ### Remote requests (R456, R457) -/

/-- A reply takes its place behind those before it. -/
def addReply (node tag : Nat) (bytes : List Nat) (counts : Bool) (s : State) : State :=
  showHost { s with hp := { s.hp with replies := s.hp.replies ++ [⟨node, tag, bytes, counts⟩] } }

/-- A remote request is answered at once. -/
def answerNow (node tag st : Nat) (data : List Word) (s : State) : State := addReply node tag (replyBytes node tag st data) true s

/-- Own REMOTE entries of the schedule. -/
def State.ownRemote (s : State) : List SchE := s.ownEntries.filter (fun e => e.kind == 4)

/-- The remote request runs (R457). -/
def runRemote (node : Nat) (c : HCmd) (s : State) : State :=
  if c.cmd = cRead then
    let r := readRegs c.addr c.len s
    answerNow node c.tag 0 r.1 r.2
  else if c.cmd = cWrite then
    let r := writeRegs true c.addr c.data s
    answerNow node c.tag (if r.1 then 0x06 else 0) [] r.2
  else if c.cmd = cRmw then
    let r := rmwReg true c.addr (c.data.getD 0 0) (c.data.getD 1 0) s
    answerNow node c.tag (if r.2.1 then 0x06 else 0) [r.1] r.2.2
  else drained (pwrRequest c.tgt (.remote node c.tag) (addReply node c.tag [] true s))

/-- Words of the reply that a remote command has. -/
def replyWords (c : HCmd) : Nat := if c.cmd = cRead then c.len else if c.cmd = cWrite then 0 else 1

/-- The tag cache of remote requests: a command enters it, older than 100 ms leave. -/
def cacheRemote (node : Nat) (c : HCmd) (s : State) : State :=
  let kept := s.hp.remotes.filter (fun e => decide (s.tb < e.at_ + 20000000) && !(e.node == node && e.req.tag == c.tag))
  { s with hp := { s.hp with remotes := kept ++ [⟨node, c, c.cmd != cWait, s.tb⟩] } }

/-- The request of a REMOTE payload as a command to run. -/
def remoteCmd (r : RemoteReq) (s : State) : HCmd :=
  { cmd := r.cmd.toNat, tag := r.tag.toNat, addr := r.addr.toNat, len := r.len.toNat
    data := if carriesData r.cmd.toNat then r.data.take r.len.toNat else [], tgt := s.f PWR_MODE_TARGET }

/-- Which of several ports that ask in one register-file cycle is served first (R455): the next from the pointer on. The commands come
one by one, in the order their sender gives them (log entry 10). -/
def State.servedFirst (s : State) (ports : List Nat) : Option Nat :=
  ((List.range 4).map (fun i => (s.hp.rrPort + i) % 4)).find? ports.contains

/-- The pointer of R455 has moved past port p. -/
def moveRr (p : Nat) (s : State) : State := { s with hp := { s.hp with rrPort := (p + 1) % 4 } }

/-- REMOTE_REQUEST: a payload with EMPTY = 1 is ignored, and a reply is nobody's request (R456). -/
def remoteRequest (r : RemoteReq) (s : State) : State :=
  let node := r.node.toNat
  let cmd := r.cmd.toNat
  let own := s.ownRemote
  let c := remoteCmd r s
  if r.reply || r.empty then s
  else if !r.bcast && r.dest.toNat != s.f SIT_ID_NODE_ID then s
  else if own = [] then s.inc HP_CNT2_REMOTE_REF
  else
    let room := (own.map (fun e => e.len)).foldl min 240
    match s.hp.remotes.find? (fun e => e.node == node && e.req.tag == c.tag && decide (s.tb < e.at_ + 20000000)) with
    | some e =>
      if sameReq e.req c || !e.done then s
      else go node cmd room c s
    | none => go node cmd room c s
where
  /-- A request that is no duplicate. -/
  go (node cmd room : Nat) (c : HCmd) (s : State) : State :=
    let s := moveRr r.port s
    let permitted := cmd == cRead || cmd == cWait || (!r.bcast && (cmd == cWrite || cmd == cRmw))
    let mine := (s.hp.replies.filter (fun x => x.node == node && x.counts)).length
    if 4 ≤ mine ∨ 32 ≤ s.remoteOut then addReply node c.tag (replyBytes node c.tag 0x01 []) false (s.inc HP_CNT_BUSY)
    else if !permitted then answerNow node c.tag 0x0F [] s
    else if !lenOk cmd c.len || decide (c.data.length < (if carriesData cmd then c.len else 0)) || !addrOk cmd c.addr c.len ||
        decide (room < 8 + 4 * replyWords c) then answerNow node c.tag 0x03 [] s
    else runRemote node c (cacheRemote node c s)

/-! ### The commands -/

/-- READ (R449). -/
def execReadCmd (q : HostReq) (s : State) : Res := s.runIn 7 (hostRequest cRead q)

/-- WRITE (R10). -/
def execWriteCmd (q : HostReq) (s : State) : Res := s.runIn 7 (hostRequest cWrite q)

/-- RMW (R451). -/
def execRmw (q : HostReq) (s : State) : Res := s.runIn 7 (hostRequest cRmw q)

/-- WAIT (R414). -/
def execWaitCmd (q : HostReq) (s : State) : Res := s.runIn 7 (hostRequest cWait q)

/-- NEGOTIATE (R458). -/
def execNegotiate (q : HostReq) (s : State) : Res := s.runIn 7 (hostRequest cNegotiate q)

/-- UNLOCK (R461). -/
def execUnlock (q : HostReq) (s : State) : Res := s.runIn 7 (hostRequest cUnlock q)

/-- COMMIT (R466). -/
def execCommit (q : HostReq) (s : State) : Res := s.runIn 7 (hostRequest cCommit q)

/-- STATUS (R451). -/
def execStatus (q : HostReq) (s : State) : Res := s.runIn 7 (hostRequest cStatus q)

/-- LOGPULL (R385). -/
def execLogpull (q : HostReq) (s : State) : Res := s.runIn 7 (hostRequest cLogpull q)

/-- UNKNOWN_COMMAND (R450). -/
def execUnknownCommand (cmd : BitVec 8) (q : HostReq) (s : State) : Res := s.runIn 7 (hostRequest cmd.toNat q)

/-- REMOTE_REQUEST (R457). -/
def execRemoteRequest (r : RemoteReq) (s : State) : Res := s.runIn 7 (remoteRequest r)

/-- COMMIT_COMPLETE (R466). -/
def execCommitComplete (ok : Bool) (s : State) : Res := s.runIn 7 (fun s => drained (commitDone ok s))

/-- POWER_REQUEST_EVALUATE (R414). -/
def execPowerRequestEvaluate (s : State) : Res := s.runIn 0 (fun s => drained (pwrEvaluate s))

/-- AP1 (R415). -/
def execAp1 (s : State) : Res := s.runIn 0 (fun s => drained (ap1 s))

/-- AP2 (R415). -/
def execAp2 (s : State) : Res := s.runIn 0 (fun s => drained (ap2 s))

/-- AP3 (R429). -/
def execAp3 (s : State) : Res := s.runIn 0 (fun s => drained (ap3 s))

/-- AP4 (R415). -/
def execAp4 (s : State) : Res := s.runIn 0 (fun s => drained (ap4 s))

end Sys2Proof.Machine
end

