-- ==== Sys2Proof/Machine/Idle.lean ====
section
/-!
DEFINITION. What passes when no command waits: one period of the 5 ns timebase (DESIGN CHOICE, log entry 1).
-/
namespace Sys2Proof.Machine

/-- The decisions of `k` timebase periods that pass without an event (R130): with the windows and timers as they are, a unit has
nothing left to change after three of them: a refresh begins, or ends, and one change follows. -/
def unitsPass (k : Nat) (s : State) : State := decideAll (min k 3) s

/-- `k` periods of the timebase pass at the rate and slew in force (R355, R360, R361; log entry 1). -/
def passBy (k : Nat) (s : State) : State :=
  let s := unitsPass k s
  let slew := s.nt.slew
  let per : Int := 5 * 2 ^ 32 + 5 * s.nt.rate
  -- the slew acts for as many periods as it takes, its last period with what is left
  let moved : Int := if k * s.nt.slewPer.natAbs < slew.natAbs then k * s.nt.slewPer else slew
  { s with
    tb := s.tb + k
    time := (s.time + k * per + moved).toNat
    nt := { s.nt with slew := slew - moved } }

/-- One timebase period: the free-running count and network time advance, and every vector decision unit decides (R130). In RETAIN and
DORMANT the timebase stops (R364). -/
def idle (s : State) : State := if s.powered && decide (s.f PWR_STAT_STATE < 2) then passBy 1 s else s

end Sys2Proof.Machine
end

