-- ==== Sys2Proof/Machine/Tick.lean ====
section
/-!
DEFINITION. TICK (R33): the grid, the reference, and every per-tick change of the lane in turn (R12).
-/
namespace Sys2Proof.Machine

/-! ### The grid (R32-R37, R53) -/

/-- The timebase periods in which network time reaches the instant `till` (2^-32 ns): it advances in whole periods, the slew acting in
as many of them as it takes (R355, R359). -/
def State.periodsTo (s : State) (till : Nat) : Nat :=
  let per : Int := 5 * 2 ^ 32 + 5 * s.nt.rate
  let gap : Int := till - s.time
  let up := fun (a b : Int) => ((a + max 1 b - 1) / max 1 b).toNat
  let k := up gap (if s.nt.slew = 0 then per else per + s.nt.slewPer)
  if s.nt.slew = 0 ∨ k * s.nt.slewPer.natAbs ≤ s.nt.slew.natAbs then k else up (gap - s.nt.slew) per

/-- Time passes to the first period of the timebase at or after the instant `till` (2^-32 ns; log entry 1). -/
def passTo (till : Nat) (s : State) : State := passBy (s.periodsTo till) s

/-- The instant of TICK n on the grid in force, with the phase that is not corrected yet (R33, R37), in ns. -/
def State.tickAt (s : State) (n : Nat) : Nat := ((n * s.tNs + s.phaseNs : Nat) + s.tk.phase).toNat

/-- The number of the first grid TICK at or after `t` ns, and of the nearest one. -/
def State.tickAfter (s : State) (t : Nat) : Nat := (((t : Int) - s.phaseNs - s.tk.phase + (s.tNs - 1 : Nat)) / max 1 (s.tNs : Int)).toNat
def State.tickNear (s : State) (t : Nat) : Nat := (((t : Int) - s.phaseNs - s.tk.phase + (s.tNs / 2 : Nat)) / max 1 (s.tNs : Int)).toNat

/-- The COMMIT that this TICK follows has changed the grid (R53). -/
def State.newGrid (s : State) : Bool := s.engOld.any (fun p => p.1 == TICK_CFG_A || p.1 == TICK_PHASE_A)

/-- What a timebase period adds to the clock that TICK runs by without network time (R35, R36), 2^-32 ns: the local timebase
itself for the bench, else at the last rate. -/
def State.localPer (s : State) : Nat := (5 * 2 ^ 32 + (if s.e TICK_CFG_SRC = 0 then 5 * s.nt.rate else 0)).toNat

/-- The next TICK of the network-time grid: the first of a new grid once the running tick has ended (R53), else the one that
follows; where more than half a tick has passed since the last one, the one nearest to the present (log entry 1). -/
def gridTick (s : State) : State :=
  let fresh := s.newGrid
  let oldEnd := s.tk.at_ / 2 ^ 32 + s.tNs
  let half := s.tNs / 2 * 2 ^ 32
  let s := { s with engOld := [] }
  let s := s.set TICK_STAT_LEN_ACT (s.f TICK_CFG_LEN)
  let n := if s.tk.first then s.tickNear s.ns
    else if fresh then s.tickAfter oldEnd
    else if s.tk.at_ + half ≤ s.time then s.tickNear s.ns
    else s.tickNo + 1
  let at_ := s.tickAt n
  let s := passTo (at_ * 2 ^ 32) s
  { s with
    tickNo := n
    tk := { s.tk with first := false, at_ := at_ * 2 ^ 32, lastTb := s.tb }
    nt := { s.nt with tickNs := at_ } }

/-- The next TICK by the local count: T after the last one in timebase periods, with what the guard has moved; where more than a
tick and a half has passed, the nearest (log entry 1). Between the edges of the ring master's tick it runs in the same way. -/
def localTick (s : State) : State :=
  let per := max 1 s.localPer
  let t := s.tNs * 2 ^ 32
  let gone := (s.tb - s.tk.lastTb) * per
  let m := max 1 ((gone + t / 2) / max 1 t)
  let total := ((m * t + s.tk.frac : Nat) + s.tk.move * 2 ^ 32 : Int).toNat
  let k := total / per
  let s := { s with engOld := [] }
  let s := passBy (k - (s.tb - s.tk.lastTb)) s
  { s with
    tickNo := s.tickNo + m
    tk := { s.tk with at_ := s.time, lastTb := s.tb, frac := total % per, move := 0 }
    nt := { s.nt with tickNs := s.ns } }

/-- The next TICK: on the grid of network time where that is the reference, and for the first TICK and a new grid; else by the
local count. -/
def nextTick (s : State) : State :=
  if s.f TICK_STAT_SRC_ACT = 0 then gridTick { s with tk := { s.tk with move := 0 } }
  else if s.tk.first || s.newGrid then gridTick { s with tk := { s.tk with phase := 0, frac := 0, move := 0 } }
  else localTick s

/-- The reference in force (*Tick reference selection*): 0 network time, 1 local timebase, 2 the ring master's tick, which is
present while its edges arrive on SYNC_N (R304, R306). The module that drives SYNC_N has no other's (R35). -/
def State.tickRef (s : State) : Nat :=
  if s.e TICK_CFG_SRC ≠ 0 then 1
  else if s.on NT_STAT_LOCKED then 0
  else if s.on MM_STAT_SYNC_OK && !s.on MM_STAT_SYNC_DRV then 2
  else 1

/-- The phase of TICK against a reference that it begins to follow (R37): the distance from the nearest instant of the grid, whose
number this TICK then has (R33); the offset last measured from the ring master's tick; none from the own timebase. -/
def takeRef (ref : Nat) (s : State) : State :=
  match ref with
  | 0 =>
    let s := { s with tk := { s.tk with phase := 0 } }
    let at_ := s.tk.at_ / 2 ^ 32
    let n := s.tickNear at_
    { s with tickNo := n, tk := { s.tk with phase := at_ - (n * s.tNs + s.phaseNs : Nat) } }
  | 2 => { s with tk := { s.tk with phase := s.fI TICK_ALIGN_OFFSET, frac := 0 } }
  | _ => { s with tk := { s.tk with phase := 0, frac := 0 } }

/-- The reference is selected (R35); a fall-back to the local timebase after admission raises TICK_REF_LOSS (R36, R483). -/
def refTick (s : State) : State :=
  let old := s.f TICK_STAT_SRC_ACT
  let ref := s.tickRef
  let fell := s.e TICK_CFG_SRC == 0 && ref == 1 && old != 1 && s.on SU_STAT_ADMITTED
  let s := (s.set TICK_STAT_SRC_ACT ref).setB TICK_STAT_RING_REF (ref == 2)
  let s := if ref = old then s else takeRef ref s
  let s := { s with tk := { s.tk with refLoss := fell || (s.tk.refLoss && ref == 1) } }
  s.when fell (·.raiseU 0x003)

/-- A Sitil cycle starts at this TICK (R34). -/
def State.cycleTick (s : State) : Bool := s.f TICK_POS_TICK_IN_CYCLE == 0

/-! ### What the TICK does -/

/-- Register values that wait for a TICK, or for a cycle start, take effect (*Takes effect*). -/
def waitTickEnd (s : State) : State :=
  let t := applyWait s.tk.reg s
  { t with tk := { t.tk with reg := [] } }
def waitCycleEnd (s : State) : State :=
  let t := applyWait s.tk.cyc s
  { t with tk := { t.tk with cyc := [] } }

/-- A Sitil cycle start; none while the power manager has the network detached (R415). -/
def cycleTick (s : State) : State :=
  if s.cycleTick && !s.detached then dualCycle (cycleStart (waitCycleEnd s)) else s

/-- Distance at the reference speed while ACTIVE (R499), kept in 1/64 mm/s × ns; HPL_KM counts 0.1 km. -/
def distTick (s : State) : State :=
  if !s.laneActive then s
  else
    let d := s.nv.dist + s.vRef.natAbs * s.tNs
    let unit := 10 ^ 5 * 64 * 10 ^ 9
    let s := { s with nv := { s.nv with dist := d % unit } }
    if d < unit then s
    else
      let s := s.addSat HPL_KM_KM (d / unit)
      s.when (decide (10000000 < s.f HPL_KM_KM)) (·.setB HPL_LIFE_END true)

/-- Operating time and baseplate temperature at a TICK (R485, R499). -/
def lifeTick (temp : Int) (s : State) : State := noteTemp temp (s.when (!s.tap.pgFell) (countHours 0))

/-- What both variants do first: grid, reference, waiting values, power manager, PLLs, cycle. -/
def tickHead (temp : Int) (s : State) : State :=
  let s := waitTickEnd (nextTick { s with jan := { s.jan with passRan := false } })
  let s := showTick (refTick s)
  let s := lifeTick temp (distTick s)
  cycleTick (pllTick (pwrTick s.cycleTick s))

/-- The communication and the lane's states, which QUIET keeps (R42, R413). -/
def tickNet (s : State) : State :=
  let s := slTick (txTick s)
  moamelTick (maintTick (laneTick (ssTick s)))

/-- Bridge groups, driver slices, decision units (R133, R200, R216, R231). -/
def tickGates (s : State) : State :=
  let s := s.each (List.range 8) (fun g t => hovLevel g (groupTick g t))
  let s := s.each (List.range 48) (fun h t => sliceTick h false (sliceTick h true t))
  s.each (List.range 16) vduTick

/-- Classes as a COMMIT left them take effect (R371), then the reactions in force: those no source holds any longer end (R373), the
others act. No commit falls in the cycle of a TICK. -/
def tickReact (s : State) : State :=
  let t := (actReact (releaseHolds (reactTick (settleClasses s)))).each (List.range 8) (fun g t => t.setGrp g { t.grp g with reactTb := none })
  { t with aux := { t.aux with reactTb := none } }

/-- What both variants do last: SNAP, lockout, service mode, start-up; pages are ready (R511). -/
def tickTail (s : State) : State :=
  let s := suTick (lockTick (serviceTick (snapTick (bistTick s))))
  { s with cf := { s.cf with ready := s.cf.ready || decide (2 ≤ s.f SU_STAT_STEP) } }

/-- Holds and reactions that have ended let go before the set-points go into force (R281, R373). -/
def tickFree (s : State) : State := releaseHolds (reactTick (backTick s))

/-- A tick in RUN: the committed set-points go into force first (R48, R49), then what the tick before has settled. -/
def tickRun (x : Snap) (s : State) : State :=
  let s := sourcesTick (tickNet (axesTick (tickFree (tickHead x.temp s))))
  let s := tickGates (snapshot s.tickNo x s)
  tickTail (janTick (auxTick (tickReact s)))

/-- A tick in QUIET: no program, no outputs, no snapshot; network and lane go on, and wheel-speed inputs go on stamping edges (R42,
R413). -/
def tickQuiet (x : Snap) (s : State) : State :=
  tickTail (tickReact (tickNet (tickFree (tickHead x.temp s))))

/-- TICK. -/
def tickAll (x : Snap) (s : State) : State := if s.quiet then tickQuiet x s else tickRun x s

/-- TICK (R33); no tick runs while the lane is in LRST. -/
def execTick (snap : Snap) (s : State) : Res := s.runIf 2 (!s.inLrst) (tickAll snap)

end Sys2Proof.Machine
end

