-- ==== Sys2Proof/Machine/Dispatch.lean ====
section
/-!
DEFINITION. One arm per command: the command's effect on everything but the queue.
-/
namespace Sys2Proof.Machine

def exec (i : Instr) (s : State) : Host.Outcome State Fault Refusal :=
  match i with
  | .por offMs pos laneId => Sys2Proof.Machine.execPor offMs pos laneId s
  | .powerGoodFall => Sys2Proof.Machine.execPowerGoodFall s
  | .holdupExhausted => Sys2Proof.Machine.execHoldupExhausted s
  | .lrstN => Sys2Proof.Machine.execLrstN s
  | .lrstCmd => Sys2Proof.Machine.execLrstCmd s
  | .lrst => Sys2Proof.Machine.execLrst s
  | .softRst pg => Sys2Proof.Machine.execSoftRst pg s
  | .softRstEnd pg => Sys2Proof.Machine.execSoftRstEnd pg s
  | .presentNDeassert => Sys2Proof.Machine.execPresentNDeassert s
  | .presentNReassert => Sys2Proof.Machine.execPresentNReassert s
  | .tapInstruction ir => Sys2Proof.Machine.execTapInstruction ir s
  | .testLogicReset => Sys2Proof.Machine.execTestLogicReset s
  | .tick snap => Sys2Proof.Machine.execTick snap s
  | .serviceModeEntry => Sys2Proof.Machine.execServiceModeEntry s
  | .ssiBurst e highBefore lowAfter bits parity => Sys2Proof.Machine.execSsiBurst e highBefore lowAfter bits parity s
  | .inputFreezeEnd late => Sys2Proof.Machine.execInputFreezeEnd late s
  | .senseLost h => Sys2Proof.Machine.execSenseLost h s
  | .plainPass x => Sys2Proof.Machine.execPlainPass x s
  | .janusPass x => Sys2Proof.Machine.execJanusPass x s
  | .compareAndExchange rails => Sys2Proof.Machine.execCompareAndExchange rails s
  | .arbitrationReserve => Sys2Proof.Machine.execArbitrationReserve s
  | .rerunComplete n err => Sys2Proof.Machine.execRerunComplete n err s
  | .sliceTestComplete sl pass => Sys2Proof.Machine.execSliceTestComplete sl pass s
  | .voteAndCommit missed => Sys2Proof.Machine.execVoteAndCommit missed s
  | .lnTakeback => Sys2Proof.Machine.execLnTakeback s
  | .fbXchk k => Sys2Proof.Machine.execFbXchk k s
  | .fbFreeze k => Sys2Proof.Machine.execFbFreeze k s
  | .chRange k => Sys2Proof.Machine.execChRange k s
  | .selfTestSlice inj man late => Sys2Proof.Machine.execSelfTestSlice inj man late s
  | .bistStep r => Sys2Proof.Machine.execBistStep r s
  | .bistStall => Sys2Proof.Machine.execBistStall s
  | .guardWindow => Sys2Proof.Machine.execGuardWindow s
  | .marchTestComplete pass row => Sys2Proof.Machine.execMarchTestComplete pass row s
  | .axisCoastLost n => Sys2Proof.Machine.execAxisCoastLost n s
  | .axisShutdownTimeout n => Sys2Proof.Machine.execAxisShutdownTimeout n s
  | .resExcitationFault r => Sys2Proof.Machine.execResExcitationFault r s
  | .wsOpen w => Sys2Proof.Machine.execWsOpen w s
  | .wsShort w => Sys2Proof.Machine.execWsShort w s
  | .wsEdge w => Sys2Proof.Machine.execWsEdge w s
  | .windowStateChange h before now => Sys2Proof.Machine.execWindowStateChange h before now s
  | .minPulseExpiry h => Sys2Proof.Machine.execMinPulseExpiry h s
  | .heldOff u => Sys2Proof.Machine.execHeldOff u s
  | .refreshRequest h => Sys2Proof.Machine.execRefreshRequest h s
  | .refreshEnd u => Sys2Proof.Machine.execRefreshEnd u s
  | .shootThroughLockout h => Sys2Proof.Machine.execShootThroughLockout h s
  | .deadTimeExpiry h high => Sys2Proof.Machine.execDeadTimeExpiry h high s
  | .edgeMeasured h high node => Sys2Proof.Machine.execEdgeMeasured h high node s
  | .bootUv h v => Sys2Proof.Machine.execBootUv h v s
  | .bootUvEnd h v => Sys2Proof.Machine.execBootUvEnd h v s
  | .prechargeEnd g => Sys2Proof.Machine.execPrechargeEnd g s
  | .groupShutdownTimeout g => Sys2Proof.Machine.execGroupShutdownTimeout g s
  | .gdEnFall g => Sys2Proof.Machine.execGdEnFall g s
  | .gdEnRise g long => Sys2Proof.Machine.execGdEnRise g long s
  | .offdiagRunStart => Sys2Proof.Machine.execOffdiagRunStart s
  | .offdiagRunEnd nodes pairsA pairsB => Sys2Proof.Machine.execOffdiagRunEnd nodes pairsA pairsB s
  | .desatBlankingEnd h high => Sys2Proof.Machine.execDesatBlankingEnd h high s
  | .desaturation h high => Sys2Proof.Machine.execDesaturation h high s
  | .desat2lEnd h high => Sys2Proof.Machine.execDesat2lEnd h high s
  | .desatGateLow h high => Sys2Proof.Machine.execDesatGateLow h high s
  | .chopOnComparator k v => Sys2Proof.Machine.execChopOnComparator k v s
  | .chopOffComparator v => Sys2Proof.Machine.execChopOffComparator v s
  | .chopLong c => Sys2Proof.Machine.execChopLong c s
  | .busHov k v => Sys2Proof.Machine.execBusHov k v s
  | .busUv k => Sys2Proof.Machine.execBusUv k s
  | .gsupUv j => Sys2Proof.Machine.execGsupUv j s
  | .gsupOv j => Sys2Proof.Machine.execGsupOv j s
  | .gsupReturn j => Sys2Proof.Machine.execGsupReturn j s
  | .supLatchRead g => Sys2Proof.Machine.execSupLatchRead g s
  | .auxFltAssert k => Sys2Proof.Machine.execAuxFltAssert k s
  | .auxRb x => Sys2Proof.Machine.execAuxRb x s
  | .tqoffRb x => Sys2Proof.Machine.execTqoffRb x s
  | .parkI k => Sys2Proof.Machine.execParkI k s
  | .linkMismatch => Sys2Proof.Machine.execLinkMismatch s
  | .retHoldExpiry => Sys2Proof.Machine.execRetHoldExpiry s
  | .trimLimit => Sys2Proof.Machine.execTrimLimit s
  | .steerTrack k => Sys2Proof.Machine.execSteerTrack k s
  | .safeStopPin => Sys2Proof.Machine.execSafeStopPin s
  | .ssHostTrig => Sys2Proof.Machine.execSsHostTrig s
  | .ssExitRequest => Sys2Proof.Machine.execSsExitRequest s
  | .ssEscalate => Sys2Proof.Machine.execSsEscalate s
  | .standstillConfirmed => Sys2Proof.Machine.execStandstillConfirmed s
  | .parkApplicationComplete => Sys2Proof.Machine.execParkApplicationComplete s
  | .ssParkTmo => Sys2Proof.Machine.execSsParkTmo s
  | .linkTrained m pos ringN lsys delayNs => Sys2Proof.Machine.execLinkTrained m pos ringN lsys delayNs s
  | .lkDown m => Sys2Proof.Machine.execLkDown m s
  | .spanBreakCleared east => Sys2Proof.Machine.execSpanBreakCleared east s
  | .exchangeRecord east a b r atNs => Sys2Proof.Machine.execExchangeRecord east a b r atNs s
  | .syncNEdge offNs => Sys2Proof.Machine.execSyncNEdge offNs s
  | .syncPulseEnd => Sys2Proof.Machine.execSyncPulseEnd s
  | .mmSyncLoss => Sys2Proof.Machine.execMmSyncLoss s
  | .mmAlarmIn => Sys2Proof.Machine.execMmAlarmIn s
  | .sitilFrameSend e ch rb0 rb1 => Sys2Proof.Machine.execSitilFrameSend e ch rb0 rb1 s
  | .sitilFrameReceive p first groups start residence => Sys2Proof.Machine.execSitilFrameReceive p first groups start residence s
  | .listenTimeout ch => Sys2Proof.Machine.execListenTimeout ch s
  | .coldstartTimeout ch => Sys2Proof.Machine.execColdstartTimeout ch s
  | .backoffEnd ch => Sys2Proof.Machine.execBackoffEnd ch s
  | .ntCorrection => Sys2Proof.Machine.execNtCorrection s
  | .sitLost ch => Sys2Proof.Machine.execSitLost ch s
  | .sitLossEnd ch => Sys2Proof.Machine.execSitLossEnd ch s
  | .charonStrobe devNs => Sys2Proof.Machine.execCharonStrobe devNs s
  | .charonWindow e opens => Sys2Proof.Machine.execCharonWindow e opens s
  | .chBlock p => Sys2Proof.Machine.execChBlock p s
  | .chFwdCut p => Sys2Proof.Machine.execChFwdCut p s
  | .chClk ppm => Sys2Proof.Machine.execChClk ppm s
  | .chSupply => Sys2Proof.Machine.execChSupply s
  | .chTableCheck same => Sys2Proof.Machine.execChTableCheck same s
  | .remoteRequest r => Sys2Proof.Machine.execRemoteRequest r s
  | .faultEvent => Sys2Proof.Machine.execFaultEvent s
  | .faultSourceExpiry id => Sys2Proof.Machine.execFaultSourceExpiry id s
  | .logEntryWrite => Sys2Proof.Machine.execLogEntryWrite s
  | .pgForce pg k => Sys2Proof.Machine.execPgForce pg k s
  | .fsForce => Sys2Proof.Machine.execFsForce s
  | .clrFirst => Sys2Proof.Machine.execClrFirst s
  | .unfreeze => Sys2Proof.Machine.execUnfreeze s
  | .logRptrWrite v => Sys2Proof.Machine.execLogRptrWrite v s
  | .fsWinWrite v => Sys2Proof.Machine.execFsWinWrite v s
  | .schIdxWrite v => Sys2Proof.Machine.execSchIdxWrite v s
  | .schW2Write v => Sys2Proof.Machine.execSchW2Write v s
  | .janInjGo idx => Sys2Proof.Machine.execJanInjGo idx s
  | .repairWriteComplete ok => Sys2Proof.Machine.execRepairWriteComplete ok s
  | .waitCmd q => Sys2Proof.Machine.execWaitCmd q s
  | .powerRequestEvaluate => Sys2Proof.Machine.execPowerRequestEvaluate s
  | .ap1 => Sys2Proof.Machine.execAp1 s
  | .ap2 => Sys2Proof.Machine.execAp2 s
  | .ap3 => Sys2Proof.Machine.execAp3 s
  | .ap4 => Sys2Proof.Machine.execAp4 s
  | .wakeN slow bad => Sys2Proof.Machine.execWakeN slow bad s
  | .halley wave slow => Sys2Proof.Machine.execHalley wave slow s
  | .sitilWake p slow bad => Sys2Proof.Machine.execSitilWake p slow bad s
  | .moamelWake m slow bad => Sys2Proof.Machine.execMoamelWake m slow bad s
  | .wheelWake w => Sys2Proof.Machine.execWheelWake w s
  | .pwrPadRel v => Sys2Proof.Machine.execPwrPadRel v s
  | .padCheck g pass => Sys2Proof.Machine.execPadCheck g pass s
  | .dvfsRequest point => Sys2Proof.Machine.execDvfsRequest point s
  | .dvfsClockSwitch => Sys2Proof.Machine.execDvfsClockSwitch s
  | .dvfsTmo => Sys2Proof.Machine.execDvfsTmo s
  | .domSupply d => Sys2Proof.Machine.execDomSupply d s
  | .tcxoCheck chrPpm aonPpm => Sys2Proof.Machine.execTcxoCheck chrPpm aonPpm s
  | .pllLockLoss k => Sys2Proof.Machine.execPllLockLoss k s
  | .pllLock k => Sys2Proof.Machine.execPllLock k s
  | .clkFreq k meas => Sys2Proof.Machine.execClkFreq k meas s
  | .cdcTimeout k => Sys2Proof.Machine.execCdcTimeout k s
  | .cdcResume k => Sys2Proof.Machine.execCdcResume k s
  | .readCmd q => Sys2Proof.Machine.execReadCmd q s
  | .writeCmd q => Sys2Proof.Machine.execWriteCmd q s
  | .rmw q => Sys2Proof.Machine.execRmw q s
  | .negotiate q => Sys2Proof.Machine.execNegotiate q s
  | .unlock q => Sys2Proof.Machine.execUnlock q s
  | .commit q => Sys2Proof.Machine.execCommit q s
  | .commitComplete ok => Sys2Proof.Machine.execCommitComplete ok s
  | .status q => Sys2Proof.Machine.execStatus q s
  | .logpull q => Sys2Proof.Machine.execLogpull q s
  | .unknownCommand cmd q => Sys2Proof.Machine.execUnknownCommand cmd q s
  | .requestAbort => Sys2Proof.Machine.execRequestAbort s
  | .resultExpiry tag => Sys2Proof.Machine.execResultExpiry tag s
  | .tagCacheExpiry tag => Sys2Proof.Machine.execTagCacheExpiry tag s
  | .negotiationWindowClose => Sys2Proof.Machine.execNegotiationWindowClose s
  | .lockoutEnd => Sys2Proof.Machine.execLockoutEnd s
  | .idleRelock => Sys2Proof.Machine.execIdleRelock s
  | .csLock => Sys2Proof.Machine.execCsLock s
  | .csDiscard => Sys2Proof.Machine.execCsDiscard s
  | .serviceReq => Sys2Proof.Machine.execServiceReq s
  | .serviceExit => Sys2Proof.Machine.execServiceExit s
  | .logAck v => Sys2Proof.Machine.execLogAck v s
  | .csCfgCrc same => Sys2Proof.Machine.execCsCfgCrc same s
  | .pgCtlEn pg en => Sys2Proof.Machine.execPgCtlEn pg en s
  | .pgCtlMode pg mode => Sys2Proof.Machine.execPgCtlMode pg mode s
  | .ntTimeLoRead => Sys2Proof.Machine.execNtTimeLoRead s
  | .ntTickLoRead => Sys2Proof.Machine.execNtTickLoRead s
  | .registerWrite addr v => Sys2Proof.Machine.execRegisterWrite addr v s
  | .tickClrHold => Sys2Proof.Machine.execTickClrHold s
  | .tickClrOvr => Sys2Proof.Machine.execTickClrOvr s
  | .vduClrCnt u => Sys2Proof.Machine.execVduClrCnt u s
  | .bldClrCnt => Sys2Proof.Machine.execBldClrCnt s
  | .strClrErr => Sys2Proof.Machine.execStrClrErr s
  | .janClrCap => Sys2Proof.Machine.execJanClrCap s
  | .janClrCnt => Sys2Proof.Machine.execJanClrCnt s
  | .bgClrCnt g => Sys2Proof.Machine.execBgClrCnt g s
  | .auxClrCnt => Sys2Proof.Machine.execAuxClrCnt s
  | .supClrCnt => Sys2Proof.Machine.execSupClrCnt s
  | .odClrCnt => Sys2Proof.Machine.execOdClrCnt s
  | .ssClrCnt => Sys2Proof.Machine.execSsClrCnt s
  | .clrMaint => Sys2Proof.Machine.execClrMaint s
  | .lnClrCnt => Sys2Proof.Machine.execLnClrCnt s
  | .mmClrCnt => Sys2Proof.Machine.execMmClrCnt s
  | .lkClrCnt m => Sys2Proof.Machine.execLkClrCnt m s
  | .sitClrCnt => Sys2Proof.Machine.execSitClrCnt s
  | .spClrCnt p => Sys2Proof.Machine.execSpClrCnt p s
  | .chClrCnt => Sys2Proof.Machine.execChClrCnt s
  | .slClrCnt => Sys2Proof.Machine.execSlClrCnt s
  | .ntClrCnt => Sys2Proof.Machine.execNtClrCnt s
  | .fltClrCnt => Sys2Proof.Machine.execFltClrCnt s
  | .logClrCnt => Sys2Proof.Machine.execLogClrCnt s
  | .bistClrCnt => Sys2Proof.Machine.execBistClrCnt s
  | .pwrClrCnt => Sys2Proof.Machine.execPwrClrCnt s
  | .clkClrCnt => Sys2Proof.Machine.execClkClrCnt s
  | .cdcClrCnt => Sys2Proof.Machine.execCdcClrCnt s
  | .hpClrCnt => Sys2Proof.Machine.execHpClrCnt s
  | .startupPowerUp bad => Sys2Proof.Machine.execStartupPowerUp bad s
  | .startupRepairMap crcOk => Sys2Proof.Machine.execStartupRepairMap crcOk s
  | .startupConfiguration crcOk => Sys2Proof.Machine.execStartupConfiguration crcOk s
  | .startupInjection rails => Sys2Proof.Machine.execStartupInjection rails s
  | .fastBist found transient skips => Sys2Proof.Machine.execFastBist found transient skips s
  | .startupNetworks => Sys2Proof.Machine.execStartupNetworks s
  | .startupDiagnostics => Sys2Proof.Machine.execStartupDiagnostics s
  | .diagRetry g => Sys2Proof.Machine.execDiagRetry g s
  | .startupOverdue => Sys2Proof.Machine.execStartupOverdue s
  | .hoursStore hours temp => Sys2Proof.Machine.execHoursStore hours temp s
  | .charonRailReturn => Sys2Proof.Machine.execCharonRailReturn s
  | .safeStopNRelease => Sys2Proof.Machine.execSafeStopNRelease s
  | .alarmNRelease => Sys2Proof.Machine.execAlarmNRelease s
  | .updateDr u => Sys2Proof.Machine.execUpdateDr u s

end Sys2Proof.Machine
end

