-- ==== Sys2Proof/Safety.lean ====
section
/-!
DEFINITION. What counts as a safe run, and the words the claims use: the power domain a command acts in, registers left alone,
canonical tables.
-/
namespace Sys2Proof

/-- The power domain in which a command acts (*Domains and states*); the supply's own events have none. -/
def Instr.domain : Instr → Option Nat
  | .por _ _ _ => none
  | .powerGoodFall => none
  | .holdupExhausted => none
  | .lrstN => some 2
  | .lrstCmd => some 7
  | .lrst => some 2
  | .softRst _ => some 7
  | .softRstEnd _ => some 2
  | .presentNDeassert => some 2
  | .presentNReassert => some 2
  | .tapInstruction _ => some 2
  | .testLogicReset => some 2
  | .tick _ => some 2
  | .serviceModeEntry => some 7
  | .ssiBurst _ _ _ _ _ => some 5
  | .inputFreezeEnd _ => some 5
  | .senseLost _ => some 5
  | .plainPass _ => some 2
  | .janusPass _ => some 2
  | .compareAndExchange _ => some 2
  | .arbitrationReserve => some 2
  | .rerunComplete _ _ => some 2
  | .sliceTestComplete _ _ => some 2
  | .voteAndCommit _ => some 2
  | .lnTakeback => some 2
  | .fbXchk _ => some 5
  | .fbFreeze _ => some 5
  | .chRange _ => some 5
  | .selfTestSlice _ _ _ => some 2
  | .bistStep _ => some 2
  | .bistStall => some 2
  | .guardWindow => some 2
  | .marchTestComplete _ _ => some 2
  | .axisCoastLost _ => some 2
  | .axisShutdownTimeout _ => some 2
  | .resExcitationFault _ => some 5
  | .wsOpen _ => some 5
  | .wsShort _ => some 5
  | .wsEdge _ => some 5
  | .windowStateChange _ _ _ => some 6
  | .minPulseExpiry _ => some 6
  | .heldOff _ => some 6
  | .refreshRequest _ => some 6
  | .refreshEnd _ => some 6
  | .shootThroughLockout _ => some 6
  | .deadTimeExpiry _ _ => some 6
  | .edgeMeasured _ _ _ => some 6
  | .bootUv _ _ => some 6
  | .bootUvEnd _ _ => some 6
  | .prechargeEnd _ => some 6
  | .groupShutdownTimeout _ => some 6
  | .gdEnFall _ => some 6
  | .gdEnRise _ _ => some 6
  | .offdiagRunStart => some 6
  | .offdiagRunEnd _ _ _ => some 6
  | .desatBlankingEnd _ _ => some 6
  | .desaturation _ _ => some 6
  | .desat2lEnd _ _ => some 6
  | .desatGateLow _ _ => some 6
  | .chopOnComparator _ _ => some 6
  | .chopOffComparator _ => some 6
  | .chopLong _ => some 6
  | .busHov _ _ => some 6
  | .busUv _ => some 6
  | .gsupUv _ => some 6
  | .gsupOv _ => some 6
  | .gsupReturn _ => some 6
  | .supLatchRead _ => some 6
  | .auxFltAssert _ => some 6
  | .auxRb _ => some 6
  | .tqoffRb _ => some 6
  | .parkI _ => some 6
  | .linkMismatch => some 2
  | .retHoldExpiry => some 2
  | .trimLimit => some 2
  | .steerTrack _ => some 2
  | .safeStopPin => some 2
  | .ssHostTrig => some 2
  | .ssExitRequest => some 2
  | .ssEscalate => some 2
  | .standstillConfirmed => some 2
  | .parkApplicationComplete => some 2
  | .ssParkTmo => some 2
  | .linkTrained _ _ _ _ _ => some 4
  | .lkDown _ => some 4
  | .spanBreakCleared _ => some 4
  | .exchangeRecord _ _ _ _ _ => some 4
  | .syncNEdge _ => some 4
  | .syncPulseEnd => some 4
  | .mmSyncLoss => some 4
  | .mmAlarmIn => some 4
  | .sitilFrameSend _ _ _ _ => some 3
  | .sitilFrameReceive _ _ _ _ _ => some 3
  | .listenTimeout _ => some 3
  | .coldstartTimeout _ => some 3
  | .backoffEnd _ => some 3
  | .ntCorrection => some 3
  | .sitLost _ => some 3
  | .sitLossEnd _ => some 3
  | .charonStrobe _ => some 3
  | .charonWindow _ _ => some 3
  | .chBlock _ => some 3
  | .chFwdCut _ => some 3
  | .chClk _ => some 3
  | .chSupply => some 3
  | .chTableCheck _ => some 3
  | .remoteRequest _ => some 7
  | .faultEvent => some 2
  | .faultSourceExpiry _ => some 2
  | .logEntryWrite => some 2
  | .pgForce _ _ => some 2
  | .fsForce => some 2
  | .clrFirst => some 2
  | .unfreeze => some 2
  | .logRptrWrite _ => some 2
  | .fsWinWrite _ => some 7
  | .schIdxWrite _ => some 7
  | .schW2Write _ => some 7
  | .janInjGo _ => some 2
  | .repairWriteComplete _ => some 7
  | .waitCmd _ => some 7
  | .powerRequestEvaluate => some 0
  | .ap1 => some 0
  | .ap2 => some 0
  | .ap3 => some 0
  | .ap4 => some 0
  | .wakeN _ _ => some 0
  | .halley _ _ => some 0
  | .sitilWake _ _ _ => some 0
  | .moamelWake _ _ _ => some 0
  | .wheelWake _ => some 0
  | .pwrPadRel _ => some 7
  | .padCheck _ _ => some 6
  | .dvfsRequest _ => some 7
  | .dvfsClockSwitch => some 2
  | .dvfsTmo => some 2
  | .domSupply d => some d.val
  | .tcxoCheck _ _ => some 2
  | .pllLockLoss _ => some 2
  | .pllLock _ => some 2
  | .clkFreq _ _ => some 2
  | .cdcTimeout _ => some 2
  | .cdcResume _ => some 2
  | .readCmd _ => some 7
  | .writeCmd _ => some 7
  | .rmw _ => some 7
  | .negotiate _ => some 7
  | .unlock _ => some 7
  | .commit _ => some 7
  | .commitComplete _ => some 7
  | .status _ => some 7
  | .logpull _ => some 7
  | .unknownCommand _ _ => some 7
  | .requestAbort => some 7
  | .resultExpiry _ => some 7
  | .tagCacheExpiry _ => some 7
  | .negotiationWindowClose => some 7
  | .lockoutEnd => some 7
  | .idleRelock => some 7
  | .csLock => some 7
  | .csDiscard => some 7
  | .serviceReq => some 7
  | .serviceExit => some 7
  | .logAck _ => some 7
  | .csCfgCrc _ => some 7
  | .pgCtlEn _ _ => some 7
  | .pgCtlMode _ _ => some 7
  | .ntTimeLoRead => some 7
  | .ntTickLoRead => some 7
  | .registerWrite _ _ => some 7
  | .tickClrHold => some 7
  | .tickClrOvr => some 7
  | .vduClrCnt _ => some 7
  | .bldClrCnt => some 7
  | .strClrErr => some 7
  | .janClrCap => some 2
  | .janClrCnt => some 2
  | .bgClrCnt _ => some 7
  | .auxClrCnt => some 7
  | .supClrCnt => some 7
  | .odClrCnt => some 7
  | .ssClrCnt => some 7
  | .clrMaint => some 7
  | .lnClrCnt => some 7
  | .mmClrCnt => some 7
  | .lkClrCnt _ => some 7
  | .sitClrCnt => some 7
  | .spClrCnt _ => some 7
  | .chClrCnt => some 7
  | .slClrCnt => some 7
  | .ntClrCnt => some 7
  | .fltClrCnt => some 7
  | .logClrCnt => some 7
  | .bistClrCnt => some 7
  | .pwrClrCnt => some 7
  | .clkClrCnt => some 7
  | .cdcClrCnt => some 7
  | .hpClrCnt => some 7
  | .startupPowerUp _ => some 0
  | .startupRepairMap _ => some 7
  | .startupConfiguration _ => some 7
  | .startupInjection _ => some 2
  | .fastBist _ _ _ => some 2
  | .startupNetworks => some 2
  | .startupDiagnostics => some 2
  | .diagRetry _ => some 2
  | .startupOverdue => some 2
  | .hoursStore _ _ => some 7
  | .charonRailReturn => some 3
  | .safeStopNRelease => some 2
  | .alarmNRelease => some 4
  | .updateDr _ => some 2

end Sys2Proof

namespace Sys2Proof.Machine

/-- A step is safe: it answers a next state. -/
def Safe (s : State) : Prop := ∃ t, step s = .next t

/-- Registers outside the listed addresses hold what they held. -/
def SameRegsBut (l : List Nat) (s t : State) : Prop := ∀ a, a ∉ l → t.word a = s.word a

/-- Nothing but registers differs between two states. -/
def OnlyRegs (s t : State) : Prop := t = { s with regs := t.regs }

/-- The register table is in its canonical form. -/
def State.RegsWf (s : State) : Prop := smWf porWord s.regs = true

/-- The module has no supply, and no POR waits in the queue. -/
def Unpowered (s : State) : Prop := s.powered = false ∧ ∀ i ∈ s.pending, ∀ ms pos id, i ≠ .por ms pos id

/-- A request frame passes the checks that need no other state of the lane (R448, R450): its length, the words it brings, its CRC
and its address. -/
def HostReqOk (cmd : Nat) (q : HostReq) (s : State) : Prop :=
  lenOk cmd q.len.toNat = true ∧ (carriesData cmd = true → q.len.toNat ≤ q.data.length) ∧
    crc16 (requestBytes (hostCmd cmd q s)) = q.crc.toNat ∧ addrOk cmd q.addr.toNat q.len.toNat = true

/-- The host port takes a command with a new tag and runs it at once (R452-R454): a slot is free, nothing is in progress or waits,
and neither the cache nor a slot holds the tag. -/
def State.HostIdle (tag : Nat) (s : State) : Prop :=
  s.hp.slots.length < 16 ∧ s.hp.busy = none ∧ s.hp.queue = [] ∧ (∀ e ∈ s.hp.cache, e.req.tag ≠ tag) ∧
    ∀ x ∈ s.hp.slots, x.tag ≠ tag

/-- The state that has accepted a command: its slot, its cache entry, its acknowledge OK. -/
def accepted (c : HCmd) (s : State) : State :=
  showHost (ackHost c.tag 0 { s with hp := { s.hp with
    slots := s.hp.slots ++ [{ tag := c.tag }], cache := s.hp.cache ++ [{ req := c }] } })

/-- The nine commands of *Commands* by code, each with its row. -/
def hostRows : List (Nat × (HostReq → Instr)) :=
  [(cRead, .readCmd), (cWrite, .writeCmd), (cRmw, .rmw), (cWait, .waitCmd), (cNegotiate, .negotiate), (cUnlock, .unlock),
    (cCommit, .commit), (cStatus, .status), (cLogpull, .logpull)]

/-- A remote request is for this node, is new, and within the bounds of R454; its payload is no reply and not empty. -/
def State.RemoteOpen (s : State) (r : RemoteReq) : Prop :=
  r.reply = false ∧ r.empty = false ∧ (r.bcast = true ∨ r.dest.toNat = s.f SIT_ID_NODE_ID) ∧ s.ownRemote ≠ [] ∧
    (∀ e ∈ s.hp.remotes, ¬ (e.node = r.node.toNat ∧ e.req.tag = r.tag.toNat)) ∧
    (s.hp.replies.filter (fun x => x.node == r.node.toNat && x.counts)).length < 4 ∧ s.remoteOut < 32

end Sys2Proof.Machine
end

