-- ==== Sys2Proof/WellFormed.lean ====
section
/-!
DEFINITION. Well-formed commands: operands as the outside can bring them. A command's meaning does not need the check; it says
which data a sender, a frame or a sample can hold.
-/
namespace Sys2Proof

/-- A conversion code of the acquisition (R57): 16 bits, signed. -/
def codeOk (c : Int) : Bool := decide (-32768 ≤ c) && decide (c ≤ 32767)

/-- Three samples of a comparator. -/
def Samples.wf (v : Samples) : Bool := codeOk v.x && codeOk v.y && codeOk v.z

/-- A snapshot: 96 channels, the spare core, 8 resolvers (R57, R68), four retarder stages. -/
def Snap.wf (x : Snap) : Bool :=
  x.ain.length == 96 && x.ain.all codeOk && codeOk x.spare && x.res.length == 8 &&
    x.res.all (fun r => codeOk r.sin && codeOk r.cos && decide (r.speed.natAbs < 2 ^ 23)) && decide (x.fltRet < 2 ^ 16) &&
    decide (-32768 ≤ x.temp) && decide (x.temp < 32768)

/-- A bit error changes a word of 30 bits (R91). -/
def BitErr.wf (e : BitErr) : Bool := decide (0 < e.mask) && decide (e.mask < 2 ^ 30)

/-- A hold-store error may also change the parity bit. -/
def PassEnv.wf (x : PassEnv) : Bool :=
  x.result.all BitErr.wf && x.record.all BitErr.wf && x.parity.all BitErr.wf && x.hold.all (fun e => decide (e.mask < 2 ^ 25)) &&
    decide x.unfinished.Nodup

/-- A record as its header can spell it (R298): positions, letters, roles and states in their widths. -/
def XRec.wf (r : XRec) : Bool :=
  decide (r.lsys < 8) && decide (r.pos < 16) && decide (r.letter < 4) && decide (r.state < 8) && decide (r.tick < 65536) &&
    decide (r.hold < 16) && decide (r.release < 16) && decide (r.ready < 16) && decide (r.phase < 8) && decide (r.sel < 4) &&
    decide (r.west < 4) && decide (r.east < 4) && decide (r.links.length = 4) && r.links.all (fun x => decide (x < 8)) && decide (r.sitil < 4) && r.inputs.all (fun k => decide (k < 124)) &&
    r.axesLost.all (fun n => decide (n < 16)) && decide (r.axes.length ≤ 16) && r.shared.all (fun x => decide (x.k < 124))

/-- A request frame carries at most LEN data words (R448, R449). -/
def HostReq.wf (q : HostReq) : Bool := decide (q.data.length ≤ q.len.toNat)

/-- The boundary register: 96 gate outputs among 549 data and 24 control cells (R500); eight BV_g. -/
def ScanUpdate.wf (u : ScanUpdate) : Bool := u.gates.length == 96 && u.cells.length == 477 && u.bv.length == 8 && u.pins.length == 477

/-- A finding names the part of *Start-up sweep* that can find it, and a resource of its kind. -/
def Finding.wf (x : Finding) : Bool :=
  let n := [4, 25, 96, 64, 800, 4, 9, 4096].getD x.kind.val 0
  let parts := [[0], [0], [0], [0, 3], [0, 1], [0], [2], if x.res < 2048 then [4] else [5]].getD x.kind.val []
  decide (x.res < n) && parts.contains x.part.val

/-- The command codes of *Commands*. -/
def cmdCodes : List Nat := [0x01, 0x02, 0x03, 0x10, 0x20, 0x21, 0x22, 0x30, 0x31]

/-- A command is well formed. -/
def Instr.wf : Instr → Bool
  | .tick x => x.wf
  | .plainPass x => x.wf
  | .janusPass x => x.wf
  | .compareAndExchange rails => decide (rails.map (fun r => r.axis)).Nodup
  | .rerunComplete _ err => err.all BitErr.wf
  | .inputFreezeEnd late => decide late.Nodup
  | .voteAndCommit missed => decide missed.Nodup
  | .windowStateChange _ before now => codeOk before.1 && codeOk before.2 && codeOk now
  | .chopOnComparator _ v => v.wf
  | .chopOffComparator v => v.samples.wf
  | .busHov _ v => v.wf
  | .offdiagRunEnd nodes a b => nodes.length == 6 && decide (a.length ≤ 6) && decide (b.length ≤ 6)
  | .exchangeRecord _ _ _ r _ => r.wf
  | .sitilFrameReceive _ _ groups _ _ => decide (groups.length ≤ 259)
  | .startupInjection rails => rails.all (fun p => decide (p.1 < 65))
  | .fastBist found _ skips => found.all Finding.wf && !skips.contains 0
  | .bistStep (.skip c) => c != 0
  | .remoteRequest q => decide (q.payload.length ≤ 240)
  | .updateDr u => u.wf
  | .unknownCommand cmd q => !cmdCodes.contains cmd.toNat && q.wf
  | .readCmd q => q.wf
  | .writeCmd q => q.wf
  | .rmw q => q.wf
  | .waitCmd q => q.wf
  | .negotiate q => q.wf
  | .unlock q => q.wf
  | .commit q => q.wf
  | .status q => q.wf
  | .logpull q => q.wf
  | _ => true

end Sys2Proof
end

