-- ==== Sys2Proof/Certificates/Slice0/Obligations.lean ====
section
/-!
DEFINITION. The statements about the model, one Prop each: what the queue, the supply and the domains do; what each family of
commands does where it has its effect, and what it leaves alone; the codes and checks of frames and requests.
-/
open Sys2Proof Sys2Proof.Machine

/-- The block runs the command at the front of its queue on the state with the queue's rest; with an empty queue one period of the
timebase passes (the second clause is the model's choice, log entry 1). -/
def Obligations.StepRunsFrontCommand : Prop :=
  (∀ (c : Instr) (rest : List Instr) (s : State), s.pending = c :: rest → step s = exec c { s with pending := rest }) ∧
  (∀ s : State, s.pending = [] → step s = .next (idle s))

/-- Every step answers a next state; it takes exactly the front command from the queue, adds none, and the ordering code of the part
never changes (R4). -/
def Obligations.StepConsumesOneCommand : Prop :=
  ∀ s : State, ∃ t, step s = .next t ∧ t.pending = s.pending.tail ∧ t.part = s.part

/-- A module without supply does nothing until its next POR: every other command leaves the queue, and all else as it was. -/
def Obligations.UnpoweredModuleStaysStill : Prop :=
  ∀ s t : State, Unpowered s → step s = .next t → Unpowered t ∧ t = { s with pending := s.pending.tail }

/-- A command in a domain that is off changes nothing (*Domains and states*); only POR gives the module its supply, and only the end of
hold-up after a fall of power-good takes it (R488). -/
def Obligations.SupplyAndDomainsGateTheCommands : Prop :=
  (∀ (c : Instr) (d : Nat) (s : State), c.domain = some d → s.dom d = false → exec c s = .next s) ∧
  (∀ (c : Instr) (s t : State), (∀ ms pos id, c ≠ .por ms pos id) → c ≠ .holdupExhausted → exec c s = .next t →
    t.powered = s.powered) ∧
  (∀ ms pos id s, ∃ t, exec (.por ms pos id) s = .next t ∧ t.powered = true ∧ t.pending = s.pending) ∧
  (∀ s : State, ∃ t, exec .holdupExhausted s = .next t ∧ t.powered = (s.powered && !s.tap.pgFell))

/-- What reset leaves in registers whose POR or LRST value the specification gives (R54, R120, R174, R264, R288, R309), with an empty
queue and a table that lists nothing. -/
def Obligations.ResetRegisterValues : Prop :=
  let r := State.reset
  r.pending = [] ∧ r.regs = [] ∧ r.f TICK_CFG_CYCLE_TICKS = 20 ∧ r.f TICK_CFG_LEN = 1 ∧ r.f TICK_STAT_LEN_ACT = 1 ∧
    r.f OUT_AGE_AGE_nn = 0xFFFFFFFF ∧ r.f AXIS_LOST_LOST = 0 ∧ r.f STR_VLIM_V2 = 0x05DC ∧ r.f STR_VLIM_V1 = 0x01F4 ∧
    r.f STR_XLIM_X_HI = 0x88B8 ∧ r.f STR_XLIM_X_LO = 0x2710 ∧ r.f (STR_AX_RATIO 0) = 0x4000 ∧ r.f (STR_AX_RATIO 3) = 0x4000

/-- A rising edge of an enabled wheel-speed input counts, is stamped with the timebase, and gives the period since the edge before
(R73); no other register changes. The SSI burst of an enabled encoder is kept for the coming TICK: natural or Gray position (R70,
R71), and whether the line and the parity were right. -/
def Obligations.SensorEventsAreKept : Prop :=
  (∀ (w : Fin 12) (s : State), s.dom 5 = true → s.on (WS_CFG_EN w) = true →
    ∃ t, exec (.wsEdge w) s = .next t ∧ t.f (WS_EDGE_EDGES w) = (s.f (WS_EDGE_EDGES w) + 1) % 2 ^ (WS_EDGE_EDGES w).width ∧
      (t.inp (0x70 + w)).edges = s.tb :: (s.inp (0x70 + w)).edges.take 63 ∧
      (∀ e rest, (s.inp (0x70 + w)).edges = e :: rest → t.f (WS_PER_PERIOD w) = (s.tb - e) % 2 ^ 32) ∧
      SameRegsBut [WS_EDGE_A w, WS_PER_A w] s t) ∧
  (∀ (e : Fin 8) (hb la : Bool) (bits : BitVec 32) (p : Bool) (s : State), s.dom 5 = true → s.quiet = false →
    s.eOn (ENC_CFG_EN e) = true →
    let n := s.e (ENC_CFG_BITS e)
    let raw := bits.toNat % 2 ^ n
    let ones := popCount n raw + b2n p
    let ok := if s.e (ENC_CFG_PARITY e) = 1 then decide (ones % 2 = 0)
      else if s.e (ENC_CFG_PARITY e) = 2 then decide (ones % 2 = 1) else true
    ∃ t, exec (.ssiBurst e hb la bits p) s = .next t ∧
      (t.inp (0x68 + e)).frame = some (if s.eOn (ENC_CFG_GRAY e) then grayDecode n raw else raw) ∧
      (t.inp (0x68 + e)).badFrame = !(hb && la && ok) ∧ t.regs = s.regs)

/-- Sensor faults of an enabled input raise their source at once and leave their cause for the next snapshot; a shorted wheel-speed
input loses its supply. The checks of a valid input make it invalid with their cause and raise their source; an input that is
invalid keeps its first cause; an input already open that shorts still loses its supply. Channels not converted by the end of the
input freeze show the value before, not VALID; the third tick in a row makes them invalid (R62, R69, R74, R76-R78, R81). -/
def Obligations.FaultyInputsBecomeInvalid : Prop :=
  (∀ (r : Fin 8) (s : State), s.dom 5 = true → s.quiet = false → s.on (RES_CFG_EN r) = true →
    (s.inp (0x60 + r)).pendCause = 0 →
    exec (.resExcitationFault r) s =
      .next ((s.setInp (0x60 + r) { s.inp (0x60 + r) with pendCause := 2 }).raiseU (0x260 + r))) ∧
  (∀ (w : Fin 12) (s : State), s.dom 5 = true → s.on (WS_CFG_EN w) = true → (s.inp (0x70 + w)).pendCause = 0 →
    exec (.wsOpen w) s = .next ((s.setInp (0x70 + w) { s.inp (0x70 + w) with pendCause := 1 }).raiseU (0x270 + w)) ∧
    exec (.wsShort w) s =
      .next (((s.setInp (0x70 + w) { s.inp (0x70 + w) with pendCause := 2 }).setB (WS_STAT_SUP_OFF w) true).raiseU (0x270 + w))) ∧
  (∀ (w : Fin 12) (s : State), s.dom 5 = true → s.on (WS_CFG_EN w) = true → (s.inp (0x70 + w)).pendCause = 1 →
    s.on (WS_STAT_SUP_OFF w) = false →
    exec (.wsShort w) s =
      .next (((s.setInp (0x70 + w) { s.inp (0x70 + w) with pendCause := 1 }).setB (WS_STAT_SUP_OFF w) true).raiseU (0x270 + w))) ∧
  (∀ (k : Fin 96) (s : State), s.dom 5 = true → s.quiet = false → 48 ≤ k.val → s.eOn (CH_CFG_EN k) = true →
    s.e (CH_CFG_RANGE_N k) ≤ (s.inp k).run → s.on (CH_STAT_INVALID k) = false →
    exec (.chRange k) s = .next ((s.makeInvalid k 1).raiseU (0x200 + k))) ∧
  (∀ (k : Fin 124) (s : State), s.dom 5 = true → s.quiet = false → s.frozen k = true → s.on (inpInvalidF k) = false →
    exec (.fbFreeze k) s = .next ((s.makeInvalid k (if k.val < 0x60 then 2 else 3)).raise 0x27E k)) ∧
  (∀ (k : Fin 124) (s : State), s.dom 5 = true → s.quiet = false → s.xlN k ≤ s.f (inpXlF k) → 0 < s.f (inpXlF k) →
    (s.inp k).xlRaised = false → (s.votedOf k).three = true →
    exec (.fbXchk k) s =
      .next (((s.setInp k { s.inp k with xlRaised := true }).raise 0x27F k).makeInvalid k (if k.val < 0x60 then 3 else 4))) ∧
  (∀ (h : Fin 48) (s : State), s.dom 5 = true → s.quiet = false → s.eOn (CH_CFG_EN h) = true →
    s.e (CH_CFG_RANGE_N h) ≤ (s.inp h).run → (s.inp h).rangeSaid = false →
    exec (.senseLost h) s =
      .next (framed s (senseReport (h / 3)
        (((s.setInp h { s.inp h with rangeSaid := true }).makeInvalid h 1).raiseU (0x200 + h))))) ∧
  (∀ (s : State) (k c c' : Nat), k < 124 → c < 8 →
    (s.makeInvalid k c).on (inpInvalidF k) = true ∧ (s.makeInvalid k c).makeInvalid k c' = s.makeInvalid k c ∧
      (s.on (inpInvalidF k) = false → (s.makeInvalid k c).f (inpCauseF k) = c % 2 ^ (inpCauseF k).width)) ∧
  (∀ (late : List (Fin 96)) (s : State), s.dom 5 = true → s.quiet = false →
    exec (.inputFreezeEnd late) s = .next (framed s (freezeEnd (s.lateOf late) s)) ∧
      (s.xStopped 0 = false → s.lateOf late = late.map (·.val) ++ s.rep.deadCh) ∧
      (s.xStopped 0 = true → s.lateOf late = List.range 96)) ∧
  (∀ (k : Nat) (s : State), k < 96 → (s.inp k).prevVal < 2 ^ 24 →
    let t := lateCh k s
    t.f (CH_VAL_VALUE k) = (s.inp k).prevVal ∧ t.on (CH_VAL_VALID k) = false ∧ (t.inp k).late = (s.inp k).late + 1 ∧
      ((s.inp k).late = 2 → s.eOn (CH_CFG_EN k) = true → t.on (CH_STAT_INVALID k) = true)) ∧
  (∀ s : State, (∀ k, k < 96 → (s.inp k).late = 0) → s.afe.xpend = none → freezeEnd [] s = s)

/-- Both request lines asserted (R206): both gates of the half-bridge are off at once, the episode counts once and SHOOT_REQ waits to
register. The on command of a gate starts when the other gate has been off for its dead time (R205), in a group that drives and is
not held, with the bootstrap not blocked for the high side and its command not one that met the block; the end of dead time after a
lockout ends the lockout. -/
def Obligations.RequestLinesDriveTheGates : Prop :=
  (∀ (h : Fin 48) (s : State), s.dom 6 = true → s.groupState (h / 6) = 4 → exec (.shootThroughLockout h) s = .next s) ∧
  (∀ (h : Fin 48) (s : State), s.dom 6 = true → s.groupState (h / 6) ≠ 4 →
    ∃ t, exec (.shootThroughLockout h) s = .next t ∧ (t.hb h).gh = false ∧ (t.hb h).gl = false ∧
      t.on (HB_STAT_LOCKOUT h) = true ∧ (∀ k, k ≠ h.val → t.hb k = s.hb k) ∧
      (s.on (HB_STAT_LOCKOUT h) = true → t.regs = s.regs ∧ t.flt = s.flt) ∧
      (s.on (HB_STAT_LOCKOUT h) = false → SameRegsBut [HB_STAT_A h, HB_CNT_A h] s t ∧
        t.f (HB_CNT_SHOOT h) = satU 8 (s.f (HB_CNT_SHOOT h) + 1) ∧
        t.flt.raised = raiseInto ⟨hbSrc h 3, Config.freeWord s.freeSeq, false, none, s.tb⟩ s.flt.raised)) ∧
  (∀ (h : Fin 48) (s : State), s.dom 6 = true → s.gateFree h = true → s.on (HB_STAT_LOCKOUT h) = false →
    s.on (HB_STAT_BOOT_BLOCK h) = false → (s.hb h).blkHi = false → (s.hb h).hiReq = true → (s.hb h).loReq = false →
    (s.hb h).gl = false →
    ∃ t, exec (.deadTimeExpiry h false) s = .next t ∧ (t.hb h).gh = true ∧ (t.hb h).gl = false ∧ t.regs = s.regs ∧
      ∀ k, k ≠ h.val → t.hb k = s.hb k) ∧
  (∀ (h : Fin 48) (s : State), s.dom 6 = true → s.gateFree h = true → s.on (HB_STAT_LOCKOUT h) = false →
    (s.hb h).loReq = true → (s.hb h).hiReq = false → (s.hb h).gh = false →
    ∃ t, exec (.deadTimeExpiry h true) s = .next t ∧ (t.hb h).gl = true ∧ (t.hb h).gh = false ∧ t.regs = s.regs ∧
      ∀ k, k ≠ h.val → t.hb k = s.hb k) ∧
  (∀ (h : Fin 48) (high : Bool) (s : State), s.dom 6 = true → s.on (HB_STAT_LOCKOUT h) = true →
    ∃ t, exec (.deadTimeExpiry h high) s = .next t ∧ t.on (HB_STAT_LOCKOUT h) = false ∧ SameRegsBut [HB_STAT_A h] s t ∧
      (t.hb h).gh = (s.hb h).gh ∧ (t.hb h).gl = (s.hb h).gl ∧ (t.hb h).dtH = true ∧ (t.hb h).dtL = true)

/-- No command of the request path turns both gates of a half-bridge on (R125, R205, R206). -/
def Obligations.RequestPathKeepsOneGateOff : Prop :=
  ∀ (c : Instr) (s t : State), (∀ h, ((s.hb h).gh && (s.hb h).gl) = false) →
    ((∃ h, c = .shootThroughLockout h) ∨ (∃ h hi, c = .deadTimeExpiry h hi) ∨ (∃ h x y, c = .windowStateChange h x y) ∨
      (∃ h, c = .minPulseExpiry h) ∨ (∃ u, c = .heldOff u) ∨ (∃ h, c = .refreshRequest h) ∨ (∃ u, c = .refreshEnd u) ∨
      (∃ h v, c = .bootUv h v) ∨ (∃ g, c = .gdEnFall g) ∨ (∃ g l, c = .gdEnRise g l) ∨ (∃ g, c = .groupShutdownTimeout g)) →
    exec c s = .next t → ∀ h, ((t.hb h).gh && (t.hb h).gl) = false

/-- An edge of the switch node after the end of a gate's on command (R209, R210): one attributed to no kind changes nothing; one without
a second crossing counts; a measured one shows in HB_MEAS and, in adaptive mode, moves the step of its kind by one towards the
target, within 0 to 15, or leaves it. Times are in 1.25 ns. -/
def Obligations.MeasuredEdgeMovesItsStep : Prop :=
  (∀ (h : Fin 48) (high : Bool) (node : List Nat) (i : Nat) (kind : Fin 4) (s : State), s.dom 6 = true →
    s.on (CH_STAT_INVALID (48 + s.busOf (h / 6))) = false → (s.inp (48 + s.busOf (h / 6))).stale = false →
    nodeEdge (s.uBus23 (s.busOf (h / 6))) node = some (i, none) → edgeKind (s.f (HB_CFG_DT h)) high i = some kind.val →
    exec (.edgeMeasured h high node) s = .next (s.inc (HB_CNT_ADP_MISS h))) ∧
  (∀ (h : Fin 48) (high : Bool) (node : List Nat) (i : Nat) (kind : Fin 4) (m : Nat) (s : State), s.dom 6 = true →
    s.on (CH_STAT_INVALID (48 + s.busOf (h / 6))) = false → (s.inp (48 + s.busOf (h / 6))).stale = false →
    nodeEdge (s.uBus23 (s.busOf (h / 6))) node = some (i, some m) → edgeKind (s.f (HB_CFG_DT h)) high i = some kind.val →
    (s.e (HB_CFG_ADAPT h) == 1 && s.feature 3) = true →
    let tgt := 4 * s.e (HB_TGT_T_TGT h)
    let tol := 4 * s.e (HB_TGT_TOL h)
    let old := s.f (stepF h kind)
    ∃ t, exec (.edgeMeasured h high node) s = .next t ∧ t.f (measF h kind) = min (m / 4) 255 ∧
      (tgt + tol < 5 * m → t.f (stepF h kind) = min (old + 1) 15) ∧
      (5 * m + tol < tgt → t.f (stepF h kind) = old - 1) ∧
      (5 * m ≤ tgt + tol → tgt ≤ 5 * m + tol → t.f (stepF h kind) = old) ∧
      (∀ k : Fin 4, k ≠ kind → t.f (stepF h k) = s.f (stepF h k) ∧ t.f (measF h k) = s.f (measF h k)) ∧
      SameRegsBut [HB_STEP_A h, HB_MEAS_A h, HB_CNT_A h] s t) ∧
  (∀ (h : Fin 48) (high : Bool) (node : List Nat) (s : State), s.dom 6 = true →
    (s.on (CH_STAT_INVALID (48 + s.busOf (h / 6))) || (s.inp (48 + s.busOf (h / 6))).stale) = true ∨
      nodeEdge (s.uBus23 (s.busOf (h / 6))) node = none ∨
      (∃ i d, nodeEdge (s.uBus23 (s.busOf (h / 6))) node = some (i, d) ∧ edgeKind (s.f (HB_CFG_DT h)) high i = none) →
    exec (.edgeMeasured h high node) s = .next s)

/-- In a precharging or driving group the bootstrap block ends at the rising threshold and begins below the falling one (R213): the high
gate is low and the high side blocked. The falling enable pin takes every gate low and the group to OFF, but not out of LATCHED; the
shutdown limit of 20 ms takes it from SHUTDOWN to OFF; the end of precharge is noted for the next TICK (R200, R201, R203). -/
def Obligations.BootstrapAndEnableGateTheGroup : Prop :=
  (∀ (h : Fin 48) (v : BitVec 8) (s : State), s.dom 6 = true → s.groupState (h / 6) = 2 ∨ s.groupState (h / 6) = 3 →
    ∃ t, exec (.bootUvEnd h v) s = .next t ∧ t.on (HB_STAT_BOOT_BLOCK h) = false ∧ t.on (HB_STAT_BOOT_OK h) = true ∧
      t.f (HB_STAT_BOOT_V h) = v.toNat ∧ SameRegsBut [HB_STAT_A h] s t ∧ t.hbs = s.hbs) ∧
  (∀ (h : Fin 48) (v : BitVec 8) (s : State), s.dom 6 = true → s.groupState (h / 6) ≠ 2 → s.groupState (h / 6) ≠ 3 →
    exec (.bootUvEnd h v) s = .next s ∧ exec (.bootUv h v) s = .next s) ∧
  (∀ (h : Fin 48) (v : BitVec 8) (s : State), s.dom 6 = true → s.groupState (h / 6) = 2 →
    s.on (HB_STAT_BOOT_BLOCK h) = false →
    ∃ t, exec (.bootUv h v) s = .next t ∧ t.on (HB_STAT_BOOT_BLOCK h) = true ∧ t.on (HB_STAT_BOOT_OK h) = false ∧
      t.f (HB_STAT_BOOT_V h) = v.toNat ∧ (t.hb h).gh = false ∧ SameRegsBut [HB_STAT_A h] s t) ∧
  (∀ (h : Fin 48) (v : BitVec 8) (s : State), s.dom 6 = true → s.groupState (h / 6) = 3 →
    s.on (HB_STAT_BOOT_BLOCK h) = false → s.f (HB_CFG_BOOT_MODE h) = 2 →
    ∃ t, exec (.bootUv h v) s = .next t ∧ t.on (HB_STAT_BOOT_BLOCK h) = true ∧ (t.hb h).gh = false ∧
      t.f (HB_CNT_BOOT_UV h) = satU 8 (s.f (HB_CNT_BOOT_UV h) + 1) ∧ SameRegsBut [HB_STAT_A h, HB_CNT_A h] s t) ∧
  (∀ (g : Fin 8) (s : State), s.dom 6 = true →
    ∃ t, exec (.gdEnFall g) s = .next t ∧ t.on (BG_STAT_GD_EN g) = false ∧
      (∀ h ∈ groupHbs g, (t.hb h).gh = false ∧ (t.hb h).gl = false) ∧ (∀ h, h ∉ groupHbs g → t.hb h = s.hb h) ∧
      t.groupState g = (if s.groupState g = 4 then 4 else 0) ∧ SameRegsBut [BG_STAT_A g, OD_RES_A g] s t) ∧
  (∀ (g : Fin 8) (s : State), s.dom 6 = true → s.groupState g = 5 → 20000000 ≤ (s.grp g).shutTicks * s.tNs →
    ∃ t, exec (.groupShutdownTimeout g) s = .next t ∧ t.groupState g = 0 ∧
      (∀ h ∈ groupHbs g, (t.hb h).gh = false ∧ (t.hb h).gl = false) ∧ SameRegsBut [BG_STAT_A g, OD_RES_A g] s t) ∧
  (∀ (g : Fin 8) (s : State), s.dom 6 = true → s.shutOver g = false → exec (.groupShutdownTimeout g) s = .next s) ∧
  (∀ (g : Fin 8) (s : State), s.dom 6 = true → s.groupState g = 2 →
    exec (.prechargeEnd g) s = .next (s.setGrp g { s.grp g with preDone := true }))

/-- The clearing procedure of a latched group (R238): a short pulse counts, an unread latch and a cause that still acts count as refused
and raise their source, otherwise the latch clears and the group is OFF. A read of a latched SUP_LATCH arms it; the free diagnostics
engine takes the lowest waiting group; a passed run takes the group to PRECHARGE with all low gates on unless it is held, one that
found its group unready takes it back to OFF with its enable cleared (R241-R243). -/
def Obligations.LatchesClearAndDiagnosticsRun : Prop :=
  (∀ (g : Fin 8) (long : Bool) (s : State), s.dom 6 = true →
    ∃ t, exec (.gdEnRise g long) s = .next t ∧ t.on (BG_STAT_GD_EN g) = true ∧
      (s.groupState g ≠ 4 → t = s.setB (BG_STAT_GD_EN g) true) ∧
      (s.groupState g = 4 → long = false → t = (s.setB (BG_STAT_GD_EN g) true).inc SUP_CNT_CLR_SHORT) ∧
      (s.groupState g = 4 → long = true → s.on (SUP_LATCH_ARMED g) = false →
        t = ((s.setB (BG_STAT_GD_EN g) true).inc SUP_CNT_CLR_REF).raise 0x1B0 1) ∧
      (s.groupState g = 4 → long = true → s.on (SUP_LATCH_ARMED g) = true → causePersists s g = true →
        t = ((s.setB (BG_STAT_GD_EN g) true).inc SUP_CNT_CLR_REF).raise 0x1B0 2) ∧
      (s.groupState g = 4 → long = true → s.on (SUP_LATCH_ARMED g) = true → causePersists s g = false →
        t.groupState g = 0 ∧ t.word (SUP_LATCH_A g) = 0 ∧ SameRegsBut [BG_STAT_A g, SUP_LATCH_A g, OD_RES_A g] s t)) ∧
  (∀ (g : Fin 8) (s : State), s.dom 6 = true → s.on (SUP_LATCH_LATCHED g) = true →
    exec (.supLatchRead g) s = .next (s.setB (SUP_LATCH_ARMED g) true)) ∧
  (∀ (g : Fin 8) (s : State), s.dom 6 = true → s.aux.engine = none → s.groupState g = 1 → s.f (OD_RES_STATE g) = 1 →
    (∀ k < g.val, (s.groupState k == 1 && s.f (OD_RES_STATE k) == 1) = false) →
    ∃ t, exec .offdiagRunStart s = .next t ∧ t.aux.engine = some g.val ∧ t.aux.odNotReady = s.odUnready g ∧
      t.f (OD_RES_STATE g) = 2 ∧ t.f (OD_RES_VERD g) = 0 ∧
      SameRegsBut [OD_RES_A g] s t) ∧
  (∀ (g : Fin 8) (nodes : List NodeMeas) (pa pb : List Nat) (s : State), s.dom 6 = true → s.aux.engine = some g.val →
    s.aux.odNotReady = true →
    ∃ t, exec (.offdiagRunEnd nodes pa pb) s = .next t ∧ t.aux.engine = none ∧ t.groupState g = 0 ∧
      t.on (PG_CTL_EN (0x020 + g)) = false ∧ t.f (OD_RES_STATE g) = 5 ∧ (t.grp g).retry = true) ∧
  (∀ (g : Fin 8) (nodes : List NodeMeas) (pa pb : List Nat) (s : State), s.dom 6 = true → s.aux.engine = some g.val →
    s.aux.odNotReady = false →
    (setVerdicts [s.odMode (6 * g), s.odMode (6 * g + 1), s.odMode (6 * g + 2)] (s.uBus23 (s.busOf g)) (nodes.take 3) pa ++
      setVerdicts [s.odMode (6 * g + 3), s.odMode (6 * g + 4), s.odMode (6 * g + 5)] (s.uBus23 (s.busOf g)) (nodes.drop 3) pb).all (fun x => x == 0 || x == 1) = true →
    ∃ t, exec (.offdiagRunEnd nodes pa pb) s = .next t ∧ t.groupState g = 2 ∧ t.f (OD_RES_STATE g) = 3 ∧
      (s.on (BG_STAT_HELD g) = false → ∀ h ∈ groupHbs g, (t.hb h).gl = true ∧ (t.hb h).gh = false) ∧
      (s.on (BG_STAT_HELD g) = true → t.hbs = s.hbs))

/-- Reports of the auxiliary and torque-off outputs (R163, R218-R221) are counted once in an episode; the return of a stage that
RET_STAGES does not name only shows its pin. The bus chopper (R229, R230): between the comparator at U_CH_ON and that at U_CH_OFF
its gate is high and shows in AUX_STAT and SUP_BSTAT; long conduction is raised once. -/
def Obligations.AuxiliaryOutputsFollowTheirInputs : Prop :=
  (∀ (x : Fin 8) (s : State), s.dom 6 = true →
    let seen := { s with aux := { s.aux with rbNew := withBit s.aux.rbNew x true } }
    exec (.auxRb x) s = .next (if bitOf s.aux.rbEp x || bitOf s.aux.rbNew x then seen
      else (seen.inc AUX_CNT_AUX_RB).raiseU (0x180 + x))) ∧
  (∀ (x : Fin 2) (s : State), s.dom 6 = true → bitOf s.aux.tqRbEp x = false → bitOf s.aux.tqNew x = false →
    ∃ t, exec (.tqoffRb x) s = .next t ∧ t.f AUX_CNT_TQ_RB = satU 8 (s.f AUX_CNT_TQ_RB + 1) ∧
      t.fbit AUX_STAT_TQ_RB x = !s.fbit AUX_STAT_TQ_CMD x ∧ t.f AUX_STAT_TQ_CMD = s.f AUX_STAT_TQ_CMD ∧
      SameRegsBut [AUX_STAT_A, AUX_CNT_A] s t) ∧
  (∀ (k : Fin 4) (s : State), s.dom 6 = true → bitOf (s.e BLD_CFG_RET_STAGES) k = true →
    ∃ t, exec (.auxFltAssert k) s = .next t ∧ t.fbit AUX_STAT_FLT_RET k = true ∧ t.fbit AUX_STAT_RET_ACT k = false ∧
      bitOf t.aux.retOut k = true ∧ t.f AUX_CNT_FLT_RET = satU 8 (s.f AUX_CNT_FLT_RET + 1) ∧
      SameRegsBut [AUX_STAT_A, AUX_CNT_A] s t) ∧
  (∀ (k : Fin 4) (s : State), s.dom 6 = true → bitOf (s.e BLD_CFG_RET_STAGES) k = false →
    exec (.auxFltAssert k) s = .next { s with aux := { s.aux with fltPin := withBit s.aux.fltPin k true } }) ∧
  (∀ (k : Fin 2) (s : State), s.dom 6 = true → s.msTicks 20 ≤ s.aux.parkBad.getD k 0 → bitOf s.aux.parkEp k = false →
    exec (.parkI k) s =
      .next ((({ s with aux := { s.aux with parkEp := withBit s.aux.parkEp k true } }).inc AUX_CNT_PARK_I).raiseU (0x188 + k))) ∧
  (∀ (k : Fin 4) (c : Nat) (x y z : Int) (s : State), s.dom 6 = true → s.chopOut k = some c → s.aux.auxHeld = false →
    aboveEdge (s.busCode k (s.f (SUP_BTH_U_CH_ON k))) x y z = true →
    ∃ t, exec (.chopOnComparator k ⟨x, y, z⟩) s = .next t ∧ t.fbit AUX_STAT_CHOP_ACT c = true ∧ t.on (SUP_BSTAT_CHOP_ACT k) = true ∧
      SameRegsBut [AUX_STAT_A, SUP_BSTAT_A k, SUP_CHOP_ON_0.addr, SUP_CHOP_ON_1.addr] s t) ∧
  (∀ (k : Fin 4) (x y z : Int) (s : State), s.dom 6 = true →
    (s.on (SUP_BCFG_EN k) = false → exec (.chopOnComparator k ⟨x, y, z⟩) s = .next s) ∧
    (s.on (SUP_BCFG_EN k) = true → aboveEdge (s.busCode k (s.f (SUP_BTH_U_CH_ON k))) x y z = false →
      exec (.chopOnComparator k ⟨x, y, z⟩) s =
      .next { s with aux := { s.aux with chopAbove := withBit s.aux.chopAbove k false, hovEp := withBit s.aux.hovEp k false } })) ∧
  (∀ (k : Fin 4) (c : Nat) (x y z : Int) (s : State), s.dom 6 = true → s.chopOut k = some c →
    (belowEdge (s.busCode k (s.f (SUP_BTH_U_CH_OFF k))) x y z = true →
      ∃ t, exec (.chopOffComparator ⟨k, ⟨x, y, z⟩⟩) s = .next t ∧ t.fbit AUX_STAT_CHOP_ACT c = false ∧
        t.on (SUP_BSTAT_CHOP_ACT k) = false ∧ SameRegsBut [AUX_STAT_A, SUP_BSTAT_A k] s t) ∧
    (belowEdge (s.busCode k (s.f (SUP_BTH_U_CH_OFF k))) x y z = false → exec (.chopOffComparator ⟨k, ⟨x, y, z⟩⟩) s = .next s)) ∧
  (∀ (c : Fin 2) (s : State), s.dom 6 = true → s.fbit AUX_STAT_CHOP_ACT c = true → bitOf s.aux.chopEp c = false →
    exec (.chopLong c) s =
      .next (({ s with aux := { s.aux with chopEp := withBit s.aux.chopEp c true } }).raiseU (0x1A8 + c)))

/-- One decision of a unit that regulates in VECTOR mode: the window state, of two of the last three samples against the edges in force,
shows in HB_LOOP and the pattern, and when no bit is younger than MIN_PULSE the vector is that of *Vector decision table*. In that
table a phase below its window is driven HIGH and one above it LOW; with all phases alike the vector is held (R129, R131, R133). -/
def Obligations.WindowsDecideTheVector : Prop :=
  (∀ (h : Fin 48) (x y z : Int) (s : State), s.dom 6 = true →
    let u := h.val / 3
    let above := aboveEdge (s.fI (HB_WIN_UE h)) x y z
    let below := belowEdge (s.fI (HB_WIN_LE h)) x y z
    let code := if above && below then 0 else if below then 1 else if above then 2 else 0
    let d := fun i => if 3 * u + i = h.val then code else s.f (HB_LOOP_FILT (3 * u + i))
    s.f (VDU_STAT_STATE u) = 1 → s.f (VDU_STAT_MODE u) = 1 → s.rank1 u = false → (s.vdu u).saved = none → (s.vdu u).wait = 0 →
    (∀ i, i < 3 → (s.hb (3 * u + i)).minRun = false) →
    ∃ t, exec (.windowStateChange h (x, y) z) s = .next t ∧ t.f (HB_LOOP_FILT h) = code ∧
      t.f (VDU_STAT_PATTERN u) = 16 * d 0 + 4 * d 1 + d 2 ∧
      t.vec u = (vectorTable (s.vec u) (d 0) (d 1) (d 2)).getD (s.vec u)) ∧
  (∀ (v : Fin 8) (a b c : Fin 3), (vectorTable v a b c = none ↔ a = b ∧ b = c) ∧
    ∀ w, vectorTable v a b c = some w → w < 8 ∧ (a = 1 → bitOf w 2 = true) ∧ (a = 2 → bitOf w 2 = false) ∧
      (b = 1 → bitOf w 1 = true) ∧ (b = 2 → bitOf w 1 = false) ∧ (c = 1 → bitOf w 0 = true) ∧ (c = 2 → bitOf w 0 = false))

/-- Rank 1 and the refresh (R133, R136, R138, R214): a held, latched or disabled group turns the set off with HELD_OFF, but the gates of
a LATCHED group follow its own turn-off (R235); a waiting refresh of a half-bridge that is HIGH drives V0 and counts; its end
restores the vector held before; NONE never asks. When the last MIN_PULSE of the set ends, a unit in VECTOR mode takes the vector
that its windows ask for (R131, R134); elsewhere only the run of that half-bridge ends. -/
def Obligations.UnitYieldsToHoldAndRefresh : Prop :=
  (∀ (u : Fin 16) (s : State), s.dom 6 = true → s.f (VDU_STAT_STATE u) = 1 → s.rank1 u = true →
    ∃ t, exec (.heldOff u) s = .next t ∧ t.f (VDU_STAT_STATE u) = 3 ∧ ∀ i, i < 3 → t.on (HB_LOOP_OFF (3 * u + i)) = true ∧
      (s.groupState (u / 2) ≠ 4 → (t.hb (3 * u + i)).gh = false ∧ (t.hb (3 * u + i)).gl = false) ∧
      (s.groupState (u / 2) = 4 → (t.hb (3 * u + i)).gh = (s.hb (3 * u + i)).gh ∧
        (t.hb (3 * u + i)).gl = (s.hb (3 * u + i)).gl)) ∧
  (∀ (h : Fin 48) (s : State), s.dom 6 = true → s.f (HB_CFG_BOOT_MODE h) = 2 ∨ s.isHigh h = false →
    exec (.refreshRequest h) s = .next s) ∧
  (∀ (h : Fin 48) (s : State), s.dom 6 = true → s.f (HB_CFG_BOOT_MODE h) ≠ 2 → s.isHigh h = true → s.f (VDU_STAT_STATE (h / 3)) = 1 →
    s.f (VDU_STAT_MODE (h / 3)) = 1 → s.rank1 (h / 3) = false → (s.vdu (h / 3)).saved = none →
    (∀ i, i < 3 → (s.hb (3 * (h / 3) + i)).minRun = false) →
    ∃ t, exec (.refreshRequest h) s = .next t ∧ t.vec (h / 3) = 0 ∧ (t.vdu (h / 3)).saved = some (s.vec (h / 3)) ∧
      t.f (VDU_CNT_A_REFRESH (h / 3)) = satU (VDU_CNT_A_REFRESH (h / 3)).width (s.f (VDU_CNT_A_REFRESH (h / 3)) + 1)) ∧
  (∀ (u : Fin 16) (v : Nat) (s : State), s.dom 6 = true → s.f (VDU_STAT_STATE u) = 1 → s.rank1 u = false →
    (s.vdu u).saved = some v → v < 8 → (∀ i, i < 3 → (s.hb (3 * u + i)).minRun = false) →
    ∃ t, exec (.refreshEnd u) s = .next t ∧ t.vec u = v ∧ (t.vdu u).saved = none) ∧
  (∀ (h : Fin 48) (s : State), s.dom 6 = true → s.f (VDU_STAT_STATE (h / 3)) ≠ 1 →
    exec (.minPulseExpiry h) s = .next (s.setHb h { s.hb h with minRun := false })) ∧
  (∀ (h : Fin 48) (s : State), s.dom 6 = true →
    let u := h.val / 3
    let d := fun i => s.f (HB_LOOP_FILT (3 * u + i))
    s.f (VDU_STAT_STATE u) = 1 → s.f (VDU_STAT_MODE u) = 1 → s.rank1 u = false → (s.vdu u).saved = none → (s.vdu u).wait = 0 →
    (∀ i, i < 3 → 3 * u + i ≠ h.val → (s.hb (3 * u + i)).minRun = false) →
    ∃ t, exec (.minPulseExpiry h) s = .next t ∧ t.vec u = (vectorTable (s.vec u) (d 0) (d 1) (d 2)).getD (s.vec u) ∧
      ((vectorTable (s.vec u) (d 0) (d 1) (d 2)).getD (s.vec u) = s.vec u → t = s.setHb h { s.hb h with minRun := false }))

/-- Desaturation (R234, R235, R237): the blanking's end arms the comparator of a gate that is on; an armed comparator that trips latches
the group with cause 1, takes every other gate low and lets its own turn off softly, in two steps, the second with one sink slice,
until it is low. -/
def Obligations.DesaturationLatchesTheGroup : Prop :=
  (∀ (h : Fin 48) (s : State), s.dom 6 = true → s.on (SUP_DCFG_EN (h / 6)) = true → s.groupState (h / 6) = 3 →
    ((s.hb h).gh = true → exec (.desatBlankingEnd h true) s = .next (s.setHb h { s.hb h with armH := true })) ∧
    ((s.hb h).gl = true → exec (.desatBlankingEnd h false) s = .next (s.setHb h { s.hb h with armL := true }))) ∧
  (∀ (h : Fin 48) (high : Bool) (s : State), s.dom 6 = true → s.desatSeen h high = false →
    exec (.desaturation h high) s = .next s) ∧
  (∀ (h : Fin 48) (high : Bool) (s : State), s.dom 6 = true → s.desatSeen h high = true → s.on (SUP_LATCH_LATCHED (h / 6)) = false → s.groupState (h / 6) = 3 →
    s.f (SUP_LATCH_DSAT_H (h / 6)) = 0 → s.f (SUP_LATCH_DSAT_L (h / 6)) = 0 → (∀ k, (s.hb k).softH = 0 ∧ (s.hb k).softL = 0) →
    ∃ t, exec (.desaturation h high) s = .next t ∧ t.groupState (h / 6) = 4 ∧ t.on (SUP_LATCH_LATCHED (h / 6)) = true ∧
      t.f (SUP_LATCH_FIRST (h / 6)) = 1 ∧ t.f (SUP_LATCH_FIRST_HB (h / 6)) = h % 6 ∧
      t.on (SUP_LATCH_FIRST_GATE (h / 6)) = high ∧
      (∀ k ∈ groupHbs (h / 6), k ≠ h.val → (t.hb k).gh = false ∧ (t.hb k).gl = false) ∧
      (t.hb h).gh = high ∧ (t.hb h).gl = !high ∧ (if high then (t.hb h).softH else (t.hb h).softL) = 1 ∧
      t.f SUP_CNT_DESAT = satU 8 (s.f SUP_CNT_DESAT + 1) ∧
      SameRegsBut [BG_STAT_A (h / 6), OD_RES_A (h / 6), SUP_LATCH_A (h / 6), SUP_CNT_A] s t) ∧
  (∀ (h : Fin 48) (s : State), s.dom 6 = true → (s.hb h).softH = 1 →
    exec (.desat2lEnd h true) s = .next (s.setHb h { s.hb h with softH := 2, outH := 16 })) ∧
  (∀ (h : Fin 48) (s : State), s.dom 6 = true → (s.hb h).softL = 1 →
    exec (.desat2lEnd h false) s = .next (s.setHb h { s.hb h with softL := 2, outL := 16 })) ∧
  (∀ (h : Fin 48) (s : State), s.dom 6 = true → (s.hb h).softH ≠ 0 →
    exec (.desatGateLow h true) s = .next (s.setHb h { s.hb h with softH := 0, gh := false, dtH := true, outH := s.fullDrive h true })) ∧
  (∀ (h : Fin 48) (s : State), s.dom 6 = true → (s.hb h).softL ≠ 0 →
    exec (.desatGateLow h false) s = .next (s.setHb h { s.hb h with softL := 0, gl := false, dtL := true, outL := s.fullDrive h false }))

/-- Bus and gate supply faults (R231-R233): hard over-voltage latches the driving groups of its bus with cause 2, a VG supply those of
its two groups with cause 3; under-voltage is reported once after ten ticks; VG_AUX takes its outputs low. -/
def Obligations.SupplyFaultsLatchTheirGroups : Prop :=
  (∀ (k : Fin 4) (x y z : Int) (s : State), s.dom 6 = true → s.on (SUP_BCFG_EN k) = true →
    aboveEdge (s.busCode k (s.f (SUP_BTH2_U_HOV k))) x y z = true →
    ∃ t, exec (.busHov k ⟨x, y, z⟩) s = .next t ∧ t.on (SUP_BSTAT_HOV k) = true ∧
      (∀ g : Fin 8, s.busOf g = k.val → s.groupState g ≠ 0 → s.groupState g ≠ 4 →
        t.groupState g = 4 ∧ t.f (SUP_LATCH_FIRST g) = 2 ∧ ∀ h ∈ groupHbs g, (t.hb h).gh = false ∧ (t.hb h).gl = false) ∧
      (∀ g : Fin 8, s.busOf g ≠ k.val → t.groupState g = s.groupState g ∧
        ∀ h ∈ groupHbs g, (t.hb h).gh = (s.hb h).gh ∧ (t.hb h).gl = (s.hb h).gl)) ∧
  (∀ (k : Fin 4) (x y z : Int) (s : State), s.dom 6 = true →
    (s.on (SUP_BCFG_EN k) = true → aboveEdge (s.busCode k (s.f (SUP_BTH2_U_HOV k))) x y z = false →
      exec (.busHov k ⟨x, y, z⟩) s = .next (s.setB (SUP_BSTAT_HOV k) false)) ∧
    (s.on (SUP_BCFG_EN k) = false → exec (.busHov k ⟨x, y, z⟩) s = .next s)) ∧
  (∀ (k : Fin 4) (s : State), s.dom 6 = true → s.on (SUP_BCFG_EN k) = true → 10 ≤ s.aux.uvRun.getD k 0 → s.on (SUP_BSTAT_UV k) = false →
    exec (.busUv k) s = .next ((s.setB (SUP_BSTAT_UV k) true).raiseU (0x1A4 + k))) ∧
  (∀ (k : Fin 4) (s : State), s.dom 6 = true → s.on (SUP_BCFG_EN k) = false ∨ s.aux.uvRun.getD k 0 < 10 ∨ s.on (SUP_BSTAT_UV k) = true →
    exec (.busUv k) s = .next s) ∧
  (∀ (j : Fin 4) (g : Nat) (s : State), s.dom 6 = true → g = 2 * j.val ∨ g = 2 * j.val + 1 → s.groupState g ≠ 0 → s.groupState g ≠ 4 →
    (∃ t, exec (.gsupUv j.castSucc) s = .next t ∧ t.fbit SUP_GSTAT_UV j = true ∧ t.groupState g = 4 ∧ t.f (SUP_LATCH_FIRST g) = 3) ∧
    (∃ t, exec (.gsupOv j.castSucc) s = .next t ∧ t.fbit SUP_GSTAT_OV j = true ∧ t.groupState g = 4 ∧ t.f (SUP_LATCH_FIRST g) = 3)) ∧
  (∀ s : State, s.dom 6 = true →
    (∃ t, exec (.gsupUv 4) s = .next t ∧ t.aux.auxHeld = true ∧ t.f AUX_STAT_CHOP_ACT = 0 ∧ t.f (PK_STAT_DUTY 0) = 0 ∧
      t.f (PK_STAT_DUTY 1) = 0 ∧ t.hbs = s.hbs) ∧
    (∃ t, exec (.gsupReturn 4) s = .next t ∧ t.aux.auxHeld = false ∧ t.fbit SUP_GSTAT_UV 4 = false ∧ t.fbit SUP_GSTAT_OV 4 = false)) ∧
  (∀ (j : Fin 4) (s : State), s.dom 6 = true →
    exec (.gsupReturn j.castSucc) s = .next ((s.setBit SUP_GSTAT_UV j false).setBit SUP_GSTAT_OV j false))

/-- The pin shows at once and latches where triggers act; its release ends the trigger but not the latch; the host trigger waits for the
next TICK, and its exit request is refused outside service mode (R246, R247, R260). A decelerating lane that measures too little for
T_ESC, or nothing, escalates with the maximum request (R252, R253). Confirmed standstill keeps the request and enters SECURE; the
park application, or twice its time, enters SECURED with both torque-off switches open (R254-R256). -/
def Obligations.SafeStopRunsItsPhases : Prop :=
  (∀ s : State, s.dom 2 = true →
    ∃ t, exec .safeStopPin s = .next t ∧ t.ss.pin = true ∧ t.fbit SS_TRIG_ACTIVE 3 = true ∧
      t.fbit SS_TRIG_LATCHED 3 = (s.fbit SS_TRIG_LATCHED 3 || s.ssLive 4) ∧ SameRegsBut [SS_TRIG_A] s t) ∧
  (∀ s : State, s.dom 2 = true →
    ∃ t, exec .safeStopNRelease s = .next t ∧ t.ss.pin = false ∧ t.fbit SS_TRIG_ACTIVE 3 = false ∧
      t.f SS_TRIG_LATCHED = s.f SS_TRIG_LATCHED ∧ SameRegsBut [SS_TRIG_A] s t) ∧
  (∀ s : State, s.dom 2 = true → exec .ssHostTrig s = .next { s with ss := { s.ss with host := true } }) ∧
  (∀ s : State, s.dom 2 = true →
    exec .ssExitRequest s =
      .next (if s.service then { s with ss := { s.ss with exitHost := true } } else s.inc (PG_LOCK_REFUSED 0x00F))) ∧
  (∀ s : State, s.dom 2 = true → s.quiet = false → s.f SS_STAT_PHASE = 1 →
    (s.on SS_STAT_NO_MEAS = true ∨ s.e SS_MON_T_ESC * 1000000 ≤ s.ss.below * s.tNs) →
    ∃ t, exec .ssEscalate s = .next t ∧ t.f SS_STAT_PHASE = 2 ∧ t.on SS_STAT_ESC = true ∧
      t.f SS_CNT_ESC = satU 8 (s.f SS_CNT_ESC + 1) ∧ t.f SS_STAT_A_REQ = s.e BLD_LIM_A_MAX % 2 ^ 16 ∧
      t.f SS_STAT_FIRST = s.f SS_STAT_FIRST ∧ SameRegsBut [SS_STAT_A, SS_CNT_A] s t) ∧
  (∀ s : State, s.dom 2 = true → s.quiet = false → s.f SS_STAT_PHASE = 1 ∨ s.f SS_STAT_PHASE = 2 →
    s.e SS_STOP_T_HOLD * 1000000 ≤ s.ss.still * s.tNs →
    ∃ t, exec .standstillConfirmed s = .next t ∧ t.f SS_STAT_PHASE = 3 ∧ t.f SS_STAT_A_REQ = s.f SS_STAT_A_REQ ∧
      t.ss.heldReq = s.f SS_STAT_A_REQ ∧ SameRegsBut [SS_STAT_A] s t) ∧
  (∀ s : State, s.dom 2 = true → s.quiet = false → s.f SS_STAT_PHASE = 3 → s.parkApplied = true →
    s.e SS_PARK_T_APPLY * 1000000 ≤ s.ss.secure * s.tNs →
    ∃ t, exec .parkApplicationComplete s = .next t ∧ t.f SS_STAT_PHASE = 4 ∧ t.on SS_STAT_PARK_DONE = true ∧
      t.on SS_STAT_TQ_OPEN = true ∧ t.f AUX_STAT_TQ_CMD = 0 ∧ t.flt = s.flt) ∧
  (∀ s : State, s.dom 2 = true → s.quiet = false → s.f SS_STAT_PHASE = 3 → s.parkApplied = false →
    2 * s.e SS_PARK_T_APPLY * 1000000 ≤ s.ss.secure * s.tNs →
    ∃ t, exec .ssParkTmo s = .next t ∧ t.f SS_STAT_PHASE = 4 ∧ t.on SS_STAT_PARK_DONE = true ∧ t.f AUX_STAT_TQ_CMD = 0 ∧
      t.flt = (s.raiseU 0x3B2).flt)

/-- The timed reports of the braking and steering functions (R157, R161, R162, R172) are raised once in an episode; the end of the
retarder hold takes its duty to 0. A lost axis (R50, R105, R116): state LOST, its bit in AXIS_LOST, output age 0b10 and no committed
output, after 20 ms of coasting or at the end of its shutdown time; other axes stay as they were. -/
def Obligations.VehicleAndAxisEpisodesEnd : Prop :=
  (∀ s : State, s.dom 2 = true → 10 ≤ s.veh.linkRun → s.veh.misEp = false →
    exec .linkMismatch s = .next (({ s with veh := { s.veh with misEp := true } }).raiseU 0x3A1)) ∧
  (∀ s : State, s.dom 2 = true → s.veh.linkEp = true → s.msTicks (s.e BLD_LINK2_HOLD_MS) ≤ s.veh.holdTicks →
    exec .retHoldExpiry s = .next { s with veh := { s.veh with holdDone := true, lastDuty := 0 } }) ∧
  (∀ s : State, s.dom 2 = true → s.msTicks 1000 ≤ s.veh.trimRun → s.veh.trimEp = false →
    exec .trimLimit s = .next (({ s with veh := { s.veh with trimEp := true } }).raiseU 0x3A5)) ∧
  (∀ (k : Fin 4) (s : State), s.dom 2 = true → s.msTicks (s.e STR_TRACK_TRACK_MS) ≤ s.veh.trackRun.getD k 0 →
    0 < s.veh.trackRun.getD k 0 → bitOf s.veh.trackEp k = false →
    exec (.steerTrack k) s =
      .next (({ s with veh := { s.veh with trackEp := withBit s.veh.trackEp k true } }).raiseU (0x3A8 + k))) ∧
  (∀ s : State, s.dom 2 = true → s.veh.misEp = true → exec .linkMismatch s = .next s) ∧
  (∀ (n : Fin 16) (s : State), s.dom 2 = true → s.on (AX_STAT_COAST n) = true → s.msTicks 20 ≤ s.f (AX_COAST_TICKS n) →
    s.axState n = 2 →
    ∃ t, exec (.axisCoastLost n) s = .next t ∧ t.axState n = 4 ∧ t.fbit AXIS_LOST_LOST n = true ∧ t.f (ageF n) = 2 ∧
      (t.axs n).committed = false ∧ (t.axs n).shutTmo = false ∧
      (∀ m : Fin 16, m ≠ n → t.axState m = s.axState m ∧ t.axs m = s.axs m ∧ t.fbit AXIS_LOST_LOST m = s.fbit AXIS_LOST_LOST m)) ∧
  (∀ (n : Fin 16) (s : State), s.dom 2 = true → s.shutLate n = false → exec (.axisShutdownTimeout n) s = .next s) ∧
  (∀ (n : Fin 16) (s : State), s.dom 2 = true → s.axState n = 3 →
    2 * s.e (AX_CFG_SHUT_MS n) * 1000000 ≤ (s.axs n).shutTicks * s.tNs →
    ∃ t, exec (.axisShutdownTimeout n) s = .next t ∧ t.axState n = 4 ∧ t.fbit AXIS_LOST_LOST n = true ∧ t.f (ageF n) = 2 ∧
      (t.axs n).shutTmo = true ∧ ∀ m : Fin 16, m ≠ n → t.axState m = s.axState m ∧ t.axs m = s.axs m) ∧
  (∀ (n : Fin 16) (s : State), s.dom 2 = true → s.axState n = 2 → s.on (AX_STAT_COAST n) = false →
    exec (.axisCoastLost n) s = .next s)

/-- In QUIET, and in a TERMINAL lane, no plain pass, Janus pass, reserve or re-run changes anything; in QUIET no commit window, slice
test, march test or self-test slice either (R42, R375). TICK does nothing in LRST; in QUIET it runs the wheel speeds, the network
and the lane, in every other state all blocks. -/
def Obligations.ProgramsRunByStateAndTick : Prop :=
  (∀ (c : Instr) (s : State),
    (s.engineOn = false ∧ ((∃ x, c = .plainPass x) ∨ (∃ x, c = .janusPass x) ∨ c = .arbitrationReserve ∨
      ∃ n e, c = .rerunComplete n e)) ∨
    (s.quiet = true ∧ ((∃ l, c = .voteAndCommit l) ∨ (∃ sl p, c = .sliceTestComplete sl p) ∨
      (∃ i m l, c = .selfTestSlice i m l) ∨ (∃ p r, c = .marchTestComplete p r))) →
    exec c s = .next s) ∧
  (∀ (x : Snap) (s : State), s.dom 2 = true →
    exec (.tick x) s = .next (if s.inLrst then s else framed s (if s.quiet then tickQuiet x s else tickRun x s)))

/-- The guard corrects the phase of the tick by at most T/200 (R37), towards zero, and not at all within 10 ns while no correction runs;
a self-test slice that was cut off counts as an overrun of window 5. With network time as the reference, no change of the grid and
no phase to correct, TICK n + 1 lies one tick length after TICK n on the grid (R33), and time has passed to it. -/
def Obligations.TickGridSlewsToItsReference : Prop :=
  (∀ s : State, s.dom 2 = true →
    ∃ t, exec .guardWindow s = .next t ∧ t.tk.bistLate = false ∧ (t.tk.phase - s.tk.phase).natAbs ≤ slewNs s.tNs ∧
      t.tk.phase.natAbs ≤ s.tk.phase.natAbs ∧
      (s.tk.phase.natAbs ≤ 10 → s.on TICK_STAT_SLEWING = false → t.tk.phase = s.tk.phase) ∧
      (s.tk.bistLate = true → t.f TICK_OVR_BIST = satU 8 (s.f TICK_OVR_BIST + 1) ∧ t.f OVR_LAST_WIN = 5)) ∧
  (∀ s : State, s.f TICK_STAT_SRC_ACT = 0 → s.engOld = [] → s.tk.first = false → s.tk.phase = 0 → s.f TICK_CFG_LEN < 3 →
    s.f TICK_STAT_LEN_ACT = s.f TICK_CFG_LEN → s.time < s.tk.at_ + s.tNs / 2 * 2 ^ 32 →
    let t := nextTick s
    t.tickNo = s.tickNo + 1 ∧ t.tk.at_ = ((s.tickNo + 1) * s.tNs + s.phaseNs) * 2 ^ 32 ∧ t.time = max s.time t.tk.at_ ∧
      t.tNs = s.tNs ∧ SameRegsBut [TICK_STAT_A] s t)

/-- The plain pass (R39, R86, R184): every slot begins without results; a slot with no program gets none; no verdict of the tick before
is left. The Janus pass (R178): each axis whose plain pass took its inputs runs coded on the same inputs, from the coded record; a
run unfinished at the end of the window has no result. The other slots are as they were. -/
def Obligations.PassesRunOnOneSnapshot : Prop :=
  (∀ (x : PassEnv) (s : State), s.dom 2 = true → s.engineOn = true →
    ∃ t, exec (.plainPass x) s = .next t ∧ t.jan.mism = [] ∧ t.jan.waiting = [] ∧ t.jan.passRan = s.jan.passRan ∧
      (∀ n : Fin 16, s.e (AX_CFG_STRUCT n) = 0 → (t.axs n).plain = none ∧ (t.axs n).runIn = none) ∧
      ∀ n : Fin 16, (t.axs n).coded = none ∧ (t.axs n).rerun = none ∧ (t.axs n).verdict = .none) ∧
  (∀ (x : PassEnv) (s : State), s.dom 2 = true → s.engineOn = true →
    ∃ t, exec (.janusPass x) s = .next t ∧ t.jan.passRan = true ∧
      ∀ n : Fin 16, match (s.axs n).runIn with
        | none => t.axs n = s.axs n
        | some (i, ci) =>
          let rec_ := errInto 30 n x.record (s.axs n).recordC
          t.axs n = { s.axs n with
            recordC := rec_
            coded := if x.unfinished.contains n then none
              else some ⟨errInto 30 n x.result (runCoded i ci rec_).words, (runCoded i ci rec_).flags⟩ })

/-- An error-free coded run gives 59 times the plain run, word by word, and the same flags (R92, R175, R177), on a coded record that is
59 times the plain one. -/
def Obligations.CodedRunIsFiftyNineTimesPlain : Prop :=
  ∀ (i : ProgIn) (ci : ChainIn) (w : List Int),
    let plain := (runPlain i ci w).prog.res
    runCoded i ci (w.map (fun v => 59 * v)) = ⟨plain.words.map (fun v => 59 * v), plain.flags⟩

/-- The comparator passes two error-free copies with equal flags, and finds every single bit error (R176, R182): in a coded word with
cause 1, in a hold-store word with cause 3, at that word; and differing flags with cause 2. -/
def Obligations.ComparatorFindsEverySingleBitError : Prop :=
  ∀ (w : List Int) (fl : Nat), (∀ v ∈ w, -puMax ≤ v ∧ v ≤ puMax) →
    let hold := w.map holdWord
    let coded := w.map (fun v => 59 * v)
    railFinds hold coded fl fl = none ∧
    (∀ f', f' ≠ fl → railFinds hold coded fl f' = some (2, none)) ∧
    (∀ k b, k < w.length → b < 30 →
      railFinds hold (listSet coded k (flipI 30 (2 ^ b) (coded.getD k 0))) fl fl = some (1, some k)) ∧
    (∀ k b, k < w.length → b < 25 →
      railFinds (listSet hold k (Nat.xor (hold.getD k 0) (2 ^ b))) coded fl fl = some (3, some k))

/-- With sound rails, an axis that ran both passes matches just when the comparison logic finds nothing, otherwise it waits for
arbitration; a slot that did not run both keeps its verdict (R182, R183). At the commit window what still waited has ended, and only
axes reported as missed are left for the overrun (R47, R187, R269). -/
def Obligations.CompareAndCommitEndArbitration : Prop :=
  (∀ s : State, s.dom 2 = true → s.engineOn = true →
    ∃ t, exec (.compareAndExchange []) s = .next t ∧ t.ln.own.isSome = true ∧ t.ln.recs = [] ∧
      ∀ n : Fin 16, match (s.axs n).plain, (s.axs n).coded with
        | some p, some c =>
          (t.axs n).verdict =
            (if s.fbit JAN_FENCE_FENCED n = false ∧ railFinds (s.partition n p.words.length) c.words p.flags c.flags = none
              then .match_ else .waiting)
        | _, _ => (t.axs n).verdict = (s.axs n).verdict) ∧
  (∀ (missed : List (Fin 16)) (s : State), s.dom 2 = true → s.quiet = false →
    ∃ t, exec (.voteAndCommit missed) s = .next t ∧ t.jan.rerunAt = none ∧ t.jan.waiting = [] ∧
      ∀ n ∈ t.tk.missed, n ∈ s.tk.missed ∨ n ∈ missed.map Fin.val)

/-- Without a mismatch only the slice in rotation is tested, the next one is noted, and no re-run starts (R185, R402). The verdict of a
re-run (R187) is PLAIN where the eligible plain result agrees with the re-run, or with the eligible decoded one; else RERUN where
the decoded one agrees with it; else no verdict. -/
def Obligations.ArbitrationDecidesByAgreement : Prop :=
  (∀ s : State, s.dom 2 = true → s.engineOn = true → s.jan.mism = [] → s.jan.waiting = [] →
    ∃ t, exec .arbitrationReserve s = .next t ∧ t.jan.test = [s.rotation] ∧ t.jan.susp = [] ∧ t.jan.rerunAt = none ∧
      t.f BIST_SLC_NEXT = (s.rotation + 1) % 9 ∧ t.jan.left = reserveCycles s.tNs s.engMhz ∧ t.axes = s.axes ∧
      SameRegsBut [BIST_SLC_A, JAN_STAT_A] s t) ∧
  (∀ (n : Fin 16) (i : ProgIn) (ci : ChainIn) (p c : RunRes) (s : State), s.dom 2 = true → s.engineOn = true →
    s.jan.rerunAt = some n.val → (s.axs n).runIn = some (i, ci) → (s.axs n).plain = some p → (s.axs n).coded = some c →
    s.jan.waiting = [n.val] →
    let r := (runPlain i ci (s.axs n).record).prog.res
    let a : RunRes := ⟨(s.partition n p.words.length).map holdPlain, p.flags⟩
    let d : RunRes := ⟨c.words.map (fun w => w.fdiv 59), c.flags⟩
    ∃ t, exec (.rerunComplete n []) s = .next t ∧ t.jan.rerunAt = none ∧ t.jan.waiting = [] ∧ (t.axs n).rerun = some r ∧
      t.f JAN_CNT_D_RERUN = satU 16 (s.f JAN_CNT_D_RERUN + 1) ∧
      ((s.axs n).plainOk = true → a = r → (t.axs n).verdict = .plain) ∧
      ((s.axs n).plainOk = true → (s.axs n).codedOk = true → a = d → (t.axs n).verdict = .plain) ∧
      ((s.axs n).codedOk = true → a ≠ r → a ≠ d → d = r → (t.axs n).verdict = .rerun) ∧
      ((s.axs n).plainOk = false → (s.axs n).codedOk = false → (t.axs n).verdict = .noVerdict) ∧
      (a ≠ r → a ≠ d → d ≠ r → (t.axs n).verdict = .noVerdict))

/-- A passed slice test only ends, a slice not under test reports nothing; a passed march test ends the wait of its partition, a failed
one fences it and counts (R190-R192). A manual injection is taken in service mode for patterns 0 to 64 and refused otherwise; the
self-test slice reports its result (R196). CLR_CAP re-arms the capture, CLR_CNT clears the counters (R198). -/
def Obligations.TestsAndInjectionsEndWithTheirFinding : Prop :=
  (∀ (sl : Fin 9) (s : State), s.dom 2 = true → s.quiet = false →
    exec (.sliceTestComplete sl true) s =
      .next (if s.jan.test.contains sl.val then { s with jan := { s.jan with test := s.jan.test.filter (· != sl.val) } } else s)) ∧
  (∀ (row : Fin 1024) (n : Nat) (s : State), s.dom 2 = true → s.quiet = false → n < 16 → s.jan.marching = some n →
    (s.axs n).sliceFail = true →
    ∃ t, exec (.marchTestComplete true row) s = .next t ∧ t.jan.marching = none ∧ t.fbit JAN_PEND_PENDING n = false ∧
      t.jan.queue = s.jan.queue.filter (· != n) ∧ SameRegsBut [JAN_PEND_A] s t) ∧
  (∀ (row : Fin 1024) (n : Nat) (s : State), s.dom 2 = true → s.quiet = false → n < 16 → s.jan.marching = some n →
    ∃ t, exec (.marchTestComplete false row) s = .next t ∧ t.jan.marching = none ∧ t.fbit JAN_FENCE_FENCED n = true ∧
      t.f JAN_CNT_B_HOLD_FAIL = satU 8 (s.f JAN_CNT_B_HOLD_FAIL + 1)) ∧
  (∀ (pass : Bool) (row : Fin 1024) (s : State), s.dom 2 = true → s.quiet = false → s.jan.marching = none →
    exec (.marchTestComplete pass row) s = .next s) ∧
  (∀ (idx : BitVec 7) (s : State), s.dom 2 = true →
    exec (.janInjGo idx) s =
      .next (if s.service = true ∧ idx.toNat ≤ 64 then { s with jan := { s.jan with goPend := some idx.toNat } }
        else s.inc (PG_LOCK_REFUSED 0x00D))) ∧
  (∀ (inj man : Option RailPair) (late : Bool) (k : Nat) (s : State), s.dom 2 = true → s.quiet = false → s.tk.missed = [] →
    s.tickNo % 1000 ≠ 0 → s.jan.goIdx = some k →
    ∃ t, exec (.selfTestSlice inj man late) s = .next t ∧ t.f JAN_INJ_STAT_MAN_RESULT = (if injFails k man = 0 then 1 else 2) ∧
      t.jan.goIdx = none ∧ t.tk.bistLate = late ∧ SameRegsBut [JAN_INJ_STAT_A] s t) ∧
  (∀ s : State, s.dom 2 = true →
    ∃ t, exec .janClrCap s = .next t ∧ t.jan = { s.jan with capArmed := true, capAxis := none, capNow := false } ∧ t.word JAN_CAP_AX_A = 0 ∧
      t.word JAN_CAP_TIME_A = 0 ∧
      SameRegsBut [JAN_CAP_AX_A, JAN_CAP_PLAIN_A, JAN_CAP_CODED_A, JAN_CAP_RERUN_A, JAN_CAP_FLAGS_A, JAN_CAP_TIME_A] s t) ∧
  (∀ s : State, s.dom 2 = true →
    ∃ t, exec .janClrCnt s = .next t ∧ t.jan = s.jan ∧ t.f JAN_INJ_STAT_FAIL = 0 ∧
      (∀ a ∈ [JAN_CNT_A_A, JAN_CNT_B_A, JAN_CNT_C_A, JAN_CNT_D_A], t.word a = 0) ∧ (∀ i, i < 8 → t.word (JAN_AXCNT_A i) = 0))

/-- A trained link (R289-R291) with the expected neighbour waits to go UP at the next TICK; with any other peer it shows WIRING and
raises its source once in an episode; an UP link that goes down trains again and counts. A span stays marked as broken until 20,000
ticks without a break (R292), counted at TICK. -/
def Obligations.LinksTrainAndSpansHeal : Prop :=
  (∀ (m : Fin 4) (pos : BitVec 4) (ringN : BitVec 5) (lsys : BitVec 3) (d : BitVec 16) (s : State), s.dom 4 = true →
    s.f (LK_STAT_STATE m) = 1 ∨ s.f (LK_STAT_STATE m) = 3 →
    ∃ t, exec (.linkTrained m pos ringN lsys d) s = .next t ∧ t.f (LK_STAT_PEER_POS m) = pos.toNat ∧
      t.f (LK_STAT_PEER_RING_N m) = ringN.toNat ∧ t.f (LK_STAT_PEER_LSYS m) = lsys.toNat ∧ t.f (LK_STAT_DELAY_NS m) = d.toNat ∧
      SameRegsBut [LK_STAT_A m] s t ∧
      (pos.toNat = s.neighbour m ∧ ringN.toNat = s.ringN → t.f (LK_STAT_STATE m) = 1 ∧ (t.link m).pendUp = true ∧ t.flt = s.flt) ∧
      (¬ (pos.toNat = s.neighbour m ∧ ringN.toNat = s.ringN) →
        t.f (LK_STAT_STATE m) = 3 ∧ (t.link m).pendUp = false ∧
          t.flt = (if (s.link m).wiringEp then s.flt else (s.raiseU 0x301).flt))) ∧
  (∀ (m : Fin 4) (pos : BitVec 4) (ringN : BitVec 5) (lsys : BitVec 3) (d : BitVec 16) (s : State), s.dom 4 = true →
    s.f (LK_STAT_STATE m) = 0 ∨ s.f (LK_STAT_STATE m) = 2 → exec (.linkTrained m pos ringN lsys d) s = .next s) ∧
  (∀ (m : Fin 4) (s : State), s.dom 4 = true → s.linkUp m = true →
    ∃ t, exec (.lkDown m) s = .next t ∧ t.f (LK_STAT_STATE m) = 1 ∧ t.f (LK_CNT_DOWNS m) = satU 8 (s.f (LK_CNT_DOWNS m) + 1) ∧
      t.fbit CDC_PEER_PEER_RESET (6 + m) = true ∧
      SameRegsBut [LK_STAT_A m, LK_CNT_A m, CDC_PEER_PEER_RESET.addr, (CDC_XST_RESETS (6 + m)).addr] s t) ∧
  (∀ (m : Fin 4) (s : State), s.dom 4 = true → s.linkUp m = false → exec (.lkDown m) s = .next s) ∧
  (∀ (east : Bool) (s : State), s.dom 4 = true →
    exec (.spanBreakCleared east) s =
      .next (if s.f (spanF east) = 1 ∧ 20000 ≤ (if east then s.mm.eastTicks else s.mm.westTicks) then s.set (spanF east) 2 else s))

/-- An exchange record with no correct copy on an UP link brings no record; with the own position it marks a duplicate; after 6 % of the
tick it counts as late; otherwise it is the record of its position, where the position has none yet (R293, R299, R301). An excluded
lane takes itself back once CLEAN has reached 20,000 and TB_EN allows it: counted, raised, ACTIVE from the next TICK (R281). -/
def Obligations.ExchangeAndTakeBackKeepTheLane : Prop :=
  (∀ (east : Bool) (a b : XCopy) (r : XRec) (atNs : Nat) (s : State), s.dom 4 = true →
    let good := (s.linkHears (if east then 1 else 0) && a.ok) || (s.linkHears (if east then 3 else 2) && b.ok)
    r.kind ≠ .idle → ∃ t, exec (.exchangeRecord east a b r atNs) s = .next t ∧
      (good = false → t.ln = s.ln ∧ t.mm.fwd = s.mm.fwd ∧ t.mm.dupNow = s.mm.dupNow) ∧
      (good = true → r.pos = s.pos → t.ln = s.ln ∧ t.mm.dupNow = true) ∧
      (good = true → r.pos ≠ s.pos → s.tNs * 6 / 100 < atNs → t.ln = s.ln ∧ t.f MM_CNT_LATE = satU 8 (s.f MM_CNT_LATE + 1)) ∧
      (good = true → r.pos ≠ s.pos → atNs ≤ s.tNs * 6 / 100 →
        t.recAtPos r.pos = some ((s.recAtPos r.pos).getD r) ∧ ∀ p, p ≠ r.pos → t.recAtPos p = s.recAtPos p)) ∧
  (∀ s : State, s.dom 2 = true → s.quiet = false → 20000 ≤ s.f LN_TB_CLEAN → s.f LN_STAT_STATE = 2 → s.on LN_CFG_TB_EN = true →
    s.ln.next = none → s.ln.gaveUp = 0 →
    ∃ t, exec .lnTakeback s = .next t ∧ t.ln.next = some (1, 0) ∧ t.f LN_CNT_TAKEBACK = satU 8 (s.f LN_CNT_TAKEBACK + 1) ∧
      t.f LN_TB_LANE_RET = min 3 (s.f LN_TB_LANE_RET + 1) ∧ t.flt = (s.raiseU 0x38A).flt ∧
      t.f LN_STAT_STATE = s.f LN_STAT_STATE) ∧
  (∀ s : State, s.dom 2 = true → s.f LN_TB_CLEAN < 20000 → exec .lnTakeback s = .next s)

/-- SYNC_N and ALARM_N (R37, R38, R304-R307): every edge gives the offset and ALIGNED, and where the ring master's tick is the reference
the phase that the guard corrects; one within 2,000 ns shows that tick present; without one for three ticks SYNC_OK ends, reported
once; ALARM_IN follows the line while this module does not pull it. -/
def Obligations.SyncAndAlarmLinesAreFollowed : Prop :=
  (∀ (off : Int) (s : State), s.dom 4 = true → -50 ≤ off →
    let o := -(off + (s.f MM_CFG_SYNC_DLY : Nat))
    ∃ t, exec (.syncNEdge off) s = .next t ∧ t.fI TICK_ALIGN_OFFSET = satSigned 16 o ∧
      t.on TICK_STAT_ALIGNED = decide (o.natAbs ≤ 100) ∧
      (off.natAbs ≤ 2000 → t.on MM_STAT_SYNC_OK = true ∧ t.mm.syncEdge = true ∧ t.mm.syncMiss = 0) ∧
      (2000 < off.natAbs → t.on MM_STAT_SYNC_OK = s.on MM_STAT_SYNC_OK ∧ t.mm.syncEdge = s.mm.syncEdge ∧ t.mm.syncMiss = s.mm.syncMiss) ∧
      (s.f TICK_STAT_SRC_ACT = 2 → t.tk.phase = o) ∧ (s.f TICK_STAT_SRC_ACT ≠ 2 → t.tk = s.tk) ∧
      SameRegsBut [MM_STAT_A, TICK_ALIGN_A, TICK_STAT_A] s t) ∧
  (∀ s : State, s.dom 4 = true → exec .syncPulseEnd s = .next { s with mm := { s.mm with pulse := false } }) ∧
  (∀ s : State, s.dom 4 = true → 3 ≤ s.mm.syncMiss → s.mm.syncLossEp = false →
    exec .mmSyncLoss s =
      .next (({ (s.setB MM_STAT_SYNC_OK false) with mm := { s.mm with syncLossEp := true } }).raiseU 0x305)) ∧
  (∀ s : State, s.dom 4 = true → s.on MM_STAT_ALARM_OUT = false → s.on MM_STAT_ALARM_IN = false →
    exec .mmAlarmIn s =
      .next (({ s with mm := { s.mm with alarmPin := true } }.setB MM_STAT_ALARM_IN true).raiseU 0x308)) ∧
  (∀ s : State, s.dom 4 = true →
    exec .alarmNRelease s = .next ({ s with mm := { s.mm with alarmPin := false } }.setB MM_STAT_ALARM_IN false))

/-- Bytes of a Sitil frame read back as the frame they were made of (R314): header, payload, correction field; the frame check tells a
sound frame from one marked as failed (R316); and the code groups sent for the bytes (R312) are received as these bytes. -/
def Obligations.SitilFramesReadBack : Prop :=
  ∀ (f : Frame) (ok : Bool), f.node < 2 ^ 16 → f.slot < 2 ^ 13 → f.ver < 2 ^ 3 → f.cycle < 2 ^ 16 → f.age < 2 ^ 4 → f.len ≤ 240 →
    f.payload.length = f.len → (∀ b ∈ f.payload, b < 256) → f.corr < 2 ^ 48 →
    Frame.parse (f.bytes ok) = some f ∧ frameCrcOk (f.bytes ok) = ok ∧ (f.bytes ok).length = 18 + f.len ∧
      codedBytes (lineOf (f.bytes ok)) = some (f.bytes ok)

/-- An own entry that is due on an ACTIVE channel is sent as one frame with the node identity, the slot, the cycle and no correction, in
its code groups, counted on every port of the channel that Charon lets drive; an entry of another node sends nothing (R312-R315,
R320, R336). A port that is off hears nothing; a frame whose coding or length fails counts, as does one whose crossing is stopped or
whose check fails; in an ACTIVE channel a frame of a received entry, from its sender, in its cycle and window, is kept (R311, R313,
R324, R326). -/
def Obligations.FramesAreSentAndJudged : Prop :=
  (∀ (e : BitVec 13) (ch : Fin 2) (x : SchE) (s : State), s.dom 3 = true →
    s.ownEntries.find? (fun y => y.idx == e.toNat) = some x → x.onCh ch = true → x.activeIn s.cycNo = true → s.chPorts ch ≠ [] →
    s.chState ch = 4 →
    ∃ (t : State) (f : Frame), exec (.sitilFrameSend e ch true true) s = .next t ∧ (t.chan ch).out = f.bytes true ∧
      (t.chan ch).line = lineOf (f.bytes true) ∧ f.node = s.nodeId ∧
      f.slot = e.toNat ∧ f.ver = 1 ∧ f.cycle = s.cycle ∧ f.len = x.len ∧ f.cstart = false ∧ f.bcast = false ∧ f.corr = 0 ∧
      f.sync = x.sync ∧ (∀ p ∈ s.chPorts ch, t.f (SP_TX_FRAMES p) =
        if s.drives p (s.sched16 x s.cycNo) (s.sched16 x s.cycNo + 16 * frameNs x.len) = true
          then (s.f (SP_TX_FRAMES p) + 1) % 2 ^ 32 else s.f (SP_TX_FRAMES p))) ∧
  (∀ (e : BitVec 13) (ch : Fin 2) (rb0 rb1 : Bool) (s : State), s.dom 3 = true →
    s.ownEntries.find? (fun y => y.idx == e.toNat) = none → exec (.sitilFrameSend e ch rb0 rb1) s = .next s) ∧
  (∀ (p : Fin 4) (g0 : BitVec 10) (g : List (BitVec 10)) (start res : Nat) (s : State), s.dom 3 = true →
    s.portOn p = false ∨ s.chState (p / 2) = 0 → exec (.sitilFrameReceive p g0 g start res) s = .next s) ∧
  (∀ (p : Fin 4) (g0 : BitVec 10) (g : List (BitVec 10)) (start res : Nat) (s : State), s.dom 3 = true → s.portOn p = true →
    s.chState (p / 2) ≠ 0 → s.xStopped (2 + p) = true →
    ∃ t, exec (.sitilFrameReceive p g0 g start res) s = .next t ∧ t.f (SP_ERR_CODE p) = satU 16 (s.f (SP_ERR_CODE p) + 1) ∧
      t.sit.rx = s.sit.rx ∧ t.sit.buf = s.sit.buf) ∧
  (∀ (p : Fin 4) (g0 : BitVec 10) (g : List (BitVec 10)) (start res : Nat) (s : State), s.dom 3 = true → s.portOn p = true →
    s.chState (p / 2) ≠ 0 → s.xStopped (2 + p) = false → (codedBytes ((g0 :: g).map BitVec.toNat)).bind Frame.parse = none →
    ∃ t, exec (.sitilFrameReceive p g0 g start res) s = .next t ∧ t.f (SP_ERR_CODE p) = satU 16 (s.f (SP_ERR_CODE p) + 1) ∧
      t.f (SP_RX_FRAMES p) = s.f (SP_RX_FRAMES p)) ∧
  (∀ (p : Fin 4) (g0 : BitVec 10) (g : List (BitVec 10)) (b : List Nat) (f : Frame) (start res : Nat) (s : State), s.dom 3 = true →
    s.portOn p = true → s.xStopped (2 + p) = false → s.chState (p / 2) ≠ 0 → codedBytes ((g0 :: g).map BitVec.toNat) = some b → Frame.parse b = some f →
    frameCrcOk b = false →
    ∃ t, exec (.sitilFrameReceive p g0 g start res) s = .next t ∧ t.f (SP_ERR_CRC p) = satU 16 (s.f (SP_ERR_CRC p) + 1) ∧
      t.f (SP_RX_FRAMES p) = s.f (SP_RX_FRAMES p)) ∧
  (∀ (p : Fin 4) (g0 : BitVec 10) (g : List (BitVec 10)) (b : List Nat) (f : Frame) (e : SchE) (start res : Nat) (s : State), s.dom 3 = true →
    s.portOn p = true → s.xStopped (2 + p) = false → s.chState (p / 2) = 4 → codedBytes ((g0 :: g).map BitVec.toNat) = some b → Frame.parse b = some f →
    frameCrcOk b = true → s.bridges (p / 2) = false → s.headerEntry (p / 2) f s.cycNo = some e →
    f.node = e.sender → e.sync = false → e.rx = true → (s.rx e.idx).got = false →
    let dev : Int := (start : Int) - (f.corr : Nat) - (16 * (if p.val < 2 then s.f SIT_PROP_PROP_X else s.f SIT_PROP_PROP_Y) : Nat)
      - (s.sched16 e s.cycNo : Nat)
    dev.natAbs ≤ 160 * s.f SIT_CFG_ACC_WIN →
    ∃ t, exec (.sitilFrameReceive p g0 g start res) s = .next t ∧ (t.rx e.idx).payload = f.payload ∧ (t.rx e.idx).age = f.age ∧
      (t.rx e.idx).got = true ∧ (t.rx e.idx).valid = (decide (f.age ≤ e.maxAge) && !f.null) ∧
      t.f (SP_RX_FRAMES p) = (s.f (SP_RX_FRAMES p) + 1) % 2 ^ 32)

/-- The starts and losses of a channel (R327, R329, R332): a node of the coldstart list that hears nothing for two cycles starts the
network; without an answer in six cycles it goes on alone where LONE_OK says so, else it backs off, and starts anew when its cycles
have passed. -/
def Obligations.ChannelsStartAndAreLost : Prop :=
  (∀ (c : Fin 2) (s : State), s.dom 3 = true → s.chState c = 1 → s.csRank.isSome = true →
    2 * s.cycleNs ≤ 5 * (s.tb - (s.chan c).heardTb) →
    ∃ t, exec (.listenTimeout c) s = .next t ∧ t.chState c = 2 ∧
      (s.chActive (1 - c) = false → t.time = s.phaseNs * 2 ^ 32) ∧ (s.chActive (1 - c) = true → t.time = s.time)) ∧
  (∀ (c : Fin 2) (s : State), s.dom 3 = true → s.chState c = 2 → 6 ≤ (s.chan c).sent → (s.chan c).next = none →
    s.on SIT_CFG_LONE_OK = true →
    ∃ t, exec (.coldstartTimeout c) s = .next t ∧ t.chState c = 4 ∧ (t.chan c).sent = 0 ∧ t.time = s.time) ∧
  (∀ (c : Fin 2) (s : State), s.dom 3 = true → s.chState c = 2 → 6 ≤ (s.chan c).sent → (s.chan c).next = none →
    s.on SIT_CFG_LONE_OK = false →
    ∃ t, exec (.coldstartTimeout c) s = .next t ∧ t.chState c = 5 ∧ (t.chan c).back = 1 + s.csRank.getD 0 ∧ t.time = s.time) ∧
  (∀ (c : Fin 2) (s : State), s.dom 3 = true → s.chState c = 5 → (s.chan c).back = 0 →
    ∃ t, exec (.backoffEnd c) s = .next t ∧ t.chState c = 2) ∧
  (∀ (c : Fin 2) (s : State), s.dom 3 = true → s.e SIT_CFG_LOST_CYC ≤ (s.chan c).lostRun → s.on (chLostF c) = false → s.part = .a →
    exec (.sitLost c) s = .next (((s.setB (chLostF c) true).setB SL_STAT_DUAL_SUSP true).raiseU (0x280 + c))) ∧
  (∀ (c : Fin 2) (s : State), s.dom 3 = true → 100 ≤ (s.chan c).goodRun →
    exec (.sitLossEnd c) s = .next ((s.setB (chLostF c) false).setChan c { s.chan c with ended := true }))

/-- Network time at the end of a cycle (R359-R361): a node that is the time master corrects nothing; one that has heard no master holds
over and counts; a locked one takes the master's deviation as its offset and slews it away. -/
def Obligations.NetworkTimeFollowsItsMaster : Prop :=
  (∀ s : State, s.dom 3 = true → s.on NT_STAT_TM = true → (∀ m ∈ s.nt.tms, s.f SIT_ID_NODE_ID ≤ m) →
    ∃ t, exec .ntCorrection s = .next t ∧ t.nt.devs = [] ∧ t.nt.tms = [] ∧ t.nt.holdEp = false ∧ t.nt.rate = s.nt.rate ∧
      t.nt.slew = s.nt.slew ∧ t.time = s.time) ∧
  (∀ s : State, s.dom 3 = true → s.on NT_STAT_TM = false → s.nt.tms = [] → s.nt.devs = [] → s.nt.masterOut = false →
    s.f NT_STAT_STATE ≠ 0 →
    ∃ t, exec .ntCorrection s = .next t ∧ t.f NT_STAT_STATE = 4 ∧ t.on NT_STAT_LOCKED = false ∧ t.nt.holdEp = true ∧
      t.f NT_HOLD_CYCLES = (if s.nt.holdEp then satU 32 (s.f NT_HOLD_CYCLES + 1) else 1) ∧ t.nt.rate = s.nt.rate ∧ t.time = s.time) ∧
  (∀ (m : Nat) (d : Int) (s : State), s.dom 3 = true → s.on NT_STAT_TM = false → s.nt.tms = [] → s.nt.devs = [(m, d)] →
    s.nt.lastMaster = some m → s.nt.masterOut = false → s.f NT_STAT_STATE = 1 → d.natAbs ≤ 160 * s.e SIT_CFG_OFS_LIM →
    let rate := s.nt.rate - (d * 2 ^ 32).fdiv (16 * s.cycleNs * 2 ^ s.e NT_CFG_KR : Nat)
    rate.natAbs * 10 ^ 6 ≤ s.e SIT_CFG_RATE_LIM * 2 ^ 32 →
    ∃ t, exec .ntCorrection s = .next t ∧ t.f NT_STAT_STATE = 1 ∧ t.on NT_STAT_LOCKED = true ∧
      t.fI NT_OFS_OFS = satSigned 32 d ∧ t.nt.rate = rate ∧ t.nt.slew = -(d * 2 ^ 28) ∧ t.time = s.time)

/-- Two strobes in a row within tolerance open Charon where nothing else keeps it closed; one outside counts as rejected, and the second
in a row closes it (R337). A window of a table entry that is due opens its ports unless Charon is closed; a drive outside one is
blocked and counted; a cut forward loses its frame; a bad clock, rail or table closes every port (R336, R338, R339). -/
def Obligations.CharonGuardsTheDrivers : Prop :=
  (∀ (dev : Int) (s : State), s.dom 3 = true → s.anyActive = true → s.cn.railBad = false →
    (s.cn.pred = false ∨ dev.natAbs ≤ 50 * s.e CHN_CFG_STROBE_TOL) →
    ∃ t, exec (.charonStrobe dev) s = .next t ∧ t.on CHN_STAT_ALIGNED = true ∧ t.cn.okRun = s.cn.okRun + 1 ∧ t.cn.rej = 0 ∧
      t.on CHN_STAT_CLOSED = (s.on CHN_STAT_CLOSED && !(decide (1 ≤ s.cn.okRun) && !s.charonCause && !s.xStopped 16)) ∧
      SameRegsBut [CHN_STAT_A] s t) ∧
  (∀ (dev : Int) (s : State), s.dom 3 = true → s.anyActive = true → s.cn.railBad = false → s.cn.pred = true →
    50 * s.e CHN_CFG_STROBE_TOL < dev.natAbs →
    ∃ t, exec (.charonStrobe dev) s = .next t ∧ t.on CHN_STAT_ALIGNED = false ∧ t.cn.okRun = 0 ∧
      t.f CH_CNT_STROBE_REJ = satU 8 (s.f CH_CNT_STROBE_REJ + 1) ∧
      (1 ≤ s.cn.rej → t.on CHN_STAT_CLOSED = true ∧ t.f CHN_STAT_OPEN = 0) ∧
      (s.cn.rej = 0 → t.on CHN_STAT_CLOSED = s.on CHN_STAT_CLOSED)) ∧
  (∀ (e : BitVec 13) (x : CharonE) (opens : Bool) (n : Nat) (s : State), s.dom 3 = true →
    s.cn.table.find? (fun y => y.entry == e.toNat) = some x → s.charonCycle x = some n →
    ∃ t, exec (.charonWindow e opens) s = .next t ∧
      t.cn.win = s.cn.win.filter (fun w => w.1 != e.toNat) ++
        (if opens then [(e.toNat, (s.charonSpan x n).1, (s.charonSpan x n).2)] else []) ∧
      (∀ p ∈ s.maskPorts x.chmask, t.fbit CHN_STAT_OPEN p = (opens && !s.on CHN_STAT_CLOSED) ∧
        t.on (SP_STAT_OPEN p) = (opens && !s.on CHN_STAT_CLOSED)) ∧
      (∀ p, p < 4 → p ∉ s.maskPorts x.chmask → t.fbit CHN_STAT_OPEN p = s.fbit CHN_STAT_OPEN p) ∧
      t.on CHN_STAT_CLOSED = s.on CHN_STAT_CLOSED) ∧
  (∀ (e : BitVec 13) (x : CharonE) (s : State), s.dom 3 = true → s.cn.table.find? (fun y => y.entry == e.toNat) = some x →
    s.charonCycle x = none → exec (.charonWindow e true) s = .next s) ∧
  (∀ (p : Fin 4) (s : State), s.dom 3 = true →
    ∃ t, exec (.chBlock p) s = .next t ∧ t.f (blkF p) = satU 16 (s.f (blkF p) + 1) ∧
      t.flt = (if (s.port p).blkEp then s.flt else (s.raiseU (0x2A0 + p)).flt) ∧ SameRegsBut [CH_BLK_01_A, CH_BLK_23_A] s t) ∧
  (∀ (p : Fin 4) (s : State), s.dom 3 = true → s.portOn p = true → s.bridges (p / 2) = true →
    exec (.chFwdCut p) s = .next ((s.inc CH_CNT_FWD_CUT).setPort p { s.port p with fwd := [], fwdLine := [] })) ∧
  (∀ (ppm : Int) (s : State), s.dom 3 = true →
    ∃ t, exec (.chClk ppm) s = .next t ∧ t.on CHN_STAT_CLK_OK = decide (ppm.natAbs ≤ 200) ∧
      t.fI CH_FREQ_DEV_PPM = satSigned 16 ppm ∧
      (200 < ppm.natAbs → t.on CHN_STAT_CLOSED = true ∧ t.f CHN_STAT_OPEN = 0) ∧
      (ppm.natAbs ≤ 200 → t.on CHN_STAT_CLOSED = s.on CHN_STAT_CLOSED)) ∧
  (∀ s : State, s.dom 3 = true →
    ∃ t, exec .chSupply s = .next t ∧ t.cn.railBad = true ∧ t.on CHN_STAT_CLOSED = true ∧ t.f CHN_STAT_OPEN = 0 ∧ t.flt = s.flt) ∧
  (∀ s : State, s.dom 3 = true → s.cn.railBad = true →
    exec .charonRailReturn s = .next (({ s with cn := { s.cn with railBad := false } }).raiseU 0x2A5)) ∧
  (∀ (same : Bool) (s : State), s.dom 3 = true →
    ∃ t, exec (.chTableCheck same) s = .next t ∧ t.on CHN_STAT_TABLE_OK = same ∧ t.cn.tableBad = !same ∧
      (same = false → t.on CHN_STAT_CLOSED = true ∧ t.f CHN_STAT_OPEN = 0))

/-- A PDU that the safety layer seals passes the first checks of a receiver whose connection names the sender and the connection number
(R344-R346, R349), whatever the data. -/
def Obligations.SealedPdusPassTheirChecks : Prop :=
  ∀ (s r : State) (e : SchE) (k j : Nat), s.txConn e = some k → (s.tx e.idx).fresh = true →
    16 + dataLen (r.connType j) ≤ e.pduLen → r.f (SL_CONN1_SRC j) = s.nodeId → r.f (SL_CONN1_CONN j) = s.f (SL_CONN1_CONN k) →
    let p := ((sealPdu e s).tx e.idx).pdu
    p.length = e.pduLen ∧ r.check24 j p = none ∧ fieldAt p 4 2 = (s.f (SL_CST_SEQ k) + 1) % 65536 ∧
      (p.drop 12).take (p.length - 16) = padTo (e.pduLen - 16) ((s.tx e.idx).cur.getD [])

/-- Sequence and freshness (R349, R350): the first PDU only gives a reference; a repeated number counts as a duplicate; one more than 8
ahead stops the connection; one within 8 and its deadline is accepted and gives its data and its number. -/
def Obligations.SequenceDecidesAcceptance : Prop :=
  ∀ (k cycle : Nat) (p : List Nat) (s : State), k < 32 → -100 ≤ s.pduAge (fieldAt p 6 4) → fieldAt p 4 2 < 65536 →
    let seq := fieldAt p 4 2
    let d := (seq + 65536 - s.f (SL_CST_SEQ k)) % 65536
    ((s.conn k).hasRef = false → accept k cycle p s = (s.setConn k { s.conn k with hasRef := true }).set (SL_CST_SEQ k) seq) ∧
    ((s.conn k).hasRef = true → d = 0 → accept k cycle p s = s.inc SL_CNT_B_DUP) ∧
    ((s.conn k).hasRef = true → 8 < d → (accept k cycle p s).on (SL_CST_RUN k) = false ∧
      (accept k cycle p s).f (SL_CST_SEQ k) = seq ∧ (accept k cycle p s).sl = s.sl) ∧
    ((s.conn k).hasRef = true → 1 ≤ d → d ≤ 8 → s.fresh8 k (fieldAt p 6 4) (fieldAt p 10 2) = true →
      (accept k cycle p s).on (SL_CST_RUN k) = true ∧ (accept k cycle p s).f (SL_CST_SEQ k) = seq ∧
        ((accept k cycle p s).conn k).acc = some ((p.drop 12).take (p.length - 16)))

/-- The checks of a request frame in their order (R448-R450, R453, R454): length, transfer, CRC, address, repetition of a tag, bound. A
request that fails one has no other effect than its count and its acknowledge. -/
def Obligations.HostRequestsAreChecked : Prop :=
  (∀ p ∈ hostRows, ∀ (q : HostReq) (s : State), s.dom 7 = true →
    let c := hostCmd p.1 q s
    (lenOk p.1 c.len = false → exec (p.2 q) s = .next (ackHost c.tag 0x03 ((s.inc HP_CNT_FORMAT).raiseU 0x3C8))) ∧
    (lenOk p.1 c.len = true → carriesData p.1 = true → q.data.length < c.len → exec (p.2 q) s = .next (s.inc HP_CNT2_ABORT)) ∧
    (lenOk p.1 c.len = true → (carriesData p.1 = true → c.len ≤ q.data.length) → crc16 (requestBytes c) ≠ q.crc.toNat →
      exec (p.2 q) s = .next (ackHost c.tag 0x02 ((s.inc HP_CNT_CRC).raiseU 0x3C8))) ∧
    (lenOk p.1 c.len = true → (carriesData p.1 = true → c.len ≤ q.data.length) → crc16 (requestBytes c) = q.crc.toNat →
      addrOk p.1 c.addr c.len = false → exec (p.2 q) s = .next (ackHost c.tag 0x03 ((s.inc HP_CNT_FORMAT).raiseU 0x3C8))) ∧
    (HostReqOk p.1 q s → p.1 ≠ cStatus → ∀ e, s.hp.cache.find? (fun e => e.req.tag == c.tag) = some e →
      (sameReq e.req c = true → exec (p.2 q) s = .next (ackHost c.tag 0x04 (s.inc HP_CNT_DUP))) ∧
      (sameReq e.req c = false → e.status = none → exec (p.2 q) s = .next (ackHost c.tag 0x05 (s.inc HP_CNT2_CONFLICT)))) ∧
    (HostReqOk p.1 q s → p.1 ≠ cStatus → s.hp.cache.find? (fun e => e.req.tag == c.tag) = none → 16 ≤ s.hp.slots.length →
      exec (p.2 q) s = .next (ackHost c.tag 0x01 (s.inc HP_CNT_BUSY)))) ∧
  (∀ (cmd : BitVec 8) (q : HostReq) (s : State), s.dom 7 = true → (∀ p ∈ hostRows, p.1 ≠ cmd.toNat) →
    exec (.unknownCommand cmd q) s = .next (ackHost q.tag.toNat 0x03 ((s.inc HP_CNT_FORMAT).raiseU 0x3C8))) ∧
  (∀ s : State, s.dom 7 = true → exec .requestAbort s = .next (s.inc HP_CNT2_ABORT))

/-- Accepted register commands (R451, R452, R454, R512): acknowledged OK; the result waits in a slot as the newest, with the values
read, or REFUSED where a field was refused. -/
def Obligations.RegisterCommandsComplete : Prop :=
  ∀ (q : HostReq) (s : State), s.dom 7 = true → s.HostIdle q.tag.toNat →
    let tag := q.tag.toNat
    let a := fun cmd => accepted (hostCmd cmd q s) s
    let ack := some (⟨tag, 0, s.f HP_STAT_READY⟩ : HAck)
    (HostReqOk cRead q s → let r := readRegs q.addr.toNat q.len.toNat (a cRead)
      ∃ t, exec (.readCmd q) s = .next t ∧ t.hp.ack = ack ∧ t.hp.slots = s.hp.slots ++ [⟨tag, some (0, r.1)⟩] ∧
        SameRegsBut [HP_STAT_A] r.2 t) ∧
    (HostReqOk cWrite q s → let r := writeRegs false q.addr.toNat (q.data.take q.len.toNat) (a cWrite)
      ∃ t, exec (.writeCmd q) s = .next t ∧ t.hp.ack = ack ∧
        t.hp.slots = s.hp.slots ++ [⟨tag, some (if r.1 then 0x06 else 0, [])⟩] ∧ SameRegsBut [HP_STAT_A] r.2 t) ∧
    (HostReqOk cRmw q s → let r := rmwReg false q.addr.toNat (q.data.getD 0 0) (q.data.getD 1 0) (a cRmw)
      ∃ t, exec (.rmw q) s = .next t ∧ t.hp.ack = ack ∧
        t.hp.slots = s.hp.slots ++ [⟨tag, some (if r.2.1 then 0x06 else 0, [r.1])⟩] ∧ SameRegsBut [HP_STAT_A] r.2.2 t)

/-- Accepted commands of other kinds (R385, R414, R454, R458, R461, R466): NEGOTIATE, UNLOCK and LOGPULL have their result at once; WAIT
holds its slot until the power manager has judged its request; COMMIT holds it until its completion, or completes LOCKED. -/
def Obligations.OtherHostCommandsComplete : Prop :=
  ∀ (q : HostReq) (s : State), s.dom 7 = true → s.HostIdle q.tag.toNat →
    let tag := q.tag.toNat
    let a := fun cmd => accepted (hostCmd cmd q s) s
    let ack := some (⟨tag, 0, s.f HP_STAT_READY⟩ : HAck)
    let data := q.data.take q.len.toNat
    (HostReqOk cNegotiate q s → let r := doNegotiate data (a cNegotiate)
      ∃ t, exec (.negotiate q) s = .next t ∧ t.hp.ack = ack ∧ t.hp.slots = s.hp.slots ++ [⟨tag, some (r.1, r.2.1)⟩] ∧
        SameRegsBut [HP_STAT_A] r.2.2 t) ∧
    (HostReqOk cUnlock q s → let r := doUnlock data (a cUnlock)
      ∃ t, exec (.unlock q) s = .next t ∧ t.hp.ack = ack ∧
        t.hp.slots = s.hp.slots ++ [⟨tag, some (r.1, [r.2.view CS_STAT_A])⟩] ∧ SameRegsBut [HP_STAT_A] r.2 t) ∧
    (HostReqOk cLogpull q s → let r := pullLog q.len.toNat (a cLogpull)
      ∃ t, exec (.logpull q) s = .next t ∧ t.hp.ack = ack ∧ t.hp.slots = s.hp.slots ++ [⟨tag, some (0, r.1)⟩] ∧
        r.1.length = 4 * min q.len.toNat (s.f LOG_STAT_UNREAD) ∧ SameRegsBut [HP_STAT_A] r.2 t) ∧
    (HostReqOk cWait q s → s.pw.entry = none → s.pw.req = none →
      ∃ t, exec (.waitCmd q) s = .next t ∧ t.hp.ack = ack ∧ t.pw.req = some ⟨s.f PWR_MODE_TARGET, .host tag, false⟩ ∧
        t.hp.busy = some (hostCmd cWait q s) ∧ t.hp.slots = s.hp.slots ++ [⟨tag, none⟩] ∧ SameRegsBut [HP_STAT_A] s t) ∧
    (HostReqOk cCommit q s → s.cf.commit = none → s.locked = true →
      ∃ t, exec (.commit q) s = .next t ∧ t.hp.ack = ack ∧
        t.hp.slots = s.hp.slots ++ [⟨tag, some (0x07, [s.word CS_CRC_A, BitVec.ofNat 32 (s.f CL_NEXT_SEQ), 0])⟩] ∧
        t.cf = s.cf ∧ SameRegsBut [HP_STAT_A, CS_CNT_COMMIT_REF.addr] s t) ∧
    (HostReqOk cCommit q s → s.cf.commit = none → s.locked = false →
      let store := (data.getD 0 0).toNat % 2 == 1
      let set := s.pendSet store
      (set = [] ∧ store = false) ∨ (commitChecks set (a cCommit)).1 = 0 →
      ∃ t, exec (.commit q) s = .next t ∧ t.hp.ack = ack ∧ t.hp.slots = s.hp.slots ++ [⟨tag, none⟩] ∧
        t.cf.commit = some { tag := tag, store := store, set := set } ∧ t.hp.busy = some (hostCmd cCommit q s) ∧
        t.on CS_STAT_NV_BUSY = true)

/-- STATUS hands out the record of a ready result and frees its slot; a tag without a result is answered FORMAT with an empty record; a
result not fetched is discarded and counted; the cache forgets a tag (R451, R453, R454). Remote requests (R456, R457): replies,
empty payloads and those for other nodes change nothing; without an own REMOTE entry they are counted as refused; a broadcast write
is not permitted; an accepted READ is answered with its words. -/
def Obligations.ResultsAndRemoteRequestsAreAnswered : Prop :=
  (∀ (q : HostReq) (s : State), s.dom 7 = true → HostReqOk cStatus q s →
    let tag := q.addr.toNat % 256
    let oldest := q.addr.toNat / 2 ^ 23 % 2 == 1
    (∀ x st data, s.hp.slots.find? (fun x => x.res.isSome && (oldest || x.tag == tag)) = some x → x.res = some (st, data) →
      ∃ t, exec (.status q) s = .next t ∧ t.hp.out = some ⟨x.tag, st, data⟩ ∧ t.hp.slots = s.hp.slots.erase x ∧
        t.hp.ack = some ⟨q.tag.toNat, 0, s.f HP_STAT_READY⟩ ∧ SameRegsBut [HP_STAT_A] s t) ∧
    (s.hp.slots.find? (fun x => x.res.isSome && (oldest || x.tag == tag)) = none →
      (oldest = true ∨ ∀ e ∈ s.hp.cache, e.req.tag = tag → e.fetched = false) →
      ∃ t, exec (.status q) s = .next t ∧ t.hp.out = some ⟨tag, 0, []⟩ ∧
        t.hp.ack = some ⟨q.tag.toNat, 0x03, s.f HP_STAT_READY⟩ ∧ t.regs = s.regs ∧ t.hp.slots = s.hp.slots)) ∧
  (∀ (tag : BitVec 8) (s : State), s.dom 7 = true → (∃ x ∈ s.hp.slots, x.tag = tag.toNat ∧ x.res.isSome = true) →
    ∃ t, exec (.resultExpiry tag) s = .next t ∧ t.hp.slots = s.hp.slots.eraseP (fun x => x.tag == tag.toNat && x.res.isSome) ∧
      t.f HP_CNT2_EXPIRED = satU HP_CNT2_EXPIRED.width (s.f HP_CNT2_EXPIRED + 1) ∧ SameRegsBut [HP_STAT_A, HP_CNT2_A] s t) ∧
  (∀ (tag : BitVec 8) (s : State), s.dom 7 = true → (∀ x ∈ s.hp.slots, x.tag = tag.toNat → x.res = none) →
    exec (.resultExpiry tag) s = .next s) ∧
  (∀ (tag : BitVec 8) (s : State), s.dom 7 = true →
    exec (.tagCacheExpiry tag) s =
      .next { s with hp := { s.hp with cache := s.hp.cache.filter (fun c => c.req.tag != tag.toNat) } }) ∧
  (∀ (r : RemoteReq) (s : State), s.dom 7 = true →
    r.reply = true ∨ r.empty = true ∨ (r.bcast = false ∧ r.dest.toNat ≠ s.f SIT_ID_NODE_ID) → exec (.remoteRequest r) s = .next s) ∧
  (∀ (r : RemoteReq) (s : State), s.dom 7 = true → r.reply = false → r.empty = false → r.bcast = true ∨ r.dest.toNat = s.f SIT_ID_NODE_ID → s.ownRemote = [] →
    exec (.remoteRequest r) s = .next (s.inc HP_CNT2_REMOTE_REF)) ∧
  (∀ (r : RemoteReq) (s : State), s.dom 7 = true → s.RemoteOpen r → r.bcast = true → r.cmd = 0x02 ∨ r.cmd = 0x03 →
    ∃ t, exec (.remoteRequest r) s = .next t ∧
      t.hp.replies = s.hp.replies ++ [⟨r.node.toNat, r.tag.toNat, replyBytes r.node.toNat r.tag.toNat 0x0F [], true⟩] ∧
      SameRegsBut [HP_STAT_A] s t) ∧
  (∀ (r : RemoteReq) (s : State), s.dom 7 = true → s.RemoteOpen r → r.cmd = 0x01 → lenOk cRead r.len.toNat = true →
    addrOk cRead r.addr.toNat r.len.toNat = true → (∀ e ∈ s.ownRemote, 8 + 4 * r.len.toNat ≤ e.len) → 8 + 4 * r.len.toNat ≤ 240 →
    let ws := readRegs r.addr.toNat r.len.toNat (cacheRemote r.node.toNat (remoteCmd r s) s)
    ∃ t, exec (.remoteRequest r) s = .next t ∧
      t.hp.replies = s.hp.replies ++ [⟨r.node.toNat, r.tag.toNat, replyBytes r.node.toNat r.tag.toNat 0 ws.1, true⟩] ∧
      SameRegsBut [HP_STAT_A] ws.2 t)

/-- The password unlocks and names the operator; a wrong one counts, the third in a row locks out for 600 s; during a lockout none is
compared; a relock cancels a service request; DISCARD drops what awaits a COMMIT (R461-R463). Service requests and log acknowledges
are refused while locked; service mode is entered with a request and its conditions, which uses the request up (R464, R471); the
configuration check reports a difference (R468). -/
def Obligations.LockAndServiceGuardTheConfiguration : Prop :=
  (∀ (data : List Word) (s : State), s.f CS_STAT_LOCKOUT_S = 0 → data.take 4 = s.nv.pwd →
    (doUnlock data s).1 = 0 ∧ (doUnlock data s).2.locked = false ∧ (doUnlock data s).2.f CS_STAT_ATTEMPTS = 0 ∧
      (doUnlock data s).2.f CS_OP_OPERATOR = (data.getD 4 0).toNat % 2 ^ 16 ∧
      SameRegsBut [CS_STAT_A, CS_OP_OPERATOR.addr] s (doUnlock data s).2) ∧
  (∀ (data : List Word) (s : State), s.f CS_STAT_LOCKOUT_S = 0 → data.take 4 ≠ s.nv.pwd →
    (doUnlock data s).1 = 0x07 ∧ (doUnlock data s).2.locked = s.locked ∧
      (s.f CS_STAT_ATTEMPTS < 2 → (doUnlock data s).2.f CS_STAT_ATTEMPTS = s.f CS_STAT_ATTEMPTS + 1 ∧
        (doUnlock data s).2.f CS_STAT_LOCKOUT_S = 0) ∧
      (2 ≤ s.f CS_STAT_ATTEMPTS → (doUnlock data s).2.f CS_STAT_ATTEMPTS = 0 ∧
        (doUnlock data s).2.f CS_STAT_LOCKOUT_S = 600 ∧ (doUnlock data s).2.flt = (s.raiseU 0x3D8).flt)) ∧
  (∀ (data : List Word) (s : State), s.f CS_STAT_LOCKOUT_S ≠ 0 → doUnlock data s = (0x07, s)) ∧
  (∀ s : State, s.dom 7 = true → exec .lockoutEnd s = .next (s.set CS_STAT_LOCKOUT_S 0)) ∧
  (∀ s : State, s.dom 7 = true → ∀ c ∈ [Instr.idleRelock, .csLock],
    ∃ t, exec c s = .next t ∧ t.locked = true ∧ t.on CS_STAT_SERVICE_REQ = false ∧ t.cf = s.cf ∧ SameRegsBut [CS_STAT_A] s t) ∧
  (∀ s : State, s.dom 7 = true → exec .csDiscard s = .next { s with cf := { s.cf with pend := [] } }) ∧
  (∀ s : State, s.dom 7 = true →
    exec .serviceReq s = .next (if s.locked then s.inc (PG_LOCK_REFUSED 0x003) else s.setB CS_STAT_SERVICE_REQ true)) ∧
  (∀ s : State, s.dom 7 = true →
    ∃ t, exec .serviceExit s = .next t ∧ t.on CS_STAT_SERVICE_REQ = false ∧ t.cf.exitDue = true ∧ t.service = s.service ∧
      SameRegsBut [CS_STAT_A] s t) ∧
  (∀ s : State, s.dom 7 = true → s.service = false → s.on CS_STAT_SERVICE_REQ = true → s.locked = false → s.typeValid 3 = true →
    bitOf s.sl.perm 2 = true → s.slow = true →
    ∃ t, exec .serviceModeEntry s = .next t ∧ t.service = true ∧ t.on CS_STAT_SERVICE_REQ = false ∧ t.on FLT_STAT_SERVICE = true ∧
      t.flt = (s.raiseU 0x3DC).flt ∧ SameRegsBut [CS_STAT_A, FLT_STAT_A] s t) ∧
  (∀ s : State, s.dom 7 = true → s.on CS_STAT_SERVICE_REQ = false ∨ s.locked = true ∨ s.slow = false →
    exec .serviceModeEntry s = .next s) ∧
  (∀ (v : BitVec 32) (s : State), s.dom 7 = true →
    (s.locked = true ∨ v.toNat ≤ s.f CL_ACKED_SEQ ∨ s.f CL_NEXT_SEQ ≤ v.toNat →
      exec (.logAck v) s = .next (s.inc (PG_LOCK_REFUSED 0x003))) ∧
    (s.locked = false → s.f CL_ACKED_SEQ < v.toNat → v.toNat < s.f CL_NEXT_SEQ → s.f CL_NEXT_SEQ ≤ s.f CL_ACKED_SEQ + 1025 →
      ∃ t, exec (.logAck v) s = .next t ∧ t.f CL_ACKED_SEQ = v.toNat ∧ t.f CL_STAT_UNACK = s.f CL_NEXT_SEQ - 1 - v.toNat ∧
        t.on CL_STAT_FULL = false ∧ SameRegsBut [CL_ACKED_A, CL_STAT_A] s t)) ∧
  (∀ (same : Bool) (s : State), s.dom 7 = true →
    exec (.csCfgCrc same) s =
      .next (if same && (s.word CS_CRC_A).toNat == s.cfgCrc then s.setB CS_STAT_CRC_OK true
        else (s.setB CS_STAT_CRC_OK false).raiseU 0x3D9))

/-- The negotiation window (R458): at its end ACTIVE is what is both offered and accepted; and the values of a completed COMMIT are in
force, logged, and reported to its host (R466, R470). -/
def Obligations.WindowAndCommitPutValuesInForce : Prop :=
  (∀ s : State, s.dom 7 = true → s.on FEAT_STAT_OPEN = true →
    ∃ t, exec .negotiationWindowClose s = .next t ∧ t.on FEAT_STAT_OPEN = false ∧ t.f FEAT_STAT_CLOSED_BY = 2 ∧
      t.f FEAT_STAT_LEFT_MS = 0 ∧ t.f FEAT_ACTIVE_LO_ACTIVE = Nat.land s.offer (s.f FEAT_ACCEPT_LO_ACCEPT) ∧
      SameRegsBut [FEAT_STAT_A, FEAT_ACTIVE_LO_A, CS_SETCRC_A] s t) ∧
  (∀ s : State, s.dom 7 = true → s.on FEAT_STAT_OPEN = false → exec .negotiationWindowClose s = .next s) ∧
  (∀ (n : Fin 16) (v : Word) (ok retried : Bool) (tag : Nat) (s : State), s.dom 7 = true →
    s.cf.commit = some { tag := tag, store := false, set := [(AX_VMAX_A n, v)], retried := retried } → s.hp.queue = [] →
    s.hp.slots = [⟨tag, none⟩] → s.pw.late = none → s.f CL_NEXT_SEQ + 1 < 2 ^ 32 →
    ∃ t, exec (.commitComplete ok) s = .next t ∧ t.cf.commit = none ∧ t.on CS_STAT_NV_BUSY = false ∧
      t.word (AX_VMAX_A n) = mergeW (commitMask (AX_VMAX_A n)) (s.word (AX_VMAX_A n)) v ∧ t.f CL_NEXT_SEQ = s.f CL_NEXT_SEQ + 1 ∧
      t.hp.slots = [⟨tag, some (0, [t.word CS_CRC_A, BitVec.ofNat 32 (s.f CL_NEXT_SEQ), 1])⟩] ∧
      ∀ m, m ≠ n → t.word (AX_VMAX_A m) = s.word (AX_VMAX_A m)) ∧
  (∀ (ok : Bool) (s : State), s.dom 7 = true → s.cf.commit = none → s.hp.queue = [] → exec (.commitComplete ok) s = .next s)

/-- Trigger rows that clear counters (R7, R8): the counters of their register read 0 afterwards, and nothing else changes. A block whose
domain is off refuses the write (R511). -/
def Obligations.TriggersClearTheirCounters : Prop :=
  (∀ (u : Fin 16) (g : Fin 8) (m p : Fin 4) (s : State), s.dom 7 = true → s.quiet = false → s.part = .a ∨ p.val < 2 →
    ∀ x ∈ [(Instr.tickClrOvr, [TICK_OVR_A, TICK_OVR2_A, OVR_LAST_A]), (.tickClrHold, [HOLD_CNT_A]),
      (.vduClrCnt u, [VDU_CNT_A_A u, VDU_CNT_B_A u]), (.bgClrCnt g, (List.range 6).map (fun k => HB_CNT_A (6 * g + k))),
      (.auxClrCnt, [AUX_CNT_A]), (.supClrCnt, [SUP_CHOP_A, SUP_CNT_A]), (.odClrCnt, [OD_CNT_A]), (.ssClrCnt, [SS_CNT_A]),
      (.lnClrCnt, [LN_CNT_A]), (.lkClrCnt m, [LK_ERR_A m, LK_CNT_A m]), (.sitClrCnt, [SIT_CNT_X_A, SIT_CNT_Y_A, SIT_CNT2_A]),
      (.spClrCnt p, [SP_ERR_A p, SP_ERR2_A p]), (.chClrCnt, [CH_BLK_01_A, CH_BLK_23_A, CH_CNT_A]),
      (.slClrCnt, [SL_CNT_A_A, SL_CNT_B_A, SL_CNT_C_A, SL_CNT_D_A]), (.ntClrCnt, [NT_CNT_A, NT_HOLD_A]),
      (.fltClrCnt, [FLT_CNT_A]), (.logClrCnt, [LOG_CNT_A]), (.bistClrCnt, [BIST_CNT_A_A, BIST_CNT_B_A]),
      (.pwrClrCnt, PWR_CNT_A :: (List.range 8).map PWR_REF_A), (.clkClrCnt, [CLK_CNT_A]), (.hpClrCnt, [HP_CNT_A, HP_CNT2_A])],
      ∃ t, exec x.1 s = .next t ∧ (∀ a ∈ x.2, t.word a = 0) ∧ SameRegsBut x.2 s t ∧ t.flt = s.flt ∧ t.hp = s.hp) ∧
  (∀ s : State, s.dom 7 = true → s.quiet = false →
    (∃ t, exec .bldClrCnt s = .next t ∧ t.word BLD_CNT_A = 0 ∧ t.f BLD_STAT_CMD_CLIP = 0 ∧ SameRegsBut [BLD_CNT_A, BLD_STAT_A] s t) ∧
    (∃ t, exec .strClrErr s = .next t ∧ t.word STR_ERRMAX_A = 0 ∧ t.f STR_STAT_CLIPPED = 0 ∧
      SameRegsBut [STR_ERRMAX_A, STR_STAT_A] s t) ∧
    (∃ t, exec .mmClrCnt s = .next t ∧ t.word MM_CNT_A = 0 ∧ t.f MM_TIMING_MAX_NS = 0 ∧
      SameRegsBut [MM_CNT_A, MM_TIMING_MAX_NS.addr] s t) ∧
    (∃ t, exec .cdcClrCnt s = .next t ∧ (∀ i, i < 18 → t.f (CDC_XST_TIMEOUTS i) = 0 ∧ t.f (CDC_XST_RESETS i) = 0) ∧
      SameRegsBut ((List.range 18).map CDC_XST_A) s t) ∧
    exec .clrMaint s =
      .next (if s.service then { s with ln := { s.ln with clrMaint := true } } else s.inc (PG_LOCK_REFUSED 0x00E))) ∧
  (∀ (g : Fin 8) (s : State), s.dom 7 = true → s.quiet = true → exec (.bgClrCnt g) s = .next (s.inc (PG_LOCK_REFUSED (0x020 + g))))

/-- A register write acts on each field by its access code (R7-R10, R84, R461): an address that holds no register and a status register
keep what they held; configuration is refused while locked, else it waits for a COMMIT and reads back; a fault bit is cleared by a
1, unless hardware has set it in this register-file cycle. -/
def Obligations.WritesFollowTheirAccessCodes : Prop :=
  (∀ (addr : BitVec 24) (v : BitVec 32) (s : State), s.dom 7 = true → (regAt (addr.toNat / 4 * 4)).isNone = true →
    exec (.registerWrite addr v) s = .next s) ∧
  (∀ (n : Fin 16) (addr : BitVec 24) (v : BitVec 32) (s : State), s.dom 7 = true → s.pageBusy (0x010 + n) = false →
    (addr.toNat = AX_STAT_A n → exec (.registerWrite addr v) s = .next s) ∧
    (addr.toNat = AX_VMAX_A n → s.locked = true → exec (.registerWrite addr v) s = .next (s.inc (PG_LOCK_REFUSED (0x010 + n)))) ∧
    (addr.toNat = AX_VMAX_A n → s.locked = false → (∀ p ∈ s.tk.reg ++ s.tk.cyc, p.1 ≠ AX_VMAX_A n) →
      ∃ t, exec (.registerWrite addr v) s = .next t ∧ t.regs = s.regs ∧ t.tk = s.tk ∧
        t.written (AX_VMAX_A n) &&& commitMask (AX_VMAX_A n) = v &&& commitMask (AX_VMAX_A n))) ∧
  (∀ (n : Fin 16) (addr : BitVec 24) (v : BitVec 32) (s : State), s.dom 7 = true → s.pageBusy (0x010 + n) = false →
    addr.toNat = PG_FLT_A (0x010 + n) →
    exec (.registerWrite addr v) s = .next (s.setWord (PG_FLT_A (0x010 + n)) (s.word (PG_FLT_A (0x010 + n)) &&& ~~~ (v &&& ~~~ s.hwBits (PG_FLT_A (0x010 + n)))))) ∧
  (∀ s : State, s.dom 7 = true →
    exec .ntTimeLoRead s = .next (s.setWord NT_TIME_HI_A (BitVec.ofNat 32 (s.ns / 2 ^ 32))) ∧
    exec .ntTickLoRead s = .next (s.setWord NT_TICK_HI_A (BitVec.ofNat 32 (s.nt.tickNs / 2 ^ 32))))

/-- PG_CTL (R508-R510): an enable waits for its TICK, of a Sitil port for its cycle start, and shows as pending while the block is in
SHUTDOWN; pages without an enable of their own ignore it; SOFT_RST holds the block in reset where its condition holds, and is
refused elsewhere. -/
def Obligations.PageControlsWaitForTheirTick : Prop :=
  (∀ (pg : BitVec 14) (en : Bool) (s : State), s.dom 7 = true → s.part = .a → enPage pg.toNat = true → s.pageShut pg.toNat = false →
    let v : Word := if en then 1 else 0
    let s' := if en then s else s.setB (PG_STAT_PENDING_EN pg.toNat) false
    exec (.pgCtlEn pg en) s = .next (if 0x041 ≤ pg.toNat ∧ pg.toNat < 0x045 then
      { s' with tk := { s'.tk with cyc := putWait (PG_CTL_A pg.toNat) 1 v s'.tk.cyc } }
      else { s' with tk := { s'.tk with reg := putWait (PG_CTL_A pg.toNat) 1 v s'.tk.reg } })) ∧
  (∀ (pg : BitVec 14) (en : Bool) (s : State), s.dom 7 = true → s.part = .a → enPage pg.toNat = true → s.pageShut pg.toNat = true →
    ∃ t, exec (.pgCtlEn pg en) s = .next t ∧ t.on (PG_STAT_PENDING_EN pg.toNat) = en ∧ SameRegsBut [PG_STAT_A pg.toNat] s t) ∧
  (∀ (pg : BitVec 14) (en : Bool) (s : State), s.dom 7 = true → enPage pg.toNat = false → exec (.pgCtlEn pg en) s = .next s) ∧
  (∀ (pg : BitVec 14) (mode : Bool) (s : State), s.dom 7 = true → s.part = .a → pageListed pg.toNat = true →
    exec (.pgCtlMode pg mode) s =
      .next { s with tk := { s.tk with reg := putWait (PG_CTL_A pg.toNat) 0x30 (if mode then 16 else 0) s.tk.reg } }) ∧
  (∀ (pg : BitVec 14) (s : State), s.dom 7 = true → s.part = .a → pageListed pg.toNat = true → s.pageBusy pg.toNat = false →
    (s.softOk pg.toNat = false → exec (.softRst pg) s = .next (s.inc (PG_LOCK_REFUSED pg.toNat))) ∧
    (s.softOk pg.toNat = true → ∃ t, exec (.softRst pg) s = .next t ∧ t.cf.soft = s.cf.soft ++ [pg.toNat] ∧
      (pg.toNat < 0x041 → t.regs = s.regs))) ∧
  (∀ (pg : BitVec 14) (s : State), s.dom 2 = true →
    exec (.softRstEnd pg) s = .next { s with cf := { s.cf with soft := s.cf.soft.filter (· != pg.toNat) } })

/-- The windows onto the schedule and the source table (R323, R342, R388): the index selects; an entry's last word stages it for the
next COMMIT and goes on where AUTO_INC says so; while locked the write is refused, and drops the staged words of the schedule. -/
def Obligations.WindowWritesStageTheirEntry : Prop :=
  (∀ (v : BitVec 32) (s : State), s.dom 7 = true → v.toNat % 2 ^ 13 < 2048 ∨ s.feature 6 = true →
    ∃ t, exec (.schIdxWrite v) s = .next t ∧ t.f SCH_IDX_IDX = v.toNat % 2 ^ 13 ∧ t.sit.w0 = none ∧ t.sit.w1 = none ∧
      SameRegsBut [SCH_IDX_A] s t) ∧
  (∀ (v : BitVec 32) (s : State), s.dom 7 = true → 2048 ≤ v.toNat % 2 ^ 13 → s.feature 6 = false →
    exec (.schIdxWrite v) s = .next (s.inc (PG_LOCK_REFUSED 0x045))) ∧
  (∀ (v : BitVec 32) (s : State), s.dom 7 = true → s.locked = true ∨ s.schOpen = false →
    exec (.schW2Write v) s =
      .next ({ s with sit := { s.sit with w0 := none, w1 := none } }.inc (PG_LOCK_REFUSED 0x045))) ∧
  (∀ (v : BitVec 32) (s : State), s.dom 7 = true → s.locked = false → s.schOpen = true →
    (∀ p ∈ s.tk.reg ++ s.tk.cyc, p.1 < fsBase) →
    let e := s.f SCH_IDX_IDX
    ∃ t, exec (.schW2Write v) s = .next t ∧ t.written (schBase + 16 * e + 8) = v &&& 0xFFFFF001 ∧
      (∀ w, s.sit.w0 = some w → t.written (schBase + 16 * e) = w) ∧ t.sit.w0 = none ∧ t.sit.w1 = none ∧
      t.f SCH_IDX_IDX = (if s.on SCH_CFG_AUTO_INC then (e + 1) % 2 ^ 13 else e) ∧ SameRegsBut [SCH_IDX_A] s t) ∧
  (∀ (v : BitVec 32) (s : State), s.dom 7 = true → s.locked = true →
    exec (.fsWinWrite v) s = .next (s.inc (PG_LOCK_REFUSED 0x009))) ∧
  (∀ (v : BitVec 32) (s : State), s.dom 7 = true → s.locked = false → srcAssigned (s.f FS_IDX_IDX) = true →
    (∀ p ∈ s.tk.reg ++ s.tk.cyc, p.1 < fsBase) →
    let id := s.f FS_IDX_IDX
    ∃ t, exec (.fsWinWrite v) s = .next t ∧ fieldGet (t.written (fsBase + 8 * id + 4)) 0 20 = v.toNat % 2 ^ 20 ∧
      t.f FS_IDX_IDX = (if s.on FS_IDX_AUTO_INC then (id + 1) % 1024 else id) ∧ SameRegsBut [FS_IDX_A] s t) ∧
  (∀ s : State, s.feature 6 = false → 2048 ≤ s.f SCH_IDX_IDX → ∀ a ∈ [SCH_W0_A, SCH_W1_A, SCH_W2_A, SCH_RXST_A], s.live a = 0)

/-- The next raised event registers (R367-R372, R376): it counts, its source is active with the next value of its classifier, and an
event of class DEGRADE or higher asks for maintenance and takes the first-fault latch where that is free. A source expires W ticks
after its last event. Forced events and the clear of the latch need service mode (R376, R377): outside it the write is refused and
counted. -/
def Obligations.FaultEventsRegister : Prop :=
  (∀ s : State, s.dom 2 = true → s.nextEvent = none → exec .faultEvent s = .next s) ∧
  (∀ (ev : Raised) (s : State), s.dom 2 = true → s.nextEvent = some ev → ev.src < 1024 → s.flt.buf.length ≤ 62 →
    let c := (clsEvent (s.cls ev.src) s.tickNo (s.srcW ev.src) (s.e (fsNF ev.src)) ev.data).1
    let k := if c.promoted then s.e (fsPromF ev.src) else s.e (fsBaseF ev.src)
    ∃ t, exec .faultEvent s = .next t ∧ t.cls ev.src = (if k = 3 then { c with term := true } else c) ∧
      t.flt.raised = s.flt.raised.filter (fun r => !(r.src == ev.src && r.tb == ev.tb)) ∧
      t.f FLT_CNT_EVENTS = (s.f FLT_CNT_EVENTS + 1) % 2 ^ FLT_CNT_EVENTS.width ∧
      t.fbit (FLT_ACT_ACTIVE (ev.src / 32)) (ev.src % 32) = true ∧
      (1 ≤ k → t.on LN_STAT_MAINT = true ∧ t.on FLT_FIRST_VALID = true ∧
        (s.on FLT_FIRST_VALID = false → t.f FLT_FIRST_SRC = ev.src ∧ t.f FLT_FIRST_CLASS = k ∧ t.word FLT_FIRST_DATA_A = ev.data) ∧
        (s.on FLT_FIRST_VALID = true → t.on FLT_FIRST_OVF = true ∧ t.f FLT_FIRST_SRC = s.f FLT_FIRST_SRC)) ∧
      (k = 3 → t.on FLT_TERM_TERM = true)) ∧
  (∀ (id : BitVec 10) (s : State), s.dom 2 = true → (s.cls id.toNat).active = true → s.srcClass id.toNat ≠ 3 →
    s.srcW id.toNat ≤ s.tickNo - (s.cls id.toNat).last →
    ∃ t, exec (.faultSourceExpiry id) s = .next t ∧
      t.cls id.toNat = { s.cls id.toNat with active := false, c := 0, promoted := false } ∧
      t.fbit (FLT_ACT_ACTIVE (id.toNat / 32)) (id.toNat % 32) = false ∧
      SameRegsBut [(FLT_ACT_ACTIVE (id.toNat / 32)).addr, FLT_STAT_A] s t) ∧
  (∀ (id : BitVec 10) (s : State), s.dom 2 = true → (s.cls id.toNat).active = false → exec (.faultSourceExpiry id) s = .next s) ∧
  (∀ (pg : BitVec 14) (k : Fin 32) (s : State), s.dom 2 = true → s.pageThere pg.toNat = false →
    exec (.pgForce pg k) s = .next s) ∧
  (∀ (pg : BitVec 14) (k : Fin 32) (s : State), s.dom 2 = true → s.pageThere pg.toNat = true →
    (s.service = true → s.pageDark pg.toNat = false →
      exec (.pgForce pg k) s =
        .next (if bitOf (pageFltMask pg.toNat) k then s.raiseForced (pageFmap pg.toNat + k) else s)) ∧
    (s.service = false → exec (.pgForce pg k) s = .next (s.inc (PG_LOCK_REFUSED pg.toNat)))) ∧
  (∀ s : State, s.dom 2 = true →
    exec .fsForce s = .next (if s.service then (if srcAssigned (s.f FS_IDX_IDX) then s.raiseForced (s.f FS_IDX_IDX) else s)
      else s.inc (PG_LOCK_REFUSED 0x009))) ∧
  (∀ s : State, s.dom 2 = true → s.service = true →
    ∃ t, exec .clrFirst s = .next t ∧ (∀ a ∈ [FLT_FIRST_A, FLT_FIRST_T_LO_A, FLT_FIRST_T_HI_A, FLT_FIRST_DATA_A], t.word a = 0) ∧
      t.flt = s.flt ∧ SameRegsBut [FLT_FIRST_A, FLT_FIRST_T_LO_A, FLT_FIRST_T_HI_A, FLT_FIRST_DATA_A] s t) ∧
  (∀ s : State, s.dom 2 = true → s.service = false → exec .clrFirst s = .next (s.inc (PG_LOCK_REFUSED 0x008)))

/-- The event log (R380, R382-R385): the oldest buffered entry lands at LOG_WPTR with its number; a full ring loses its oldest entry in
OVERWRITE and drops the new one in STOP; a write of LOG_RPTR sets what is unread; UNFREEZE lets entries be written again. -/
def Obligations.LogTakesItsEntries : Prop :=
  (∀ (e : LogE) (rest : List LogE) (s : State), s.dom 2 = true → s.flt.buf = e :: rest → s.f LOG_STAT_UNREAD < 4096 →
    s.flt.freeze = none →
    ∃ t, exec .logEntryWrite s = .next t ∧ t.flt.buf = rest ∧ t.f LOG_STAT_UNREAD = s.f LOG_STAT_UNREAD + 1 ∧
      t.f LOG_WPTR_IDX = (s.f LOG_WPTR_IDX + 1) % 4096 ∧ t.f LOG_TOTAL_TOTAL = (s.f LOG_TOTAL_TOTAL + 1) % 2 ^ 32 ∧
      t.logAt (s.f LOG_WPTR_IDX) =
        { e with e2 := e.e2 ||| BitVec.ofNat 32 (s.f LOG_TOTAL_TOTAL % 4096 + b2n s.flt.lossNext * 2 ^ 14) } ∧
      t.flt.lossNext = false ∧ SameRegsBut [LOG_STAT_A, LOG_WPTR_A, LOG_TOTAL_A] s t) ∧
  (∀ (e : LogE) (rest : List LogE) (s : State), s.dom 2 = true → s.flt.buf = e :: rest → s.f LOG_STAT_UNREAD = 4096 →
    s.flt.freeze = none →
    ∃ t, exec .logEntryWrite s = .next t ∧ t.flt.buf = rest ∧ t.f LOG_STAT_UNREAD = 4096 ∧
      (s.on LOG_CFG_MODE = false → t.f LOG_RPTR_IDX = (s.f LOG_RPTR_IDX + 1) % 4096 ∧
        t.f LOG_WPTR_IDX = (s.f LOG_WPTR_IDX + 1) % 4096 ∧
        t.f LOG_CNT_OVERRUN = satU LOG_CNT_OVERRUN.width (s.f LOG_CNT_OVERRUN + 1)) ∧
      (s.on LOG_CFG_MODE = true → t.flt.ring = s.flt.ring ∧ t.f LOG_WPTR_IDX = s.f LOG_WPTR_IDX ∧ t.flt.lossNext = true ∧
        t.f LOG_CNT_DROP = satU LOG_CNT_DROP.width (s.f LOG_CNT_DROP + 1))) ∧
  (∀ (v : BitVec 32) (s : State), s.dom 2 = true →
    ∃ t, exec (.logRptrWrite v) s = .next t ∧ t.f LOG_RPTR_IDX = v.toNat % 4096 ∧
      t.f LOG_STAT_UNREAD = (s.f LOG_WPTR_IDX + 4096 - v.toNat % 4096) % 4096 ∧ t.on LOG_STAT_FULL = false ∧
      t.flt.ring = s.flt.ring ∧ SameRegsBut [LOG_STAT_A, LOG_RPTR_A] s t) ∧
  (∀ s : State, s.dom 2 = true → s.on LOG_STAT_FROZEN = true →
    ∃ t, exec .unfreeze s = .next t ∧ t.on LOG_STAT_FROZEN = false ∧ t.flt.freeze = none ∧ t.flt.lossNext = true ∧
      t.flt.ring = s.flt.ring ∧ SameRegsBut [LOG_STAT_A] s t) ∧
  (∀ s : State, s.dom 2 = true → s.on LOG_STAT_FROZEN = false → s.flt.freeze = none → exec .unfreeze s = .next s)

/-- A step of the self-test that waits for its port, one that a rank-1 condition of its unit voids (R394), and a skipped or discarded
one, change no position; a failed one is repeated; a repetition that passes goes on; a second failure is confirmed; a sweep that
does not end is reported once (R391, R392, R396, R398-R400). The oldest waiting repair entry is written; a failed read-back is
reported and the write runs once more (R406). -/
def Obligations.SelfTestAndRepairProgress : Prop :=
  (∀ (o : BistOut) (s : State), s.dom 2 = true → s.quiet = false → s.f BIST_STAT_MODE ≠ 1 → s.tk.bistLate = false →
    exec (.bistStep o) s = .next s) ∧
  (∀ s : State, s.dom 2 = true → s.quiet = false → s.f BIST_STAT_MODE = 1 → s.on PWR_DVFS_BUSY = false →
    s.tk.bistLate = false → s.bist.waits = false →
    let p := s.f BIST_STAT_STEP
    s.idleStep (itemAt p) = false → s.stepWaits (itemAt p) = false → s.stepVoid (itemAt p) = false →
    exec (.bistStep .wait) s = .next { s with bist := { s.bist with waits := true } } ∧
    exec (.bistStep .discard) s = .next s ∧
    (∀ c : BitVec 3, exec (.bistStep (.skip c)) s =
      .next ((s.inc BIST_CNT_A_SKIP).setWord BIST_SKIP_A (BitVec.ofNat 32 c.toNat))) ∧
    (∀ sl : Fin 8, s.bist.rep = false → exec (.bistStep (.fail sl)) s =
      .next { s.inc BIST_CNT_A_FAIL with ln := { s.ln with bistFail := true }, bist := { s.bist with rep := true } }) ∧
    (∀ sl : Fin 8, s.bist.rep = true → ∃ t, exec (.bistStep (.fail sl)) s = .next t ∧ t.bist.rep = false ∧
      t.f BIST_CNT_A_FAIL = satU BIST_CNT_A_FAIL.width (s.f BIST_CNT_A_FAIL + 1) ∧
      t.f BIST_CNT_B_CONFIRMED = satU BIST_CNT_B_CONFIRMED.width (s.f BIST_CNT_B_CONFIRMED + 1) ∧
      t.f BIST_LAST_KIND = (itemAt p).kind) ∧
    (∀ e : Bool, p < 999 → s.bist.drop = none → ∃ t, exec (.bistStep (.pass e)) s = .next t ∧ t.bist.rep = false ∧
      t.f BIST_STAT_STEP = p + 1 ∧ t.flt = (if s.bist.rep then s.raiseU 0x3E7 else s).flt ∧ SameRegsBut [BIST_STAT_A] s t)) ∧
  (∀ (o : BistOut) (s : State), s.dom 2 = true → s.quiet = false → s.f BIST_STAT_MODE = 1 → s.tk.bistLate = false →
    s.bist.waits = false → s.idleStep (itemAt (s.f BIST_STAT_STEP)) = false → s.stepWaits (itemAt (s.f BIST_STAT_STEP)) = true →
    exec (.bistStep o) s = .next { s with bist := { s.bist with waits := true } }) ∧
  (∀ (o : BistOut) (s : State), s.dom 2 = true → s.quiet = false → s.f BIST_STAT_MODE = 1 → s.tk.bistLate = false →
    s.bist.waits = false → s.idleStep (itemAt (s.f BIST_STAT_STEP)) = false → s.stepWaits (itemAt (s.f BIST_STAT_STEP)) = false →
    s.stepVoid (itemAt (s.f BIST_STAT_STEP)) = true → exec (.bistStep o) s = .next s) ∧
  (∀ (o : BistOut) (s : State), s.dom 2 = true → s.quiet = false → (s.tk.bistLate = true ∧ s.tk.bistLeft = 0) ∨
    (s.tk.bistLate = false ∧ s.bist.waits = true) → exec (.bistStep o) s = .next s) ∧
  (∀ s : State, s.dom 2 = true → s.bist.started = true → s.bist.stallEp = false →
    s.e BIST_CFG_STALL * 80000000 ≤ s.tb - s.bist.startTb →
    exec .bistStall s = .next (({ s with bist := { s.bist with stallEp := true } }).raiseU 0x3E8)) ∧
  (∀ s : State, s.dom 2 = true → s.bist.stallEp = true → exec .bistStall s = .next s) ∧
  (∀ (ok : Bool) (s : State), s.dom 7 = true → s.rep.unwritten = 0 → exec (.repairWriteComplete ok) s = .next s) ∧
  (∀ (n : Nat) (s : State), s.dom 7 = true → s.rep.unwritten = n + 1 →
    (∃ t, exec (.repairWriteComplete true) s = .next t ∧ t.rep = { s.rep with unwritten := n, retried := false } ∧
      t.on RP_STAT_NV_BUSY = (n != 0) ∧ t.flt = s.flt ∧ SameRegsBut [RP_STAT_A] s t) ∧
    (s.rep.retried = false →
      exec (.repairWriteComplete false) s = .next (({ s with rep := { s.rep with retried := true } }).raiseU 0x3FA)) ∧
    (s.rep.retried = true → ∃ t, exec (.repairWriteComplete false) s = .next t ∧ t.rep.unwritten = n ∧
      t.flt = (s.raiseU 0x3FA).flt))

/-- LRST: start-up begins at step 2 with origin LRST; configuration, repair map, non-volatile memory and the log stay; the configuration
is locked; no host command is in flight; every gate and auxiliary output is off. The LRST of the host is refused while locked. POR
takes the straps, begins at step 0 and keeps what is non-volatile, without repair entries not yet written; the fall of power-good
holds every group off and opens the torque-off switches (R14, R370, R406, R461, R473, R474, R488, R499). -/
def Obligations.ResetsKeepWhatSurvives : Prop :=
  (∀ s : State, s.dom 2 = true → s.mapHalted = false → ∀ c ∈ [Instr.lrst, .lrstN],
    ∃ t, exec c s = .next t ∧ t.f SU_STAT_STEP = 2 ∧ t.f SU_STAT_ORIGIN = 1 ∧ t.rep = s.rep ∧ t.nv = s.nv ∧
      t.flt.ring = s.flt.ring ∧ t.flt.buf = s.flt.buf ∧ t.flt.raised = [] ∧ t.cf.pend = s.cf.pend ∧ t.locked = true ∧
      t.service = false ∧ t.hp.slots = [] ∧ t.hp.cache = [] ∧ t.f AUX_STAT_TQ_CMD = 0 ∧ t.f AUX_STAT_RET_ACT = 0 ∧
      (∀ n : Fin 16, t.word (AX_VMAX_A n) = s.word (AX_VMAX_A n)) ∧
      ∀ h, h < 48 → (t.hb h).gh = false ∧ (t.hb h).gl = false) ∧
  (∀ s : State, s.dom 7 = true →
    exec .lrstCmd s = .next (if s.locked then s.inc (PG_LOCK_REFUSED 0x001) else { s with hp := { s.hp with lrstDue := true } })) ∧
  (∀ (ms : Nat) (pos : BitVec 4) (id : BitVec 2) (s : State), s.on FLT_TERM_TERM = false →
    ∃ t, exec (.por ms pos id) s = .next t ∧ t.powered = true ∧ t.f MM_STAT_POS = pos.toNat ∧ t.f ID_STRAPS_POS = pos.toNat ∧
      t.f LN_STAT_LETTER = id.toNat ∧ t.f SU_STAT_STEP = 0 ∧ t.locked = true ∧ t.nv.image = s.nv.image ∧ t.nv.pwd = s.nv.pwd ∧
      t.rep.map = s.rep.map.take (s.rep.map.length - s.rep.unwritten) ∧
      t.f CL_NEXT_SEQ = s.f CL_NEXT_SEQ ∧ t.f HPL_CNT_INSERTIONS = satU HPL_CNT_INSERTIONS.width (s.f HPL_CNT_INSERTIONS + 1)) ∧
  (∀ s : State, s.powered = true → s.tap.pgFell = false →
    ∃ t, exec .powerGoodFall s = .next t ∧ t.tap.pgFell = true ∧ t.on HPL_STAT_HOLDUP = true ∧ t.f AUX_STAT_TQ_CMD = 0 ∧
      t.f AUX_STAT_RET_ACT = 0 ∧ t.powered = true ∧ ∀ g, g < 8 → t.on (BG_STAT_HELD g) = true) ∧
  (∀ s : State, s.powered = true → s.tap.pgFell = true → exec .powerGoodFall s = .next s)

/-- The hot-plug pin and boundary scan (R459, R497, R500, R501): without PRESENT_N the lane is held off, or in LRST where HOTPLUG is not
active; an instruction held in LRST takes the lane there, and leaving it starts it up; a scan shifts out what the selected register
captures, and its update drives a gate pin high only while every BV_g is below 20 V. -/
def Obligations.PinsHoldTheLane : Prop :=
  (∀ s : State, s.dom 2 = true → s.feature 5 = true →
    ∃ t, exec .presentNDeassert s = .next t ∧ t.on HPL_STAT_PRESENT = false ∧ t.on HPL_STAT_HELD = true ∧ t.hold.present = true ∧
      (∀ g, g < 8 → t.on (BG_STAT_HELD g) = true) ∧
      (∀ g, g < 8 → s.on (BG_STAT_HELD g) = false → ∀ h ∈ groupHbs g, (t.hb h).gh = false ∧ (t.hb h).gl = false) ∧
      (s.tap.pgFell = false → t.f HPL_CNT_REMOVALS = satU HPL_CNT_REMOVALS.width (s.f HPL_CNT_REMOVALS + 1))) ∧
  (∀ s : State, s.dom 2 = true → s.feature 5 = false →
    ∃ t, exec .presentNDeassert s = .next t ∧ t.inLrst = true ∧ t.f SU_STAT_ORIGIN = 1) ∧
  (∀ s : State, s.dom 2 = true →
    (s.tap.pgFell = true → exec .presentNReassert s = .next s) ∧
    (s.tap.pgFell = false → s.hold.lrst = false → ∃ t, exec .presentNReassert s = .next t ∧ t.on HPL_STAT_PRESENT = true ∧
      t.on HPL_STAT_HELD = false ∧ t.hold = { s.hold with present := false } ∧ SameRegsBut [HPL_STAT_A] s t) ∧
    (s.tap.pgFell = false → s.hold.lrst = true → ∃ t, exec .presentNReassert s = .next t ∧ t.on HPL_STAT_PRESENT = true ∧
      t.on HPL_STAT_HELD = false ∧ t.hold.lrst = false ∧ t.f SU_STAT_ORIGIN = 1 ∧ t.su.startTb = s.tb)) ∧
  (∀ (ir : BitVec 8) (s : State), s.dom 2 = true →
    (irHolds (ir.toNat % 16) = s.tap.held →
      exec (.tapInstruction ir) s =
        .next { s with tap := { s.tap with ir := ir.toNat % 16, tdo := [true, false, false, false] } }) ∧
    (irHolds (ir.toNat % 16) ≠ s.tap.held →
      ∃ t, exec (.tapInstruction ir) s = .next t ∧
        t.tap = { s.tap with ir := ir.toNat % 16, held := !s.tap.held, tdo := [true, false, false, false] } ∧
        t.f SU_STAT_ORIGIN = 1)) ∧
  (∀ s : State, s.dom 2 = true →
    (s.tap.held = false → exec .testLogicReset s = .next { s with tap := { s.tap with ir := 2 } }) ∧
    (s.tap.held = true → s.mapHalted = false → ∃ t, exec .testLogicReset s = .next t ∧ t.tap = { s.tap with ir := 2, held := false } ∧
      t.f SU_STAT_STEP = 2 ∧ t.f SU_STAT_ORIGIN = 1)) ∧
  (∀ (u : ScanUpdate) (s : State), s.dom 2 = true →
    (irBoundary s.tap.ir = false → s.tap.ir ≠ 2 → exec (.updateDr u) s = .next { s with tap := { s.tap with tdo := [false] } }) ∧
    (s.tap.ir = 2 → ∃ t, exec (.updateDr u) s = .next t ∧ t = { s with tap := { s.tap with tdo := t.tap.tdo } } ∧
      t.tap.tdo.length = 32 ∧ ∀ k, k < 32 → t.tap.tdo.getD k false = s.idcode.getLsbD k) ∧
    (irBoundary s.tap.ir = true → ∃ t, exec (.updateDr u) s = .next t ∧ t.regs = s.regs ∧ t.tap.cells = u.cells ∧
      t.tap.tdo = (List.range 96).map s.gatePin ++ u.pins ∧
      t.tap.gates = u.gates ∧ t.tap.ir = s.tap.ir ∧ t.tap.held = s.tap.held ∧
      (∀ q, t.scanHigh q = true ↔ s.tap.held = true ∧ u.gates.getD q false = true ∧ ∀ g, g < 8 → u.bv.getD g 0 < 20000)))

/-- A request for a power state at the TICK after it (R412, R414, R420): the state it is in already is DONE; a refuser ends it as
REFUSED with the lowest code and no change of state; otherwise the entry begins, or the lane is in RUN. -/
def Obligations.PowerRequestsAreJudged : Prop :=
  (∀ s : State, s.dom 0 = true → s.hp.queue = [] → (∀ r, s.pw.req = some r → r.ready = false) →
    exec .powerRequestEvaluate s = .next s) ∧
  (∀ (r : PReq) (s : State), s.dom 0 = true → s.hp.queue = [] → s.pw.req = some r → r.ready = true → r.tgt < 4 →
    let m := s.refusers (s.f PWR_STAT_STATE) r.tgt r.who
    (r.tgt = s.f PWR_STAT_STATE → ∃ t, exec .powerRequestEvaluate s = .next t ∧ t.f PWR_LAST_OUTCOME = 1 ∧
      t.f PWR_LAST_TGT = r.tgt ∧ t.f PWR_STAT_STATE = s.f PWR_STAT_STATE ∧ t.pw.req = s.pw.pend ∧ t.pw.entry = s.pw.entry ∧
      SameRegsBut [PWR_LAST_A, PWR_STAT_A, HP_STAT_A] s t) ∧
    (r.tgt ≠ s.f PWR_STAT_STATE → ¬ (s.f PWR_STAT_STATE = 0 ∧ r.tgt = 1) → s.f PWR_STAT_STATE ≠ 1 →
      m ≠ 0 ∧ (codesOf m 12).headD 0 = 1) ∧
    (r.tgt ≠ s.f PWR_STAT_STATE → m ≠ 0 → ∃ t, exec .powerRequestEvaluate s = .next t ∧ t.f PWR_LAST_OUTCOME = 2 ∧
      t.f PWR_LAST_TGT = r.tgt ∧ t.f PWR_LAST_REFUSER = (codesOf m 12).headD 0 ∧ t.pw.entry = s.pw.entry ∧
      t.pw.req = s.pw.pend ∧ t.f PWR_STAT_STATE = s.f PWR_STAT_STATE ∧
      SameRegsBut (PWR_LAST_A :: PWR_STAT_A :: HP_STAT_A :: (List.range 8).map PWR_REF_A) s t) ∧
    (r.tgt ≠ s.f PWR_STAT_STATE → m = 0 → r.tgt ≠ 0 → ∃ t, exec .powerRequestEvaluate s = .next t ∧
      t.pw.entry = some { tgt := r.tgt, src := s.f PWR_STAT_STATE, who := r.who } ∧
      t.pw.req = none ∧ t.on PWR_STAT_ENTRY = true ∧ t.f PWR_STAT_AP = 0 ∧ SameRegsBut [PWR_STAT_A] s t) ∧
    (s.f PWR_STAT_STATE ≠ 0 → m = 0 → r.tgt = 0 → ∃ t, exec .powerRequestEvaluate s = .next t ∧ t.f PWR_STAT_STATE = 0 ∧
      t.fbit PWR_STAT_DOM_ON 6 = true ∧ t.on PWR_STAT_D5_PART = false ∧ t.f PWR_LAST_OUTCOME = 1))

/-- The abort points (R415-R418): with nothing to stop it an entry passes them in turn, latches its pads, detaches the networks and ends
in its state; a refuser or an armed wake abandons it there, and the lane stays as it was. -/
def Obligations.AbortPointsStopOrPass : Prop :=
  ∀ (e : PEntry) (s : State), s.dom 0 = true → s.hp.queue = [] → s.pw.entry = some e →
    (s.f PWR_STAT_AP = 0 → e.ticked = true → s.stoppers e = [] →
      ∃ t, exec .ap1 s = .next t ∧ t.f PWR_STAT_AP = 1 ∧
        t.f PWR_PAD_HELD = Nat.lor (s.f PWR_PAD_HELD) (if e.tgt = 1 then 0x1FFF else 0x2000) ∧ SameRegsBut [PWR_STAT_A, PWR_PAD_A] s t) ∧
    (s.f PWR_STAT_AP = 0 → e.ticked = true → s.stoppers e ≠ [] →
      ∃ t, exec .ap1 s = .next t ∧ t.pw.entry = none ∧ t.on PWR_STAT_ENTRY = false ∧ t.f PWR_STAT_STATE = s.f PWR_STAT_STATE ∧
        t.f PWR_CNT_ABORTED = satU PWR_CNT_ABORTED.width (s.f PWR_CNT_ABORTED + 1) ∧
        t.f PWR_LAST_OUTCOME = (if (s.stoppers e).any (fun c => decide (c < 0x10)) then 2 else 3) ∧ t.f PWR_LAST_AP = 1) ∧
    (s.f PWR_STAT_AP = 1 → e.tgt ≠ 1 → e.cycled = true → s.stoppers e = [] →
      ∃ t, exec .ap2 s = .next t ∧ t.f PWR_STAT_AP = 2 ∧ t.chState 0 = 0 ∧ t.chState 1 = 0 ∧ t.on CHN_STAT_CLOSED = true ∧
        t.f CHN_STAT_OPEN = 0 ∧ ∀ m : Fin 4, t.f (LK_STAT_STATE m) = 0) ∧
    (s.f PWR_STAT_AP = 2 → s.stoppers e = [] →
      ∃ t, exec .ap3 s = .next t ∧ t.f PWR_STAT_AP = (if e.tgt = 1 then 4 else 3) ∧
        (e.tgt = 2 → t.pw.sig = [Config.freeWord s.freeSeq, Config.freeWord (s.freeSeq + 1), Config.freeWord (s.freeSeq + 2)]) ∧
        (e.tgt ≠ 2 → t.pw.sig = s.pw.sig) ∧ (e.tgt = 2 ∨ e.tgt = 3 → t.pw.wakeNs = s.time) ∧
        SameRegsBut [PWR_STAT_A, PWR_PAD_A] s t) ∧
    (s.f PWR_STAT_AP = 3 → e.tgt = 2 ∨ e.tgt = 3 → s.stoppers e = [] → s.pw.fired = [] →
      ∃ t, exec .ap4 s = .next t ∧ t.pw.entry = none ∧ t.f PWR_STAT_STATE = e.tgt ∧ t.f PWR_LAST_OUTCOME = 1 ∧
        t.f PWR_STAT_DOM_ON = (if e.tgt = 2 then 3 else 1) ∧ t.pw.wakeNs = s.time) ∧
    (s.f PWR_STAT_AP = 4 → e.tgt = 1 → e.ticked = true → s.pw.fired = [] →
      ∃ t, exec .ap4 s = .next t ∧ t.pw.entry = none ∧ t.quiet = true ∧ t.fbit PWR_STAT_DOM_ON 6 = false ∧
        t.on PWR_STAT_D5_PART = true ∧ t.f PWR_LAST_OUTCOME = 1)

/-- Wakes (R416, R422-R424): a disabled source does nothing; one that is armed in an entry is noted for its abort point; from QUIET the
lane returns to RUN; from RETAIN and DORMANT it starts up with that origin, with the source and the time slept. -/
def Obligations.WakesFollowTheirArming : Prop :=
  (∀ (slow : Nat) (bad : BitVec 3) (s : State), s.dom 0 = true →
    (s.fbit PWR_CFG_WAKE_EN 0 = false → exec (.wakeN slow bad) s = .next s) ∧
    (s.fbit PWR_CFG_WAKE_EN 0 = true → s.pw.entry.isSome = true → 0x10 ∉ s.pw.fired →
      ∃ t, exec (.wakeN slow bad) s = .next t ∧ t = { s with pw := { s.pw with fired := s.pw.fired ++ [0x10], first := t.pw.first } } ∧
        (s.pw.first = none → t.pw.first = some (s.slowPeriod, 0x10, s.f PWR_STAT_STATE))) ∧
    (s.fbit PWR_CFG_WAKE_EN 0 = true → s.pw.entry = none → s.f PWR_STAT_STATE = 1 →
      ∃ t, exec (.wakeN slow bad) s = .next t ∧ t.f PWR_STAT_STATE = 0 ∧ t.f PWR_WAKE_LAST_SRC = 0x10 ∧
        t.fbit PWR_STAT_DOM_ON 6 = true) ∧
    (s.fbit PWR_CFG_WAKE_EN 0 = true → s.pw.entry = none → s.f PWR_STAT_STATE = 2 →
      ∃ t, exec (.wakeN slow bad) s = .next t ∧ t.f SU_STAT_ORIGIN = 2 ∧ t.f PWR_WAKE_LAST_SRC = 0x10 ∧
        t.f PWR_SLEEP_DURATION = satU 32 slow)) ∧
  (∀ (wave : List (Int × Nat)) (slow : Nat) (s : State), s.dom 0 = true →
    (halleyCode wave ≠ some (s.f PWR_HALLEY_CODE) → exec (.halley wave slow) s = .next s) ∧
    (halleyCode wave = some (s.f PWR_HALLEY_CODE) → s.fbit PWR_CFG_WAKE_EN 1 = true → s.pw.entry = none → s.f PWR_STAT_STATE = 3 →
      ∃ t, exec (.halley wave slow) s = .next t ∧ t.f SU_STAT_ORIGIN = 3 ∧ t.f PWR_WAKE_LAST_SRC = 0x11 ∧
        t.f PWR_SLEEP_DURATION = satU 32 slow)) ∧
  (∀ (p : Fin 4) (slow : Nat) (bad : BitVec 3) (s : State), s.dom 0 = true →
    (s.wakePort p = false → exec (.sitilWake p slow bad) s = .next s) ∧
    (s.wakePort p = true → s.fbit PWR_CFG_WAKE_EN 2 = true → s.pw.entry = none → s.f PWR_STAT_STATE = 2 →
      ∃ t, exec (.sitilWake p slow bad) s = .next t ∧ t.f SU_STAT_ORIGIN = 2 ∧ t.f PWR_WAKE_LAST_SRC = 0x12)) ∧
  (∀ (m : Fin 4) (slow : Nat) (bad : BitVec 3) (s : State), s.dom 0 = true →
    (s.on (LK_CFG_EN m) = false → exec (.moamelWake m slow bad) s = .next s) ∧
    (s.on (LK_CFG_EN m) = true → s.fbit PWR_CFG_WAKE_EN 3 = true → s.pw.entry = none → s.f PWR_STAT_STATE = 2 →
      ∃ t, exec (.moamelWake m slow bad) s = .next t ∧ t.f SU_STAT_ORIGIN = 2 ∧ t.f PWR_WAKE_LAST_SRC = 0x13)) ∧
  (∀ (w : Fin 12) (s : State), s.dom 0 = true →
    (s.on (WS_CFG_EN w) = false → exec (.wheelWake w) s = .next s) ∧
    (s.on (WS_CFG_EN w) = true → s.fbit PWR_CFG_WAKE_EN 4 = true → s.pw.entry = none → s.f PWR_STAT_STATE = 1 →
      ∃ t, exec (.wheelWake w) s = .next t ∧ t.f PWR_STAT_STATE = 0 ∧ t.f PWR_WAKE_LAST_SRC = 0x14))

/-- Pads, the engine's points and the domain supplies (R46, R411, R426-R428): a held pad is released only where its conditions hold; a
point that does not fit the loads is refused; a rising clock follows its voltage, a falling one goes before it. -/
def Obligations.PadsAndPointsFollowTheirChecks : Prop :=
  (∀ (g : Fin 16) (s : State), s.dom 7 = true →
    exec (.pwrPadRel (BitVec.ofNat 32 (2 ^ g.val))) s =
      .next (if s.padRelease g then s.setBit PWR_PAD_HELD g false else s.inc (PG_LOCK_REFUSED 0x005))) ∧
  (∀ (g : Fin 8) (pass : Bool) (s : State), s.dom 6 = true →
    exec (.padCheck g pass) s =
      .next (if s.fbit PWR_PADCHK_PASS g || s.fbit PWR_PADCHK_FAIL g then s else if pass then s.setBit PWR_PADCHK_PASS g true else (s.setBit PWR_PADCHK_FAIL g true).raise 0x342 g)) ∧
  (∀ (point : BitVec 2) (s : State), s.dom 7 = true →
    (s.committing = true → exec (.dvfsRequest point) s = .next { s with pw := { s.pw with late := some point.toNat } }) ∧
    (s.committing = false → s.loadsFit point.toNat = false → ∃ t, exec (.dvfsRequest point) s = .next t ∧
      t.f PWR_DVFS_POINT = s.f PWR_DVFS_POINT ∧ t.f PWR_LAST_OUTCOME = 2 ∧ t.f PWR_LAST_REFUSER = 2 ∧ t.pw = s.pw) ∧
    (s.committing = false → s.loadsFit point.toNat = true → s.f PWR_STAT_STATE = 0 → s.startPoint = false →
      s.f PWR_DVFS_FPT ≠ point.toNat → ∃ t, exec (.dvfsRequest point) s = .next t ∧ t.f PWR_DVFS_POINT = point.toNat ∧
        t.on PWR_DVFS_BUSY = true ∧ t.pw.dvfs = some point.toNat ∧ t.f PWR_DVFS_FPT = s.f PWR_DVFS_FPT ∧
        SameRegsBut [PWR_DVFS_A] s t)) ∧
  (∀ (p : Nat) (s : State), s.dom 2 = true → s.pw.dvfs = some p → p < 4 →
    (s.f PWR_DVFS_FPT < p → ∃ t, exec .dvfsClockSwitch s = .next t ∧ t.f PWR_DVFS_FPT = p ∧ t.f PWR_DVFS_VPT = p ∧
      t.on PWR_DVFS_BUSY = false ∧ t.pw.dvfs = none ∧ SameRegsBut [PWR_DVFS_A] s t) ∧
    (p ≤ s.f PWR_DVFS_FPT → ∃ t, exec .dvfsClockSwitch s = .next t ∧ t.f PWR_DVFS_FPT = p ∧ t.f PWR_DVFS_VPT = s.f PWR_DVFS_VPT ∧
      t.on PWR_DVFS_BUSY = s.on PWR_DVFS_BUSY ∧ t.pw.fell = true ∧ SameRegsBut [PWR_DVFS_A] s t)) ∧
  (∀ s : State, s.dom 2 = true → exec .dvfsTmo s = .next (if s.pw.dvfs.isSome then s.raiseU 0x341 else s)) ∧
  (∀ (d : Fin 8) (s : State), s.dom d = true → d.val ≠ 0 → exec (.domSupply d) s = .next (s.raise 0x343 d))

/-- One bad comparison of the TCXO is none, two in a row fail it and put the node into HOLDOVER at its last rate; a PLL that loses lock
counts, and PLL_A holds every group; two windows outside 5 % are an episode (R434-R436). The timeout of an armed crossing stops it
once, counts and raises its source; one that is not armed, or whose watchdog a clock switch holds, has none; the first transfer ends
the episode (R439-R441). -/
def Obligations.ClockFailuresAreConfirmed : Prop :=
  (∀ (chr aon : Int) (s : State), s.dom 2 = true → chr.natAbs ≤ 200 ∨ aon.natAbs ≤ 200 →
    ∃ t, exec (.tcxoCheck chr aon) s = .next t ∧ t.on CLK_TCXO_ST_FAILED = false ∧ t.ck.tcxo = 0 ∧ t.nt = s.nt ∧ t.flt = s.flt ∧
      SameRegsBut [CLK_TCXO_ST_A] s t) ∧
  (∀ (chr aon : Int) (s : State), s.dom 2 = true → 200 < chr.natAbs → 200 < aon.natAbs →
    (s.ck.tcxo = 0 → ∃ t, exec (.tcxoCheck chr aon) s = .next t ∧ t.on CLK_TCXO_ST_FAILED = false ∧ t.ck.tcxo = 1 ∧ t.flt = s.flt) ∧
    (1 ≤ s.ck.tcxo → s.on CLK_TCXO_ST_FAILED = false → ∃ t, exec (.tcxoCheck chr aon) s = .next t ∧
      t.on CLK_TCXO_ST_FAILED = true ∧ t.f NT_STAT_STATE = 4 ∧ t.nt.rate = s.nt.rate ∧ t.nt.slew = 0 ∧
      (s.nt.holdEp = true → t.flt = (s.raiseU 0x360).flt))) ∧
  (∀ (i : Fin 4) (s : State), s.dom 2 = true → i.val < 3 →
    (∃ t, exec (.pllLockLoss i) s = .next t ∧ t.fbit CLK_PLL_ST_LOCK i = false ∧
      t.f CLK_CNT_LOCK_LOSS = satU CLK_CNT_LOCK_LOSS.width (s.f CLK_CNT_LOCK_LOSS + 1) ∧ t.flt = (s.raise 0x361 i).flt ∧
      (i.val = 0 → t.hold.pll = true ∧ ∀ g, g < 8 → t.on (BG_STAT_HELD g) = true) ∧
      (i.val ≠ 0 → t.hold = s.hold ∧ SameRegsBut [CLK_PLL_ST_A, CLK_CNT_A] s t)) ∧
    ∃ t, exec (.pllLock i) s = .next t ∧ t.fbit CLK_PLL_ST_LOCK i = true ∧ t.hold = s.hold ∧ SameRegsBut [CLK_PLL_ST_A] s t) ∧
  (∀ (i : Fin 16) (meas : BitVec 32) (s : State), s.dom 2 = true → i.val < 14 → (i.val = 0 → s.on PWR_DVFS_BUSY = false) →
    let off := 20 * ((meas.toNat : Int) - s.nominal i).natAbs
    let was := smGet (fun _ => 0) s.ck.bad i
    ∃ t, exec (.clkFreq i meas) s = .next t ∧ t.fbit CLK_STAT_PRESENT i = (meas.toNat != 0) ∧
      (off ≤ s.nominal i → t.fbit CLK_STAT_IN_TOL i = true ∧ t.flt = s.flt ∧ SameRegsBut [CLK_STAT_A] s t) ∧
      (s.nominal i < off → was = 0 → t.fbit CLK_STAT_IN_TOL i = s.fbit CLK_STAT_IN_TOL i ∧ t.flt = s.flt) ∧
      (s.nominal i < off → was = 1 → t.fbit CLK_STAT_IN_TOL i = false ∧ t.flt = (s.raise 0x362 i).flt ∧
        t.f CLK_CNT_FREQ = satU CLK_CNT_FREQ.width (s.f CLK_CNT_FREQ + 1)) ∧
      (s.nominal i < off → was = 2 → t.fbit CLK_STAT_IN_TOL i = s.fbit CLK_STAT_IN_TOL i ∧ t.flt = s.flt)) ∧
  (∀ (i : Fin 32) (s : State), s.dom 2 = true → i.val < 18 →
    (s.xOpen i = false ∨ s.xStopped i = true ∨ s.xHeld i = true → exec (.cdcTimeout i) s = .next s) ∧
    (s.xOpen i = true → s.xStopped i = false → s.xHeld i = false → ∃ t, exec (.cdcTimeout i) s = .next t ∧
      t.fbit CDC_TMO_STOPPED i = true ∧
      t.f (CDC_XST_TIMEOUTS i) = satU (CDC_XST_TIMEOUTS i).width (s.f (CDC_XST_TIMEOUTS i) + 1)) ∧
    exec (.cdcResume i) s = .next (s.setBit CDC_TMO_STOPPED i false)) ∧
  (∀ s : State, s.dom 2 = true → s.xArmed 16 = true → s.xStopped 16 = false →
    ∃ t, exec (.cdcTimeout 16) s = .next t ∧ t.on CHN_STAT_CLOSED = true ∧ t.f CHN_STAT_OPEN = 0) ∧
  (∀ s : State, s.dom 2 = true → s.xArmed 17 = true → s.xStopped 17 = false → s.xHeld 17 = false →
    ∃ t, exec (.cdcTimeout 17) s = .next t ∧ t.pw.cdc = true) ∧
  (∀ (s : State) (i t : Nat), xEng i = true → s.pw.switchTb = some t → (s.xHeld i = true ↔ s.tb < t + 20))

/-- Start-up passes its steps (*Start-up steps*; R194, R403, R405, R473, R475): each ends in the next where its check passes, and stays
or halts with its cause where it fails. -/
def Obligations.StartupPassesItsSteps : Prop :=
  (∀ (bad : BitVec 8) (s : State), s.dom 0 = true → s.suRuns 0 = true →
    ((∀ d, 1 ≤ d → d < 8 → bitOf bad.toNat d = false) → s.f CLK_PLL_ST_LOCK = 7 →
      exec (.startupPowerUp bad) s = .next (s.set SU_STAT_STEP 1)) ∧
    (∀ d : Fin 8, 1 ≤ d.val → bitOf bad.toNat d = true → (∀ k, 1 ≤ k → k < d.val → bitOf bad.toNat k = false) →
      ∃ t, exec (.startupPowerUp bad) s = .next t ∧ t.f SU_STAT_STEP = 0 ∧ t.f SU_STAT_FAIL_STEP = 0 ∧ t.f SU_STAT_CAUSE = d)) ∧
  (∀ s : State, s.dom 7 = true → s.suRuns 1 = true →
    (∃ t, exec (.startupRepairMap true) s = .next t ∧ t.f SU_STAT_STEP = 2 ∧ t.on RP_STAT_MAP_OK = true ∧
      t.rep.map = s.rep.map.map entryInForce) ∧
    ∃ t, exec (.startupRepairMap false) s = .next t ∧ t.on SU_STAT_HALTED = true ∧ t.f SU_STAT_CAUSE = 0x20 ∧
      t.on RP_STAT_MAP_OK = false ∧ t.rep = s.rep) ∧
  (∀ (ok : Bool) (s : State), s.dom 7 = true → s.suRuns 2 = true → s.su.confOk = false → s.su.confWait = false →
    (s.f SU_STAT_ORIGIN = 0 ∨ s.f SU_STAT_ORIGIN = 3 → s.nv.image = none → ∃ t, exec (.startupConfiguration ok) s = .next t ∧ t.f SU_STAT_STEP = 2 ∧
      t.f SU_STAT_CAUSE = 0x30 ∧ t.f SU_STAT_FAIL_STEP = 2 ∧ t.su.confWait = true) ∧
    (s.f SU_STAT_ORIGIN = 2 → s.f PWR_STAT_RESTORING < 4 → ∃ t, exec (.startupConfiguration ok) s = .next t ∧
      t.f SU_STAT_STEP = 3 ∧ t.su.confOk = true ∧ t.tk.first = true ∧ ∀ n : Fin 16, t.word (AX_VMAX_A n) = s.word (AX_VMAX_A n))) ∧
  (∀ s : State, s.dom 2 = true → s.suRuns 3 = true →
    (∃ t, exec (.startupInjection []) s = .next t ∧ t.f SU_STAT_STEP = 4 ∧ t.on JAN_STAT_START_OK = true ∧
      t.f BIST_STAT_MODE = 2 ∧ SameRegsBut [SU_STAT_A, JAN_STAT_A, BIST_STAT_A] s t) ∧
    ∃ t, exec (.startupInjection [(0, ⟨⟨0, none⟩, ⟨0, none⟩⟩)]) s = .next t ∧ t.on SU_STAT_HALTED = true ∧ t.f SU_STAT_CAUSE = 0x40) ∧
  (∀ s : State, s.dom 2 = true → s.suRuns 4 = true →
    ∃ t, exec (.fastBist [] 0 []) s = .next t ∧ t.f SU_STAT_STEP = 5 ∧ t.on BIST_STAT_FAST_OK = true ∧ t.flt = s.flt ∧ t.rep = s.rep)

/-- The end of start-up, its watch and the life counters (R477, R478, R481, R499). -/
def Obligations.StartupEndsOrIsOverdue : Prop :=
  (∀ s : State, s.dom 2 = true →
    (s.suRuns 5 = true → s.on BIST_STAT_FAST_OK = true → s.on FEAT_STAT_OPEN = false → s.su.nets = false →
      ∃ t, exec .startupNetworks s = .next t ∧ t.su.nets = true ∧ t.f SU_STAT_STEP = 6 ∧
        t.f SU_MARK_NET_MS = satU 16 ((s.tb - s.su.startTb) / 200000)) ∧
    (s.on FEAT_STAT_OPEN = true ∨ s.on BIST_STAT_FAST_OK = false → exec .startupNetworks s = .next s)) ∧
  (∀ s : State, s.dom 2 = true →
    exec .startupDiagnostics s = .next { s with su := { s.su with diag := s.su.diag || s.on BIST_STAT_FAST_OK } }) ∧
  (∀ (g : Fin 8) (s : State), s.dom 2 = true →
    (s.on SU_STAT_ADMITTED = false → s.fbit SU_GROUPS_REQ g = true → (s.grp g).retry = true → s.su.stopped = false →
      ∃ t, exec (.diagRetry g) s = .next t ∧ t.on (PG_CTL_EN (0x020 + g)) = true ∧ (t.grp g).retry = false ∧
        SameRegsBut [PG_CTL_A (0x020 + g)] s t) ∧
    ((s.grp g).retry = false → exec (.diagRetry g) s = .next s)) ∧
  (∀ s : State, s.dom 2 = true →
    exec .startupOverdue s = .next (if s.on SU_STAT_ADMITTED then s else s.setB SU_STAT_OVERDUE true)) ∧
  (∀ (hours : Nat) (temp : Int) (s : State), s.dom 7 = true → -2 ^ 15 ≤ temp → temp < 2 ^ 15 →
    ∃ t, exec (.hoursStore hours temp) s = .next t ∧
      t.f HPL_HOURS_HOURS = satU HPL_HOURS_HOURS.width (s.f HPL_HOURS_HOURS + (s.hoursRun + hours)) ∧ t.fI HPL_TEMP_T_BASE = temp ∧
      t.fI HPL_TEMP_T_MAX = max (s.fI HPL_TEMP_T_MAX) temp ∧ t.nv.hours = t.f HPL_HOURS_HOURS ∧
      (1000000 < t.f HPL_HOURS_HOURS → t.on HPL_LIFE_END = true))

/-- From every state that meets its conditions each of these commands answers a next state with its own effect. Sensors (R62, R66, R69,
R74, R76-R78): excitation fault, open and shorted wheel-speed input, range, freeze, cross-lane and sense loss, the end of the input
freeze with any late channels. Lock, service and log (R462-R464, R468, R471). TICK outside LRST runs all blocks, or in QUIET those
that go on (R33, R42, R511). The edges and levels of SYNC_N and ALARM_N (R37, R304-R307). -/
def Obligations.SensorLockTickAndLineCommandsComplete : Prop :=
  (∀ (r : Fin 8) (s : State), s.dom 5 = true → s.quiet = false → s.on (RES_CFG_EN r) = true → (s.inp (0x60 + r)).pendCause = 0 →
    ∃ t, exec (.resExcitationFault r) s = .next t ∧ (t.inp (0x60 + r)).pendCause = 2 ∧ t.regs = s.regs ∧
      t.flt = (s.raiseU (0x260 + r)).flt) ∧
  (∀ (w : Fin 12) (s : State), s.dom 5 = true → s.on (WS_CFG_EN w) = true → (s.inp (0x70 + w)).pendCause = 0 →
    (∃ t, exec (.wsOpen w) s = .next t ∧ (t.inp (0x70 + w)).pendCause = 1 ∧ t.regs = s.regs ∧ t.flt = (s.raiseU (0x270 + w)).flt) ∧
    ∃ t, exec (.wsShort w) s = .next t ∧ (t.inp (0x70 + w)).pendCause = 2 ∧ t.on (WS_STAT_SUP_OFF w) = true ∧
      SameRegsBut [WS_STAT_A w] s t ∧ t.flt = (s.raiseU (0x270 + w)).flt) ∧
  (∀ (k : Fin 96) (s : State), s.dom 5 = true → s.quiet = false → 48 ≤ k.val → s.eOn (CH_CFG_EN k) = true →
    s.e (CH_CFG_RANGE_N k) ≤ (s.inp k).run → s.on (CH_STAT_INVALID k) = false →
    ∃ t, exec (.chRange k) s = .next t ∧ t.on (CH_STAT_INVALID k) = true ∧ t.f (CH_STAT_CAUSE k) = 1 ∧
      t.on (CH_VAL_VALID k) = false ∧ SameRegsBut [CH_STAT_A k, CH_VAL_A k] s t ∧ t.flt = (s.raiseU (0x200 + k)).flt) ∧
  (∀ (k : Fin 124) (s : State), s.dom 5 = true → s.quiet = false → s.frozen k = true → s.on (inpInvalidF k) = false →
    ∃ t, exec (.fbFreeze k) s = .next t ∧ t.on (inpInvalidF k) = true ∧ t.f (inpCauseF k) = (if k.val < 0x60 then 2 else 3) ∧
      t.flt = (s.raise 0x27E k).flt) ∧
  (∀ (k : Fin 124) (s : State), s.dom 5 = true → s.quiet = false → s.xlN k ≤ s.f (inpXlF k) → 0 < s.f (inpXlF k) →
    (s.inp k).xlRaised = false → (s.votedOf k).three = true → s.on (inpInvalidF k) = false →
    ∃ t, exec (.fbXchk k) s = .next t ∧ (t.inp k).xlRaised = true ∧ t.on (inpInvalidF k) = true ∧
      t.f (inpCauseF k) = (if k.val < 0x60 then 3 else 4) ∧ t.flt = (s.raise 0x27F k).flt) ∧
  (∀ (h : Fin 48) (s : State), s.dom 5 = true → s.quiet = false → s.eOn (CH_CFG_EN h) = true →
    s.e (CH_CFG_RANGE_N h) ≤ (s.inp h).run → (s.inp h).rangeSaid = false →
    ∃ t, exec (.senseLost h) s = .next t ∧ t.on (CH_STAT_INVALID h) = true ∧ (t.inp h).rangeSaid = true ∧
      (s.on (CH_STAT_INVALID h) = false → t.f (CH_STAT_CAUSE h) = 1) ∧ t.f (VDU_STAT_STATE (h / 3)) = 2 ∧
      ∀ i, i < 3 → t.on (HB_LOOP_OFF (3 * (h / 3) + i)) = true) ∧
  (∀ (late : List (Fin 96)) (s : State), s.dom 5 = true → s.quiet = false →
    ∃ t, exec (.inputFreezeEnd late) s = .next t ∧ t.afe.xpend = none ∧
      ∀ k ∈ late, t.f (CH_VAL_VALUE k) = (s.inp k).prevVal % 2 ^ 24 ∧ t.on (CH_VAL_VALID k) = false ∧
        (t.inp k).stale = true ∧ (t.inp k).late = (s.inp k).late + 1) ∧
  (∀ s : State, s.dom 7 = true →
    (∃ t, exec .lockoutEnd s = .next t ∧ t.f CS_STAT_LOCKOUT_S = 0 ∧ t.locked = s.locked ∧ SameRegsBut [CS_STAT_A] s t) ∧
    (∃ t, exec .idleRelock s = .next t ∧ t.locked = true ∧ t.on CS_STAT_SERVICE_REQ = false ∧ SameRegsBut [CS_STAT_A] s t) ∧
    (∃ t, exec .csLock s = .next t ∧ t.locked = true ∧ t.on CS_STAT_SERVICE_REQ = false ∧ SameRegsBut [CS_STAT_A] s t) ∧
    (∃ t, exec .csDiscard s = .next t ∧ t.cf.pend = [] ∧ t.regs = s.regs) ∧
    (∃ t, exec .serviceExit s = .next t ∧ t.on CS_STAT_SERVICE_REQ = false ∧ t.cf.exitDue = true ∧ SameRegsBut [CS_STAT_A] s t) ∧
    (∀ same : Bool, let ok := same && (s.word CS_CRC_A).toNat == s.cfgCrc
      ∃ t, exec (.csCfgCrc same) s = .next t ∧ t.on CS_STAT_CRC_OK = ok ∧ SameRegsBut [CS_STAT_A] s t ∧
        t.flt = (if ok then s else s.raiseU 0x3D9).flt)) ∧
  (∀ s : State, s.dom 7 = true → s.locked = false →
    ∃ t, exec .serviceReq s = .next t ∧ t.on CS_STAT_SERVICE_REQ = true ∧ SameRegsBut [CS_STAT_A] s t) ∧
  (∀ s : State, s.dom 7 = true → s.service = false → s.on CS_STAT_SERVICE_REQ = true → s.locked = false → s.typeValid 3 = true →
    bitOf s.sl.perm 2 = true → s.slow = true →
    ∃ t, exec .serviceModeEntry s = .next t ∧ t.service = true ∧ t.on FLT_STAT_SERVICE = true ∧ t.on CS_STAT_SERVICE_REQ = false ∧
      SameRegsBut [CS_STAT_A, FLT_STAT_A] s t) ∧
  (∀ (v : BitVec 32) (s : State), s.dom 7 = true → s.locked = false → s.f CL_ACKED_SEQ < v.toNat → v.toNat < s.f CL_NEXT_SEQ →
    ∃ t, exec (.logAck v) s = .next t ∧ t.f CL_ACKED_SEQ = v.toNat ∧ SameRegsBut [CL_ACKED_A, CL_STAT_A] s t) ∧
  (∀ (x : Snap) (s : State), s.dom 2 = true → s.inLrst = false →
    ∃ t, exec (.tick x) s = .next t ∧ (s.quiet = false → t = framed s (tickRun x s)) ∧ (s.quiet = true → t = framed s (tickQuiet x s)) ∧
      (2 ≤ t.f SU_STAT_STEP → t.cf.ready = true) ∧ t.pending = s.pending ∧ t.powered = s.powered) ∧
  (∀ (off : Int) (s : State), s.dom 4 = true →
    ∃ t, exec (.syncNEdge off) s = .next t ∧
      (off.natAbs ≤ 2000 → t.on MM_STAT_SYNC_OK = true ∧ t.mm.syncEdge = true ∧ t.mm.syncMiss = 0) ∧
      t.fI TICK_ALIGN_OFFSET = satSigned 16 (-(off + (s.f MM_CFG_SYNC_DLY : Nat)))) ∧
  (∀ s : State, s.dom 4 = true → ∃ t, exec .syncPulseEnd s = .next t ∧ t.mm.pulse = false ∧ t.regs = s.regs) ∧
  (∀ s : State, s.dom 4 = true → 3 ≤ s.mm.syncMiss →
    ∃ t, exec .mmSyncLoss s = .next t ∧ t.on MM_STAT_SYNC_OK = false ∧ t.mm.syncLossEp = true ∧ SameRegsBut [MM_STAT_A] s t ∧
      (s.mm.syncLossEp = false → t.flt = (s.raiseU 0x305).flt)) ∧
  (∀ s : State, s.dom 4 = true →
    (∃ t, exec .mmAlarmIn s = .next t ∧ t.mm.alarmPin = true ∧ t.on MM_STAT_ALARM_IN = !s.on MM_STAT_ALARM_OUT ∧
      SameRegsBut [MM_STAT_A] s t) ∧
    ∃ t, exec .alarmNRelease s = .next t ∧ t.mm.alarmPin = false ∧ t.on MM_STAT_ALARM_IN = false ∧ SameRegsBut [MM_STAT_A] s t)
end

