-- ==== Sys2Proof/Laws/Bits.lean ====
section
/-!
SUPPORT. Laws of bit fields: what a field reads after a write of itself, and of another field of the word.
-/
namespace Sys2Proof.Machine

theorem fieldGet_lt (w : Word) (lo wd : Nat) : fieldGet w lo wd < 2 ^ wd := Nat.mod_lt _ (Nat.two_pow_pos wd)

/-- Bit i of a field's value. -/
theorem testBit_fieldGet (w : Word) (lo wd i : Nat) :
    (fieldGet w lo wd).testBit i = (decide (i < wd) && w.toNat.testBit (lo + i)) := by
  simp [fieldGet, Nat.testBit_mod_two_pow, Nat.testBit_div_two_pow, Nat.add_comm]

/-- Bit j of the mask of a field. -/
theorem testBit_fieldMask (lo wd j : Nat) :
    (fieldMask lo wd).toNat.testBit j = (decide (j < 32) && (decide (lo ≤ j) && decide (j - lo < wd))) := by
  simp only [fieldMask, BitVec.toNat_ofNat, Nat.testBit_mod_two_pow, Nat.testBit_mul_two_pow, Nat.testBit_two_pow_sub_one]

/-- Bit j of a word after a field is written. -/
theorem testBit_fieldSet (w : Word) (lo wd v j : Nat) :
    (fieldSet w lo wd v).toNat.testBit j =
      (if lo ≤ j ∧ j - lo < wd then decide (j < 32) && v.testBit (j - lo) else w.toNat.testBit j) := by
  have hw : ¬ j < 32 → w.toNat.testBit j = false := fun h =>
    Nat.testBit_lt_two_pow (Nat.lt_of_lt_of_le w.isLt (Nat.pow_le_pow_right (by decide) (by omega)))
  have hm := testBit_fieldMask lo wd j
  simp only [fieldSet, BitVec.toNat_or, BitVec.toNat_and, Nat.testBit_or, Nat.testBit_and, BitVec.toNat_ofNat,
    Nat.testBit_mod_two_pow, Nat.testBit_mul_two_pow, BitVec.toNat_not]
  by_cases h32 : j < 32
  · have hn : (2 ^ 32 - 1 - (fieldMask lo wd).toNat).testBit j = !(fieldMask lo wd).toNat.testBit j := by
      have := BitVec.getLsbD_not (x := fieldMask lo wd) (i := j)
      simpa [BitVec.getLsbD, h32] using this
    rw [hn, hm]
    by_cases h1 : lo ≤ j <;> by_cases h2 : j - lo < wd <;> simp [h32, h1, h2]
  · simp [h32, hw h32]

/-- A written field reads what was written, in its width. -/
theorem fieldGet_fieldSet_same (w : Word) (lo wd v : Nat) (h : lo + wd ≤ 32) :
    fieldGet (fieldSet w lo wd v) lo wd = v % 2 ^ wd := by
  apply Nat.eq_of_testBit_eq
  intro i
  rw [testBit_fieldGet, testBit_fieldSet, Nat.testBit_mod_two_pow]
  by_cases hi : i < wd
  · have : lo + i < 32 := by omega
    simp [hi, this]
  · simp [hi]

/-- A field beside the written one is unchanged. -/
theorem fieldGet_fieldSet_ne (w : Word) (lo wd v lo' wd' : Nat) (h : lo + wd ≤ lo' ∨ lo' + wd' ≤ lo) :
    fieldGet (fieldSet w lo wd v) lo' wd' = fieldGet w lo' wd' := by
  apply Nat.eq_of_testBit_eq
  intro i
  rw [testBit_fieldGet, testBit_fieldGet, testBit_fieldSet]
  by_cases hi : i < wd'
  · have : ¬ (lo ≤ lo' + i ∧ lo' + i - lo < wd) := by omega
    simp [hi, this]
  · simp [hi]

/-- A bit of a number. -/
theorem bitOf_testBit (n k : Nat) : bitOf n k = n.testBit k := by
  simp [bitOf, Nat.testBit_eq_decide_div_mod_eq]; rfl

/-- A number with bit k split off. -/
theorem split_bit (q r k j : Nat) (b : Bool) (hr : r < 2 ^ k) :
    (2 ^ k * (2 * q + b2n b) + r).testBit j = if j = k then b else (2 ^ k * (2 * q) + r).testBit j := by
  rw [Nat.testBit_two_pow_mul_add _ hr, Nat.testBit_two_pow_mul_add _ hr]
  by_cases h : j < k
  · simp [h, Nat.ne_of_lt h]
  · obtain ⟨i, rfl⟩ : ∃ i, j = k + i := ⟨j - k, by omega⟩
    cases i with
    | zero => cases b <;> simp [b2n]
    | succ i =>
      cases b <;> simp [b2n, Nat.testBit_succ]
      congr 1; omega

/-- A number's bits after one is set. -/
theorem bitOf_withBit (n k j : Nat) (b : Bool) : bitOf (withBit n k b) j = if j = k then b else bitOf n j := by
  have hn : n = 2 ^ k * (2 * (n / 2 ^ k / 2) + b2n (bitOf n k)) + n % 2 ^ k := by
    have h1 := Nat.div_add_mod n (2 ^ k)
    have h2 : 2 * (n / 2 ^ k / 2) + b2n (bitOf n k) = n / 2 ^ k := by
      unfold bitOf b2n
      rcases Nat.mod_two_eq_zero_or_one (n / 2 ^ k) with h | h <;> simp [h] <;> omega
    rw [h2, h1]
  have hr : n % 2 ^ k < 2 ^ k := Nat.mod_lt _ (Nat.two_pow_pos k)
  have hw : withBit n k b = 2 ^ k * (2 * (n / 2 ^ k / 2) + b2n b) + n % 2 ^ k := by
    unfold withBit
    cases hb : bitOf n k <;> cases b <;> simp only [hb, b2n] at hn ⊢ <;> simp at hn ⊢
    · exact hn
    · rw [Nat.mul_add]; omega
    · rw [Nat.mul_add] at hn; omega
    · exact hn
  rw [bitOf_testBit, bitOf_testBit, hw, split_bit _ _ _ _ _ hr]
  conv_rhs => rw [hn, split_bit _ _ _ _ _ hr]
  by_cases h : j = k <;> simp [h]

/-- Setting a bit below the width keeps a number in its width. -/
theorem withBit_lt (n k w : Nat) (b : Bool) (hn : n < 2 ^ w) (hk : k < w) : withBit n k b < 2 ^ w := by
  apply Nat.lt_pow_two_of_testBit
  intro i hi
  have := bitOf_withBit n k i b
  rw [bitOf_testBit, bitOf_testBit] at this
  rw [this, if_neg (by omega)]
  exact Nat.testBit_lt_two_pow (Nat.lt_of_lt_of_le hn (Nat.pow_le_pow_right (by decide) hi))

end Sys2Proof.Machine
end

