-- ==== Sys2Proof/Laws/SMap.lean ====
section
/-!
SUPPORT. Laws of sparse tables: read after write, and that every operation keeps the canonical form.
-/
namespace Sys2Proof.Machine

variable {α : Type}

theorem smGet_smErase_same (d : Nat → α) (m : SMap α) (k : Nat) : smGet d (smErase m k) k = d k := by
  induction m with
  | nil => rfl
  | cons p m ih =>
    obtain ⟨a, v⟩ := p
    by_cases h : a = k
    · simpa [smErase, h] using ih
    · have h' : ¬ k = a := fun e => h e.symm
      simpa [smErase, h, h', smGet] using ih

theorem smGet_smErase_ne (d : Nat → α) (m : SMap α) (k j : Nat) (hj : j ≠ k) :
    smGet d (smErase m k) j = smGet d m j := by
  induction m with
  | nil => rfl
  | cons p m ih =>
    obtain ⟨a, v⟩ := p
    by_cases h : a = k
    · subst h
      simpa [smErase, smGet, hj] using ih
    · by_cases ha : j = a
      · simp [smErase, h, smGet, ha]
      · simpa [smErase, h, smGet, ha] using ih

/-- No entry of the table has key k. -/
def smFree (k : Nat) (m : SMap α) : Prop := ∀ p ∈ m, p.1 ≠ k

theorem smFree_smErase (m : SMap α) (k : Nat) : smFree k (smErase m k) := by
  intro p hp
  have := (List.mem_filter.mp hp).2
  simpa using this

theorem smGet_smIns_same (d : Nat → α) (k : Nat) (v : α) (m : SMap α) (h : smFree k m) :
    smGet d (smIns k v m) k = v := by
  induction m with
  | nil => simp [smIns, smGet]
  | cons p m ih =>
    obtain ⟨a, w⟩ := p
    have ha : ¬ k = a := fun e => h (a, w) (by simp) e.symm
    have hm : smFree k m := fun q hq => h q (by simp [hq])
    by_cases hk : k < a
    · simp [smIns, hk, smGet]
    · simp [smIns, hk, smGet, ha, ih hm]

theorem smGet_smIns_ne (d : Nat → α) (k j : Nat) (v : α) (m : SMap α) (hj : j ≠ k) :
    smGet d (smIns k v m) j = smGet d m j := by
  induction m with
  | nil => simp [smIns, smGet, hj]
  | cons p m ih =>
    obtain ⟨a, w⟩ := p
    by_cases hk : k < a
    · simp [smIns, hk, smGet, hj]
    · by_cases ha : j = a
      · simp [smIns, hk, smGet, ha]
      · simp [smIns, hk, smGet, ha, ih]

/-- Reading the key just written. -/
@[simp] theorem smGet_smPut_same [DecidableEq α] (d : Nat → α) (m : SMap α) (k : Nat) (v : α) :
    smGet d (smPut d m k v) k = v := by
  by_cases h : v = d k
  · simp [smPut, h, smGet_smErase_same]
  · simp [smPut, h, smGet_smIns_same d k v _ (smFree_smErase m k)]

/-- Reading another key. -/
theorem smGet_smPut_ne [DecidableEq α] (d : Nat → α) (m : SMap α) (k j : Nat) (v : α) (hj : j ≠ k) :
    smGet d (smPut d m k v) j = smGet d m j := by
  by_cases h : v = d k
  · simp [smPut, h, smGet_smErase_ne d m k j hj]
  · simp [smPut, h, smGet_smIns_ne d k j v _ hj, smGet_smErase_ne d m k j hj]

/-! ### The canonical form -/

theorem smAbove_mono (a b : Nat) (m : SMap α) (h : a ≤ b) (hb : smAbove b m = true) : smAbove a m = true := by
  simp only [smAbove, List.all_eq_true, decide_eq_true_eq] at *
  exact fun p hp => Nat.lt_of_le_of_lt h (hb p hp)

theorem smAbove_smErase (a k : Nat) (m : SMap α) (h : smAbove a m = true) : smAbove a (smErase m k) = true := by
  simp only [smAbove, List.all_eq_true, decide_eq_true_eq] at *
  exact fun p hp => h p (List.mem_filter.mp hp).1

theorem smWf_smErase [DecidableEq α] (d : Nat → α) (k : Nat) (m : SMap α) (h : smWf d m = true) :
    smWf d (smErase m k) = true := by
  induction m with
  | nil => rfl
  | cons p m ih =>
    obtain ⟨a, v⟩ := p
    simp only [smWf, Bool.and_eq_true] at h
    by_cases ha : a = k
    · simpa [smErase, ha] using ih h.2
    · have : smErase ((a, v) :: m) k = (a, v) :: smErase m k := by simp [smErase, ha]
      rw [this]
      simp only [smWf, Bool.and_eq_true]
      exact ⟨⟨smAbove_smErase a k m h.1.1, h.1.2⟩, ih h.2⟩

theorem smAbove_smIns (a k : Nat) (v : α) (m : SMap α) (h : smAbove a m = true) (hk : a < k) :
    smAbove a (smIns k v m) = true := by
  induction m with
  | nil => simp [smIns, smAbove, hk]
  | cons p m ih =>
    obtain ⟨b, w⟩ := p
    have hb : a < b ∧ smAbove a m = true := by simpa [smAbove] using h
    by_cases hlt : k < b
    · simpa [smIns, hlt, smAbove, hk] using h
    · have := ih hb.2
      simp only [smIns, hlt, if_false]
      simpa [smAbove, hb.1] using this

theorem smWf_smIns [DecidableEq α] (d : Nat → α) (k : Nat) (v : α) (m : SMap α) (h : smWf d m = true)
    (hv : v ≠ d k) (hf : smFree k m) : smWf d (smIns k v m) = true := by
  induction m with
  | nil => simp [smIns, smWf, smAbove, hv]
  | cons p m ih =>
    obtain ⟨a, w⟩ := p
    have h' := h
    simp only [smWf, Bool.and_eq_true] at h
    by_cases hlt : k < a
    · simp only [smIns, hlt, if_true]
      have : smAbove k ((a, w) :: m) = true := by
        have := smAbove_mono k a m (Nat.le_of_lt hlt) h.1.1
        simpa [smAbove, hlt] using this
      simp only [smWf, Bool.and_eq_true] at h' ⊢
      exact ⟨⟨this, by simpa using hv⟩, h'⟩
    · have hak : a ≠ k := hf (a, w) (by simp)
      simp only [smIns, hlt, if_false, smWf, Bool.and_eq_true]
      exact ⟨⟨smAbove_smIns a k v m h.1.1 (by omega), h.1.2⟩, ih h.2 (fun q hq => hf q (by simp [hq]))⟩

/-- A write keeps the canonical form. -/
theorem smWf_smPut [DecidableEq α] (d : Nat → α) (m : SMap α) (k : Nat) (v : α) (h : smWf d m = true) :
    smWf d (smPut d m k v) = true := by
  by_cases hv : v = d k
  · simpa [smPut, hv] using smWf_smErase d k m h
  · simpa [smPut, hv] using smWf_smIns d k v _ (smWf_smErase d k m h) hv (smFree_smErase m k)

theorem smAbove_smMap [DecidableEq α] (d : Nat → α) (f : Nat → α → α) (a : Nat) (m : SMap α) (h : smAbove a m = true) :
    smAbove a (smMap d f m) = true := by
  induction m with
  | nil => rfl
  | cons p m ih =>
    obtain ⟨k, v⟩ := p
    have hk : a < k ∧ smAbove a m = true := by simpa [smAbove] using h
    have := ih hk.2
    by_cases hf : f k v = d k
    · simpa [smMap, hf] using this
    · simp only [smMap, hf, if_false]
      simpa [smAbove, hk.1] using this

/-- So does passing every entry through a function. -/
theorem smWf_smMap [DecidableEq α] (d : Nat → α) (f : Nat → α → α) (m : SMap α) (h : smWf d m = true) :
    smWf d (smMap d f m) = true := by
  induction m with
  | nil => rfl
  | cons p m ih =>
    obtain ⟨k, v⟩ := p
    simp only [smWf, Bool.and_eq_true] at h
    by_cases hf : f k v = d k
    · simpa [smMap, hf] using ih h.2
    · simp only [smMap, hf, if_false, smWf, Bool.and_eq_true]
      exact ⟨⟨smAbove_smMap d f k m h.1.1, by simpa using hf⟩, ih h.2⟩

end Sys2Proof.Machine
end

