-- ==== Sys2Proof/Laws/State.lean ====
section
/-!
SUPPORT. Laws of the state's updates: one lemma per field per update, and what a register field reads after a write.
-/
namespace Sys2Proof.Machine

/-! ### setWord -/

@[simp] theorem State.setWord_pending (s : State) (a : Nat) (w : Word) : (s.setWord a w).pending = s.pending := (rfl)
@[simp] theorem State.setWord_part (s : State) (a : Nat) (w : Word) : (s.setWord a w).part = s.part := (rfl)
@[simp] theorem State.setWord_powered (s : State) (a : Nat) (w : Word) : (s.setWord a w).powered = s.powered := (rfl)
@[simp] theorem State.setWord_freeSeq (s : State) (a : Nat) (w : Word) : (s.setWord a w).freeSeq = s.freeSeq := (rfl)
@[simp] theorem State.setWord_tb (s : State) (a : Nat) (w : Word) : (s.setWord a w).tb = s.tb := (rfl)
@[simp] theorem State.setWord_time (s : State) (a : Nat) (w : Word) : (s.setWord a w).time = s.time := (rfl)
@[simp] theorem State.setWord_tickNo (s : State) (a : Nat) (w : Word) : (s.setWord a w).tickNo = s.tickNo := (rfl)
@[simp] theorem State.setWord_engOld (s : State) (a : Nat) (w : Word) : (s.setWord a w).engOld = s.engOld := (rfl)
@[simp] theorem State.setWord_tk (s : State) (a : Nat) (w : Word) : (s.setWord a w).tk = s.tk := (rfl)
@[simp] theorem State.setWord_flt (s : State) (a : Nat) (w : Word) : (s.setWord a w).flt = s.flt := (rfl)
@[simp] theorem State.setWord_hbs (s : State) (a : Nat) (w : Word) : (s.setWord a w).hbs = s.hbs := (rfl)
@[simp] theorem State.setWord_vdus (s : State) (a : Nat) (w : Word) : (s.setWord a w).vdus = s.vdus := (rfl)
@[simp] theorem State.setWord_grps (s : State) (a : Nat) (w : Word) : (s.setWord a w).grps = s.grps := (rfl)
@[simp] theorem State.setWord_aux (s : State) (a : Nat) (w : Word) : (s.setWord a w).aux = s.aux := (rfl)
@[simp] theorem State.setWord_afe (s : State) (a : Nat) (w : Word) : (s.setWord a w).afe = s.afe := (rfl)
@[simp] theorem State.setWord_axes (s : State) (a : Nat) (w : Word) : (s.setWord a w).axes = s.axes := (rfl)
@[simp] theorem State.setWord_jan (s : State) (a : Nat) (w : Word) : (s.setWord a w).jan = s.jan := (rfl)
@[simp] theorem State.setWord_rep (s : State) (a : Nat) (w : Word) : (s.setWord a w).rep = s.rep := (rfl)
@[simp] theorem State.setWord_veh (s : State) (a : Nat) (w : Word) : (s.setWord a w).veh = s.veh := (rfl)
@[simp] theorem State.setWord_ss (s : State) (a : Nat) (w : Word) : (s.setWord a w).ss = s.ss := (rfl)
@[simp] theorem State.setWord_ln (s : State) (a : Nat) (w : Word) : (s.setWord a w).ln = s.ln := (rfl)
@[simp] theorem State.setWord_mm (s : State) (a : Nat) (w : Word) : (s.setWord a w).mm = s.mm := (rfl)
@[simp] theorem State.setWord_sit (s : State) (a : Nat) (w : Word) : (s.setWord a w).sit = s.sit := (rfl)
@[simp] theorem State.setWord_sl (s : State) (a : Nat) (w : Word) : (s.setWord a w).sl = s.sl := (rfl)
@[simp] theorem State.setWord_nt (s : State) (a : Nat) (w : Word) : (s.setWord a w).nt = s.nt := (rfl)
@[simp] theorem State.setWord_cn (s : State) (a : Nat) (w : Word) : (s.setWord a w).cn = s.cn := (rfl)
@[simp] theorem State.setWord_hold (s : State) (a : Nat) (w : Word) : (s.setWord a w).hold = s.hold := (rfl)
@[simp] theorem State.setWord_hp (s : State) (a : Nat) (w : Word) : (s.setWord a w).hp = s.hp := (rfl)
@[simp] theorem State.setWord_su (s : State) (a : Nat) (w : Word) : (s.setWord a w).su = s.su := (rfl)
@[simp] theorem State.setWord_bist (s : State) (a : Nat) (w : Word) : (s.setWord a w).bist = s.bist := (rfl)
@[simp] theorem State.setWord_cf (s : State) (a : Nat) (w : Word) : (s.setWord a w).cf = s.cf := (rfl)
@[simp] theorem State.setWord_nv (s : State) (a : Nat) (w : Word) : (s.setWord a w).nv = s.nv := (rfl)
@[simp] theorem State.setWord_pw (s : State) (a : Nat) (w : Word) : (s.setWord a w).pw = s.pw := (rfl)
@[simp] theorem State.setWord_ck (s : State) (a : Nat) (w : Word) : (s.setWord a w).ck = s.ck := (rfl)
@[simp] theorem State.setWord_tap (s : State) (a : Nat) (w : Word) : (s.setWord a w).tap = s.tap := (rfl)

/-! ### set -/

@[simp] theorem State.set_pending (s : State) (x : Fld) (v : Nat) : (s.set x v).pending = s.pending := (rfl)
@[simp] theorem State.set_part (s : State) (x : Fld) (v : Nat) : (s.set x v).part = s.part := (rfl)
@[simp] theorem State.set_powered (s : State) (x : Fld) (v : Nat) : (s.set x v).powered = s.powered := (rfl)
@[simp] theorem State.set_freeSeq (s : State) (x : Fld) (v : Nat) : (s.set x v).freeSeq = s.freeSeq := (rfl)
@[simp] theorem State.set_tb (s : State) (x : Fld) (v : Nat) : (s.set x v).tb = s.tb := (rfl)
@[simp] theorem State.set_time (s : State) (x : Fld) (v : Nat) : (s.set x v).time = s.time := (rfl)
@[simp] theorem State.set_tickNo (s : State) (x : Fld) (v : Nat) : (s.set x v).tickNo = s.tickNo := (rfl)
@[simp] theorem State.set_engOld (s : State) (x : Fld) (v : Nat) : (s.set x v).engOld = s.engOld := (rfl)
@[simp] theorem State.set_tk (s : State) (x : Fld) (v : Nat) : (s.set x v).tk = s.tk := (rfl)
@[simp] theorem State.set_flt (s : State) (x : Fld) (v : Nat) : (s.set x v).flt = s.flt := (rfl)
@[simp] theorem State.set_hbs (s : State) (x : Fld) (v : Nat) : (s.set x v).hbs = s.hbs := (rfl)
@[simp] theorem State.set_vdus (s : State) (x : Fld) (v : Nat) : (s.set x v).vdus = s.vdus := (rfl)
@[simp] theorem State.set_grps (s : State) (x : Fld) (v : Nat) : (s.set x v).grps = s.grps := (rfl)
@[simp] theorem State.set_aux (s : State) (x : Fld) (v : Nat) : (s.set x v).aux = s.aux := (rfl)
@[simp] theorem State.set_afe (s : State) (x : Fld) (v : Nat) : (s.set x v).afe = s.afe := (rfl)
@[simp] theorem State.set_axes (s : State) (x : Fld) (v : Nat) : (s.set x v).axes = s.axes := (rfl)
@[simp] theorem State.set_jan (s : State) (x : Fld) (v : Nat) : (s.set x v).jan = s.jan := (rfl)
@[simp] theorem State.set_rep (s : State) (x : Fld) (v : Nat) : (s.set x v).rep = s.rep := (rfl)
@[simp] theorem State.set_veh (s : State) (x : Fld) (v : Nat) : (s.set x v).veh = s.veh := (rfl)
@[simp] theorem State.set_ss (s : State) (x : Fld) (v : Nat) : (s.set x v).ss = s.ss := (rfl)
@[simp] theorem State.set_ln (s : State) (x : Fld) (v : Nat) : (s.set x v).ln = s.ln := (rfl)
@[simp] theorem State.set_mm (s : State) (x : Fld) (v : Nat) : (s.set x v).mm = s.mm := (rfl)
@[simp] theorem State.set_sit (s : State) (x : Fld) (v : Nat) : (s.set x v).sit = s.sit := (rfl)
@[simp] theorem State.set_sl (s : State) (x : Fld) (v : Nat) : (s.set x v).sl = s.sl := (rfl)
@[simp] theorem State.set_nt (s : State) (x : Fld) (v : Nat) : (s.set x v).nt = s.nt := (rfl)
@[simp] theorem State.set_cn (s : State) (x : Fld) (v : Nat) : (s.set x v).cn = s.cn := (rfl)
@[simp] theorem State.set_hold (s : State) (x : Fld) (v : Nat) : (s.set x v).hold = s.hold := (rfl)
@[simp] theorem State.set_hp (s : State) (x : Fld) (v : Nat) : (s.set x v).hp = s.hp := (rfl)
@[simp] theorem State.set_su (s : State) (x : Fld) (v : Nat) : (s.set x v).su = s.su := (rfl)
@[simp] theorem State.set_bist (s : State) (x : Fld) (v : Nat) : (s.set x v).bist = s.bist := (rfl)
@[simp] theorem State.set_cf (s : State) (x : Fld) (v : Nat) : (s.set x v).cf = s.cf := (rfl)
@[simp] theorem State.set_nv (s : State) (x : Fld) (v : Nat) : (s.set x v).nv = s.nv := (rfl)
@[simp] theorem State.set_pw (s : State) (x : Fld) (v : Nat) : (s.set x v).pw = s.pw := (rfl)
@[simp] theorem State.set_ck (s : State) (x : Fld) (v : Nat) : (s.set x v).ck = s.ck := (rfl)
@[simp] theorem State.set_tap (s : State) (x : Fld) (v : Nat) : (s.set x v).tap = s.tap := (rfl)

/-! ### raise -/

@[simp] theorem State.raise_pending (s : State) (src data : Nat) : (s.raise src data).pending = s.pending := (rfl)
@[simp] theorem State.raise_part (s : State) (src data : Nat) : (s.raise src data).part = s.part := (rfl)
@[simp] theorem State.raise_powered (s : State) (src data : Nat) : (s.raise src data).powered = s.powered := (rfl)
@[simp] theorem State.raise_freeSeq (s : State) (src data : Nat) : (s.raise src data).freeSeq = s.freeSeq := (rfl)
@[simp] theorem State.raise_tb (s : State) (src data : Nat) : (s.raise src data).tb = s.tb := (rfl)
@[simp] theorem State.raise_time (s : State) (src data : Nat) : (s.raise src data).time = s.time := (rfl)
@[simp] theorem State.raise_tickNo (s : State) (src data : Nat) : (s.raise src data).tickNo = s.tickNo := (rfl)
@[simp] theorem State.raise_regs (s : State) (src data : Nat) : (s.raise src data).regs = s.regs := (rfl)
@[simp] theorem State.raise_engOld (s : State) (src data : Nat) : (s.raise src data).engOld = s.engOld := (rfl)
@[simp] theorem State.raise_tk (s : State) (src data : Nat) : (s.raise src data).tk = s.tk := (rfl)
@[simp] theorem State.raise_hbs (s : State) (src data : Nat) : (s.raise src data).hbs = s.hbs := (rfl)
@[simp] theorem State.raise_vdus (s : State) (src data : Nat) : (s.raise src data).vdus = s.vdus := (rfl)
@[simp] theorem State.raise_grps (s : State) (src data : Nat) : (s.raise src data).grps = s.grps := (rfl)
@[simp] theorem State.raise_aux (s : State) (src data : Nat) : (s.raise src data).aux = s.aux := (rfl)
@[simp] theorem State.raise_afe (s : State) (src data : Nat) : (s.raise src data).afe = s.afe := (rfl)
@[simp] theorem State.raise_axes (s : State) (src data : Nat) : (s.raise src data).axes = s.axes := (rfl)
@[simp] theorem State.raise_jan (s : State) (src data : Nat) : (s.raise src data).jan = s.jan := (rfl)
@[simp] theorem State.raise_rep (s : State) (src data : Nat) : (s.raise src data).rep = s.rep := (rfl)
@[simp] theorem State.raise_veh (s : State) (src data : Nat) : (s.raise src data).veh = s.veh := (rfl)
@[simp] theorem State.raise_ss (s : State) (src data : Nat) : (s.raise src data).ss = s.ss := (rfl)
@[simp] theorem State.raise_ln (s : State) (src data : Nat) : (s.raise src data).ln = s.ln := (rfl)
@[simp] theorem State.raise_mm (s : State) (src data : Nat) : (s.raise src data).mm = s.mm := (rfl)
@[simp] theorem State.raise_sit (s : State) (src data : Nat) : (s.raise src data).sit = s.sit := (rfl)
@[simp] theorem State.raise_sl (s : State) (src data : Nat) : (s.raise src data).sl = s.sl := (rfl)
@[simp] theorem State.raise_nt (s : State) (src data : Nat) : (s.raise src data).nt = s.nt := (rfl)
@[simp] theorem State.raise_cn (s : State) (src data : Nat) : (s.raise src data).cn = s.cn := (rfl)
@[simp] theorem State.raise_hold (s : State) (src data : Nat) : (s.raise src data).hold = s.hold := (rfl)
@[simp] theorem State.raise_hp (s : State) (src data : Nat) : (s.raise src data).hp = s.hp := (rfl)
@[simp] theorem State.raise_su (s : State) (src data : Nat) : (s.raise src data).su = s.su := (rfl)
@[simp] theorem State.raise_bist (s : State) (src data : Nat) : (s.raise src data).bist = s.bist := (rfl)
@[simp] theorem State.raise_cf (s : State) (src data : Nat) : (s.raise src data).cf = s.cf := (rfl)
@[simp] theorem State.raise_nv (s : State) (src data : Nat) : (s.raise src data).nv = s.nv := (rfl)
@[simp] theorem State.raise_pw (s : State) (src data : Nat) : (s.raise src data).pw = s.pw := (rfl)
@[simp] theorem State.raise_ck (s : State) (src data : Nat) : (s.raise src data).ck = s.ck := (rfl)
@[simp] theorem State.raise_tap (s : State) (src data : Nat) : (s.raise src data).tap = s.tap := (rfl)

/-! ### raiseU -/

@[simp] theorem State.raiseU_pending (s : State) (src : Nat) : (s.raiseU src).pending = s.pending := (rfl)
@[simp] theorem State.raiseU_part (s : State) (src : Nat) : (s.raiseU src).part = s.part := (rfl)
@[simp] theorem State.raiseU_powered (s : State) (src : Nat) : (s.raiseU src).powered = s.powered := (rfl)
@[simp] theorem State.raiseU_tb (s : State) (src : Nat) : (s.raiseU src).tb = s.tb := (rfl)
@[simp] theorem State.raiseU_time (s : State) (src : Nat) : (s.raiseU src).time = s.time := (rfl)
@[simp] theorem State.raiseU_tickNo (s : State) (src : Nat) : (s.raiseU src).tickNo = s.tickNo := (rfl)
@[simp] theorem State.raiseU_regs (s : State) (src : Nat) : (s.raiseU src).regs = s.regs := (rfl)
@[simp] theorem State.raiseU_engOld (s : State) (src : Nat) : (s.raiseU src).engOld = s.engOld := (rfl)
@[simp] theorem State.raiseU_tk (s : State) (src : Nat) : (s.raiseU src).tk = s.tk := (rfl)
@[simp] theorem State.raiseU_hbs (s : State) (src : Nat) : (s.raiseU src).hbs = s.hbs := (rfl)
@[simp] theorem State.raiseU_vdus (s : State) (src : Nat) : (s.raiseU src).vdus = s.vdus := (rfl)
@[simp] theorem State.raiseU_grps (s : State) (src : Nat) : (s.raiseU src).grps = s.grps := (rfl)
@[simp] theorem State.raiseU_aux (s : State) (src : Nat) : (s.raiseU src).aux = s.aux := (rfl)
@[simp] theorem State.raiseU_afe (s : State) (src : Nat) : (s.raiseU src).afe = s.afe := (rfl)
@[simp] theorem State.raiseU_axes (s : State) (src : Nat) : (s.raiseU src).axes = s.axes := (rfl)
@[simp] theorem State.raiseU_jan (s : State) (src : Nat) : (s.raiseU src).jan = s.jan := (rfl)
@[simp] theorem State.raiseU_rep (s : State) (src : Nat) : (s.raiseU src).rep = s.rep := (rfl)
@[simp] theorem State.raiseU_veh (s : State) (src : Nat) : (s.raiseU src).veh = s.veh := (rfl)
@[simp] theorem State.raiseU_ss (s : State) (src : Nat) : (s.raiseU src).ss = s.ss := (rfl)
@[simp] theorem State.raiseU_ln (s : State) (src : Nat) : (s.raiseU src).ln = s.ln := (rfl)
@[simp] theorem State.raiseU_mm (s : State) (src : Nat) : (s.raiseU src).mm = s.mm := (rfl)
@[simp] theorem State.raiseU_sit (s : State) (src : Nat) : (s.raiseU src).sit = s.sit := (rfl)
@[simp] theorem State.raiseU_sl (s : State) (src : Nat) : (s.raiseU src).sl = s.sl := (rfl)
@[simp] theorem State.raiseU_nt (s : State) (src : Nat) : (s.raiseU src).nt = s.nt := (rfl)
@[simp] theorem State.raiseU_cn (s : State) (src : Nat) : (s.raiseU src).cn = s.cn := (rfl)
@[simp] theorem State.raiseU_hold (s : State) (src : Nat) : (s.raiseU src).hold = s.hold := (rfl)
@[simp] theorem State.raiseU_hp (s : State) (src : Nat) : (s.raiseU src).hp = s.hp := (rfl)
@[simp] theorem State.raiseU_su (s : State) (src : Nat) : (s.raiseU src).su = s.su := (rfl)
@[simp] theorem State.raiseU_bist (s : State) (src : Nat) : (s.raiseU src).bist = s.bist := (rfl)
@[simp] theorem State.raiseU_cf (s : State) (src : Nat) : (s.raiseU src).cf = s.cf := (rfl)
@[simp] theorem State.raiseU_nv (s : State) (src : Nat) : (s.raiseU src).nv = s.nv := (rfl)
@[simp] theorem State.raiseU_pw (s : State) (src : Nat) : (s.raiseU src).pw = s.pw := (rfl)
@[simp] theorem State.raiseU_ck (s : State) (src : Nat) : (s.raiseU src).ck = s.ck := (rfl)
@[simp] theorem State.raiseU_tap (s : State) (src : Nat) : (s.raiseU src).tap = s.tap := (rfl)

/-! ### raiseC -/

@[simp] theorem State.raiseC_pending (s : State) (src data cont : Nat) : (s.raiseC src data cont).pending = s.pending := (rfl)
@[simp] theorem State.raiseC_part (s : State) (src data cont : Nat) : (s.raiseC src data cont).part = s.part := (rfl)
@[simp] theorem State.raiseC_powered (s : State) (src data cont : Nat) : (s.raiseC src data cont).powered = s.powered := (rfl)
@[simp] theorem State.raiseC_freeSeq (s : State) (src data cont : Nat) : (s.raiseC src data cont).freeSeq = s.freeSeq := (rfl)
@[simp] theorem State.raiseC_tb (s : State) (src data cont : Nat) : (s.raiseC src data cont).tb = s.tb := (rfl)
@[simp] theorem State.raiseC_time (s : State) (src data cont : Nat) : (s.raiseC src data cont).time = s.time := (rfl)
@[simp] theorem State.raiseC_tickNo (s : State) (src data cont : Nat) : (s.raiseC src data cont).tickNo = s.tickNo := (rfl)
@[simp] theorem State.raiseC_regs (s : State) (src data cont : Nat) : (s.raiseC src data cont).regs = s.regs := (rfl)
@[simp] theorem State.raiseC_engOld (s : State) (src data cont : Nat) : (s.raiseC src data cont).engOld = s.engOld := (rfl)
@[simp] theorem State.raiseC_tk (s : State) (src data cont : Nat) : (s.raiseC src data cont).tk = s.tk := (rfl)
@[simp] theorem State.raiseC_hbs (s : State) (src data cont : Nat) : (s.raiseC src data cont).hbs = s.hbs := (rfl)
@[simp] theorem State.raiseC_vdus (s : State) (src data cont : Nat) : (s.raiseC src data cont).vdus = s.vdus := (rfl)
@[simp] theorem State.raiseC_grps (s : State) (src data cont : Nat) : (s.raiseC src data cont).grps = s.grps := (rfl)
@[simp] theorem State.raiseC_aux (s : State) (src data cont : Nat) : (s.raiseC src data cont).aux = s.aux := (rfl)
@[simp] theorem State.raiseC_afe (s : State) (src data cont : Nat) : (s.raiseC src data cont).afe = s.afe := (rfl)
@[simp] theorem State.raiseC_axes (s : State) (src data cont : Nat) : (s.raiseC src data cont).axes = s.axes := (rfl)
@[simp] theorem State.raiseC_jan (s : State) (src data cont : Nat) : (s.raiseC src data cont).jan = s.jan := (rfl)
@[simp] theorem State.raiseC_rep (s : State) (src data cont : Nat) : (s.raiseC src data cont).rep = s.rep := (rfl)
@[simp] theorem State.raiseC_veh (s : State) (src data cont : Nat) : (s.raiseC src data cont).veh = s.veh := (rfl)
@[simp] theorem State.raiseC_ss (s : State) (src data cont : Nat) : (s.raiseC src data cont).ss = s.ss := (rfl)
@[simp] theorem State.raiseC_ln (s : State) (src data cont : Nat) : (s.raiseC src data cont).ln = s.ln := (rfl)
@[simp] theorem State.raiseC_mm (s : State) (src data cont : Nat) : (s.raiseC src data cont).mm = s.mm := (rfl)
@[simp] theorem State.raiseC_sit (s : State) (src data cont : Nat) : (s.raiseC src data cont).sit = s.sit := (rfl)
@[simp] theorem State.raiseC_sl (s : State) (src data cont : Nat) : (s.raiseC src data cont).sl = s.sl := (rfl)
@[simp] theorem State.raiseC_nt (s : State) (src data cont : Nat) : (s.raiseC src data cont).nt = s.nt := (rfl)
@[simp] theorem State.raiseC_cn (s : State) (src data cont : Nat) : (s.raiseC src data cont).cn = s.cn := (rfl)
@[simp] theorem State.raiseC_hold (s : State) (src data cont : Nat) : (s.raiseC src data cont).hold = s.hold := (rfl)
@[simp] theorem State.raiseC_hp (s : State) (src data cont : Nat) : (s.raiseC src data cont).hp = s.hp := (rfl)
@[simp] theorem State.raiseC_su (s : State) (src data cont : Nat) : (s.raiseC src data cont).su = s.su := (rfl)
@[simp] theorem State.raiseC_bist (s : State) (src data cont : Nat) : (s.raiseC src data cont).bist = s.bist := (rfl)
@[simp] theorem State.raiseC_cf (s : State) (src data cont : Nat) : (s.raiseC src data cont).cf = s.cf := (rfl)
@[simp] theorem State.raiseC_nv (s : State) (src data cont : Nat) : (s.raiseC src data cont).nv = s.nv := (rfl)
@[simp] theorem State.raiseC_pw (s : State) (src data cont : Nat) : (s.raiseC src data cont).pw = s.pw := (rfl)
@[simp] theorem State.raiseC_ck (s : State) (src data cont : Nat) : (s.raiseC src data cont).ck = s.ck := (rfl)
@[simp] theorem State.raiseC_tap (s : State) (src data cont : Nat) : (s.raiseC src data cont).tap = s.tap := (rfl)

/-! ### raiseForced -/

@[simp] theorem State.raiseForced_pending (s : State) (src : Nat) : (s.raiseForced src).pending = s.pending := (rfl)
@[simp] theorem State.raiseForced_part (s : State) (src : Nat) : (s.raiseForced src).part = s.part := (rfl)
@[simp] theorem State.raiseForced_powered (s : State) (src : Nat) : (s.raiseForced src).powered = s.powered := (rfl)
@[simp] theorem State.raiseForced_freeSeq (s : State) (src : Nat) : (s.raiseForced src).freeSeq = s.freeSeq := (rfl)
@[simp] theorem State.raiseForced_tb (s : State) (src : Nat) : (s.raiseForced src).tb = s.tb := (rfl)
@[simp] theorem State.raiseForced_time (s : State) (src : Nat) : (s.raiseForced src).time = s.time := (rfl)
@[simp] theorem State.raiseForced_tickNo (s : State) (src : Nat) : (s.raiseForced src).tickNo = s.tickNo := (rfl)
@[simp] theorem State.raiseForced_regs (s : State) (src : Nat) : (s.raiseForced src).regs = s.regs := (rfl)
@[simp] theorem State.raiseForced_engOld (s : State) (src : Nat) : (s.raiseForced src).engOld = s.engOld := (rfl)
@[simp] theorem State.raiseForced_tk (s : State) (src : Nat) : (s.raiseForced src).tk = s.tk := (rfl)
@[simp] theorem State.raiseForced_hbs (s : State) (src : Nat) : (s.raiseForced src).hbs = s.hbs := (rfl)
@[simp] theorem State.raiseForced_vdus (s : State) (src : Nat) : (s.raiseForced src).vdus = s.vdus := (rfl)
@[simp] theorem State.raiseForced_grps (s : State) (src : Nat) : (s.raiseForced src).grps = s.grps := (rfl)
@[simp] theorem State.raiseForced_aux (s : State) (src : Nat) : (s.raiseForced src).aux = s.aux := (rfl)
@[simp] theorem State.raiseForced_afe (s : State) (src : Nat) : (s.raiseForced src).afe = s.afe := (rfl)
@[simp] theorem State.raiseForced_axes (s : State) (src : Nat) : (s.raiseForced src).axes = s.axes := (rfl)
@[simp] theorem State.raiseForced_jan (s : State) (src : Nat) : (s.raiseForced src).jan = s.jan := (rfl)
@[simp] theorem State.raiseForced_rep (s : State) (src : Nat) : (s.raiseForced src).rep = s.rep := (rfl)
@[simp] theorem State.raiseForced_veh (s : State) (src : Nat) : (s.raiseForced src).veh = s.veh := (rfl)
@[simp] theorem State.raiseForced_ss (s : State) (src : Nat) : (s.raiseForced src).ss = s.ss := (rfl)
@[simp] theorem State.raiseForced_ln (s : State) (src : Nat) : (s.raiseForced src).ln = s.ln := (rfl)
@[simp] theorem State.raiseForced_mm (s : State) (src : Nat) : (s.raiseForced src).mm = s.mm := (rfl)
@[simp] theorem State.raiseForced_sit (s : State) (src : Nat) : (s.raiseForced src).sit = s.sit := (rfl)
@[simp] theorem State.raiseForced_sl (s : State) (src : Nat) : (s.raiseForced src).sl = s.sl := (rfl)
@[simp] theorem State.raiseForced_nt (s : State) (src : Nat) : (s.raiseForced src).nt = s.nt := (rfl)
@[simp] theorem State.raiseForced_cn (s : State) (src : Nat) : (s.raiseForced src).cn = s.cn := (rfl)
@[simp] theorem State.raiseForced_hold (s : State) (src : Nat) : (s.raiseForced src).hold = s.hold := (rfl)
@[simp] theorem State.raiseForced_hp (s : State) (src : Nat) : (s.raiseForced src).hp = s.hp := (rfl)
@[simp] theorem State.raiseForced_su (s : State) (src : Nat) : (s.raiseForced src).su = s.su := (rfl)
@[simp] theorem State.raiseForced_bist (s : State) (src : Nat) : (s.raiseForced src).bist = s.bist := (rfl)
@[simp] theorem State.raiseForced_cf (s : State) (src : Nat) : (s.raiseForced src).cf = s.cf := (rfl)
@[simp] theorem State.raiseForced_nv (s : State) (src : Nat) : (s.raiseForced src).nv = s.nv := (rfl)
@[simp] theorem State.raiseForced_pw (s : State) (src : Nat) : (s.raiseForced src).pw = s.pw := (rfl)
@[simp] theorem State.raiseForced_ck (s : State) (src : Nat) : (s.raiseForced src).ck = s.ck := (rfl)
@[simp] theorem State.raiseForced_tap (s : State) (src : Nat) : (s.raiseForced src).tap = s.tap := (rfl)

/-! ### setHb -/

@[simp] theorem State.setHb_pending (s : State) (h : Nat) (v : HbSt) : (s.setHb h v).pending = s.pending := (rfl)
@[simp] theorem State.setHb_part (s : State) (h : Nat) (v : HbSt) : (s.setHb h v).part = s.part := (rfl)
@[simp] theorem State.setHb_powered (s : State) (h : Nat) (v : HbSt) : (s.setHb h v).powered = s.powered := (rfl)
@[simp] theorem State.setHb_freeSeq (s : State) (h : Nat) (v : HbSt) : (s.setHb h v).freeSeq = s.freeSeq := (rfl)
@[simp] theorem State.setHb_tb (s : State) (h : Nat) (v : HbSt) : (s.setHb h v).tb = s.tb := (rfl)
@[simp] theorem State.setHb_time (s : State) (h : Nat) (v : HbSt) : (s.setHb h v).time = s.time := (rfl)
@[simp] theorem State.setHb_tickNo (s : State) (h : Nat) (v : HbSt) : (s.setHb h v).tickNo = s.tickNo := (rfl)
@[simp] theorem State.setHb_regs (s : State) (h : Nat) (v : HbSt) : (s.setHb h v).regs = s.regs := (rfl)
@[simp] theorem State.setHb_engOld (s : State) (h : Nat) (v : HbSt) : (s.setHb h v).engOld = s.engOld := (rfl)
@[simp] theorem State.setHb_tk (s : State) (h : Nat) (v : HbSt) : (s.setHb h v).tk = s.tk := (rfl)
@[simp] theorem State.setHb_flt (s : State) (h : Nat) (v : HbSt) : (s.setHb h v).flt = s.flt := (rfl)
@[simp] theorem State.setHb_vdus (s : State) (h : Nat) (v : HbSt) : (s.setHb h v).vdus = s.vdus := (rfl)
@[simp] theorem State.setHb_grps (s : State) (h : Nat) (v : HbSt) : (s.setHb h v).grps = s.grps := (rfl)
@[simp] theorem State.setHb_aux (s : State) (h : Nat) (v : HbSt) : (s.setHb h v).aux = s.aux := (rfl)
@[simp] theorem State.setHb_afe (s : State) (h : Nat) (v : HbSt) : (s.setHb h v).afe = s.afe := (rfl)
@[simp] theorem State.setHb_axes (s : State) (h : Nat) (v : HbSt) : (s.setHb h v).axes = s.axes := (rfl)
@[simp] theorem State.setHb_jan (s : State) (h : Nat) (v : HbSt) : (s.setHb h v).jan = s.jan := (rfl)
@[simp] theorem State.setHb_rep (s : State) (h : Nat) (v : HbSt) : (s.setHb h v).rep = s.rep := (rfl)
@[simp] theorem State.setHb_veh (s : State) (h : Nat) (v : HbSt) : (s.setHb h v).veh = s.veh := (rfl)
@[simp] theorem State.setHb_ss (s : State) (h : Nat) (v : HbSt) : (s.setHb h v).ss = s.ss := (rfl)
@[simp] theorem State.setHb_ln (s : State) (h : Nat) (v : HbSt) : (s.setHb h v).ln = s.ln := (rfl)
@[simp] theorem State.setHb_mm (s : State) (h : Nat) (v : HbSt) : (s.setHb h v).mm = s.mm := (rfl)
@[simp] theorem State.setHb_sit (s : State) (h : Nat) (v : HbSt) : (s.setHb h v).sit = s.sit := (rfl)
@[simp] theorem State.setHb_sl (s : State) (h : Nat) (v : HbSt) : (s.setHb h v).sl = s.sl := (rfl)
@[simp] theorem State.setHb_nt (s : State) (h : Nat) (v : HbSt) : (s.setHb h v).nt = s.nt := (rfl)
@[simp] theorem State.setHb_cn (s : State) (h : Nat) (v : HbSt) : (s.setHb h v).cn = s.cn := (rfl)
@[simp] theorem State.setHb_hold (s : State) (h : Nat) (v : HbSt) : (s.setHb h v).hold = s.hold := (rfl)
@[simp] theorem State.setHb_hp (s : State) (h : Nat) (v : HbSt) : (s.setHb h v).hp = s.hp := (rfl)
@[simp] theorem State.setHb_su (s : State) (h : Nat) (v : HbSt) : (s.setHb h v).su = s.su := (rfl)
@[simp] theorem State.setHb_bist (s : State) (h : Nat) (v : HbSt) : (s.setHb h v).bist = s.bist := (rfl)
@[simp] theorem State.setHb_cf (s : State) (h : Nat) (v : HbSt) : (s.setHb h v).cf = s.cf := (rfl)
@[simp] theorem State.setHb_nv (s : State) (h : Nat) (v : HbSt) : (s.setHb h v).nv = s.nv := (rfl)
@[simp] theorem State.setHb_pw (s : State) (h : Nat) (v : HbSt) : (s.setHb h v).pw = s.pw := (rfl)
@[simp] theorem State.setHb_ck (s : State) (h : Nat) (v : HbSt) : (s.setHb h v).ck = s.ck := (rfl)
@[simp] theorem State.setHb_tap (s : State) (h : Nat) (v : HbSt) : (s.setHb h v).tap = s.tap := (rfl)

/-! ### setVdu -/

@[simp] theorem State.setVdu_pending (s : State) (u : Nat) (v : VduSt) : (s.setVdu u v).pending = s.pending := (rfl)
@[simp] theorem State.setVdu_part (s : State) (u : Nat) (v : VduSt) : (s.setVdu u v).part = s.part := (rfl)
@[simp] theorem State.setVdu_powered (s : State) (u : Nat) (v : VduSt) : (s.setVdu u v).powered = s.powered := (rfl)
@[simp] theorem State.setVdu_freeSeq (s : State) (u : Nat) (v : VduSt) : (s.setVdu u v).freeSeq = s.freeSeq := (rfl)
@[simp] theorem State.setVdu_tb (s : State) (u : Nat) (v : VduSt) : (s.setVdu u v).tb = s.tb := (rfl)
@[simp] theorem State.setVdu_time (s : State) (u : Nat) (v : VduSt) : (s.setVdu u v).time = s.time := (rfl)
@[simp] theorem State.setVdu_tickNo (s : State) (u : Nat) (v : VduSt) : (s.setVdu u v).tickNo = s.tickNo := (rfl)
@[simp] theorem State.setVdu_regs (s : State) (u : Nat) (v : VduSt) : (s.setVdu u v).regs = s.regs := (rfl)
@[simp] theorem State.setVdu_engOld (s : State) (u : Nat) (v : VduSt) : (s.setVdu u v).engOld = s.engOld := (rfl)
@[simp] theorem State.setVdu_tk (s : State) (u : Nat) (v : VduSt) : (s.setVdu u v).tk = s.tk := (rfl)
@[simp] theorem State.setVdu_flt (s : State) (u : Nat) (v : VduSt) : (s.setVdu u v).flt = s.flt := (rfl)
@[simp] theorem State.setVdu_hbs (s : State) (u : Nat) (v : VduSt) : (s.setVdu u v).hbs = s.hbs := (rfl)
@[simp] theorem State.setVdu_grps (s : State) (u : Nat) (v : VduSt) : (s.setVdu u v).grps = s.grps := (rfl)
@[simp] theorem State.setVdu_aux (s : State) (u : Nat) (v : VduSt) : (s.setVdu u v).aux = s.aux := (rfl)
@[simp] theorem State.setVdu_afe (s : State) (u : Nat) (v : VduSt) : (s.setVdu u v).afe = s.afe := (rfl)
@[simp] theorem State.setVdu_axes (s : State) (u : Nat) (v : VduSt) : (s.setVdu u v).axes = s.axes := (rfl)
@[simp] theorem State.setVdu_jan (s : State) (u : Nat) (v : VduSt) : (s.setVdu u v).jan = s.jan := (rfl)
@[simp] theorem State.setVdu_rep (s : State) (u : Nat) (v : VduSt) : (s.setVdu u v).rep = s.rep := (rfl)
@[simp] theorem State.setVdu_veh (s : State) (u : Nat) (v : VduSt) : (s.setVdu u v).veh = s.veh := (rfl)
@[simp] theorem State.setVdu_ss (s : State) (u : Nat) (v : VduSt) : (s.setVdu u v).ss = s.ss := (rfl)
@[simp] theorem State.setVdu_ln (s : State) (u : Nat) (v : VduSt) : (s.setVdu u v).ln = s.ln := (rfl)
@[simp] theorem State.setVdu_mm (s : State) (u : Nat) (v : VduSt) : (s.setVdu u v).mm = s.mm := (rfl)
@[simp] theorem State.setVdu_sit (s : State) (u : Nat) (v : VduSt) : (s.setVdu u v).sit = s.sit := (rfl)
@[simp] theorem State.setVdu_sl (s : State) (u : Nat) (v : VduSt) : (s.setVdu u v).sl = s.sl := (rfl)
@[simp] theorem State.setVdu_nt (s : State) (u : Nat) (v : VduSt) : (s.setVdu u v).nt = s.nt := (rfl)
@[simp] theorem State.setVdu_cn (s : State) (u : Nat) (v : VduSt) : (s.setVdu u v).cn = s.cn := (rfl)
@[simp] theorem State.setVdu_hold (s : State) (u : Nat) (v : VduSt) : (s.setVdu u v).hold = s.hold := (rfl)
@[simp] theorem State.setVdu_hp (s : State) (u : Nat) (v : VduSt) : (s.setVdu u v).hp = s.hp := (rfl)
@[simp] theorem State.setVdu_su (s : State) (u : Nat) (v : VduSt) : (s.setVdu u v).su = s.su := (rfl)
@[simp] theorem State.setVdu_bist (s : State) (u : Nat) (v : VduSt) : (s.setVdu u v).bist = s.bist := (rfl)
@[simp] theorem State.setVdu_cf (s : State) (u : Nat) (v : VduSt) : (s.setVdu u v).cf = s.cf := (rfl)
@[simp] theorem State.setVdu_nv (s : State) (u : Nat) (v : VduSt) : (s.setVdu u v).nv = s.nv := (rfl)
@[simp] theorem State.setVdu_pw (s : State) (u : Nat) (v : VduSt) : (s.setVdu u v).pw = s.pw := (rfl)
@[simp] theorem State.setVdu_ck (s : State) (u : Nat) (v : VduSt) : (s.setVdu u v).ck = s.ck := (rfl)
@[simp] theorem State.setVdu_tap (s : State) (u : Nat) (v : VduSt) : (s.setVdu u v).tap = s.tap := (rfl)

/-! ### setGrp -/

@[simp] theorem State.setGrp_pending (s : State) (g : Nat) (v : GroupSt) : (s.setGrp g v).pending = s.pending := (rfl)
@[simp] theorem State.setGrp_part (s : State) (g : Nat) (v : GroupSt) : (s.setGrp g v).part = s.part := (rfl)
@[simp] theorem State.setGrp_powered (s : State) (g : Nat) (v : GroupSt) : (s.setGrp g v).powered = s.powered := (rfl)
@[simp] theorem State.setGrp_freeSeq (s : State) (g : Nat) (v : GroupSt) : (s.setGrp g v).freeSeq = s.freeSeq := (rfl)
@[simp] theorem State.setGrp_tb (s : State) (g : Nat) (v : GroupSt) : (s.setGrp g v).tb = s.tb := (rfl)
@[simp] theorem State.setGrp_time (s : State) (g : Nat) (v : GroupSt) : (s.setGrp g v).time = s.time := (rfl)
@[simp] theorem State.setGrp_tickNo (s : State) (g : Nat) (v : GroupSt) : (s.setGrp g v).tickNo = s.tickNo := (rfl)
@[simp] theorem State.setGrp_regs (s : State) (g : Nat) (v : GroupSt) : (s.setGrp g v).regs = s.regs := (rfl)
@[simp] theorem State.setGrp_engOld (s : State) (g : Nat) (v : GroupSt) : (s.setGrp g v).engOld = s.engOld := (rfl)
@[simp] theorem State.setGrp_tk (s : State) (g : Nat) (v : GroupSt) : (s.setGrp g v).tk = s.tk := (rfl)
@[simp] theorem State.setGrp_flt (s : State) (g : Nat) (v : GroupSt) : (s.setGrp g v).flt = s.flt := (rfl)
@[simp] theorem State.setGrp_hbs (s : State) (g : Nat) (v : GroupSt) : (s.setGrp g v).hbs = s.hbs := (rfl)
@[simp] theorem State.setGrp_vdus (s : State) (g : Nat) (v : GroupSt) : (s.setGrp g v).vdus = s.vdus := (rfl)
@[simp] theorem State.setGrp_aux (s : State) (g : Nat) (v : GroupSt) : (s.setGrp g v).aux = s.aux := (rfl)
@[simp] theorem State.setGrp_afe (s : State) (g : Nat) (v : GroupSt) : (s.setGrp g v).afe = s.afe := (rfl)
@[simp] theorem State.setGrp_axes (s : State) (g : Nat) (v : GroupSt) : (s.setGrp g v).axes = s.axes := (rfl)
@[simp] theorem State.setGrp_jan (s : State) (g : Nat) (v : GroupSt) : (s.setGrp g v).jan = s.jan := (rfl)
@[simp] theorem State.setGrp_rep (s : State) (g : Nat) (v : GroupSt) : (s.setGrp g v).rep = s.rep := (rfl)
@[simp] theorem State.setGrp_veh (s : State) (g : Nat) (v : GroupSt) : (s.setGrp g v).veh = s.veh := (rfl)
@[simp] theorem State.setGrp_ss (s : State) (g : Nat) (v : GroupSt) : (s.setGrp g v).ss = s.ss := (rfl)
@[simp] theorem State.setGrp_ln (s : State) (g : Nat) (v : GroupSt) : (s.setGrp g v).ln = s.ln := (rfl)
@[simp] theorem State.setGrp_mm (s : State) (g : Nat) (v : GroupSt) : (s.setGrp g v).mm = s.mm := (rfl)
@[simp] theorem State.setGrp_sit (s : State) (g : Nat) (v : GroupSt) : (s.setGrp g v).sit = s.sit := (rfl)
@[simp] theorem State.setGrp_sl (s : State) (g : Nat) (v : GroupSt) : (s.setGrp g v).sl = s.sl := (rfl)
@[simp] theorem State.setGrp_nt (s : State) (g : Nat) (v : GroupSt) : (s.setGrp g v).nt = s.nt := (rfl)
@[simp] theorem State.setGrp_cn (s : State) (g : Nat) (v : GroupSt) : (s.setGrp g v).cn = s.cn := (rfl)
@[simp] theorem State.setGrp_hold (s : State) (g : Nat) (v : GroupSt) : (s.setGrp g v).hold = s.hold := (rfl)
@[simp] theorem State.setGrp_hp (s : State) (g : Nat) (v : GroupSt) : (s.setGrp g v).hp = s.hp := (rfl)
@[simp] theorem State.setGrp_su (s : State) (g : Nat) (v : GroupSt) : (s.setGrp g v).su = s.su := (rfl)
@[simp] theorem State.setGrp_bist (s : State) (g : Nat) (v : GroupSt) : (s.setGrp g v).bist = s.bist := (rfl)
@[simp] theorem State.setGrp_cf (s : State) (g : Nat) (v : GroupSt) : (s.setGrp g v).cf = s.cf := (rfl)
@[simp] theorem State.setGrp_nv (s : State) (g : Nat) (v : GroupSt) : (s.setGrp g v).nv = s.nv := (rfl)
@[simp] theorem State.setGrp_pw (s : State) (g : Nat) (v : GroupSt) : (s.setGrp g v).pw = s.pw := (rfl)
@[simp] theorem State.setGrp_ck (s : State) (g : Nat) (v : GroupSt) : (s.setGrp g v).ck = s.ck := (rfl)
@[simp] theorem State.setGrp_tap (s : State) (g : Nat) (v : GroupSt) : (s.setGrp g v).tap = s.tap := (rfl)

/-! ### setAxs -/

@[simp] theorem State.setAxs_pending (s : State) (n : Nat) (v : AxisSt) : (s.setAxs n v).pending = s.pending := (rfl)
@[simp] theorem State.setAxs_part (s : State) (n : Nat) (v : AxisSt) : (s.setAxs n v).part = s.part := (rfl)
@[simp] theorem State.setAxs_powered (s : State) (n : Nat) (v : AxisSt) : (s.setAxs n v).powered = s.powered := (rfl)
@[simp] theorem State.setAxs_freeSeq (s : State) (n : Nat) (v : AxisSt) : (s.setAxs n v).freeSeq = s.freeSeq := (rfl)
@[simp] theorem State.setAxs_tb (s : State) (n : Nat) (v : AxisSt) : (s.setAxs n v).tb = s.tb := (rfl)
@[simp] theorem State.setAxs_time (s : State) (n : Nat) (v : AxisSt) : (s.setAxs n v).time = s.time := (rfl)
@[simp] theorem State.setAxs_tickNo (s : State) (n : Nat) (v : AxisSt) : (s.setAxs n v).tickNo = s.tickNo := (rfl)
@[simp] theorem State.setAxs_regs (s : State) (n : Nat) (v : AxisSt) : (s.setAxs n v).regs = s.regs := (rfl)
@[simp] theorem State.setAxs_engOld (s : State) (n : Nat) (v : AxisSt) : (s.setAxs n v).engOld = s.engOld := (rfl)
@[simp] theorem State.setAxs_tk (s : State) (n : Nat) (v : AxisSt) : (s.setAxs n v).tk = s.tk := (rfl)
@[simp] theorem State.setAxs_flt (s : State) (n : Nat) (v : AxisSt) : (s.setAxs n v).flt = s.flt := (rfl)
@[simp] theorem State.setAxs_hbs (s : State) (n : Nat) (v : AxisSt) : (s.setAxs n v).hbs = s.hbs := (rfl)
@[simp] theorem State.setAxs_vdus (s : State) (n : Nat) (v : AxisSt) : (s.setAxs n v).vdus = s.vdus := (rfl)
@[simp] theorem State.setAxs_grps (s : State) (n : Nat) (v : AxisSt) : (s.setAxs n v).grps = s.grps := (rfl)
@[simp] theorem State.setAxs_aux (s : State) (n : Nat) (v : AxisSt) : (s.setAxs n v).aux = s.aux := (rfl)
@[simp] theorem State.setAxs_afe (s : State) (n : Nat) (v : AxisSt) : (s.setAxs n v).afe = s.afe := (rfl)
@[simp] theorem State.setAxs_jan (s : State) (n : Nat) (v : AxisSt) : (s.setAxs n v).jan = s.jan := (rfl)
@[simp] theorem State.setAxs_rep (s : State) (n : Nat) (v : AxisSt) : (s.setAxs n v).rep = s.rep := (rfl)
@[simp] theorem State.setAxs_veh (s : State) (n : Nat) (v : AxisSt) : (s.setAxs n v).veh = s.veh := (rfl)
@[simp] theorem State.setAxs_ss (s : State) (n : Nat) (v : AxisSt) : (s.setAxs n v).ss = s.ss := (rfl)
@[simp] theorem State.setAxs_ln (s : State) (n : Nat) (v : AxisSt) : (s.setAxs n v).ln = s.ln := (rfl)
@[simp] theorem State.setAxs_mm (s : State) (n : Nat) (v : AxisSt) : (s.setAxs n v).mm = s.mm := (rfl)
@[simp] theorem State.setAxs_sit (s : State) (n : Nat) (v : AxisSt) : (s.setAxs n v).sit = s.sit := (rfl)
@[simp] theorem State.setAxs_sl (s : State) (n : Nat) (v : AxisSt) : (s.setAxs n v).sl = s.sl := (rfl)
@[simp] theorem State.setAxs_nt (s : State) (n : Nat) (v : AxisSt) : (s.setAxs n v).nt = s.nt := (rfl)
@[simp] theorem State.setAxs_cn (s : State) (n : Nat) (v : AxisSt) : (s.setAxs n v).cn = s.cn := (rfl)
@[simp] theorem State.setAxs_hold (s : State) (n : Nat) (v : AxisSt) : (s.setAxs n v).hold = s.hold := (rfl)
@[simp] theorem State.setAxs_hp (s : State) (n : Nat) (v : AxisSt) : (s.setAxs n v).hp = s.hp := (rfl)
@[simp] theorem State.setAxs_su (s : State) (n : Nat) (v : AxisSt) : (s.setAxs n v).su = s.su := (rfl)
@[simp] theorem State.setAxs_bist (s : State) (n : Nat) (v : AxisSt) : (s.setAxs n v).bist = s.bist := (rfl)
@[simp] theorem State.setAxs_cf (s : State) (n : Nat) (v : AxisSt) : (s.setAxs n v).cf = s.cf := (rfl)
@[simp] theorem State.setAxs_nv (s : State) (n : Nat) (v : AxisSt) : (s.setAxs n v).nv = s.nv := (rfl)
@[simp] theorem State.setAxs_pw (s : State) (n : Nat) (v : AxisSt) : (s.setAxs n v).pw = s.pw := (rfl)
@[simp] theorem State.setAxs_ck (s : State) (n : Nat) (v : AxisSt) : (s.setAxs n v).ck = s.ck := (rfl)
@[simp] theorem State.setAxs_tap (s : State) (n : Nat) (v : AxisSt) : (s.setAxs n v).tap = s.tap := (rfl)

/-! ### setInp -/

@[simp] theorem State.setInp_pending (s : State) (k : Nat) (v : InpSt) : (s.setInp k v).pending = s.pending := (rfl)
@[simp] theorem State.setInp_part (s : State) (k : Nat) (v : InpSt) : (s.setInp k v).part = s.part := (rfl)
@[simp] theorem State.setInp_powered (s : State) (k : Nat) (v : InpSt) : (s.setInp k v).powered = s.powered := (rfl)
@[simp] theorem State.setInp_freeSeq (s : State) (k : Nat) (v : InpSt) : (s.setInp k v).freeSeq = s.freeSeq := (rfl)
@[simp] theorem State.setInp_tb (s : State) (k : Nat) (v : InpSt) : (s.setInp k v).tb = s.tb := (rfl)
@[simp] theorem State.setInp_time (s : State) (k : Nat) (v : InpSt) : (s.setInp k v).time = s.time := (rfl)
@[simp] theorem State.setInp_tickNo (s : State) (k : Nat) (v : InpSt) : (s.setInp k v).tickNo = s.tickNo := (rfl)
@[simp] theorem State.setInp_regs (s : State) (k : Nat) (v : InpSt) : (s.setInp k v).regs = s.regs := (rfl)
@[simp] theorem State.setInp_engOld (s : State) (k : Nat) (v : InpSt) : (s.setInp k v).engOld = s.engOld := (rfl)
@[simp] theorem State.setInp_tk (s : State) (k : Nat) (v : InpSt) : (s.setInp k v).tk = s.tk := (rfl)
@[simp] theorem State.setInp_flt (s : State) (k : Nat) (v : InpSt) : (s.setInp k v).flt = s.flt := (rfl)
@[simp] theorem State.setInp_hbs (s : State) (k : Nat) (v : InpSt) : (s.setInp k v).hbs = s.hbs := (rfl)
@[simp] theorem State.setInp_vdus (s : State) (k : Nat) (v : InpSt) : (s.setInp k v).vdus = s.vdus := (rfl)
@[simp] theorem State.setInp_grps (s : State) (k : Nat) (v : InpSt) : (s.setInp k v).grps = s.grps := (rfl)
@[simp] theorem State.setInp_aux (s : State) (k : Nat) (v : InpSt) : (s.setInp k v).aux = s.aux := (rfl)
@[simp] theorem State.setInp_axes (s : State) (k : Nat) (v : InpSt) : (s.setInp k v).axes = s.axes := (rfl)
@[simp] theorem State.setInp_jan (s : State) (k : Nat) (v : InpSt) : (s.setInp k v).jan = s.jan := (rfl)
@[simp] theorem State.setInp_rep (s : State) (k : Nat) (v : InpSt) : (s.setInp k v).rep = s.rep := (rfl)
@[simp] theorem State.setInp_veh (s : State) (k : Nat) (v : InpSt) : (s.setInp k v).veh = s.veh := (rfl)
@[simp] theorem State.setInp_ss (s : State) (k : Nat) (v : InpSt) : (s.setInp k v).ss = s.ss := (rfl)
@[simp] theorem State.setInp_ln (s : State) (k : Nat) (v : InpSt) : (s.setInp k v).ln = s.ln := (rfl)
@[simp] theorem State.setInp_mm (s : State) (k : Nat) (v : InpSt) : (s.setInp k v).mm = s.mm := (rfl)
@[simp] theorem State.setInp_sit (s : State) (k : Nat) (v : InpSt) : (s.setInp k v).sit = s.sit := (rfl)
@[simp] theorem State.setInp_sl (s : State) (k : Nat) (v : InpSt) : (s.setInp k v).sl = s.sl := (rfl)
@[simp] theorem State.setInp_nt (s : State) (k : Nat) (v : InpSt) : (s.setInp k v).nt = s.nt := (rfl)
@[simp] theorem State.setInp_cn (s : State) (k : Nat) (v : InpSt) : (s.setInp k v).cn = s.cn := (rfl)
@[simp] theorem State.setInp_hold (s : State) (k : Nat) (v : InpSt) : (s.setInp k v).hold = s.hold := (rfl)
@[simp] theorem State.setInp_hp (s : State) (k : Nat) (v : InpSt) : (s.setInp k v).hp = s.hp := (rfl)
@[simp] theorem State.setInp_su (s : State) (k : Nat) (v : InpSt) : (s.setInp k v).su = s.su := (rfl)
@[simp] theorem State.setInp_bist (s : State) (k : Nat) (v : InpSt) : (s.setInp k v).bist = s.bist := (rfl)
@[simp] theorem State.setInp_cf (s : State) (k : Nat) (v : InpSt) : (s.setInp k v).cf = s.cf := (rfl)
@[simp] theorem State.setInp_nv (s : State) (k : Nat) (v : InpSt) : (s.setInp k v).nv = s.nv := (rfl)
@[simp] theorem State.setInp_pw (s : State) (k : Nat) (v : InpSt) : (s.setInp k v).pw = s.pw := (rfl)
@[simp] theorem State.setInp_ck (s : State) (k : Nat) (v : InpSt) : (s.setInp k v).ck = s.ck := (rfl)
@[simp] theorem State.setInp_tap (s : State) (k : Nat) (v : InpSt) : (s.setInp k v).tap = s.tap := (rfl)

/-! ### setCls -/

@[simp] theorem State.setCls_pending (s : State) (k : Nat) (v : Cls) : (s.setCls k v).pending = s.pending := (rfl)
@[simp] theorem State.setCls_part (s : State) (k : Nat) (v : Cls) : (s.setCls k v).part = s.part := (rfl)
@[simp] theorem State.setCls_powered (s : State) (k : Nat) (v : Cls) : (s.setCls k v).powered = s.powered := (rfl)
@[simp] theorem State.setCls_freeSeq (s : State) (k : Nat) (v : Cls) : (s.setCls k v).freeSeq = s.freeSeq := (rfl)
@[simp] theorem State.setCls_tb (s : State) (k : Nat) (v : Cls) : (s.setCls k v).tb = s.tb := (rfl)
@[simp] theorem State.setCls_time (s : State) (k : Nat) (v : Cls) : (s.setCls k v).time = s.time := (rfl)
@[simp] theorem State.setCls_tickNo (s : State) (k : Nat) (v : Cls) : (s.setCls k v).tickNo = s.tickNo := (rfl)
@[simp] theorem State.setCls_regs (s : State) (k : Nat) (v : Cls) : (s.setCls k v).regs = s.regs := (rfl)
@[simp] theorem State.setCls_engOld (s : State) (k : Nat) (v : Cls) : (s.setCls k v).engOld = s.engOld := (rfl)
@[simp] theorem State.setCls_tk (s : State) (k : Nat) (v : Cls) : (s.setCls k v).tk = s.tk := (rfl)
@[simp] theorem State.setCls_hbs (s : State) (k : Nat) (v : Cls) : (s.setCls k v).hbs = s.hbs := (rfl)
@[simp] theorem State.setCls_vdus (s : State) (k : Nat) (v : Cls) : (s.setCls k v).vdus = s.vdus := (rfl)
@[simp] theorem State.setCls_grps (s : State) (k : Nat) (v : Cls) : (s.setCls k v).grps = s.grps := (rfl)
@[simp] theorem State.setCls_aux (s : State) (k : Nat) (v : Cls) : (s.setCls k v).aux = s.aux := (rfl)
@[simp] theorem State.setCls_afe (s : State) (k : Nat) (v : Cls) : (s.setCls k v).afe = s.afe := (rfl)
@[simp] theorem State.setCls_axes (s : State) (k : Nat) (v : Cls) : (s.setCls k v).axes = s.axes := (rfl)
@[simp] theorem State.setCls_jan (s : State) (k : Nat) (v : Cls) : (s.setCls k v).jan = s.jan := (rfl)
@[simp] theorem State.setCls_rep (s : State) (k : Nat) (v : Cls) : (s.setCls k v).rep = s.rep := (rfl)
@[simp] theorem State.setCls_veh (s : State) (k : Nat) (v : Cls) : (s.setCls k v).veh = s.veh := (rfl)
@[simp] theorem State.setCls_ss (s : State) (k : Nat) (v : Cls) : (s.setCls k v).ss = s.ss := (rfl)
@[simp] theorem State.setCls_ln (s : State) (k : Nat) (v : Cls) : (s.setCls k v).ln = s.ln := (rfl)
@[simp] theorem State.setCls_mm (s : State) (k : Nat) (v : Cls) : (s.setCls k v).mm = s.mm := (rfl)
@[simp] theorem State.setCls_sit (s : State) (k : Nat) (v : Cls) : (s.setCls k v).sit = s.sit := (rfl)
@[simp] theorem State.setCls_sl (s : State) (k : Nat) (v : Cls) : (s.setCls k v).sl = s.sl := (rfl)
@[simp] theorem State.setCls_nt (s : State) (k : Nat) (v : Cls) : (s.setCls k v).nt = s.nt := (rfl)
@[simp] theorem State.setCls_cn (s : State) (k : Nat) (v : Cls) : (s.setCls k v).cn = s.cn := (rfl)
@[simp] theorem State.setCls_hold (s : State) (k : Nat) (v : Cls) : (s.setCls k v).hold = s.hold := (rfl)
@[simp] theorem State.setCls_hp (s : State) (k : Nat) (v : Cls) : (s.setCls k v).hp = s.hp := (rfl)
@[simp] theorem State.setCls_su (s : State) (k : Nat) (v : Cls) : (s.setCls k v).su = s.su := (rfl)
@[simp] theorem State.setCls_bist (s : State) (k : Nat) (v : Cls) : (s.setCls k v).bist = s.bist := (rfl)
@[simp] theorem State.setCls_cf (s : State) (k : Nat) (v : Cls) : (s.setCls k v).cf = s.cf := (rfl)
@[simp] theorem State.setCls_nv (s : State) (k : Nat) (v : Cls) : (s.setCls k v).nv = s.nv := (rfl)
@[simp] theorem State.setCls_pw (s : State) (k : Nat) (v : Cls) : (s.setCls k v).pw = s.pw := (rfl)
@[simp] theorem State.setCls_ck (s : State) (k : Nat) (v : Cls) : (s.setCls k v).ck = s.ck := (rfl)
@[simp] theorem State.setCls_tap (s : State) (k : Nat) (v : Cls) : (s.setCls k v).tap = s.tap := (rfl)

/-! ### framed -/

@[simp] theorem framed_pending (s t : State) : (framed s t).pending = s.pending := (rfl)
@[simp] theorem framed_part (s t : State) : (framed s t).part = s.part := (rfl)
@[simp] theorem framed_powered (s t : State) : (framed s t).powered = s.powered := (rfl)
@[simp] theorem framed_freeSeq (s t : State) : (framed s t).freeSeq = t.freeSeq := (rfl)
@[simp] theorem framed_tb (s t : State) : (framed s t).tb = t.tb := (rfl)
@[simp] theorem framed_time (s t : State) : (framed s t).time = t.time := (rfl)
@[simp] theorem framed_tickNo (s t : State) : (framed s t).tickNo = t.tickNo := (rfl)
@[simp] theorem framed_regs (s t : State) : (framed s t).regs = t.regs := (rfl)
@[simp] theorem framed_engOld (s t : State) : (framed s t).engOld = t.engOld := (rfl)
@[simp] theorem framed_tk (s t : State) : (framed s t).tk = t.tk := (rfl)
@[simp] theorem framed_flt (s t : State) : (framed s t).flt = t.flt := (rfl)
@[simp] theorem framed_hbs (s t : State) : (framed s t).hbs = t.hbs := (rfl)
@[simp] theorem framed_vdus (s t : State) : (framed s t).vdus = t.vdus := (rfl)
@[simp] theorem framed_grps (s t : State) : (framed s t).grps = t.grps := (rfl)
@[simp] theorem framed_aux (s t : State) : (framed s t).aux = t.aux := (rfl)
@[simp] theorem framed_afe (s t : State) : (framed s t).afe = t.afe := (rfl)
@[simp] theorem framed_axes (s t : State) : (framed s t).axes = t.axes := (rfl)
@[simp] theorem framed_jan (s t : State) : (framed s t).jan = t.jan := (rfl)
@[simp] theorem framed_rep (s t : State) : (framed s t).rep = t.rep := (rfl)
@[simp] theorem framed_veh (s t : State) : (framed s t).veh = t.veh := (rfl)
@[simp] theorem framed_ss (s t : State) : (framed s t).ss = t.ss := (rfl)
@[simp] theorem framed_ln (s t : State) : (framed s t).ln = t.ln := (rfl)
@[simp] theorem framed_mm (s t : State) : (framed s t).mm = t.mm := (rfl)
@[simp] theorem framed_sit (s t : State) : (framed s t).sit = t.sit := (rfl)
@[simp] theorem framed_sl (s t : State) : (framed s t).sl = t.sl := (rfl)
@[simp] theorem framed_nt (s t : State) : (framed s t).nt = t.nt := (rfl)
@[simp] theorem framed_cn (s t : State) : (framed s t).cn = t.cn := (rfl)
@[simp] theorem framed_hold (s t : State) : (framed s t).hold = t.hold := (rfl)
@[simp] theorem framed_hp (s t : State) : (framed s t).hp = t.hp := (rfl)
@[simp] theorem framed_su (s t : State) : (framed s t).su = t.su := (rfl)
@[simp] theorem framed_bist (s t : State) : (framed s t).bist = t.bist := (rfl)
@[simp] theorem framed_cf (s t : State) : (framed s t).cf = t.cf := (rfl)
@[simp] theorem framed_nv (s t : State) : (framed s t).nv = t.nv := (rfl)
@[simp] theorem framed_pw (s t : State) : (framed s t).pw = t.pw := (rfl)
@[simp] theorem framed_ck (s t : State) : (framed s t).ck = t.ck := (rfl)
@[simp] theorem framed_tap (s t : State) : (framed s t).tap = t.tap := (rfl)

/-! ### Field writes in one spelling -/

theorem State.setB_eq (s : State) (x : Fld) (b : Bool) : s.setB x b = s.set x (b2n b) := (rfl)
theorem State.setI_eq (s : State) (x : Fld) (v : Int) : s.setI x v = s.set x (ofSigned x.width v) := (rfl)
theorem State.setBit_eq (s : State) (x : Fld) (k : Nat) (b : Bool) : s.setBit x k b = s.set x (withBit (s.f x) k b) := (rfl)
theorem State.inc_eq (s : State) (x : Fld) : s.inc x = s.set x (satU x.width (s.f x + 1)) := (rfl)
theorem State.addSat_eq (s : State) (x : Fld) (n : Nat) : s.addSat x n = s.set x (satU x.width (s.f x + n)) := (rfl)
theorem State.incWrap_eq (s : State) (x : Fld) : s.incWrap x = s.set x ((s.f x + 1) % 2 ^ x.width) := (rfl)

/-! ### Words and fields after a write -/

@[simp] theorem State.word_setWord_same (s : State) (a : Nat) (w : Word) : (s.setWord a w).word a = w :=
  smGet_smPut_same porWord s.regs a w

theorem State.word_setWord_ne (s : State) (a b : Nat) (w : Word) (h : b ≠ a) : (s.setWord a w).word b = s.word b :=
  smGet_smPut_ne porWord s.regs a b w h

theorem State.word_set_ne (s : State) (x : Fld) (v b : Nat) (h : b ≠ x.addr) : (s.set x v).word b = s.word b :=
  State.word_setWord_ne s _ b _ h

/-- The state's registers decide its words. -/
theorem State.word_congr {s t : State} (h : s.regs = t.regs) (a : Nat) : s.word a = t.word a := by
  unfold State.word; rw [h]

theorem State.f_congr {s t : State} (h : s.regs = t.regs) (x : Fld) : s.f x = t.f x := by
  unfold State.f; rw [State.word_congr h]

/-- A written field reads the value written, in its width. -/
theorem State.f_set_same (s : State) (x : Fld) (v : Nat) (h : x.lo + x.width ≤ 32) : (s.set x v).f x = v % 2 ^ x.width := by
  simp only [State.f, State.set, State.word_setWord_same]
  exact fieldGet_fieldSet_same _ _ _ _ h

/-- A field of another register is unchanged. -/
theorem State.f_set_ne (s : State) (x y : Fld) (v : Nat) (h : y.addr ≠ x.addr) : (s.set x v).f y = s.f y := by
  simp only [State.f, State.word_set_ne s x v y.addr h]

/-- Another field of the same register is unchanged. -/
theorem State.f_set_beside (s : State) (x y : Fld) (v : Nat) (ha : y.addr = x.addr)
    (h : x.lo + x.width ≤ y.lo ∨ y.lo + y.width ≤ x.lo) : (s.set x v).f y = s.f y := by
  simp only [State.f, State.set, ha, State.word_setWord_same]
  exact fieldGet_fieldSet_ne _ _ _ _ _ _ h

/-- A register write keeps the table's canonical form. -/
theorem State.setWord_wf (s : State) (a : Nat) (w : Word) (h : smWf porWord s.regs = true) :
    smWf porWord (s.setWord a w).regs = true := smWf_smPut porWord s.regs a w h

/-- So does a field write. -/
theorem State.set_wf (s : State) (x : Fld) (v : Nat) (h : smWf porWord s.regs = true) :
    smWf porWord (s.set x v).regs = true := s.setWord_wf _ _ h

/-! ### The domains -/

theorem State.runIn_on (s : State) (d : Nat) (f : State → State) (h : s.dom d = true) :
    s.runIn d f = .next (framed s (f s)) := by simp [State.runIn, h]

theorem State.runIn_off (s : State) (d : Nat) (f : State → State) (h : s.dom d = false) : s.runIn d f = .next s := by
  simp [State.runIn, h]

theorem State.runIf_on (s : State) (d : Nat) (b : Bool) (f : State → State) (h : s.dom d = true) (hb : b = true) :
    s.runIf d b f = .next (framed s (f s)) := by simp [State.runIf, h, hb]

theorem State.runIf_off (s : State) (d : Nat) (b : Bool) (f : State → State) (h : s.dom d = false) : s.runIf d b f = .next s := by
  simp [State.runIf, h]

theorem State.runIf_not (s : State) (d : Nat) (f : State → State) : s.runIf d false f = .next s := by
  simp [State.runIf]

/-- What a shared run can do: it always answers, with the queue, the part and the supply as before. -/
theorem State.runIn_next (s : State) (d : Nat) (f : State → State) :
    ∃ t, s.runIn d f = .next t ∧ t.pending = s.pending ∧ t.part = s.part ∧ t.powered = s.powered := by
  unfold State.runIn; split <;> exact ⟨_, rfl, rfl, rfl, rfl⟩

theorem State.runIf_next (s : State) (d : Nat) (b : Bool) (f : State → State) :
    ∃ t, s.runIf d b f = .next t ∧ t.pending = s.pending ∧ t.part = s.part ∧ t.powered = s.powered := by
  unfold State.runIf; split <;> exact ⟨_, rfl, rfl, rfl, rfl⟩

end Sys2Proof.Machine
end

