-- ==== Sys2Proof/Laws/Exec.lean ====
section
/-!
SUPPORT. What any command can do: but for the three of the supply it runs in its domain, or changes nothing.
-/
namespace Sys2Proof.Machine

theorem State.runIn_eq_runIf (s : State) (d : Nat) (f : State → State) : s.runIn d f = s.runIf d true f := by
  simp [State.runIn, State.runIf]

/-- A command with a domain runs in it under some condition. -/
theorem exec_shape (c : Instr) (d : Nat) (s : State) (h : c.domain = some d) : ∃ b f, exec c s = s.runIf d b f := by
  cases c <;> simp only [Instr.domain, reduceCtorEq, Option.some.injEq] at h <;> subst h
  case lrstN => unfold exec execLrstN; exact ⟨true, _, s.runIn_eq_runIf _ _⟩
  case lrstCmd => unfold exec execLrstCmd; exact ⟨true, _, s.runIn_eq_runIf _ _⟩
  case lrst => unfold exec execLrst; exact ⟨true, _, s.runIn_eq_runIf _ _⟩
  case softRst => unfold exec execSoftRst; exact ⟨true, _, s.runIn_eq_runIf _ _⟩
  case softRstEnd => unfold exec execSoftRstEnd; exact ⟨true, _, s.runIn_eq_runIf _ _⟩
  case presentNDeassert => unfold exec execPresentNDeassert; exact ⟨true, _, s.runIn_eq_runIf _ _⟩
  case presentNReassert => unfold exec execPresentNReassert; exact ⟨true, _, s.runIn_eq_runIf _ _⟩
  case tapInstruction => unfold exec execTapInstruction; exact ⟨true, _, s.runIn_eq_runIf _ _⟩
  case testLogicReset => unfold exec execTestLogicReset; exact ⟨true, _, s.runIn_eq_runIf _ _⟩
  case tick => exact ⟨_, _, rfl⟩
  case serviceModeEntry => unfold exec execServiceModeEntry; exact ⟨true, _, s.runIn_eq_runIf _ _⟩
  case ssiBurst => exact ⟨_, _, rfl⟩
  case inputFreezeEnd => exact ⟨_, _, rfl⟩
  case senseLost => exact ⟨_, _, rfl⟩
  case plainPass => exact ⟨_, _, rfl⟩
  case janusPass => exact ⟨_, _, rfl⟩
  case compareAndExchange => unfold exec execCompareAndExchange; exact ⟨true, _, s.runIn_eq_runIf _ _⟩
  case arbitrationReserve => exact ⟨_, _, rfl⟩
  case rerunComplete => exact ⟨_, _, rfl⟩
  case sliceTestComplete => exact ⟨_, _, rfl⟩
  case voteAndCommit => exact ⟨_, _, rfl⟩
  case lnTakeback => exact ⟨_, _, rfl⟩
  case fbXchk => exact ⟨_, _, rfl⟩
  case fbFreeze => exact ⟨_, _, rfl⟩
  case chRange => exact ⟨_, _, rfl⟩
  case selfTestSlice => exact ⟨_, _, rfl⟩
  case bistStep => exact ⟨_, _, rfl⟩
  case bistStall => unfold exec execBistStall; exact ⟨true, _, s.runIn_eq_runIf _ _⟩
  case guardWindow => unfold exec execGuardWindow; exact ⟨true, _, s.runIn_eq_runIf _ _⟩
  case marchTestComplete => exact ⟨_, _, rfl⟩
  case axisCoastLost => unfold exec execAxisCoastLost; exact ⟨true, _, s.runIn_eq_runIf _ _⟩
  case axisShutdownTimeout => unfold exec execAxisShutdownTimeout; exact ⟨true, _, s.runIn_eq_runIf _ _⟩
  case resExcitationFault => exact ⟨_, _, rfl⟩
  case wsOpen => unfold exec execWsOpen; exact ⟨true, _, s.runIn_eq_runIf _ _⟩
  case wsShort => unfold exec execWsShort; exact ⟨true, _, s.runIn_eq_runIf _ _⟩
  case wsEdge => unfold exec execWsEdge; exact ⟨true, _, s.runIn_eq_runIf _ _⟩
  case windowStateChange => unfold exec execWindowStateChange; exact ⟨true, _, s.runIn_eq_runIf _ _⟩
  case minPulseExpiry => unfold exec execMinPulseExpiry; exact ⟨true, _, s.runIn_eq_runIf _ _⟩
  case heldOff => unfold exec execHeldOff; exact ⟨true, _, s.runIn_eq_runIf _ _⟩
  case refreshRequest => unfold exec execRefreshRequest; exact ⟨true, _, s.runIn_eq_runIf _ _⟩
  case refreshEnd => unfold exec execRefreshEnd; exact ⟨true, _, s.runIn_eq_runIf _ _⟩
  case shootThroughLockout => unfold exec execShootThroughLockout; exact ⟨true, _, s.runIn_eq_runIf _ _⟩
  case deadTimeExpiry => unfold exec execDeadTimeExpiry; exact ⟨true, _, s.runIn_eq_runIf _ _⟩
  case edgeMeasured => unfold exec execEdgeMeasured; exact ⟨true, _, s.runIn_eq_runIf _ _⟩
  case bootUv => unfold exec execBootUv; exact ⟨true, _, s.runIn_eq_runIf _ _⟩
  case bootUvEnd => unfold exec execBootUvEnd; exact ⟨true, _, s.runIn_eq_runIf _ _⟩
  case prechargeEnd => unfold exec execPrechargeEnd; exact ⟨true, _, s.runIn_eq_runIf _ _⟩
  case groupShutdownTimeout => unfold exec execGroupShutdownTimeout; exact ⟨true, _, s.runIn_eq_runIf _ _⟩
  case gdEnFall => unfold exec execGdEnFall; exact ⟨true, _, s.runIn_eq_runIf _ _⟩
  case gdEnRise => unfold exec execGdEnRise; exact ⟨true, _, s.runIn_eq_runIf _ _⟩
  case offdiagRunStart => unfold exec execOffdiagRunStart; exact ⟨true, _, s.runIn_eq_runIf _ _⟩
  case offdiagRunEnd => unfold exec execOffdiagRunEnd; exact ⟨true, _, s.runIn_eq_runIf _ _⟩
  case desatBlankingEnd => unfold exec execDesatBlankingEnd; exact ⟨true, _, s.runIn_eq_runIf _ _⟩
  case desaturation => unfold exec execDesaturation; exact ⟨true, _, s.runIn_eq_runIf _ _⟩
  case desat2lEnd => unfold exec execDesat2lEnd; exact ⟨true, _, s.runIn_eq_runIf _ _⟩
  case desatGateLow => unfold exec execDesatGateLow; exact ⟨true, _, s.runIn_eq_runIf _ _⟩
  case chopOnComparator => unfold exec execChopOnComparator; exact ⟨true, _, s.runIn_eq_runIf _ _⟩
  case chopOffComparator => unfold exec execChopOffComparator; exact ⟨true, _, s.runIn_eq_runIf _ _⟩
  case chopLong => unfold exec execChopLong; exact ⟨true, _, s.runIn_eq_runIf _ _⟩
  case busHov => unfold exec execBusHov; exact ⟨true, _, s.runIn_eq_runIf _ _⟩
  case busUv => unfold exec execBusUv; exact ⟨true, _, s.runIn_eq_runIf _ _⟩
  case gsupUv => unfold exec execGsupUv; exact ⟨true, _, s.runIn_eq_runIf _ _⟩
  case gsupOv => unfold exec execGsupOv; exact ⟨true, _, s.runIn_eq_runIf _ _⟩
  case gsupReturn => unfold exec execGsupReturn; exact ⟨true, _, s.runIn_eq_runIf _ _⟩
  case supLatchRead => unfold exec execSupLatchRead; exact ⟨true, _, s.runIn_eq_runIf _ _⟩
  case auxFltAssert => unfold exec execAuxFltAssert; exact ⟨true, _, s.runIn_eq_runIf _ _⟩
  case auxRb => unfold exec execAuxRb; exact ⟨true, _, s.runIn_eq_runIf _ _⟩
  case tqoffRb => unfold exec execTqoffRb; exact ⟨true, _, s.runIn_eq_runIf _ _⟩
  case parkI => unfold exec execParkI; exact ⟨true, _, s.runIn_eq_runIf _ _⟩
  case linkMismatch => unfold exec execLinkMismatch; exact ⟨true, _, s.runIn_eq_runIf _ _⟩
  case retHoldExpiry => unfold exec execRetHoldExpiry; exact ⟨true, _, s.runIn_eq_runIf _ _⟩
  case trimLimit => unfold exec execTrimLimit; exact ⟨true, _, s.runIn_eq_runIf _ _⟩
  case steerTrack => unfold exec execSteerTrack; exact ⟨true, _, s.runIn_eq_runIf _ _⟩
  case safeStopPin => unfold exec execSafeStopPin; exact ⟨true, _, s.runIn_eq_runIf _ _⟩
  case ssHostTrig => unfold exec execSsHostTrig; exact ⟨true, _, s.runIn_eq_runIf _ _⟩
  case ssExitRequest => unfold exec execSsExitRequest; exact ⟨true, _, s.runIn_eq_runIf _ _⟩
  case ssEscalate => exact ⟨_, _, rfl⟩
  case standstillConfirmed => exact ⟨_, _, rfl⟩
  case parkApplicationComplete => exact ⟨_, _, rfl⟩
  case ssParkTmo => exact ⟨_, _, rfl⟩
  case linkTrained => unfold exec execLinkTrained; exact ⟨true, _, s.runIn_eq_runIf _ _⟩
  case lkDown => unfold exec execLkDown; exact ⟨true, _, s.runIn_eq_runIf _ _⟩
  case spanBreakCleared => unfold exec execSpanBreakCleared; exact ⟨true, _, s.runIn_eq_runIf _ _⟩
  case exchangeRecord => unfold exec execExchangeRecord; exact ⟨true, _, s.runIn_eq_runIf _ _⟩
  case syncNEdge => unfold exec execSyncNEdge; exact ⟨true, _, s.runIn_eq_runIf _ _⟩
  case syncPulseEnd => unfold exec execSyncPulseEnd; exact ⟨true, _, s.runIn_eq_runIf _ _⟩
  case mmSyncLoss => unfold exec execMmSyncLoss; exact ⟨true, _, s.runIn_eq_runIf _ _⟩
  case mmAlarmIn => unfold exec execMmAlarmIn; exact ⟨true, _, s.runIn_eq_runIf _ _⟩
  case sitilFrameSend => unfold exec execSitilFrameSend; exact ⟨true, _, s.runIn_eq_runIf _ _⟩
  case sitilFrameReceive => unfold exec execSitilFrameReceive; exact ⟨true, _, s.runIn_eq_runIf _ _⟩
  case listenTimeout => unfold exec execListenTimeout; exact ⟨true, _, s.runIn_eq_runIf _ _⟩
  case coldstartTimeout => unfold exec execColdstartTimeout; exact ⟨true, _, s.runIn_eq_runIf _ _⟩
  case backoffEnd => unfold exec execBackoffEnd; exact ⟨true, _, s.runIn_eq_runIf _ _⟩
  case ntCorrection => unfold exec execNtCorrection; exact ⟨true, _, s.runIn_eq_runIf _ _⟩
  case sitLost => unfold exec execSitLost; exact ⟨true, _, s.runIn_eq_runIf _ _⟩
  case sitLossEnd => unfold exec execSitLossEnd; exact ⟨true, _, s.runIn_eq_runIf _ _⟩
  case charonStrobe => unfold exec execCharonStrobe; exact ⟨true, _, s.runIn_eq_runIf _ _⟩
  case charonWindow => unfold exec execCharonWindow; exact ⟨true, _, s.runIn_eq_runIf _ _⟩
  case chBlock => unfold exec execChBlock; exact ⟨true, _, s.runIn_eq_runIf _ _⟩
  case chFwdCut => unfold exec execChFwdCut; exact ⟨true, _, s.runIn_eq_runIf _ _⟩
  case chClk => unfold exec execChClk; exact ⟨true, _, s.runIn_eq_runIf _ _⟩
  case chSupply => unfold exec execChSupply; exact ⟨true, _, s.runIn_eq_runIf _ _⟩
  case chTableCheck => unfold exec execChTableCheck; exact ⟨true, _, s.runIn_eq_runIf _ _⟩
  case remoteRequest => unfold exec execRemoteRequest; exact ⟨true, _, s.runIn_eq_runIf _ _⟩
  case faultEvent => unfold exec execFaultEvent; exact ⟨true, _, s.runIn_eq_runIf _ _⟩
  case faultSourceExpiry => unfold exec execFaultSourceExpiry; exact ⟨true, _, s.runIn_eq_runIf _ _⟩
  case logEntryWrite => unfold exec execLogEntryWrite; exact ⟨true, _, s.runIn_eq_runIf _ _⟩
  case pgForce => unfold exec execPgForce; exact ⟨true, _, s.runIn_eq_runIf _ _⟩
  case fsForce => unfold exec execFsForce; exact ⟨true, _, s.runIn_eq_runIf _ _⟩
  case clrFirst => unfold exec execClrFirst; exact ⟨true, _, s.runIn_eq_runIf _ _⟩
  case unfreeze => unfold exec execUnfreeze; exact ⟨true, _, s.runIn_eq_runIf _ _⟩
  case logRptrWrite => unfold exec execLogRptrWrite; exact ⟨true, _, s.runIn_eq_runIf _ _⟩
  case fsWinWrite => unfold exec execFsWinWrite; exact ⟨true, _, s.runIn_eq_runIf _ _⟩
  case schIdxWrite => unfold exec execSchIdxWrite; exact ⟨true, _, s.runIn_eq_runIf _ _⟩
  case schW2Write => unfold exec execSchW2Write; exact ⟨true, _, s.runIn_eq_runIf _ _⟩
  case janInjGo => unfold exec execJanInjGo; exact ⟨true, _, s.runIn_eq_runIf _ _⟩
  case repairWriteComplete => unfold exec execRepairWriteComplete; exact ⟨true, _, s.runIn_eq_runIf _ _⟩
  case waitCmd => unfold exec execWaitCmd; exact ⟨true, _, s.runIn_eq_runIf _ _⟩
  case powerRequestEvaluate => unfold exec execPowerRequestEvaluate; exact ⟨true, _, s.runIn_eq_runIf _ _⟩
  case ap1 => unfold exec execAp1; exact ⟨true, _, s.runIn_eq_runIf _ _⟩
  case ap2 => unfold exec execAp2; exact ⟨true, _, s.runIn_eq_runIf _ _⟩
  case ap3 => unfold exec execAp3; exact ⟨true, _, s.runIn_eq_runIf _ _⟩
  case ap4 => unfold exec execAp4; exact ⟨true, _, s.runIn_eq_runIf _ _⟩
  case wakeN => unfold exec execWakeN; exact ⟨true, _, s.runIn_eq_runIf _ _⟩
  case halley => exact ⟨_, _, rfl⟩
  case sitilWake => exact ⟨_, _, rfl⟩
  case moamelWake => exact ⟨_, _, rfl⟩
  case wheelWake => exact ⟨_, _, rfl⟩
  case pwrPadRel => unfold exec execPwrPadRel; exact ⟨true, _, s.runIn_eq_runIf _ _⟩
  case padCheck => unfold exec execPadCheck; exact ⟨true, _, s.runIn_eq_runIf _ _⟩
  case dvfsRequest => unfold exec execDvfsRequest; exact ⟨true, _, s.runIn_eq_runIf _ _⟩
  case dvfsClockSwitch => unfold exec execDvfsClockSwitch; exact ⟨true, _, s.runIn_eq_runIf _ _⟩
  case dvfsTmo => unfold exec execDvfsTmo; exact ⟨true, _, s.runIn_eq_runIf _ _⟩
  case domSupply x => exact ⟨x.val != 0, fun s => s.raise 0x343 x, rfl⟩
  case tcxoCheck => unfold exec execTcxoCheck; exact ⟨true, _, s.runIn_eq_runIf _ _⟩
  case pllLockLoss => unfold exec execPllLockLoss; exact ⟨true, _, s.runIn_eq_runIf _ _⟩
  case pllLock => unfold exec execPllLock; exact ⟨true, _, s.runIn_eq_runIf _ _⟩
  case clkFreq => unfold exec execClkFreq; exact ⟨true, _, s.runIn_eq_runIf _ _⟩
  case cdcTimeout => unfold exec execCdcTimeout; exact ⟨true, _, s.runIn_eq_runIf _ _⟩
  case cdcResume => unfold exec execCdcResume; exact ⟨true, _, s.runIn_eq_runIf _ _⟩
  case readCmd => unfold exec execReadCmd; exact ⟨true, _, s.runIn_eq_runIf _ _⟩
  case writeCmd => unfold exec execWriteCmd; exact ⟨true, _, s.runIn_eq_runIf _ _⟩
  case rmw => unfold exec execRmw; exact ⟨true, _, s.runIn_eq_runIf _ _⟩
  case negotiate => unfold exec execNegotiate; exact ⟨true, _, s.runIn_eq_runIf _ _⟩
  case unlock => unfold exec execUnlock; exact ⟨true, _, s.runIn_eq_runIf _ _⟩
  case commit => unfold exec execCommit; exact ⟨true, _, s.runIn_eq_runIf _ _⟩
  case commitComplete => unfold exec execCommitComplete; exact ⟨true, _, s.runIn_eq_runIf _ _⟩
  case status => unfold exec execStatus; exact ⟨true, _, s.runIn_eq_runIf _ _⟩
  case logpull => unfold exec execLogpull; exact ⟨true, _, s.runIn_eq_runIf _ _⟩
  case unknownCommand => unfold exec execUnknownCommand; exact ⟨true, _, s.runIn_eq_runIf _ _⟩
  case requestAbort => unfold exec execRequestAbort; exact ⟨true, _, s.runIn_eq_runIf _ _⟩
  case resultExpiry => unfold exec execResultExpiry; exact ⟨true, _, s.runIn_eq_runIf _ _⟩
  case tagCacheExpiry => unfold exec execTagCacheExpiry; exact ⟨true, _, s.runIn_eq_runIf _ _⟩
  case negotiationWindowClose => unfold exec execNegotiationWindowClose; exact ⟨true, _, s.runIn_eq_runIf _ _⟩
  case lockoutEnd => unfold exec execLockoutEnd; exact ⟨true, _, s.runIn_eq_runIf _ _⟩
  case idleRelock => unfold exec execIdleRelock; exact ⟨true, _, s.runIn_eq_runIf _ _⟩
  case csLock => unfold exec execCsLock; exact ⟨true, _, s.runIn_eq_runIf _ _⟩
  case csDiscard => unfold exec execCsDiscard; exact ⟨true, _, s.runIn_eq_runIf _ _⟩
  case serviceReq => unfold exec execServiceReq; exact ⟨true, _, s.runIn_eq_runIf _ _⟩
  case serviceExit => unfold exec execServiceExit; exact ⟨true, _, s.runIn_eq_runIf _ _⟩
  case logAck => unfold exec execLogAck; exact ⟨true, _, s.runIn_eq_runIf _ _⟩
  case csCfgCrc => unfold exec execCsCfgCrc; exact ⟨true, _, s.runIn_eq_runIf _ _⟩
  case pgCtlEn => exact ⟨_, _, rfl⟩
  case pgCtlMode => exact ⟨_, _, rfl⟩
  case ntTimeLoRead => unfold exec execNtTimeLoRead; exact ⟨true, _, s.runIn_eq_runIf _ _⟩
  case ntTickLoRead => unfold exec execNtTickLoRead; exact ⟨true, _, s.runIn_eq_runIf _ _⟩
  case registerWrite => unfold exec execRegisterWrite; exact ⟨true, _, s.runIn_eq_runIf _ _⟩
  case tickClrHold => unfold exec execTickClrHold trigRow; exact ⟨true, _, s.runIn_eq_runIf _ _⟩
  case tickClrOvr => unfold exec execTickClrOvr trigRow; exact ⟨true, _, s.runIn_eq_runIf _ _⟩
  case vduClrCnt => unfold exec execVduClrCnt trigRow; exact ⟨true, _, s.runIn_eq_runIf _ _⟩
  case bldClrCnt => unfold exec execBldClrCnt trigRow; exact ⟨true, _, s.runIn_eq_runIf _ _⟩
  case strClrErr => unfold exec execStrClrErr trigRow; exact ⟨true, _, s.runIn_eq_runIf _ _⟩
  case janClrCap => unfold exec execJanClrCap; exact ⟨true, _, s.runIn_eq_runIf _ _⟩
  case janClrCnt => unfold exec execJanClrCnt; exact ⟨true, _, s.runIn_eq_runIf _ _⟩
  case bgClrCnt => unfold exec execBgClrCnt trigRow; exact ⟨true, _, s.runIn_eq_runIf _ _⟩
  case auxClrCnt => unfold exec execAuxClrCnt trigRow; exact ⟨true, _, s.runIn_eq_runIf _ _⟩
  case supClrCnt => unfold exec execSupClrCnt trigRow; exact ⟨true, _, s.runIn_eq_runIf _ _⟩
  case odClrCnt => unfold exec execOdClrCnt trigRow; exact ⟨true, _, s.runIn_eq_runIf _ _⟩
  case ssClrCnt => unfold exec execSsClrCnt trigRow; exact ⟨true, _, s.runIn_eq_runIf _ _⟩
  case clrMaint => unfold exec execClrMaint trigRow; exact ⟨true, _, s.runIn_eq_runIf _ _⟩
  case lnClrCnt => unfold exec execLnClrCnt trigRow; exact ⟨true, _, s.runIn_eq_runIf _ _⟩
  case mmClrCnt => unfold exec execMmClrCnt trigRow; exact ⟨true, _, s.runIn_eq_runIf _ _⟩
  case lkClrCnt => unfold exec execLkClrCnt trigRow; exact ⟨true, _, s.runIn_eq_runIf _ _⟩
  case sitClrCnt => unfold exec execSitClrCnt trigRow; exact ⟨true, _, s.runIn_eq_runIf _ _⟩
  case spClrCnt p =>
    unfold exec execSpClrCnt trigRow; simp only
    by_cases hp : s.part = .s ∧ 2 ≤ p.val
    · exact ⟨false, id, by rw [if_pos hp, State.runIf_not]⟩
    · exact ⟨true, _, by rw [if_neg hp]; exact s.runIn_eq_runIf _ _⟩
  case chClrCnt => unfold exec execChClrCnt trigRow; exact ⟨true, _, s.runIn_eq_runIf _ _⟩
  case slClrCnt => unfold exec execSlClrCnt trigRow; exact ⟨true, _, s.runIn_eq_runIf _ _⟩
  case ntClrCnt => unfold exec execNtClrCnt trigRow; exact ⟨true, _, s.runIn_eq_runIf _ _⟩
  case fltClrCnt => unfold exec execFltClrCnt trigRow; exact ⟨true, _, s.runIn_eq_runIf _ _⟩
  case logClrCnt => unfold exec execLogClrCnt trigRow; exact ⟨true, _, s.runIn_eq_runIf _ _⟩
  case bistClrCnt => unfold exec execBistClrCnt trigRow; exact ⟨true, _, s.runIn_eq_runIf _ _⟩
  case pwrClrCnt => unfold exec execPwrClrCnt trigRow; exact ⟨true, _, s.runIn_eq_runIf _ _⟩
  case clkClrCnt => unfold exec execClkClrCnt trigRow; exact ⟨true, _, s.runIn_eq_runIf _ _⟩
  case cdcClrCnt => unfold exec execCdcClrCnt trigRow; exact ⟨true, _, s.runIn_eq_runIf _ _⟩
  case hpClrCnt => unfold exec execHpClrCnt trigRow; exact ⟨true, _, s.runIn_eq_runIf _ _⟩
  case startupPowerUp => unfold exec execStartupPowerUp; exact ⟨true, _, s.runIn_eq_runIf _ _⟩
  case startupRepairMap => unfold exec execStartupRepairMap; exact ⟨true, _, s.runIn_eq_runIf _ _⟩
  case startupConfiguration => unfold exec execStartupConfiguration; exact ⟨true, _, s.runIn_eq_runIf _ _⟩
  case startupInjection => unfold exec execStartupInjection; exact ⟨true, _, s.runIn_eq_runIf _ _⟩
  case fastBist => unfold exec execFastBist; exact ⟨true, _, s.runIn_eq_runIf _ _⟩
  case startupNetworks => unfold exec execStartupNetworks; exact ⟨true, _, s.runIn_eq_runIf _ _⟩
  case startupDiagnostics => unfold exec execStartupDiagnostics; exact ⟨true, _, s.runIn_eq_runIf _ _⟩
  case diagRetry => unfold exec execDiagRetry; exact ⟨true, _, s.runIn_eq_runIf _ _⟩
  case startupOverdue => unfold exec execStartupOverdue; exact ⟨true, _, s.runIn_eq_runIf _ _⟩
  case hoursStore => unfold exec execHoursStore; exact ⟨true, _, s.runIn_eq_runIf _ _⟩
  case charonRailReturn => unfold exec execCharonRailReturn; exact ⟨true, _, s.runIn_eq_runIf _ _⟩
  case safeStopNRelease => unfold exec execSafeStopNRelease; exact ⟨true, _, s.runIn_eq_runIf _ _⟩
  case alarmNRelease => unfold exec execAlarmNRelease; exact ⟨true, _, s.runIn_eq_runIf _ _⟩
  case updateDr => unfold exec execUpdateDr; exact ⟨true, _, s.runIn_eq_runIf _ _⟩

end Sys2Proof.Machine
end

