-- ==== Sys2Proof/Laws/Read.lean ====
section
/-!
SUPPORT. Laws of reads: what an update leaves in every read it does not touch, and what it puts into the one it does.
-/
namespace Sys2Proof.Machine

/-! ### setWord -/

@[simp] theorem State.setWord_hb (s : State) (a : Nat) (w : Word) (j : Nat) : (s.setWord a w).hb j = s.hb j := (rfl)
@[simp] theorem State.setWord_vdu (s : State) (a : Nat) (w : Word) (j : Nat) : (s.setWord a w).vdu j = s.vdu j := (rfl)
@[simp] theorem State.setWord_grp (s : State) (a : Nat) (w : Word) (j : Nat) : (s.setWord a w).grp j = s.grp j := (rfl)
@[simp] theorem State.setWord_axs (s : State) (a : Nat) (w : Word) (j : Nat) : (s.setWord a w).axs j = s.axs j := (rfl)
@[simp] theorem State.setWord_inp (s : State) (a : Nat) (w : Word) (j : Nat) : (s.setWord a w).inp j = s.inp j := (rfl)
@[simp] theorem State.setWord_votedOf (s : State) (a : Nat) (w : Word) (j : Nat) : (s.setWord a w).votedOf j = s.votedOf j := (rfl)
@[simp] theorem State.setWord_cls (s : State) (a : Nat) (w : Word) (j : Nat) : (s.setWord a w).cls j = s.cls j := (rfl)

/-! ### set -/

@[simp] theorem State.set_hb (s : State) (y : Fld) (v : Nat) (j : Nat) : (s.set y v).hb j = s.hb j := (rfl)
@[simp] theorem State.set_vdu (s : State) (y : Fld) (v : Nat) (j : Nat) : (s.set y v).vdu j = s.vdu j := (rfl)
@[simp] theorem State.set_grp (s : State) (y : Fld) (v : Nat) (j : Nat) : (s.set y v).grp j = s.grp j := (rfl)
@[simp] theorem State.set_axs (s : State) (y : Fld) (v : Nat) (j : Nat) : (s.set y v).axs j = s.axs j := (rfl)
@[simp] theorem State.set_inp (s : State) (y : Fld) (v : Nat) (j : Nat) : (s.set y v).inp j = s.inp j := (rfl)
@[simp] theorem State.set_votedOf (s : State) (y : Fld) (v : Nat) (j : Nat) : (s.set y v).votedOf j = s.votedOf j := (rfl)
@[simp] theorem State.set_cls (s : State) (y : Fld) (v : Nat) (j : Nat) : (s.set y v).cls j = s.cls j := (rfl)

/-! ### raise -/

@[simp] theorem State.raise_word (s : State) (i d : Nat) (j : Nat) : (s.raise i d).word j = s.word j := (rfl)
@[simp] theorem State.raise_f (s : State) (i d : Nat) (x : Fld) : (s.raise i d).f x = s.f x := (rfl)
@[simp] theorem State.raise_on (s : State) (i d : Nat) (x : Fld) : (s.raise i d).on x = s.on x := (rfl)
@[simp] theorem State.raise_fI (s : State) (i d : Nat) (x : Fld) : (s.raise i d).fI x = s.fI x := (rfl)
@[simp] theorem State.raise_fbit (s : State) (i d : Nat) (x : Fld) (b : Nat) : (s.raise i d).fbit x b = s.fbit x b := (rfl)
@[simp] theorem State.raise_groupState (s : State) (i d : Nat) (j : Nat) : (s.raise i d).groupState j = s.groupState j := (rfl)
@[simp] theorem State.raise_vec (s : State) (i d : Nat) (j : Nat) : (s.raise i d).vec j = s.vec j := (rfl)
@[simp] theorem State.raise_rank1 (s : State) (i d : Nat) (j : Nat) : (s.raise i d).rank1 j = s.rank1 j := (rfl)
@[simp] theorem State.raise_gateFree (s : State) (i d : Nat) (j : Nat) : (s.raise i d).gateFree j = s.gateFree j := (rfl)
@[simp] theorem State.raise_busOf (s : State) (i d : Nat) (j : Nat) : (s.raise i d).busOf j = s.busOf j := (rfl)
@[simp] theorem State.raise_dom (s : State) (i d : Nat) (j : Nat) : (s.raise i d).dom j = s.dom j := (rfl)
@[simp] theorem State.raise_hb (s : State) (i d : Nat) (j : Nat) : (s.raise i d).hb j = s.hb j := (rfl)
@[simp] theorem State.raise_vdu (s : State) (i d : Nat) (j : Nat) : (s.raise i d).vdu j = s.vdu j := (rfl)
@[simp] theorem State.raise_grp (s : State) (i d : Nat) (j : Nat) : (s.raise i d).grp j = s.grp j := (rfl)
@[simp] theorem State.raise_axs (s : State) (i d : Nat) (j : Nat) : (s.raise i d).axs j = s.axs j := (rfl)
@[simp] theorem State.raise_inp (s : State) (i d : Nat) (j : Nat) : (s.raise i d).inp j = s.inp j := (rfl)
@[simp] theorem State.raise_votedOf (s : State) (i d : Nat) (j : Nat) : (s.raise i d).votedOf j = s.votedOf j := (rfl)

/-! ### raiseU -/

@[simp] theorem State.raiseU_word (s : State) (i : Nat) (j : Nat) : (s.raiseU i).word j = s.word j := (rfl)
@[simp] theorem State.raiseU_f (s : State) (i : Nat) (x : Fld) : (s.raiseU i).f x = s.f x := (rfl)
@[simp] theorem State.raiseU_on (s : State) (i : Nat) (x : Fld) : (s.raiseU i).on x = s.on x := (rfl)
@[simp] theorem State.raiseU_fI (s : State) (i : Nat) (x : Fld) : (s.raiseU i).fI x = s.fI x := (rfl)
@[simp] theorem State.raiseU_fbit (s : State) (i : Nat) (x : Fld) (b : Nat) : (s.raiseU i).fbit x b = s.fbit x b := (rfl)
@[simp] theorem State.raiseU_groupState (s : State) (i : Nat) (j : Nat) : (s.raiseU i).groupState j = s.groupState j := (rfl)
@[simp] theorem State.raiseU_vec (s : State) (i : Nat) (j : Nat) : (s.raiseU i).vec j = s.vec j := (rfl)
@[simp] theorem State.raiseU_rank1 (s : State) (i : Nat) (j : Nat) : (s.raiseU i).rank1 j = s.rank1 j := (rfl)
@[simp] theorem State.raiseU_gateFree (s : State) (i : Nat) (j : Nat) : (s.raiseU i).gateFree j = s.gateFree j := (rfl)
@[simp] theorem State.raiseU_busOf (s : State) (i : Nat) (j : Nat) : (s.raiseU i).busOf j = s.busOf j := (rfl)
@[simp] theorem State.raiseU_dom (s : State) (i : Nat) (j : Nat) : (s.raiseU i).dom j = s.dom j := (rfl)
@[simp] theorem State.raiseU_hb (s : State) (i : Nat) (j : Nat) : (s.raiseU i).hb j = s.hb j := (rfl)
@[simp] theorem State.raiseU_vdu (s : State) (i : Nat) (j : Nat) : (s.raiseU i).vdu j = s.vdu j := (rfl)
@[simp] theorem State.raiseU_grp (s : State) (i : Nat) (j : Nat) : (s.raiseU i).grp j = s.grp j := (rfl)
@[simp] theorem State.raiseU_axs (s : State) (i : Nat) (j : Nat) : (s.raiseU i).axs j = s.axs j := (rfl)
@[simp] theorem State.raiseU_inp (s : State) (i : Nat) (j : Nat) : (s.raiseU i).inp j = s.inp j := (rfl)
@[simp] theorem State.raiseU_votedOf (s : State) (i : Nat) (j : Nat) : (s.raiseU i).votedOf j = s.votedOf j := (rfl)

/-! ### raiseC -/

@[simp] theorem State.raiseC_word (s : State) (i d c : Nat) (j : Nat) : (s.raiseC i d c).word j = s.word j := (rfl)
@[simp] theorem State.raiseC_f (s : State) (i d c : Nat) (x : Fld) : (s.raiseC i d c).f x = s.f x := (rfl)
@[simp] theorem State.raiseC_on (s : State) (i d c : Nat) (x : Fld) : (s.raiseC i d c).on x = s.on x := (rfl)
@[simp] theorem State.raiseC_fI (s : State) (i d c : Nat) (x : Fld) : (s.raiseC i d c).fI x = s.fI x := (rfl)
@[simp] theorem State.raiseC_fbit (s : State) (i d c : Nat) (x : Fld) (b : Nat) : (s.raiseC i d c).fbit x b = s.fbit x b := (rfl)
@[simp] theorem State.raiseC_groupState (s : State) (i d c : Nat) (j : Nat) : (s.raiseC i d c).groupState j = s.groupState j := (rfl)
@[simp] theorem State.raiseC_vec (s : State) (i d c : Nat) (j : Nat) : (s.raiseC i d c).vec j = s.vec j := (rfl)
@[simp] theorem State.raiseC_rank1 (s : State) (i d c : Nat) (j : Nat) : (s.raiseC i d c).rank1 j = s.rank1 j := (rfl)
@[simp] theorem State.raiseC_gateFree (s : State) (i d c : Nat) (j : Nat) : (s.raiseC i d c).gateFree j = s.gateFree j := (rfl)
@[simp] theorem State.raiseC_busOf (s : State) (i d c : Nat) (j : Nat) : (s.raiseC i d c).busOf j = s.busOf j := (rfl)
@[simp] theorem State.raiseC_dom (s : State) (i d c : Nat) (j : Nat) : (s.raiseC i d c).dom j = s.dom j := (rfl)
@[simp] theorem State.raiseC_hb (s : State) (i d c : Nat) (j : Nat) : (s.raiseC i d c).hb j = s.hb j := (rfl)
@[simp] theorem State.raiseC_vdu (s : State) (i d c : Nat) (j : Nat) : (s.raiseC i d c).vdu j = s.vdu j := (rfl)
@[simp] theorem State.raiseC_grp (s : State) (i d c : Nat) (j : Nat) : (s.raiseC i d c).grp j = s.grp j := (rfl)
@[simp] theorem State.raiseC_axs (s : State) (i d c : Nat) (j : Nat) : (s.raiseC i d c).axs j = s.axs j := (rfl)
@[simp] theorem State.raiseC_inp (s : State) (i d c : Nat) (j : Nat) : (s.raiseC i d c).inp j = s.inp j := (rfl)
@[simp] theorem State.raiseC_votedOf (s : State) (i d c : Nat) (j : Nat) : (s.raiseC i d c).votedOf j = s.votedOf j := (rfl)

/-! ### raiseForced -/

@[simp] theorem State.raiseForced_word (s : State) (i : Nat) (j : Nat) : (s.raiseForced i).word j = s.word j := (rfl)
@[simp] theorem State.raiseForced_f (s : State) (i : Nat) (x : Fld) : (s.raiseForced i).f x = s.f x := (rfl)
@[simp] theorem State.raiseForced_on (s : State) (i : Nat) (x : Fld) : (s.raiseForced i).on x = s.on x := (rfl)
@[simp] theorem State.raiseForced_fI (s : State) (i : Nat) (x : Fld) : (s.raiseForced i).fI x = s.fI x := (rfl)
@[simp] theorem State.raiseForced_fbit (s : State) (i : Nat) (x : Fld) (b : Nat) : (s.raiseForced i).fbit x b = s.fbit x b := (rfl)
@[simp] theorem State.raiseForced_groupState (s : State) (i : Nat) (j : Nat) : (s.raiseForced i).groupState j = s.groupState j := (rfl)
@[simp] theorem State.raiseForced_vec (s : State) (i : Nat) (j : Nat) : (s.raiseForced i).vec j = s.vec j := (rfl)
@[simp] theorem State.raiseForced_rank1 (s : State) (i : Nat) (j : Nat) : (s.raiseForced i).rank1 j = s.rank1 j := (rfl)
@[simp] theorem State.raiseForced_gateFree (s : State) (i : Nat) (j : Nat) : (s.raiseForced i).gateFree j = s.gateFree j := (rfl)
@[simp] theorem State.raiseForced_busOf (s : State) (i : Nat) (j : Nat) : (s.raiseForced i).busOf j = s.busOf j := (rfl)
@[simp] theorem State.raiseForced_dom (s : State) (i : Nat) (j : Nat) : (s.raiseForced i).dom j = s.dom j := (rfl)
@[simp] theorem State.raiseForced_hb (s : State) (i : Nat) (j : Nat) : (s.raiseForced i).hb j = s.hb j := (rfl)
@[simp] theorem State.raiseForced_vdu (s : State) (i : Nat) (j : Nat) : (s.raiseForced i).vdu j = s.vdu j := (rfl)
@[simp] theorem State.raiseForced_grp (s : State) (i : Nat) (j : Nat) : (s.raiseForced i).grp j = s.grp j := (rfl)
@[simp] theorem State.raiseForced_axs (s : State) (i : Nat) (j : Nat) : (s.raiseForced i).axs j = s.axs j := (rfl)
@[simp] theorem State.raiseForced_inp (s : State) (i : Nat) (j : Nat) : (s.raiseForced i).inp j = s.inp j := (rfl)
@[simp] theorem State.raiseForced_votedOf (s : State) (i : Nat) (j : Nat) : (s.raiseForced i).votedOf j = s.votedOf j := (rfl)

/-! ### setHb -/

@[simp] theorem State.setHb_word (s : State) (h : Nat) (v : HbSt) (j : Nat) : (s.setHb h v).word j = s.word j := (rfl)
@[simp] theorem State.setHb_f (s : State) (h : Nat) (v : HbSt) (x : Fld) : (s.setHb h v).f x = s.f x := (rfl)
@[simp] theorem State.setHb_on (s : State) (h : Nat) (v : HbSt) (x : Fld) : (s.setHb h v).on x = s.on x := (rfl)
@[simp] theorem State.setHb_fI (s : State) (h : Nat) (v : HbSt) (x : Fld) : (s.setHb h v).fI x = s.fI x := (rfl)
@[simp] theorem State.setHb_fbit (s : State) (h : Nat) (v : HbSt) (x : Fld) (b : Nat) : (s.setHb h v).fbit x b = s.fbit x b := (rfl)
@[simp] theorem State.setHb_groupState (s : State) (h : Nat) (v : HbSt) (j : Nat) : (s.setHb h v).groupState j = s.groupState j := (rfl)
@[simp] theorem State.setHb_vec (s : State) (h : Nat) (v : HbSt) (j : Nat) : (s.setHb h v).vec j = s.vec j := (rfl)
@[simp] theorem State.setHb_rank1 (s : State) (h : Nat) (v : HbSt) (j : Nat) : (s.setHb h v).rank1 j = s.rank1 j := (rfl)
@[simp] theorem State.setHb_gateFree (s : State) (h : Nat) (v : HbSt) (j : Nat) : (s.setHb h v).gateFree j = s.gateFree j := (rfl)
@[simp] theorem State.setHb_busOf (s : State) (h : Nat) (v : HbSt) (j : Nat) : (s.setHb h v).busOf j = s.busOf j := (rfl)
@[simp] theorem State.setHb_dom (s : State) (h : Nat) (v : HbSt) (j : Nat) : (s.setHb h v).dom j = s.dom j := (rfl)
@[simp] theorem State.setHb_vdu (s : State) (h : Nat) (v : HbSt) (j : Nat) : (s.setHb h v).vdu j = s.vdu j := (rfl)
@[simp] theorem State.setHb_grp (s : State) (h : Nat) (v : HbSt) (j : Nat) : (s.setHb h v).grp j = s.grp j := (rfl)
@[simp] theorem State.setHb_axs (s : State) (h : Nat) (v : HbSt) (j : Nat) : (s.setHb h v).axs j = s.axs j := (rfl)
@[simp] theorem State.setHb_inp (s : State) (h : Nat) (v : HbSt) (j : Nat) : (s.setHb h v).inp j = s.inp j := (rfl)
@[simp] theorem State.setHb_votedOf (s : State) (h : Nat) (v : HbSt) (j : Nat) : (s.setHb h v).votedOf j = s.votedOf j := (rfl)
@[simp] theorem State.setHb_cls (s : State) (h : Nat) (v : HbSt) (j : Nat) : (s.setHb h v).cls j = s.cls j := (rfl)

/-! ### setVdu -/

@[simp] theorem State.setVdu_word (s : State) (u : Nat) (v : VduSt) (j : Nat) : (s.setVdu u v).word j = s.word j := (rfl)
@[simp] theorem State.setVdu_f (s : State) (u : Nat) (v : VduSt) (x : Fld) : (s.setVdu u v).f x = s.f x := (rfl)
@[simp] theorem State.setVdu_on (s : State) (u : Nat) (v : VduSt) (x : Fld) : (s.setVdu u v).on x = s.on x := (rfl)
@[simp] theorem State.setVdu_fI (s : State) (u : Nat) (v : VduSt) (x : Fld) : (s.setVdu u v).fI x = s.fI x := (rfl)
@[simp] theorem State.setVdu_fbit (s : State) (u : Nat) (v : VduSt) (x : Fld) (b : Nat) : (s.setVdu u v).fbit x b = s.fbit x b := (rfl)
@[simp] theorem State.setVdu_groupState (s : State) (u : Nat) (v : VduSt) (j : Nat) : (s.setVdu u v).groupState j = s.groupState j := (rfl)
@[simp] theorem State.setVdu_vec (s : State) (u : Nat) (v : VduSt) (j : Nat) : (s.setVdu u v).vec j = s.vec j := (rfl)
@[simp] theorem State.setVdu_rank1 (s : State) (u : Nat) (v : VduSt) (j : Nat) : (s.setVdu u v).rank1 j = s.rank1 j := (rfl)
@[simp] theorem State.setVdu_gateFree (s : State) (u : Nat) (v : VduSt) (j : Nat) : (s.setVdu u v).gateFree j = s.gateFree j := (rfl)
@[simp] theorem State.setVdu_busOf (s : State) (u : Nat) (v : VduSt) (j : Nat) : (s.setVdu u v).busOf j = s.busOf j := (rfl)
@[simp] theorem State.setVdu_dom (s : State) (u : Nat) (v : VduSt) (j : Nat) : (s.setVdu u v).dom j = s.dom j := (rfl)
@[simp] theorem State.setVdu_hb (s : State) (u : Nat) (v : VduSt) (j : Nat) : (s.setVdu u v).hb j = s.hb j := (rfl)
@[simp] theorem State.setVdu_grp (s : State) (u : Nat) (v : VduSt) (j : Nat) : (s.setVdu u v).grp j = s.grp j := (rfl)
@[simp] theorem State.setVdu_axs (s : State) (u : Nat) (v : VduSt) (j : Nat) : (s.setVdu u v).axs j = s.axs j := (rfl)
@[simp] theorem State.setVdu_inp (s : State) (u : Nat) (v : VduSt) (j : Nat) : (s.setVdu u v).inp j = s.inp j := (rfl)
@[simp] theorem State.setVdu_votedOf (s : State) (u : Nat) (v : VduSt) (j : Nat) : (s.setVdu u v).votedOf j = s.votedOf j := (rfl)
@[simp] theorem State.setVdu_cls (s : State) (u : Nat) (v : VduSt) (j : Nat) : (s.setVdu u v).cls j = s.cls j := (rfl)

/-! ### setGrp -/

@[simp] theorem State.setGrp_word (s : State) (g : Nat) (v : GroupSt) (j : Nat) : (s.setGrp g v).word j = s.word j := (rfl)
@[simp] theorem State.setGrp_f (s : State) (g : Nat) (v : GroupSt) (x : Fld) : (s.setGrp g v).f x = s.f x := (rfl)
@[simp] theorem State.setGrp_on (s : State) (g : Nat) (v : GroupSt) (x : Fld) : (s.setGrp g v).on x = s.on x := (rfl)
@[simp] theorem State.setGrp_fI (s : State) (g : Nat) (v : GroupSt) (x : Fld) : (s.setGrp g v).fI x = s.fI x := (rfl)
@[simp] theorem State.setGrp_fbit (s : State) (g : Nat) (v : GroupSt) (x : Fld) (b : Nat) : (s.setGrp g v).fbit x b = s.fbit x b := (rfl)
@[simp] theorem State.setGrp_groupState (s : State) (g : Nat) (v : GroupSt) (j : Nat) : (s.setGrp g v).groupState j = s.groupState j := (rfl)
@[simp] theorem State.setGrp_vec (s : State) (g : Nat) (v : GroupSt) (j : Nat) : (s.setGrp g v).vec j = s.vec j := (rfl)
@[simp] theorem State.setGrp_rank1 (s : State) (g : Nat) (v : GroupSt) (j : Nat) : (s.setGrp g v).rank1 j = s.rank1 j := (rfl)
@[simp] theorem State.setGrp_gateFree (s : State) (g : Nat) (v : GroupSt) (j : Nat) : (s.setGrp g v).gateFree j = s.gateFree j := (rfl)
@[simp] theorem State.setGrp_busOf (s : State) (g : Nat) (v : GroupSt) (j : Nat) : (s.setGrp g v).busOf j = s.busOf j := (rfl)
@[simp] theorem State.setGrp_dom (s : State) (g : Nat) (v : GroupSt) (j : Nat) : (s.setGrp g v).dom j = s.dom j := (rfl)
@[simp] theorem State.setGrp_hb (s : State) (g : Nat) (v : GroupSt) (j : Nat) : (s.setGrp g v).hb j = s.hb j := (rfl)
@[simp] theorem State.setGrp_vdu (s : State) (g : Nat) (v : GroupSt) (j : Nat) : (s.setGrp g v).vdu j = s.vdu j := (rfl)
@[simp] theorem State.setGrp_axs (s : State) (g : Nat) (v : GroupSt) (j : Nat) : (s.setGrp g v).axs j = s.axs j := (rfl)
@[simp] theorem State.setGrp_inp (s : State) (g : Nat) (v : GroupSt) (j : Nat) : (s.setGrp g v).inp j = s.inp j := (rfl)
@[simp] theorem State.setGrp_votedOf (s : State) (g : Nat) (v : GroupSt) (j : Nat) : (s.setGrp g v).votedOf j = s.votedOf j := (rfl)
@[simp] theorem State.setGrp_cls (s : State) (g : Nat) (v : GroupSt) (j : Nat) : (s.setGrp g v).cls j = s.cls j := (rfl)

/-! ### setAxs -/

@[simp] theorem State.setAxs_word (s : State) (n : Nat) (v : AxisSt) (j : Nat) : (s.setAxs n v).word j = s.word j := (rfl)
@[simp] theorem State.setAxs_f (s : State) (n : Nat) (v : AxisSt) (x : Fld) : (s.setAxs n v).f x = s.f x := (rfl)
@[simp] theorem State.setAxs_on (s : State) (n : Nat) (v : AxisSt) (x : Fld) : (s.setAxs n v).on x = s.on x := (rfl)
@[simp] theorem State.setAxs_fI (s : State) (n : Nat) (v : AxisSt) (x : Fld) : (s.setAxs n v).fI x = s.fI x := (rfl)
@[simp] theorem State.setAxs_fbit (s : State) (n : Nat) (v : AxisSt) (x : Fld) (b : Nat) : (s.setAxs n v).fbit x b = s.fbit x b := (rfl)
@[simp] theorem State.setAxs_groupState (s : State) (n : Nat) (v : AxisSt) (j : Nat) : (s.setAxs n v).groupState j = s.groupState j := (rfl)
@[simp] theorem State.setAxs_vec (s : State) (n : Nat) (v : AxisSt) (j : Nat) : (s.setAxs n v).vec j = s.vec j := (rfl)
@[simp] theorem State.setAxs_rank1 (s : State) (n : Nat) (v : AxisSt) (j : Nat) : (s.setAxs n v).rank1 j = s.rank1 j := (rfl)
@[simp] theorem State.setAxs_gateFree (s : State) (n : Nat) (v : AxisSt) (j : Nat) : (s.setAxs n v).gateFree j = s.gateFree j := (rfl)
@[simp] theorem State.setAxs_busOf (s : State) (n : Nat) (v : AxisSt) (j : Nat) : (s.setAxs n v).busOf j = s.busOf j := (rfl)
@[simp] theorem State.setAxs_dom (s : State) (n : Nat) (v : AxisSt) (j : Nat) : (s.setAxs n v).dom j = s.dom j := (rfl)
@[simp] theorem State.setAxs_hb (s : State) (n : Nat) (v : AxisSt) (j : Nat) : (s.setAxs n v).hb j = s.hb j := (rfl)
@[simp] theorem State.setAxs_vdu (s : State) (n : Nat) (v : AxisSt) (j : Nat) : (s.setAxs n v).vdu j = s.vdu j := (rfl)
@[simp] theorem State.setAxs_grp (s : State) (n : Nat) (v : AxisSt) (j : Nat) : (s.setAxs n v).grp j = s.grp j := (rfl)
@[simp] theorem State.setAxs_inp (s : State) (n : Nat) (v : AxisSt) (j : Nat) : (s.setAxs n v).inp j = s.inp j := (rfl)
@[simp] theorem State.setAxs_votedOf (s : State) (n : Nat) (v : AxisSt) (j : Nat) : (s.setAxs n v).votedOf j = s.votedOf j := (rfl)
@[simp] theorem State.setAxs_cls (s : State) (n : Nat) (v : AxisSt) (j : Nat) : (s.setAxs n v).cls j = s.cls j := (rfl)

/-! ### setInp -/

@[simp] theorem State.setInp_word (s : State) (k : Nat) (v : InpSt) (j : Nat) : (s.setInp k v).word j = s.word j := (rfl)
@[simp] theorem State.setInp_f (s : State) (k : Nat) (v : InpSt) (x : Fld) : (s.setInp k v).f x = s.f x := (rfl)
@[simp] theorem State.setInp_on (s : State) (k : Nat) (v : InpSt) (x : Fld) : (s.setInp k v).on x = s.on x := (rfl)
@[simp] theorem State.setInp_fI (s : State) (k : Nat) (v : InpSt) (x : Fld) : (s.setInp k v).fI x = s.fI x := (rfl)
@[simp] theorem State.setInp_fbit (s : State) (k : Nat) (v : InpSt) (x : Fld) (b : Nat) : (s.setInp k v).fbit x b = s.fbit x b := (rfl)
@[simp] theorem State.setInp_groupState (s : State) (k : Nat) (v : InpSt) (j : Nat) : (s.setInp k v).groupState j = s.groupState j := (rfl)
@[simp] theorem State.setInp_vec (s : State) (k : Nat) (v : InpSt) (j : Nat) : (s.setInp k v).vec j = s.vec j := (rfl)
@[simp] theorem State.setInp_rank1 (s : State) (k : Nat) (v : InpSt) (j : Nat) : (s.setInp k v).rank1 j = s.rank1 j := (rfl)
@[simp] theorem State.setInp_gateFree (s : State) (k : Nat) (v : InpSt) (j : Nat) : (s.setInp k v).gateFree j = s.gateFree j := (rfl)
@[simp] theorem State.setInp_busOf (s : State) (k : Nat) (v : InpSt) (j : Nat) : (s.setInp k v).busOf j = s.busOf j := (rfl)
@[simp] theorem State.setInp_dom (s : State) (k : Nat) (v : InpSt) (j : Nat) : (s.setInp k v).dom j = s.dom j := (rfl)
@[simp] theorem State.setInp_hb (s : State) (k : Nat) (v : InpSt) (j : Nat) : (s.setInp k v).hb j = s.hb j := (rfl)
@[simp] theorem State.setInp_vdu (s : State) (k : Nat) (v : InpSt) (j : Nat) : (s.setInp k v).vdu j = s.vdu j := (rfl)
@[simp] theorem State.setInp_grp (s : State) (k : Nat) (v : InpSt) (j : Nat) : (s.setInp k v).grp j = s.grp j := (rfl)
@[simp] theorem State.setInp_axs (s : State) (k : Nat) (v : InpSt) (j : Nat) : (s.setInp k v).axs j = s.axs j := (rfl)
@[simp] theorem State.setInp_cls (s : State) (k : Nat) (v : InpSt) (j : Nat) : (s.setInp k v).cls j = s.cls j := (rfl)

/-! ### setCls -/

@[simp] theorem State.setCls_word (s : State) (k : Nat) (v : Cls) (j : Nat) : (s.setCls k v).word j = s.word j := (rfl)
@[simp] theorem State.setCls_f (s : State) (k : Nat) (v : Cls) (x : Fld) : (s.setCls k v).f x = s.f x := (rfl)
@[simp] theorem State.setCls_on (s : State) (k : Nat) (v : Cls) (x : Fld) : (s.setCls k v).on x = s.on x := (rfl)
@[simp] theorem State.setCls_fI (s : State) (k : Nat) (v : Cls) (x : Fld) : (s.setCls k v).fI x = s.fI x := (rfl)
@[simp] theorem State.setCls_fbit (s : State) (k : Nat) (v : Cls) (x : Fld) (b : Nat) : (s.setCls k v).fbit x b = s.fbit x b := (rfl)
@[simp] theorem State.setCls_groupState (s : State) (k : Nat) (v : Cls) (j : Nat) : (s.setCls k v).groupState j = s.groupState j := (rfl)
@[simp] theorem State.setCls_vec (s : State) (k : Nat) (v : Cls) (j : Nat) : (s.setCls k v).vec j = s.vec j := (rfl)
@[simp] theorem State.setCls_rank1 (s : State) (k : Nat) (v : Cls) (j : Nat) : (s.setCls k v).rank1 j = s.rank1 j := (rfl)
@[simp] theorem State.setCls_gateFree (s : State) (k : Nat) (v : Cls) (j : Nat) : (s.setCls k v).gateFree j = s.gateFree j := (rfl)
@[simp] theorem State.setCls_busOf (s : State) (k : Nat) (v : Cls) (j : Nat) : (s.setCls k v).busOf j = s.busOf j := (rfl)
@[simp] theorem State.setCls_dom (s : State) (k : Nat) (v : Cls) (j : Nat) : (s.setCls k v).dom j = s.dom j := (rfl)
@[simp] theorem State.setCls_hb (s : State) (k : Nat) (v : Cls) (j : Nat) : (s.setCls k v).hb j = s.hb j := (rfl)
@[simp] theorem State.setCls_vdu (s : State) (k : Nat) (v : Cls) (j : Nat) : (s.setCls k v).vdu j = s.vdu j := (rfl)
@[simp] theorem State.setCls_grp (s : State) (k : Nat) (v : Cls) (j : Nat) : (s.setCls k v).grp j = s.grp j := (rfl)
@[simp] theorem State.setCls_axs (s : State) (k : Nat) (v : Cls) (j : Nat) : (s.setCls k v).axs j = s.axs j := (rfl)
@[simp] theorem State.setCls_inp (s : State) (k : Nat) (v : Cls) (j : Nat) : (s.setCls k v).inp j = s.inp j := (rfl)
@[simp] theorem State.setCls_votedOf (s : State) (k : Nat) (v : Cls) (j : Nat) : (s.setCls k v).votedOf j = s.votedOf j := (rfl)

@[simp] theorem State.setInp_votedOf (s : State) (k : Nat) (v : InpSt) (j : Nat) : (s.setInp k v).votedOf j = s.votedOf j := (rfl)

/-! ### Records after their own update -/

@[simp] theorem State.setHb_hb_same (s : State) (k : Nat) (v : HbSt) : (s.setHb k v).hb k = v := smGet_smPut_same _ _ _ _

theorem State.setHb_hb_ne (s : State) (k j : Nat) (v : HbSt) (h : j ≠ k) : (s.setHb k v).hb j = s.hb j :=
  smGet_smPut_ne _ _ _ _ _ h

theorem State.setHb_hb (s : State) (k j : Nat) (v : HbSt) : (s.setHb k v).hb j = if j = k then v else s.hb j := by
  split
  · next h => subst h; exact s.setHb_hb_same _ v
  · next h => exact s.setHb_hb_ne k j v h

@[simp] theorem State.setVdu_vdu_same (s : State) (k : Nat) (v : VduSt) : (s.setVdu k v).vdu k = v := smGet_smPut_same _ _ _ _

theorem State.setVdu_vdu_ne (s : State) (k j : Nat) (v : VduSt) (h : j ≠ k) : (s.setVdu k v).vdu j = s.vdu j :=
  smGet_smPut_ne _ _ _ _ _ h

theorem State.setVdu_vdu (s : State) (k j : Nat) (v : VduSt) : (s.setVdu k v).vdu j = if j = k then v else s.vdu j := by
  split
  · next h => subst h; exact s.setVdu_vdu_same _ v
  · next h => exact s.setVdu_vdu_ne k j v h

@[simp] theorem State.setGrp_grp_same (s : State) (k : Nat) (v : GroupSt) : (s.setGrp k v).grp k = v := smGet_smPut_same _ _ _ _

theorem State.setGrp_grp_ne (s : State) (k j : Nat) (v : GroupSt) (h : j ≠ k) : (s.setGrp k v).grp j = s.grp j :=
  smGet_smPut_ne _ _ _ _ _ h

theorem State.setGrp_grp (s : State) (k j : Nat) (v : GroupSt) : (s.setGrp k v).grp j = if j = k then v else s.grp j := by
  split
  · next h => subst h; exact s.setGrp_grp_same _ v
  · next h => exact s.setGrp_grp_ne k j v h

@[simp] theorem State.setAxs_axs_same (s : State) (k : Nat) (v : AxisSt) : (s.setAxs k v).axs k = v := smGet_smPut_same _ _ _ _

theorem State.setAxs_axs_ne (s : State) (k j : Nat) (v : AxisSt) (h : j ≠ k) : (s.setAxs k v).axs j = s.axs j :=
  smGet_smPut_ne _ _ _ _ _ h

theorem State.setAxs_axs (s : State) (k j : Nat) (v : AxisSt) : (s.setAxs k v).axs j = if j = k then v else s.axs j := by
  split
  · next h => subst h; exact s.setAxs_axs_same _ v
  · next h => exact s.setAxs_axs_ne k j v h

@[simp] theorem State.setInp_inp_same (s : State) (k : Nat) (v : InpSt) : (s.setInp k v).inp k = v := smGet_smPut_same _ _ _ _

theorem State.setInp_inp_ne (s : State) (k j : Nat) (v : InpSt) (h : j ≠ k) : (s.setInp k v).inp j = s.inp j :=
  smGet_smPut_ne _ _ _ _ _ h

theorem State.setInp_inp (s : State) (k j : Nat) (v : InpSt) : (s.setInp k v).inp j = if j = k then v else s.inp j := by
  split
  · next h => subst h; exact s.setInp_inp_same _ v
  · next h => exact s.setInp_inp_ne k j v h

@[simp] theorem State.setCls_cls_same (s : State) (k : Nat) (v : Cls) : (s.setCls k v).cls k = v := smGet_smPut_same _ _ _ _

theorem State.setCls_cls_ne (s : State) (k j : Nat) (v : Cls) (h : j ≠ k) : (s.setCls k v).cls j = s.cls j :=
  smGet_smPut_ne _ _ _ _ _ h

theorem State.setCls_cls (s : State) (k j : Nat) (v : Cls) : (s.setCls k v).cls j = if j = k then v else s.cls j := by
  split
  · next h => subst h; exact s.setCls_cls_same _ v
  · next h => exact s.setCls_cls_ne k j v h

/-! ### Registers of a framed state -/

@[simp] theorem framed_word (s t : State) (a : Nat) : (framed s t).word a = t.word a := (rfl)
@[simp] theorem framed_f (s t : State) (x : Fld) : (framed s t).f x = t.f x := (rfl)
@[simp] theorem framed_on (s t : State) (x : Fld) : (framed s t).on x = t.on x := (rfl)
@[simp] theorem framed_fbit (s t : State) (x : Fld) (k : Nat) : (framed s t).fbit x k = t.fbit x k := (rfl)
@[simp] theorem framed_groupState (s t : State) (g : Nat) : (framed s t).groupState g = t.groupState g := (rfl)
@[simp] theorem framed_vec (s t : State) (u : Nat) : (framed s t).vec u = t.vec u := (rfl)
@[simp] theorem framed_hb (s t : State) (h : Nat) : (framed s t).hb h = t.hb h := (rfl)
@[simp] theorem framed_vdu (s t : State) (u : Nat) : (framed s t).vdu u = t.vdu u := (rfl)
@[simp] theorem framed_grp (s t : State) (g : Nat) : (framed s t).grp g = t.grp g := (rfl)
@[simp] theorem framed_axs (s t : State) (n : Nat) : (framed s t).axs n = t.axs n := (rfl)
@[simp] theorem framed_inp (s t : State) (k : Nat) : (framed s t).inp k = t.inp k := (rfl)

/-- A state with the queue, part and supply of the one before is its own frame. -/
theorem framed_self (s t : State) (hp : t.pending = s.pending) (hq : t.part = s.part) (hw : t.powered = s.powered) :
    framed s t = t := by
  cases t; simp only at hp hq hw; subst hp; subst hq; subst hw; rfl

/-! ### Fields after a write of one field -/

/-- What any field reads after a write of a field, by address and place. -/
theorem State.f_set (s : State) (x y : Fld) (v : Nat) : (s.set x v).f y =
    if y.addr = x.addr then fieldGet (fieldSet (s.word x.addr) x.lo x.width v) y.lo y.width else s.f y := by
  split
  · next h => simp only [State.f, State.set, h, State.word_setWord_same]
  · next h => exact s.f_set_ne x y v h

/-- A word outside a written register, for frames. -/
theorem State.word_set (s : State) (x : Fld) (v a : Nat) : (s.set x v).word a =
    if a = x.addr then fieldSet (s.word x.addr) x.lo x.width v else s.word a := by
  split
  · next h => subst h; exact s.word_setWord_same _ _
  · next h => exact s.word_set_ne x v a h

/-- A one-bit field reads the truth value written. -/
theorem State.on_setB_same (s : State) (x : Fld) (b : Bool) (h : x.lo + x.width ≤ 32) (hw : x.width = 1) :
    (s.setB x b).on x = b := by
  simp only [State.on, State.setB, s.f_set_same x _ h, hw]
  cases b <;> rfl

/-- A value that fits is read back as it was written. -/
theorem State.f_set_fits (s : State) (x : Fld) (v : Nat) (h : x.lo + x.width ≤ 32) (hv : v < 2 ^ x.width) :
    (s.set x v).f x = v := by rw [s.f_set_same x v h, Nat.mod_eq_of_lt hv]

/-- A field's value fits its width. -/
theorem State.f_lt (s : State) (x : Fld) : s.f x < 2 ^ x.width := fieldGet_lt _ _ _

/-- A saturating counter reads one more, or its greatest value. -/
theorem State.f_inc_same (s : State) (x : Fld) (h : x.lo + x.width ≤ 32) : (s.inc x).f x = satU x.width (s.f x + 1) := by
  refine s.f_set_fits x _ h ?_
  unfold satU; split
  · assumption
  · have := Nat.two_pow_pos x.width; omega

/-- The written bit of a field reads as written; its other bits read as before. -/
theorem State.fbit_setBit (s : State) (x : Fld) (k j : Nat) (b : Bool) (h : x.lo + x.width ≤ 32) (hk : k < x.width) :
    (s.setBit x k b).fbit x j = if j = k then b else s.fbit x j := by
  have hlt := s.f_lt x
  have : withBit (s.f x) k b < 2 ^ x.width := withBit_lt _ _ _ _ hlt hk
  simp only [State.fbit, State.setBit, s.f_set_fits x _ h this]
  exact bitOf_withBit _ _ _ _

/-! ### Frames -/

theorem SameRegsBut.refl (l : List Nat) (s : State) : SameRegsBut l s s := fun _ _ => rfl

theorem SameRegsBut.trans {l : List Nat} {s t u : State} (h : SameRegsBut l s t) (k : SameRegsBut l t u) : SameRegsBut l s u :=
  fun a ha => (k a ha).trans (h a ha)

theorem SameRegsBut.set {l : List Nat} {s t : State} (h : SameRegsBut l s t) (x : Fld) (v : Nat) (hx : x.addr ∈ l) :
    SameRegsBut l s (t.set x v) := fun a ha => by
  rw [t.word_set_ne x v a (fun e => ha (e ▸ hx))]; exact h a ha

theorem SameRegsBut.of_regs {l : List Nat} {s t u : State} (h : SameRegsBut l s t) (e : u.regs = t.regs) : SameRegsBut l s u :=
  fun a ha => (State.word_congr e a).trans (h a ha)

end Sys2Proof.Machine
end

