-- ==== Sys2Proof/Laws/Gate.lean ====
section
/-!
SUPPORT. What the shared operations of the gate array and of the latch do, and what they leave alone.
-/
namespace Sys2Proof.Machine

/-- What every pass of a list keeps, the pass keeps. -/
theorem State.each_ind {l : List Nat} {f : Nat → State → State} (P : State → Prop) (s : State)
    (h : ∀ i ∈ l, ∀ t, P t → P (f i t)) (hs : P s) : P (s.each l f) := by
  unfold State.each
  induction l generalizing s with
  | nil => exact hs
  | cons a l ih => exact ih _ (fun i hi => h i (List.mem_cons_of_mem _ hi)) (h a (List.mem_cons_self ..) s hs)

/-- A half-bridge with both gates low, driven with `h` and `l`; the dead time of a gate that was on runs. -/
def HbSt.low (b : HbSt) (h l : Nat) : HbSt :=
  { b with gh := false, gl := false, dtH := b.dtH || b.gh, dtL := b.dtL || b.gl, outH := h, outL := l, armH := false, armL := false
           softH := 0, softL := 0 }

@[simp] theorem State.setHb_fullDrive (k : Nat) (b : HbSt) (s : State) (h : Nat) (g : Bool) :
    (s.setHb k b).fullDrive h g = s.fullDrive h g := rfl

/-- Taking the gates of a half-bridge low writes its record only. -/
theorem hbGatesLow_eq (h : Nat) (s : State) : hbGatesLow h s = s.setHb h ((s.hb h).low (s.fullDrive h true) (s.fullDrive h false)) := rfl

theorem each_hbGatesLow (l : List Nat) (s : State) : ∃ m, s.each l hbGatesLow = { s with hbs := m } := by
  refine State.each_ind (fun t => ∃ m, t = { s with hbs := m }) s ?_ ⟨s.hbs, rfl⟩
  rintro i _ t ⟨m, rfl⟩
  exact ⟨_, rfl⟩

theorem each_hbGatesLow_hb (l : List Nat) (s : State) (k : Nat) :
    (s.each l hbGatesLow).hb k = if k ∈ l then (s.hb k).low (s.fullDrive k true) (s.fullDrive k false) else s.hb k := by
  unfold State.each
  induction l generalizing s with
  | nil => simp
  | cons a l ih =>
    show (l.foldl _ (hbGatesLow a s)).hb k = _
    rw [ih, hbGatesLow_eq, State.setHb_hb]
    by_cases h : k = a
    · subst h; by_cases hk : k ∈ l <;> simp [hk, HbSt.low]
    · simp [h]

/-- Taking a group's gates low changes the records of its half-bridges only. -/
theorem groupGatesLow_only (g : Nat) (s : State) : ∃ m, groupGatesLow g s = { s with hbs := m } := each_hbGatesLow _ s

@[simp] theorem groupGatesLow_hb (g k : Nat) (s : State) :
    (groupGatesLow g s).hb k = if k ∈ groupHbs g then (s.hb k).low (s.fullDrive k true) (s.fullDrive k false) else s.hb k := each_hbGatesLow_hb _ s k

@[simp] theorem groupGatesLow_regs (g : Nat) (s : State) : (groupGatesLow g s).regs = s.regs := by
  obtain ⟨m, e⟩ := groupGatesLow_only g s; rw [e]
@[simp] theorem groupGatesLow_f (g : Nat) (s : State) (x : Fld) : (groupGatesLow g s).f x = s.f x := State.f_congr (by simp) x
@[simp] theorem groupGatesLow_word (g : Nat) (s : State) (a : Nat) : (groupGatesLow g s).word a = s.word a :=
  State.word_congr (by simp) a
@[simp] theorem groupGatesLow_aux (g : Nat) (s : State) : (groupGatesLow g s).aux = s.aux := by
  obtain ⟨m, e⟩ := groupGatesLow_only g s; rw [e]
@[simp] theorem groupGatesLow_grp (g k : Nat) (s : State) : (groupGatesLow g s).grp k = s.grp k := by
  obtain ⟨m, e⟩ := groupGatesLow_only g s; rw [e]; rfl
@[simp] theorem groupGatesLow_pending (g : Nat) (s : State) : (groupGatesLow g s).pending = s.pending := by
  obtain ⟨m, e⟩ := groupGatesLow_only g s; rw [e]

/-- Ending a diagnostic run writes the group's result word and the engine, and nothing else. -/
theorem abortDiag_only (g : Nat) (s : State) :
    ∃ r a, abortDiag g s = { s with regs := r, aux := a } ∧ SameRegsBut [OD_RES_A g] s (abortDiag g s) ∧
      (a = s.aux ∨ a = { s.aux with engine := none }) := by
  have hin : (OD_RES_STATE g).addr ∈ [OD_RES_A g] := by simp [OD_RES_STATE]
  have key : ∀ t : State, (∃ r, t = { s with regs := r }) → SameRegsBut [OD_RES_A g] s t →
      ∃ r a, (if t.aux.engine = some g then { t with aux := { t.aux with engine := none } } else t) = { s with regs := r, aux := a } ∧
        SameRegsBut [OD_RES_A g] s (if t.aux.engine = some g then { t with aux := { t.aux with engine := none } } else t) ∧
        (a = s.aux ∨ a = { s.aux with engine := none }) := by
    rintro t ⟨r, rfl⟩ hr
    split
    · exact ⟨r, _, rfl, hr, Or.inr rfl⟩
    · exact ⟨r, s.aux, rfl, hr, Or.inl rfl⟩
  unfold abortDiag
  simp only
  split
  · exact key _ ⟨_, rfl⟩ ((SameRegsBut.refl _ s).set _ _ hin)
  · split
    · exact key _ ⟨_, rfl⟩ ((SameRegsBut.refl _ s).set _ _ hin)
    · exact key _ ⟨s.regs, rfl⟩ (SameRegsBut.refl _ s)

@[simp] theorem abortDiag_hb (g k : Nat) (s : State) : (abortDiag g s).hb k = s.hb k := by
  obtain ⟨r, a, e, _⟩ := abortDiag_only g s; rw [e]; rfl
@[simp] theorem abortDiag_grp (g k : Nat) (s : State) : (abortDiag g s).grp k = s.grp k := by
  obtain ⟨r, a, e, _⟩ := abortDiag_only g s; rw [e]; rfl
@[simp] theorem abortDiag_flt (g : Nat) (s : State) : (abortDiag g s).flt = s.flt := by
  obtain ⟨r, a, e, _⟩ := abortDiag_only g s; rw [e]
theorem abortDiag_word (g a : Nat) (s : State) (h : a ≠ OD_RES_A g) : (abortDiag g s).word a = s.word a := by
  obtain ⟨_, _, _, hr, _⟩ := abortDiag_only g s; exact hr a (by simpa using h)
theorem abortDiag_f (g : Nat) (x : Fld) (s : State) (h : x.addr ≠ OD_RES_A g) : (abortDiag g s).f x = s.f x := by
  unfold State.f; rw [abortDiag_word g _ s h]

/-- A pass of the request lines leaves a latched group as it is (R235). -/
theorem gateStep_latched (h : Nat) (s : State) (e : s.groupState (h / 6) = 4) : gateStep h s = s := by
  unfold gateStep; rw [if_pos e]

/-- In any other group it writes the half-bridge's record only, and keeps at most one gate on. -/
theorem gateStep_only (h : Nat) (s : State) (e : s.groupState (h / 6) ≠ 4) :
    ∃ b, gateStep h s = s.setHb h b ∧ (b.gh && b.gl) = false ∧ b.minRun = (s.hb h).minRun ∧
      b.hiReq = (s.hb h).hiReq ∧ b.loReq = (s.hb h).loReq ∧ ((s.hb h).hiReq = false → b.gh = false) ∧
      ((s.hb h).loReq = false → b.gl = false) := by
  unfold gateStep
  rw [if_neg e]
  extract_lets b b1 b2
  have h1 : b1.hiReq = b.hiReq ∧ b1.loReq = b.loReq ∧ b1.minRun = b.minRun ∧ (b1.gh = true → b.hiReq = true ∧ b.loReq = false) := by
    simp only [b1]; split <;> simp_all
  have h2 : b2.hiReq = b.hiReq ∧ b2.loReq = b.loReq ∧ b2.minRun = b.minRun ∧ b2.gh = b1.gh ∧
      (b2.gl = true → b.loReq = true ∧ b.hiReq = false) := by
    simp only [b2]; split <;> simp_all
  obtain ⟨-, -, -, g1⟩ := h1
  obtain ⟨hr, lr, m, ge, g2⟩ := h2
  rw [← ge] at g1
  split
  · refine ⟨b2, rfl, ?_, m, hr, lr, ?_, ?_⟩ <;> grind
  · split
    · refine ⟨_, rfl, ?_, m, hr, lr, ?_, ?_⟩ <;> simp only <;> grind
    · split
      · refine ⟨_, rfl, ?_, m, hr, lr, ?_, ?_⟩ <;> simp only <;> grind
      · refine ⟨b2, rfl, ?_, m, hr, lr, ?_, ?_⟩ <;> grind

end Sys2Proof.Machine
end

