-- ==== Sys2Proof/Tests/Slice0.lean ====
section
/-!
SUPPORT. The model's own tests: ill-formed commands that WellFormed refuses; for each statement, states and operands that meet the
hypotheses of its clauses, boundary values among them; single steps on small states with results from the specification.
-/
namespace Sys2Proof.Tests
open Sys2Proof.Machine
set_option Elab.async false

/-- A state with fields set. -/
def sets (l : List (Fld × Nat)) (s : State) : State := l.foldl (fun s p => s.set p.1 p.2) s
/-- The state after reset with fields set. -/
def st (l : List (Fld × Nat)) : State := sets l State.reset

/-! ### WellFormed smoke: one ill-formed command for each check -/

theorem test_wf_tick : (Instr.tick { ain := [], spare := 0, res := [], fltRet := 0 }).wf = false := by decide
theorem test_wf_pass_result : (Instr.plainPass ⟨[], [⟨0, 0, 0⟩], [], [], []⟩).wf = false := by decide
theorem test_wf_janus_parity : (Instr.janusPass ⟨[], [], [⟨0, 0, 2 ^ 30⟩], [], []⟩).wf = false := by decide
theorem test_wf_unfinished : (Instr.plainPass ⟨[1, 1], [], [], [], []⟩).wf = false := by decide
theorem test_wf_rerun : (Instr.rerunComplete 0 [⟨0, 0, 0⟩]).wf = false := by decide
theorem test_wf_freeze : (Instr.inputFreezeEnd [3, 3]).wf = false := by decide
theorem test_wf_commit_window : (Instr.voteAndCommit [3, 3]).wf = false := by decide
theorem test_wf_offdiag : (Instr.offdiagRunEnd [] [] []).wf = false := by decide
theorem test_wf_frame : (Instr.sitilFrameReceive 0 0 (List.replicate 260 0) 0 0).wf = false := by decide +kernel
theorem test_wf_scan : (Instr.updateDr ⟨[], [], [], []⟩).wf = false := by decide
theorem test_wf_injection : (Instr.startupInjection [(65, ⟨⟨0, none⟩, ⟨0, none⟩⟩)]).wf = false := by decide
theorem test_wf_finding : (Instr.fastBist [⟨0, 1, 25⟩] 0 []).wf = false := by decide
theorem test_wf_skip : (Instr.bistStep (.skip 0)).wf = false ∧ (Instr.fastBist [] 0 [0]).wf = false := by decide
theorem test_wf_remote : (Instr.remoteRequest ⟨0, 0, false, List.replicate 241 0⟩).wf = false := by decide +kernel
theorem test_wf_unknown : (Instr.unknownCommand 0x31 ⟨0, 0, 0, [], 0⟩).wf = false := by decide
theorem test_wf_host : ∀ c ∈ [Instr.readCmd, .writeCmd, .rmw, .waitCmd, .negotiate, .unlock, .commit, .status, .logpull],
    (c ⟨0, 0, 0, [1], 0⟩).wf = false := by decide

/-! ### Witnesses: the queue, the supply, the domains -/

theorem wit_step_front : ∃ (c : Instr) (rest : List Instr) (s : State), s.pending = c :: rest :=
  ⟨.csDiscard, [.lrst], { State.reset with pending := [.csDiscard, .lrst] }, rfl⟩
theorem wit_step_empty : ∃ s : State, s.pending = [] := ⟨State.reset, rfl⟩
theorem wit_unpowered : ∃ s t : State, Unpowered s ∧ step s = .next t :=
  ⟨{ State.reset with powered := false, pending := [.lrst] }, _, ⟨rfl, by
    intro i hi ms pos id
    rw [List.mem_singleton.mp hi]
    exact fun h => by cases h⟩, rfl⟩
theorem wit_domain_off : ∃ (c : Instr) (d : Nat) (s : State), c.domain = some d ∧ s.dom d = false :=
  ⟨.lrst, 2, st [(PWR_STAT_DOM_ON, 3)], by decide +kernel⟩
theorem wit_supply_kept : ∃ (c : Instr) (s t : State), (∀ ms pos id, c ≠ .por ms pos id) ∧ c ≠ .holdupExhausted ∧ exec c s = .next t :=
  ⟨.csDiscard, State.reset, _, ⟨nofun, nofun, rfl⟩⟩

/-! ### Acquisition -/

theorem wit_wheel : ∃ (w : Fin 12) (s : State) (e : Nat) (rest : List Nat), s.dom 5 = true ∧ s.on (WS_CFG_EN w) = true ∧
    (s.inp (0x70 + w)).edges = e :: rest :=
  ⟨11, (st [(WS_CFG_EN 11, 1)]).setInp 0x7B { edges := [5] }, 5, [], by decide +kernel⟩
theorem wit_ssi : ∃ (e : Fin 8) (s : State), s.dom 5 = true ∧ s.quiet = false ∧ s.eOn (ENC_CFG_EN e) = true :=
  ⟨7, st [(ENC_CFG_EN 7, 1)], by decide +kernel⟩
theorem wit_res_fault : ∃ (r : Fin 8) (s : State), s.dom 5 = true ∧ s.quiet = false ∧ s.on (RES_CFG_EN r) = true ∧
    (s.inp (0x60 + r)).pendCause = 0 := ⟨7, st [(RES_CFG_EN 7, 1)], by decide +kernel⟩
theorem wit_ws_fault : ∃ (w : Fin 12) (s : State), s.dom 5 = true ∧ s.on (WS_CFG_EN w) = true ∧ (s.inp (0x70 + w)).pendCause = 0 :=
  ⟨0, st [(WS_CFG_EN 0, 1)], by decide +kernel⟩
theorem wit_ws_open_shorts : ∃ (w : Fin 12) (s : State), s.dom 5 = true ∧ s.on (WS_CFG_EN w) = true ∧ (s.inp (0x70 + w)).pendCause = 1 ∧
    s.on (WS_STAT_SUP_OFF w) = false := ⟨11, (st [(WS_CFG_EN 11, 1)]).setInp 0x7B { pendCause := 1 }, by decide +kernel⟩
theorem wit_range : ∃ (k : Fin 96) (s : State), s.dom 5 = true ∧ s.quiet = false ∧ 48 ≤ k.val ∧ s.eOn (CH_CFG_EN k) = true ∧
    s.e (CH_CFG_RANGE_N k) ≤ (s.inp k).run ∧ s.on (CH_STAT_INVALID k) = false :=
  ⟨48, (st [(CH_CFG_EN 48, 1)]).setInp 48 { run := 15 }, by decide +kernel⟩
theorem wit_freeze : ∃ (k : Fin 124) (s : State), s.dom 5 = true ∧ s.quiet = false ∧ s.frozen k = true ∧ s.on (inpInvalidF k) = false :=
  ⟨95, (st [(CH_CFG_EN 95, 1), (CH_CFG_FRZ_EN 95, 1), (CH_CFG_FRZ_N 95, 1)]).setInp 95 { frz := [(0, 255, [(3, 2 ^ 40)])] }, by decide +kernel⟩
theorem wit_cross_lane : ∃ (k : Fin 124) (s : State), s.dom 5 = true ∧ s.quiet = false ∧ s.xlN k ≤ s.f (inpXlF k) ∧
    0 < s.f (inpXlF k) ∧ (s.inp k).xlRaised = false ∧ (s.votedOf k).three = true :=
  ⟨123, let s := st [(WS_TOL_XL_N 11, 1), (WS_STAT_XL_CNT 11, 15)]
    { s with afe := { s.afe with voted := [(123, { three := true })] } }, by decide +kernel⟩
theorem wit_sense : ∃ (h : Fin 48) (s : State), s.dom 5 = true ∧ s.quiet = false ∧ s.eOn (CH_CFG_EN h) = true ∧
    s.e (CH_CFG_RANGE_N h) ≤ (s.inp h).run ∧ (s.inp h).rangeSaid = false :=
  ⟨47, (st [(CH_CFG_EN 47, 1)]).setInp 47 { run := 15 }, by decide +kernel⟩
theorem wit_invalid_stays : ∃ (s : State) (k c : Nat), k < 124 ∧ c < 8 ∧ s.on (inpInvalidF k) = false :=
  ⟨State.reset, 123, 7, by decide +kernel⟩
theorem wit_late : ∃ (k : Nat) (s : State), k < 96 ∧ (s.inp k).prevVal < 2 ^ 24 ∧ (s.inp k).late = 2 ∧
    s.eOn (CH_CFG_EN k) = true := ⟨95, (st [(CH_CFG_EN 95, 1)]).setInp 95 { late := 2 }, by decide +kernel⟩
theorem wit_late_crossing : ∀ b : Bool, ∃ s : State, s.dom 5 = true ∧ s.quiet = false ∧ s.xStopped 0 = b := fun b =>
  ⟨st [(CDC_TMO_STOPPED, if b then 1 else 0)], by revert b; decide +kernel⟩
theorem wit_none_late : ∃ s : State, s.dom 5 = true ∧ s.quiet = false ∧ (∀ k, k < 96 → (s.inp k).late = 0) ∧ s.afe.xpend = none :=
  ⟨State.reset, by decide +kernel⟩

/-! ### Gate drive and current loops -/

theorem wit_shoot_latched : ∃ (h : Fin 48) (s : State), s.dom 6 = true ∧ s.groupState (h / 6) = 4 :=
  ⟨47, st [(BG_STAT_STATE 7, 4)], by decide +kernel⟩
theorem wit_shoot_new : ∃ (h : Fin 48) (s : State), s.dom 6 = true ∧ s.groupState (h / 6) ≠ 4 ∧ s.on (HB_STAT_LOCKOUT h) = false :=
  ⟨47, State.reset, by decide +kernel⟩
theorem wit_shoot_again : ∃ (h : Fin 48) (s : State), s.dom 6 = true ∧ s.groupState (h / 6) ≠ 4 ∧ s.on (HB_STAT_LOCKOUT h) = true :=
  ⟨0, st [(HB_STAT_LOCKOUT 0, 1)], by decide +kernel⟩
theorem wit_dead_time_high : ∃ (h : Fin 48) (s : State), s.dom 6 = true ∧ s.gateFree h = true ∧ s.on (HB_STAT_LOCKOUT h) = false ∧
    s.on (HB_STAT_BOOT_BLOCK h) = false ∧ (s.hb h).blkHi = false ∧ (s.hb h).hiReq = true ∧ (s.hb h).loReq = false ∧ (s.hb h).gl = false :=
  ⟨47, (st [(BG_STAT_STATE 7, 3)]).setHb 47 { hiReq := true }, by decide +kernel⟩
theorem wit_dead_time_low : ∃ (h : Fin 48) (s : State), s.dom 6 = true ∧ s.gateFree h = true ∧ s.on (HB_STAT_LOCKOUT h) = false ∧
    (s.hb h).loReq = true ∧ (s.hb h).hiReq = false ∧ (s.hb h).gh = false :=
  ⟨0, (st [(BG_STAT_STATE 0, 3)]).setHb 0 { loReq := true }, by decide +kernel⟩
theorem wit_request_path : ∃ (c : Instr) (s t : State), (∀ h, ((s.hb h).gh && (s.hb h).gl) = false) ∧
    (∃ h, c = .minPulseExpiry h) ∧ exec c s = .next t :=
  ⟨.minPulseExpiry 3, State.reset, _, fun _ => rfl, ⟨3, rfl⟩, rfl⟩
/-- A bus of 100 V (a full scale of 200 V at half of it), its edges measured in adaptive mode. -/
def edgeSt (h : Nat) (l : List (Fld × Nat)) : State :=
  st ([(HB_CFG_ADAPT h, 1), (FEAT_ACTIVE_LO_ACTIVE, 8), (HB_CFG_DT h, 100), (SUP_BCFG_BUS_FS 0, 200), (CH_VAL_VALUE 48, 2 ^ 22),
    (SUP_MAP_BUS_g, 0)] ++ l)
/-- Switch-node samples: `lo` of them at 5 V, `mid` at 50 V, one at 95 V; with `up` false in the other direction. -/
def ramp (lo mid : Nat) (up : Bool) : List Nat :=
  List.replicate lo (if up then 5000 else 95000) ++ List.replicate mid 50000 ++ [if up then 95000 else 5000]
theorem wit_edge_valid : ∃ (h : Fin 48) (high : Bool) (node : List Nat) (i : Nat) (kind : Fin 4) (m : Nat) (s : State), s.dom 6 = true ∧
    s.on (CH_STAT_INVALID (48 + s.busOf (h / 6))) = false ∧ (s.inp (48 + s.busOf (h / 6))).stale = false ∧
    nodeEdge (s.uBus23 (s.busOf (h / 6))) node = some (i, some m) ∧ edgeKind (s.f (HB_CFG_DT h)) high i = some kind.val ∧
    (s.e (HB_CFG_ADAPT h) == 1 && s.feature 3) = true ∧ 4 * s.e (HB_TGT_T_TGT h) + 4 * s.e (HB_TGT_TOL h) < 5 * m :=
  ⟨47, true, ramp 100 800 true, 100, 1, 800, edgeSt 47 [], by decide +kernel⟩
theorem wit_edge_fast : ∃ (h : Fin 48) (high : Bool) (node : List Nat) (i : Nat) (kind : Fin 4) (m : Nat) (s : State),
    nodeEdge (s.uBus23 (s.busOf (h / 6))) node = some (i, some m) ∧ edgeKind (s.f (HB_CFG_DT h)) high i = some kind.val ∧
    (s.e (HB_CFG_ADAPT h) == 1 && s.feature 3) = true ∧ 5 * m + 4 * s.e (HB_TGT_TOL h) < 4 * s.e (HB_TGT_T_TGT h) :=
  ⟨0, true, ramp 101 1 false, 101, 2, 1, edgeSt 0 [(HB_TGT_T_TGT 0, 255), (HB_TGT_TOL 0, 1)], by decide +kernel⟩
theorem wit_edge_on_target : ∃ (h : Fin 48) (high : Bool) (node : List Nat) (i : Nat) (kind : Fin 4) (m : Nat) (s : State),
    nodeEdge (s.uBus23 (s.busOf (h / 6))) node = some (i, some m) ∧ edgeKind (s.f (HB_CFG_DT h)) high i = some kind.val ∧
    (s.e (HB_CFG_ADAPT h) == 1 && s.feature 3) = true ∧
    5 * m ≤ 4 * s.e (HB_TGT_T_TGT h) + 4 * s.e (HB_TGT_TOL h) ∧ 4 * s.e (HB_TGT_T_TGT h) ≤ 5 * m + 4 * s.e (HB_TGT_TOL h) :=
  ⟨0, false, ramp 1 80 false, 1, 3, 80, edgeSt 0 [(HB_TGT_T_TGT 0, 100), (HB_TGT_TOL 0, 0)], by decide +kernel⟩
theorem wit_edge_miss : ∃ (h : Fin 48) (high : Bool) (node : List Nat) (i : Nat) (kind : Fin 4) (s : State), s.dom 6 = true ∧
    s.on (CH_STAT_INVALID (48 + s.busOf (h / 6))) = false ∧ (s.inp (48 + s.busOf (h / 6))).stale = false ∧
    nodeEdge (s.uBus23 (s.busOf (h / 6))) node = some (i, none) ∧ edgeKind (s.f (HB_CFG_DT h)) high i = some kind.val :=
  ⟨47, false, ramp 900 801 true, 900, 0, edgeSt 47 [], by decide +kernel⟩
theorem wit_edge_none : ∃ (h : Fin 48) (high : Bool) (node : List Nat) (i : Nat) (s : State), s.dom 6 = true ∧
    nodeEdge (s.uBus23 (s.busOf (h / 6))) [50000] = none ∧ nodeEdge (s.uBus23 (s.busOf (h / 6))) node = some (i, some 1) ∧
    edgeKind (s.f (HB_CFG_DT h)) high i = none :=
  ⟨47, false, ramp 901 1 true, 901, edgeSt 47 [], by decide +kernel⟩
theorem wit_edge_stale : ∃ (h : Fin 48) (s : State), s.dom 6 = true ∧
    (s.on (CH_STAT_INVALID (48 + s.busOf (h / 6))) || (s.inp (48 + s.busOf (h / 6))).stale) = true :=
  ⟨0, State.reset.setInp 48 { stale := true }, by decide +kernel⟩
theorem wit_boot_precharge : ∃ (h : Fin 48) (s : State), s.dom 6 = true ∧ s.groupState (h / 6) = 2 ∧ s.on (HB_STAT_BOOT_BLOCK h) = false :=
  ⟨47, st [(BG_STAT_STATE 7, 2)], by decide +kernel⟩
theorem wit_boot_enabled : ∃ (h : Fin 48) (s : State), s.dom 6 = true ∧ s.groupState (h / 6) = 3 ∧
    s.on (HB_STAT_BOOT_BLOCK h) = false ∧ s.f (HB_CFG_BOOT_MODE h) = 2 :=
  ⟨0, st [(BG_STAT_STATE 0, 3), (HB_CFG_BOOT_MODE 0, 2)], by decide +kernel⟩
theorem wit_boot_elsewhere : ∃ (h : Fin 48) (s : State), s.dom 6 = true ∧ s.groupState (h / 6) ≠ 2 ∧ s.groupState (h / 6) ≠ 3 :=
  ⟨47, st [(BG_STAT_STATE 7, 4)], by decide +kernel⟩
theorem wit_group_shutdown : ∃ (g : Fin 8) (s : State), s.dom 6 = true ∧ s.groupState g = 5 ∧ 20000000 = (s.grp g).shutTicks * s.tNs :=
  ⟨7, (st [(BG_STAT_STATE 7, 5)]).setGrp 7 { shutTicks := 400 }, by decide +kernel⟩
theorem wit_group_shutdown_early : ∃ (g : Fin 8) (s : State), s.dom 6 = true ∧ s.groupState g = 5 ∧ s.shutOver g = false :=
  ⟨0, (st [(BG_STAT_STATE 0, 5)]).setGrp 0 { shutTicks := 399 }, by decide +kernel⟩
theorem wit_group_precharge : ∃ (g : Fin 8) (s : State), s.dom 6 = true ∧ s.groupState g = 2 := ⟨0, st [(BG_STAT_STATE 0, 2)], by decide +kernel⟩
theorem wit_latch_clears : ∃ (g : Fin 8) (s : State), s.dom 6 = true ∧ s.groupState g = 4 ∧ s.on (SUP_LATCH_ARMED g) = true ∧
    causePersists s g = false := ⟨7, st [(BG_STAT_STATE 7, 4), (SUP_LATCH_ARMED 7, 1)], by decide +kernel⟩
theorem wit_latch_persists : ∃ (g : Fin 8) (s : State), s.dom 6 = true ∧ s.groupState g = 4 ∧ s.on (SUP_LATCH_ARMED g) = true ∧
    causePersists s g = true :=
  ⟨0, st [(BG_STAT_STATE 0, 4), (SUP_LATCH_ARMED 0, 1), (SUP_LATCH_CAUSES 0, 4), (SUP_GSTAT_UV, 1)], by decide +kernel⟩
theorem wit_latch_unread : ∃ (g : Fin 8) (s : State), s.dom 6 = true ∧ s.groupState g = 4 ∧ s.on (SUP_LATCH_ARMED g) = false :=
  ⟨3, st [(BG_STAT_STATE 3, 4)], by decide +kernel⟩
theorem wit_latch_read : ∃ (g : Fin 8) (s : State), s.dom 6 = true ∧ s.on (SUP_LATCH_LATCHED g) = true :=
  ⟨3, st [(SUP_LATCH_LATCHED 3, 1)], by decide +kernel⟩
theorem wit_diag_start : ∃ (g : Fin 8) (s : State), s.dom 6 = true ∧ s.aux.engine = none ∧ s.groupState g = 1 ∧
    s.f (OD_RES_STATE g) = 1 ∧ ∀ k < g.val, (s.groupState k == 1 && s.f (OD_RES_STATE k) == 1) = false :=
  ⟨7, st [(BG_STAT_STATE 7, 1), (OD_RES_STATE 7, 1)], by decide +kernel⟩
/-- A group in diagnostics on a bus of 48 V. -/
def diagSt : State :=
  { st [(BG_STAT_STATE 0, 1), (OD_RES_STATE 0, 2), (SUP_BCFG_BUS_FS 0, 96), (CH_VAL_VALUE 48, 2 ^ 22), (SUP_BTH2_U_UV 0, 200)] with
    aux := { engine := some 0 } }
theorem wit_diag_low_bus : ∃ (g : Fin 8) (s : State), s.dom 6 = true ∧ s.aux.engine = some g.val ∧ s.aux.odNotReady = true ∧
    s.odUnready g = true := ⟨0, { diagSt.set (SUP_BTH2_U_UV 0) 481 with aux := { engine := some 0, odNotReady := true } }, by decide +kernel⟩
theorem wit_diag_pass : ∀ b : Bool, ∃ (g : Fin 8) (nodes : List NodeMeas) (pa pb : List Nat) (s : State), s.dom 6 = true ∧
    s.aux.engine = some g.val ∧ s.aux.odNotReady = false ∧ s.on (BG_STAT_HELD g) = b ∧
    (setVerdicts [s.odMode (6 * g), s.odMode (6 * g + 1), s.odMode (6 * g + 2)] (s.uBus23 (s.busOf g)) (nodes.take 3) pa ++
      setVerdicts [s.odMode (6 * g + 3), s.odMode (6 * g + 4), s.odMode (6 * g + 5)] (s.uBus23 (s.busOf g))
        (nodes.drop 3) pb).all (fun x => x == 0 || x == 1) = true := fun b =>
  ⟨0, List.replicate 6 ⟨10000, 38000⟩, [], [], diagSt.setB (BG_STAT_HELD 0) b, by revert b; decide +kernel⟩
theorem wit_aux_tq : ∃ (x : Fin 2) (s : State), s.dom 6 = true ∧ bitOf s.aux.tqRbEp x = false ∧ bitOf s.aux.tqNew x = false :=
  ⟨1, State.reset, by decide +kernel⟩
theorem wit_aux_flt : ∃ (k : Fin 4) (s : State), s.dom 6 = true ∧ bitOf (s.e BLD_CFG_RET_STAGES) k = true :=
  ⟨3, st [(BLD_CFG_RET_STAGES, 8)], by decide +kernel⟩
theorem wit_aux_flt_unnamed : ∃ (k : Fin 4) (s : State), s.dom 6 = true ∧ bitOf (s.e BLD_CFG_RET_STAGES) k = false :=
  ⟨0, st [(BLD_CFG_RET_STAGES, 14)], by decide +kernel⟩
theorem wit_park : ∃ (k : Fin 2) (s : State), s.dom 6 = true ∧ s.msTicks 20 ≤ s.aux.parkBad.getD k 0 ∧ bitOf s.aux.parkEp k = false :=
  ⟨1, { State.reset with aux := { parkBad := [0, 400] } }, by decide +kernel⟩
/-- Bus 3 with the chopper at output 1, 96 V full scale, U_CH_ON 48 V and U_CH_OFF 24 V, and U_HOV 72 V: the comparators stand at half, at
a quarter and at three quarters of the 12-bit range. -/
def busSt (en : Nat) : State :=
  st [(SUP_BCFG_EN 3, en), (SUP_BCFG_CHOP 3, 2), (SUP_BCFG_BUS_FS 3, 96), (SUP_BTH_U_CH_ON 3, 480), (SUP_BTH_U_CH_OFF 3, 240),
    (SUP_BTH2_U_HOV 3, 720), (SUP_MAP_BUS_g, 3 * 2 ^ 14), (BG_STAT_STATE 7, 3)]
theorem wit_chopper : ∃ (k : Fin 4) (c : Nat) (x y z : Int) (s : State), s.dom 6 = true ∧ s.chopOut k = some c ∧ s.aux.auxHeld = false ∧
    aboveEdge (s.busCode k (s.f (SUP_BTH_U_CH_ON k))) x y z = true ∧ aboveEdge (s.busCode k (s.f (SUP_BTH_U_CH_ON k))) x y (z - 1) = false :=
  ⟨3, 1, 0, 16385, 16385, busSt 1, by decide +kernel⟩
theorem wit_chopper_below : ∃ (k : Fin 4) (c : Nat) (x y z : Int) (s : State), s.dom 6 = true ∧ s.chopOut k = some c ∧
    s.on (SUP_BCFG_EN k) = true ∧ belowEdge (s.busCode k (s.f (SUP_BTH_U_CH_OFF k))) x y z = true ∧
    belowEdge (s.busCode k (s.f (SUP_BTH_U_CH_OFF k))) x y (z + 1) = false :=
  ⟨3, 1, 30000, 8191, 8191, busSt 1, by decide +kernel⟩
theorem wit_bus_off : ∃ (k : Fin 4) (s : State), s.dom 6 = true ∧ s.on (SUP_BCFG_EN k) = false := ⟨3, busSt 0, by decide +kernel⟩
theorem wit_chop_long : ∃ (c : Fin 2) (s : State), s.dom 6 = true ∧ s.fbit AUX_STAT_CHOP_ACT c = true ∧ bitOf s.aux.chopEp c = false :=
  ⟨1, st [(AUX_STAT_CHOP_ACT, 2)], by decide +kernel⟩
theorem wit_window : ∃ (h : Fin 48) (s : State), s.dom 6 = true ∧ s.f (VDU_STAT_STATE (h / 3)) = 1 ∧ s.f (VDU_STAT_MODE (h / 3)) = 1 ∧
    s.rank1 (h / 3) = false ∧ (s.vdu (h / 3)).saved = none ∧ (s.vdu (h / 3)).wait = 0 ∧
    ∀ i, i < 3 → (s.hb (3 * (h / 3) + i)).minRun = false :=
  ⟨47, st [(BG_STAT_STATE 7, 3), (VDU_STAT_STATE 15, 1), (VDU_STAT_MODE 15, 1)], by decide +kernel⟩
theorem wit_rank1 : ∀ k ∈ [3, 4], ∃ (u : Fin 16) (s : State), s.dom 6 = true ∧ s.f (VDU_STAT_STATE u) = 1 ∧ s.rank1 u = true ∧
    s.groupState (u / 2) = k := fun k hk =>
  ⟨15, st [(VDU_STAT_STATE 15, 1), (BG_STAT_STATE 7, k), (BG_STAT_HELD 7, 1)], by revert k; decide +kernel⟩
theorem wit_refresh_none : ∃ (h : Fin 48) (s : State), s.dom 6 = true ∧ s.f (HB_CFG_BOOT_MODE h) = 2 ∧ s.isHigh h = true :=
  ⟨0, st [(HB_CFG_BOOT_MODE 0, 2), (HB_LOOP_SW 0, 1), (HB_LOOP_OFF 0, 0)], by decide +kernel⟩
theorem wit_refresh_low : ∃ (h : Fin 48) (s : State), s.dom 6 = true ∧ s.f (HB_CFG_BOOT_MODE h) = 0 ∧ s.isHigh h = false :=
  ⟨47, State.reset, by decide +kernel⟩
theorem wit_refresh : ∃ (h : Fin 48) (s : State), s.dom 6 = true ∧ s.f (HB_CFG_BOOT_MODE h) ≠ 2 ∧ s.isHigh h = true ∧
    s.f (VDU_STAT_STATE (h / 3)) = 1 ∧ s.f (VDU_STAT_MODE (h / 3)) = 1 ∧ s.rank1 (h / 3) = false ∧ (s.vdu (h / 3)).saved = none ∧
    ∀ i, i < 3 → (s.hb (3 * (h / 3) + i)).minRun = false :=
  ⟨0, st [(BG_STAT_STATE 0, 3), (VDU_STAT_STATE 0, 1), (VDU_STAT_MODE 0, 1), (HB_LOOP_SW 0, 1), (HB_LOOP_OFF 0, 0)], by decide +kernel⟩
theorem wit_refresh_end : ∃ (u : Fin 16) (v : Nat) (s : State), s.dom 6 = true ∧ s.f (VDU_STAT_STATE u) = 1 ∧ s.rank1 u = false ∧
    (s.vdu u).saved = some v ∧ v < 8 ∧ ∀ i, i < 3 → (s.hb (3 * u + i)).minRun = false :=
  ⟨15, 7, (st [(BG_STAT_STATE 7, 3), (VDU_STAT_STATE 15, 1)]).setVdu 15 { saved := some 7 }, by decide +kernel⟩
theorem wit_min_pulse : ∃ (h : Fin 48) (s : State), s.dom 6 = true ∧ s.f (VDU_STAT_STATE (h / 3)) ≠ 1 := ⟨47, State.reset, by decide +kernel⟩
/-- Unit 15 in VECTOR mode at V7, its last MIN_PULSE that of HB_47, whose window asks for LOW where `d` is 2. -/
def minPulseSt (d : Nat) : State :=
  (st [(BG_STAT_STATE 7, 3), (VDU_STAT_STATE 15, 1), (VDU_STAT_MODE 15, 1), (HB_LOOP_SW 45, 1), (HB_LOOP_OFF 45, 0), (HB_LOOP_SW 46, 1),
    (HB_LOOP_OFF 46, 0), (HB_LOOP_SW 47, 1), (HB_LOOP_OFF 47, 0), (HB_LOOP_FILT 47, d)]).setHb 47 { minRun := true }
theorem wit_min_pulse_vector : ∀ d ∈ [0, 2], ∃ (h : Fin 48) (s : State), s.dom 6 = true ∧ s.f (VDU_STAT_STATE (h / 3)) = 1 ∧
    s.f (VDU_STAT_MODE (h / 3)) = 1 ∧ s.rank1 (h / 3) = false ∧ (s.vdu (h / 3)).saved = none ∧ (s.vdu (h / 3)).wait = 0 ∧
    (∀ i, i < 3 → 3 * (h.val / 3) + i ≠ h.val → (s.hb (3 * (h.val / 3) + i)).minRun = false) ∧
    ((vectorTable (s.vec (h / 3)) (s.f (HB_LOOP_FILT (3 * (h.val / 3)))) (s.f (HB_LOOP_FILT (3 * (h.val / 3) + 1)))
      (s.f (HB_LOOP_FILT (3 * (h.val / 3) + 2)))).getD (s.vec (h / 3)) = s.vec (h / 3) ↔ d = 0) := fun d hd =>
  ⟨47, minPulseSt d, by revert d; decide +kernel⟩

/-! ### Protection -/

theorem wit_blanking : ∃ (h : Fin 48) (s : State), s.dom 6 = true ∧ s.on (SUP_DCFG_EN (h / 6)) = true ∧ s.groupState (h / 6) = 3 ∧
    (s.hb h).gh = true := ⟨47, (st [(SUP_DCFG_EN 7, 1), (BG_STAT_STATE 7, 3)]).setHb 47 { gh := true }, by decide +kernel⟩
theorem wit_desat : ∃ (h : Fin 48) (s : State), s.dom 6 = true ∧ s.desatSeen h true = true ∧ s.on (SUP_LATCH_LATCHED (h / 6)) = false ∧
    s.groupState (h / 6) = 3 ∧ s.f (SUP_LATCH_DSAT_H (h / 6)) = 0 ∧ s.f (SUP_LATCH_DSAT_L (h / 6)) = 0 ∧
    ∀ k, (s.hb k).softH = 0 ∧ (s.hb k).softL = 0 :=
  ⟨0, { st [(BG_STAT_STATE 0, 3), (SUP_DCFG_EN 0, 1)] with hbs := [(0, { gh := true, armH := true })] }, by decide +kernel, by decide +kernel,
    by decide +kernel, by decide +kernel, by decide +kernel, by decide +kernel, fun k => by
      cases k <;> exact ⟨rfl, rfl⟩⟩
theorem wit_desat_low : ∃ (h : Fin 48) (s : State), s.dom 6 = true ∧ s.desatSeen h false = true ∧ s.groupState (h / 6) = 3 ∧
    s.on (SUP_LATCH_LATCHED (h / 6)) = false := ⟨47, (st [(BG_STAT_STATE 7, 3), (SUP_DCFG_EN 7, 1)]).setHb 47 { gl := true, armL := true }, by decide +kernel⟩
theorem wit_desat_off : ∃ (h : Fin 48) (s : State), s.dom 6 = true ∧ (s.hb h).armH = true ∧ s.desatSeen h true = false :=
  ⟨47, (st [(SUP_DCFG_EN 7, 0)]).setHb 47 { gh := true, armH := true }, by decide +kernel⟩
theorem wit_soft : ∃ (h : Fin 48) (s : State), s.dom 6 = true ∧ (s.hb h).softH = 1 ∧ (s.hb h).softL = 1 :=
  ⟨47, State.reset.setHb 47 { softH := 1, softL := 1 }, by decide +kernel⟩
theorem wit_over_voltage : ∃ (k : Fin 4) (g : Fin 8) (x y z : Int) (s : State), s.dom 6 = true ∧ s.on (SUP_BCFG_EN k) = true ∧
    aboveEdge (s.busCode k (s.f (SUP_BTH2_U_HOV k))) x y z = true ∧ aboveEdge (s.busCode k (s.f (SUP_BTH2_U_HOV k))) x y (z - 1) = false ∧
    s.busOf g = k.val ∧ s.groupState g ≠ 0 ∧ s.groupState g ≠ 4 := ⟨3, 7, 0, 24577, 24577, busSt 1, by decide +kernel⟩
theorem wit_under_voltage : ∃ (k : Fin 4) (s : State), s.dom 6 = true ∧ s.on (SUP_BCFG_EN k) = true ∧ 10 ≤ s.aux.uvRun.getD k 0 ∧
    s.on (SUP_BSTAT_UV k) = false := ⟨3, { busSt 1 with aux := { uvRun := [0, 0, 0, 10] } }, by decide +kernel⟩
theorem wit_no_under_voltage : ∀ x ∈ [(0, 10, 0), (1, 9, 0), (1, 10, 8)], ∃ (k : Fin 4) (s : State), s.dom 6 = true ∧
    s.on (SUP_BCFG_EN k) = (x.1 == 1) ∧ s.aux.uvRun.getD k 0 = x.2.1 ∧ s.on (SUP_BSTAT_UV k) = (x.2.2 == 8) ∧
    (s.on (SUP_BCFG_EN k) = false ∨ s.aux.uvRun.getD k 0 < 10 ∨ s.on (SUP_BSTAT_UV k) = true) := fun x hx =>
  ⟨3, { (busSt x.1).set (SUP_BSTAT_UV 3) (x.2.2 / 8) with aux := { uvRun := [0, 0, 0, x.2.1] } }, by revert x; decide +kernel⟩
theorem wit_gate_supply : ∃ (j : Fin 4) (g : Nat) (s : State), s.dom 6 = true ∧ g = 2 * j.val + 1 ∧ s.groupState g ≠ 0 ∧ s.groupState g ≠ 4 :=
  ⟨3, 7, st [(BG_STAT_STATE 7, 3)], by decide +kernel⟩

/-! ### Safe stop, vehicle functions, axes -/

theorem wit_escalate : ∃ s : State, s.dom 2 = true ∧ s.quiet = false ∧ s.f SS_STAT_PHASE = 1 ∧ s.on SS_STAT_NO_MEAS = true :=
  ⟨st [(SS_STAT_PHASE, 1), (SS_STAT_NO_MEAS, 1)], by decide +kernel⟩
theorem wit_escalate_time : ∃ s : State, s.dom 2 = true ∧ s.quiet = false ∧ s.f SS_STAT_PHASE = 1 ∧
    0 < s.e SS_MON_T_ESC ∧ s.e SS_MON_T_ESC * 1000000 = s.ss.below * s.tNs :=
  ⟨{ st [(SS_STAT_PHASE, 1), (SS_MON_T_ESC, 100)] with ss := { below := 2000 } }, by decide +kernel⟩
theorem wit_standstill : ∃ s : State, s.dom 2 = true ∧ s.quiet = false ∧ s.f SS_STAT_PHASE = 2 ∧
    s.e SS_STOP_T_HOLD * 1000000 = s.ss.still * s.tNs :=
  ⟨{ st [(SS_STAT_PHASE, 2), (SS_STOP_T_HOLD, 10000)] with ss := { still := 200000 } }, by decide +kernel⟩
theorem wit_park_done : ∃ s : State, s.dom 2 = true ∧ s.quiet = false ∧ s.f SS_STAT_PHASE = 3 ∧ s.parkApplied = true ∧
    s.e SS_PARK_T_APPLY * 1000000 ≤ s.ss.secure * s.tNs :=
  ⟨{ st [(SS_STAT_PHASE, 3), (SS_PARK_T_APPLY, 1000)] with ss := { secure := 20000 } }, by decide +kernel⟩
theorem wit_park_late : ∃ s : State, s.dom 2 = true ∧ s.quiet = false ∧ s.f SS_STAT_PHASE = 3 ∧ s.parkApplied = false ∧
    2 * s.e SS_PARK_T_APPLY * 1000000 ≤ s.ss.secure * s.tNs :=
  ⟨{ st [(SS_STAT_PHASE, 3), (SS_PARK_T_APPLY, 1000), (AX_CFG_STRUCT 15, 3), (AX_STAT_STATE 15, 3)] with ss := { secure := 40000 } },
    by decide +kernel⟩
theorem wit_link_mismatch : ∃ s : State, s.dom 2 = true ∧ 10 ≤ s.veh.linkRun ∧ s.veh.misEp = false :=
  ⟨{ State.reset with veh := { linkRun := 10 } }, by decide +kernel⟩
theorem wit_link_seen : ∃ s : State, s.dom 2 = true ∧ s.veh.misEp = true :=
  ⟨{ State.reset with veh := { misEp := true } }, by decide +kernel⟩
theorem wit_ret_hold : ∃ s : State, s.dom 2 = true ∧ s.veh.linkEp = true ∧ s.msTicks (s.e BLD_LINK2_HOLD_MS) ≤ s.veh.holdTicks :=
  ⟨{ State.reset with veh := { linkEp := true, holdTicks := 2000000 } }, by decide +kernel⟩
theorem wit_trim : ∃ s : State, s.dom 2 = true ∧ s.msTicks 1000 ≤ s.veh.trimRun ∧ s.veh.trimEp = false :=
  ⟨{ State.reset with veh := { trimRun := 20000 } }, by decide +kernel⟩
theorem wit_track : ∃ (k : Fin 4) (s : State), s.dom 2 = true ∧ s.msTicks (s.e STR_TRACK_TRACK_MS) ≤ s.veh.trackRun.getD k 0 ∧
    0 < s.veh.trackRun.getD k 0 ∧ bitOf s.veh.trackEp k = false :=
  ⟨3, { State.reset with veh := { trackRun := [0, 0, 0, 200000] } }, by decide +kernel⟩
theorem wit_coast_lost : ∃ (n : Fin 16) (s : State), s.dom 2 = true ∧ s.on (AX_STAT_COAST n) = true ∧
    s.msTicks 20 ≤ s.f (AX_COAST_TICKS n) ∧ s.axState n = 2 :=
  ⟨15, st [(AX_STAT_STATE 15, 2), (AX_STAT_COAST 15, 1), (AX_COAST_TICKS 15, 400)], by decide +kernel⟩
theorem wit_shutdown_lost : ∃ (n : Fin 16) (s : State), s.dom 2 = true ∧ s.axState n = 3 ∧
    2 * s.e (AX_CFG_SHUT_MS n) * 1000000 = (s.axs n).shutTicks * s.tNs :=
  ⟨0, (st [(AX_STAT_STATE 0, 3), (AX_CFG_SHUT_MS 0, 100)]).setAxs 0 { shutTicks := 4000 }, by decide +kernel⟩
theorem wit_shutdown_early : ∃ (n : Fin 16) (s : State), s.dom 2 = true ∧ s.axState n = 3 ∧ s.shutLate n = false :=
  ⟨0, (st [(AX_STAT_STATE 0, 3), (AX_CFG_SHUT_MS 0, 100)]).setAxs 0 { shutTicks := 3999 }, by decide +kernel⟩
theorem wit_no_coast : ∃ (n : Fin 16) (s : State), s.dom 2 = true ∧ s.axState n = 2 ∧ s.on (AX_STAT_COAST n) = false :=
  ⟨3, st [(AX_STAT_STATE 3, 2)], by decide +kernel⟩

/-! ### The tick and Janus -/

/-- The state in QUIET. -/
def quietSt : State := st [(PWR_STAT_STATE, 1), (PWR_STAT_DOM_ON, 0xBF)]
theorem wit_engine_off : ∃ s : State, s.engineOn = false ∧ s.quiet = true := ⟨quietSt, by decide +kernel⟩
theorem wit_tick_slews : ∃ s : State, s.dom 2 = true ∧ s.tk.phase.natAbs ≤ 10 ∧ s.on TICK_STAT_SLEWING = false ∧ s.tk.bistLate = true :=
  ⟨{ State.reset with tk := { phase := -10, bistLate := true } }, by decide +kernel⟩
theorem wit_tick_grid : ∃ s : State, s.f TICK_STAT_SRC_ACT = 0 ∧ s.engOld = [] ∧ s.tk.first = false ∧ s.tk.phase = 0 ∧ s.f TICK_CFG_LEN < 3 ∧
    s.f TICK_STAT_LEN_ACT = s.f TICK_CFG_LEN ∧ s.time < s.tk.at_ + s.tNs / 2 * 2 ^ 32 :=
  ⟨{ State.reset with tk := { first := false } }, by decide +kernel⟩
theorem wit_pass : ∃ s : State, s.dom 2 = true ∧ s.engineOn = true ∧ s.quiet = false := ⟨State.reset, by decide +kernel⟩
theorem wit_no_slot : ∃ (n : Fin 16) (s : State), s.dom 2 = true ∧ s.engineOn = true ∧ s.e (AX_CFG_STRUCT n) = 0 :=
  ⟨15, State.reset, by decide +kernel⟩
theorem wit_coded : ∃ w : List Int, (∀ v ∈ w, -puMax ≤ v ∧ v ≤ puMax) ∧ w.length = 3 := ⟨[-puMax, 0, puMax], by decide +kernel⟩
theorem wit_no_mismatch : ∃ s : State, s.dom 2 = true ∧ s.engineOn = true ∧ s.jan.mism = [] ∧ s.jan.waiting = [] :=
  ⟨State.reset, by decide +kernel⟩
/-- Axis 15 waits for its re-run. -/
def rerunSt (p c : RunRes) : State :=
  { State.reset with
    axes := [(15, { runIn := some (State.reset.progIn 0, State.reset.chainIn 0), plain := some p, coded := some c })]
    jan := { rerunAt := some 15, waiting := [15], mism := [15] } }
theorem wit_rerun : ∃ (n : Fin 16) (i : ProgIn) (ci : ChainIn) (p c : RunRes) (s : State), s.dom 2 = true ∧ s.engineOn = true ∧
    s.jan.rerunAt = some n.val ∧ (s.axs n).runIn = some (i, ci) ∧ (s.axs n).plain = some p ∧ (s.axs n).coded = some c ∧
    s.jan.waiting = [n.val] ∧ (s.axs n).plainOk = true ∧ (s.axs n).codedOk = true :=
  ⟨15, State.reset.progIn 0, State.reset.chainIn 0, ⟨[], 0⟩, ⟨[], 0⟩, rerunSt ⟨[], 0⟩ ⟨[], 0⟩, by decide +kernel⟩
theorem wit_march : ∃ (n : Nat) (s : State), s.dom 2 = true ∧ s.quiet = false ∧ n < 16 ∧ s.jan.marching = some n ∧ (s.axs n).sliceFail = true :=
  ⟨15, { State.reset with jan := { marching := some 15 }, axes := [(15, { sliceFail := true })] }, by decide +kernel⟩
theorem wit_no_march : ∃ s : State, s.dom 2 = true ∧ s.quiet = false ∧ s.jan.marching = none := ⟨State.reset, by decide +kernel⟩
theorem wit_self_test : ∃ (k : Nat) (s : State), s.dom 2 = true ∧ s.quiet = false ∧ s.tk.missed = [] ∧ s.tickNo % 1000 ≠ 0 ∧
    s.jan.goIdx = some k := ⟨64, { State.reset with tickNo := 1001, jan := { goIdx := some 64 } }, by decide +kernel⟩

/-! ### Moamel -/

theorem wit_link_right : ∃ (m : Fin 4) (pos : BitVec 4) (ringN : BitVec 5) (s : State), s.dom 4 = true ∧
    (s.f (LK_STAT_STATE m) = 1 ∨ s.f (LK_STAT_STATE m) = 3) ∧ pos.toNat = s.neighbour m ∧ ringN.toNat = s.ringN :=
  ⟨0, 2, 3, st [(LK_STAT_STATE 0, 3), (MM_CFG_RING_N, 3)], by decide +kernel⟩
theorem wit_link_wrong : ∃ (m : Fin 4) (pos : BitVec 4) (s : State), s.dom 4 = true ∧
    (s.f (LK_STAT_STATE m) = 1 ∨ s.f (LK_STAT_STATE m) = 3) ∧ pos.toNat ≠ s.neighbour m :=
  ⟨3, 2, st [(LK_STAT_STATE 3, 1), (MM_CFG_RING_N, 3)], by decide +kernel⟩
theorem wit_link_off : ∃ (m : Fin 4) (s : State), s.dom 4 = true ∧ (s.f (LK_STAT_STATE m) = 0 ∨ s.f (LK_STAT_STATE m) = 2) ∧
    s.linkUp m = true := ⟨3, st [(LK_STAT_STATE 3, 2)], by decide +kernel⟩
theorem wit_link_down : ∃ (m : Fin 4) (s : State), s.dom 4 = true ∧ s.linkUp m = false := ⟨0, State.reset, by decide +kernel⟩
/-- A record of position `p` with nothing in it. -/
def xrec (p : Nat) : XRec :=
  ⟨.full, 0, p, 0, 0, 0, 0, 0, 0, 0, 0, false, false, 0, false, 0, 0, 0, 0, [], [], 0, 0, [], false, false, 0, 0, 0, none, none, [], [],
    none⟩
theorem test_wf_record : (Instr.exchangeRecord true ⟨true, 0, false⟩ ⟨true, 0, false⟩ (xrec 16) 0).wf = false := by decide
theorem wit_exchange : ∃ (r : XRec) (atNs : Nat) (a b : XCopy) (s : State), s.dom 4 = true ∧
    ((s.linkHears 1 && a.ok) || (s.linkHears 3 && b.ok)) = true ∧ r.kind ≠ .idle ∧ r.pos ≠ s.pos ∧ atNs ≤ s.tNs * 6 / 100 ∧ atNs + 1 > s.tNs * 6 / 100 :=
  ⟨xrec 1, 3000, ⟨false, 0, true⟩, ⟨true, 0, false⟩, st [(LK_STAT_STATE 3, 2)], by decide +kernel⟩
theorem wit_exchange_late : ∃ (r : XRec) (atNs : Nat) (a b : XCopy) (s : State), s.dom 4 = true ∧
    ((s.linkHears 0 && a.ok) || (s.linkHears 2 && b.ok)) = true ∧ r.kind ≠ .idle ∧ r.pos ≠ s.pos ∧ s.tNs * 6 / 100 < atNs :=
  ⟨xrec 1, 3001, ⟨true, 0, false⟩, ⟨false, 0, true⟩, st [(LK_STAT_STATE 0, 2)], by decide +kernel⟩
theorem wit_exchange_own : ∃ (r : XRec) (a b : XCopy) (s : State), s.dom 4 = true ∧
    ((s.linkHears 1 && a.ok) || (s.linkHears 3 && b.ok)) = true ∧ r.kind ≠ .idle ∧ r.pos = s.pos :=
  ⟨xrec 0, ⟨true, 0, false⟩, ⟨true, 0, false⟩, st [(LK_STAT_STATE 1, 2)], by decide +kernel⟩
theorem wit_exchange_stopped : ∃ (a b : XCopy) (r : XRec) (s : State), s.dom 4 = true ∧ r.kind ≠ .idle ∧ s.linkUp 1 = true ∧ a.ok = true ∧
    ((s.linkHears 1 && a.ok) || (s.linkHears 3 && b.ok)) = false :=
  ⟨⟨true, 0, false⟩, ⟨true, 0, false⟩, xrec 1, st [(LK_STAT_STATE 1, 2), (CDC_TMO_STOPPED, 128)], by decide +kernel⟩
theorem wit_exchange_bad : ∃ (a b : XCopy) (s : State), s.dom 4 = true ∧
    ((s.linkHears 1 && a.ok) || (s.linkHears 3 && b.ok)) = false := ⟨⟨true, 0, false⟩, ⟨true, 0, false⟩, State.reset, by decide +kernel⟩
theorem wit_take_back : ∃ s : State, s.dom 2 = true ∧ s.quiet = false ∧ 20000 ≤ s.f LN_TB_CLEAN ∧ s.f LN_STAT_STATE = 2 ∧
    s.on LN_CFG_TB_EN = true ∧ s.ln.next = none ∧ s.ln.gaveUp = 0 :=
  ⟨st [(LN_TB_CLEAN, 20000), (LN_STAT_STATE, 2), (LN_CFG_TB_EN, 1)], by decide +kernel⟩
theorem wit_not_clean : ∃ s : State, s.dom 2 = true ∧ s.f LN_TB_CLEAN < 20000 := ⟨st [(LN_TB_CLEAN, 19999)], by decide +kernel⟩
theorem wit_sync_far : ∃ (off : Int) (s : State), s.dom 4 = true ∧ 2000 < off.natAbs ∧ -50 ≤ off := ⟨2001, State.reset, by decide +kernel⟩
theorem wit_sync_near : ∃ (off : Int) (s : State), s.dom 4 = true ∧ off.natAbs ≤ 2000 ∧ -50 ≤ off := ⟨-50, State.reset, by decide +kernel⟩
theorem wit_sync_loss : ∃ s : State, s.dom 4 = true ∧ 3 ≤ s.mm.syncMiss ∧ s.mm.syncLossEp = false :=
  ⟨{ State.reset with mm := { syncMiss := 3 } }, by decide +kernel⟩
theorem wit_alarm : ∃ s : State, s.dom 4 = true ∧ s.on MM_STAT_ALARM_OUT = false ∧ s.on MM_STAT_ALARM_IN = false := ⟨State.reset, by decide +kernel⟩

/-! ### Sitil, the safety layer, network time, Charon -/

/-- A node 7 with one schedule entry, of sender `n`, on both channels, four bytes long, received; both channels are ACTIVE. -/
def sitSt (n : Nat) : State :=
  let s := st [(SIT_ID_NODE_ID, 7), (SCH_CFG_N, 1), (SIT_STAT_STATE_X, 4), (SIT_STAT_STATE_Y, 4)]
  let s := { s with regs := s.regs ++ [(schBase + 4, BitVec.ofNat 32 (n * 2 ^ 16 + 3 * 2 ^ 14 + 1 * 2 ^ 11 + 4)),
    (schBase + 8, 0x00001001)] }
  { s with sit := { ports := [(0, { en := true }), (2, { en := true })] } }
/-- A frame of entry 0 from node `n`. -/
def frm (n : Nat) : Frame := ⟨n, 0, 1, 0, 1, false, false, false, false, 4, [1, 2, 3, 4], 0⟩
def bytes8 (l : List Nat) : List (BitVec 8) := l.map (BitVec.ofNat 8)
theorem wit_frame_round : ∃ f : Frame, f.node < 2 ^ 16 ∧ f.slot < 2 ^ 13 ∧ f.ver < 2 ^ 3 ∧ f.cycle < 2 ^ 16 ∧ f.age < 2 ^ 4 ∧
    f.len ≤ 240 ∧ f.payload.length = f.len ∧ (∀ b ∈ f.payload, b < 256) ∧ f.corr < 2 ^ 48 :=
  ⟨⟨65535, 8191, 7, 65535, 15, true, true, true, true, 240, List.replicate 240 255, 2 ^ 48 - 1⟩, by decide +kernel⟩
theorem wit_send : ∃ (ch : Fin 2) (x : SchE) (s : State), s.dom 3 = true ∧ s.ownEntries.find? (fun y => y.idx == 0) = some x ∧
    x.onCh ch = true ∧ x.activeIn s.cycNo = true ∧ s.chPorts ch ≠ [] ∧ s.chState ch = 4 :=
  ⟨1, (sitSt 7).sch 0, sitSt 7, by decide +kernel⟩
theorem wit_not_own : ∃ s : State, s.dom 3 = true ∧ s.ownEntries.find? (fun y => y.idx == 0) = none := ⟨sitSt 8, by decide +kernel⟩
theorem wit_port_off : ∃ (p : Fin 4) (s : State), s.dom 3 = true ∧ s.portOn p = false := ⟨1, sitSt 8, by decide +kernel⟩
/-- The code groups of bytes on the line. -/
def groupsOf (l : List Nat) : List (BitVec 10) := (lineOf l).map (BitVec.ofNat 10)
theorem wit_frame_stopped : ∃ (p : Fin 4) (s : State), s.dom 3 = true ∧ s.portOn p = true ∧ s.chState (p / 2) ≠ 0 ∧ s.xStopped (2 + p) = true :=
  ⟨2, sets [(CDC_TMO_STOPPED, 16)] (sitSt 8), by decide +kernel⟩
theorem wit_frame_code : ∃ (p : Fin 4) (g : List (BitVec 10)) (s : State), s.dom 3 = true ∧ s.portOn p = true ∧ s.chState (p / 2) ≠ 0 ∧
    s.xStopped (2 + p) = false ∧ codedBytes (g.map BitVec.toNat) = none ∧ (codedBytes (g.map BitVec.toNat)).bind Frame.parse = none :=
  ⟨2, (groupsOf ((frm 8).bytes true)).take 5 ++ [0] ++ (groupsOf ((frm 8).bytes true)).drop 6, sitSt 8, by decide +kernel⟩
theorem wit_frame_bad : ∃ (p : Fin 4) (g : List (BitVec 10)) (b : List Nat) (f : Frame) (s : State), s.dom 3 = true ∧ s.portOn p = true ∧
    s.chState (p / 2) ≠ 0 ∧ s.xStopped (2 + p) = false ∧ codedBytes (g.map BitVec.toNat) = some b ∧ Frame.parse b = some f ∧ frameCrcOk b = false :=
  ⟨2, groupsOf ((frm 8).bytes false), (frm 8).bytes false, frm 8, sitSt 8, by decide +kernel⟩
theorem wit_frame_kept : ∃ (p : Fin 4) (g : List (BitVec 10)) (b : List Nat) (f : Frame) (e : SchE) (start : Nat) (s : State),
    s.dom 3 = true ∧ s.portOn p = true ∧ s.xStopped (2 + p) = false ∧ s.chState (p / 2) = 4 ∧ codedBytes (g.map BitVec.toNat) = some b ∧ Frame.parse b = some f ∧
    frameCrcOk b = true ∧ s.bridges (p / 2) = false ∧ s.headerEntry (p / 2) f s.cycNo = some e ∧
    f.node = e.sender ∧ e.sync = false ∧ e.rx = true ∧ (s.rx e.idx).got = false ∧
    ((start : Int) - (f.corr : Nat) - (16 * s.f SIT_PROP_PROP_X : Nat) - (s.sched16 e s.cycNo : Nat)).natAbs ≤ 160 * s.f SIT_CFG_ACC_WIN :=
  ⟨0, groupsOf ((frm 8).bytes true), (frm 8).bytes true, frm 8, (sitSt 8).sch 0, 0, sitSt 8, by decide +kernel⟩
theorem wit_listen : ∃ (c : Fin 2) (s : State), s.dom 3 = true ∧ s.chState c = 1 ∧ s.csRank.isSome = true ∧
    2 * s.cycleNs = 5 * (s.tb - (s.chan c).heardTb) :=
  ⟨1, let s := sets [(SIT_STAT_STATE_Y, 1), (SIT_CFG2_CS_VALID, 8), (SIT_CS_23_CS_3, 7)] (sitSt 7)
    { s with tb := 2 * s.cycleNs / 5 + 7, sit := { s.sit with chans := [(1, { heardTb := 7 })] } }, by decide +kernel⟩
theorem wit_lone : ∃ (c : Fin 2) (s : State), s.dom 3 = true ∧ s.chState c = 2 ∧ 6 ≤ (s.chan c).sent ∧ (s.chan c).next = none ∧
    s.on SIT_CFG_LONE_OK = true :=
  ⟨0, (st [(SIT_STAT_STATE_X, 2), (SIT_CFG_LONE_OK, 1)]).setChan 0 { sent := 6 }, by decide +kernel⟩
theorem wit_back_off : ∃ (c : Fin 2) (s : State), s.dom 3 = true ∧ s.chState c = 2 ∧ 6 ≤ (s.chan c).sent ∧ (s.chan c).next = none ∧
    s.on SIT_CFG_LONE_OK = false :=
  ⟨1, (st [(SIT_STAT_STATE_Y, 2)]).setChan 1 { sent := 6 }, by decide +kernel⟩
theorem wit_back_off_end : ∃ (c : Fin 2) (s : State), s.dom 3 = true ∧ s.chState c = 5 ∧ (s.chan c).back = 0 :=
  ⟨0, st [(SIT_STAT_STATE_X, 5)], by decide +kernel⟩
theorem wit_lost : ∃ (c : Fin 2) (s : State), s.dom 3 = true ∧ s.e SIT_CFG_LOST_CYC ≤ (s.chan c).lostRun ∧ s.on (chLostF c) = false ∧
    s.part = .a := ⟨1, (st [(SIT_CFG_LOST_CYC, 3), (SIT_STAT_LOST_Y, 0)]).setChan 1 { lostRun := 3 }, by decide +kernel⟩
theorem wit_loss_end : ∃ (c : Fin 2) (s : State), s.dom 3 = true ∧ 100 ≤ (s.chan c).goodRun :=
  ⟨0, State.reset.setChan 0 { goodRun := 100 }, by decide +kernel⟩
theorem wit_time_master : ∃ s : State, s.dom 3 = true ∧ s.on NT_STAT_TM = true ∧ s.nt.tms ≠ [] ∧ (∀ m ∈ s.nt.tms, s.f SIT_ID_NODE_ID ≤ m) :=
  ⟨{ st [(NT_STAT_TM, 1), (SIT_ID_NODE_ID, 7)] with nt := { tms := [7, 9] } }, by decide +kernel⟩
theorem wit_hold_over : ∃ s : State, s.dom 3 = true ∧ s.on NT_STAT_TM = false ∧ s.nt.tms = [] ∧ s.nt.devs = [] ∧
    s.nt.masterOut = false ∧ s.f NT_STAT_STATE ≠ 0 := ⟨st [(NT_STAT_STATE, 1)], by decide +kernel⟩
theorem wit_locked_time : ∃ (m : Nat) (d : Int) (s : State), s.dom 3 = true ∧ s.on NT_STAT_TM = false ∧ s.nt.tms = [] ∧
    s.nt.devs = [(m, d)] ∧ s.nt.lastMaster = some m ∧ s.nt.masterOut = false ∧ s.f NT_STAT_STATE = 1 ∧
    d.natAbs ≤ 160 * s.e SIT_CFG_OFS_LIM ∧
    (s.nt.rate - (d * 2 ^ 32).fdiv (16 * s.cycleNs * 2 ^ s.e NT_CFG_KR : Nat)).natAbs * 10 ^ 6 ≤ s.e SIT_CFG_RATE_LIM * 2 ^ 32 :=
  ⟨9, -16, { st [(NT_STAT_STATE, 1), (SIT_CFG_OFS_LIM, 50), (SIT_CFG_RATE_LIM, 150), (NT_CFG_KR, 4)] with
    nt := { devs := [(9, -16)], lastMaster := some 9 } }, by decide +kernel⟩
theorem wit_strobe_good : ∃ (dev : Int) (s : State), s.dom 3 = true ∧ s.anyActive = true ∧ s.cn.railBad = false ∧
    s.cn.pred = true ∧ dev.natAbs = 50 * s.e CHN_CFG_STROBE_TOL := ⟨-100, { sets [(CHN_CFG_STROBE_TOL, 2)] (sitSt 7) with cn := { pred := true } },
    by decide +kernel⟩
theorem wit_strobe_bad : ∃ (dev : Int) (s : State), s.dom 3 = true ∧ s.anyActive = true ∧ s.cn.railBad = false ∧ s.cn.pred = true ∧
    50 * s.e CHN_CFG_STROBE_TOL < dev.natAbs ∧ 1 ≤ s.cn.rej :=
  ⟨101, { sets [(CHN_CFG_STROBE_TOL, 2)] (sitSt 7) with cn := { pred := true, rej := 1 } }, by decide +kernel⟩
/-- Charon's table holds entry 8191, both channels, with word 0 `w`; both ports in use. -/
def charonSt (w : Word) : State := { sitSt 7 with cn := { table := [⟨8191, w, 3, 4⟩] } }
/-- In every cycle at tick 10: it opens in the running one. -/
theorem wit_charon_entry : ∃ (x : CharonE) (s : State), s.dom 3 = true ∧ s.cn.table.find? (fun y => y.entry == 8191) = some x ∧
    s.charonCycle x = some 0 ∧ s.maskPorts x.chmask ≠ [] := ⟨⟨8191, 0x00050000, 3, 4⟩, charonSt 0x00050000, by decide +kernel⟩
/-- In odd cycles at tick 10: none in cycle 0. -/
theorem wit_charon_later : ∃ (x : CharonE) (s : State), s.dom 3 = true ∧ s.cn.table.find? (fun y => y.entry == 8191) = some x ∧
    s.charonCycle x = none := ⟨⟨8191, 0x20850000, 3, 4⟩, charonSt 0x20850000, by decide +kernel⟩
theorem wit_forward : ∃ (p : Fin 4) (s : State), s.dom 3 = true ∧ s.portOn p = true ∧ s.bridges (p / 2) = true :=
  ⟨2, sets [(SIT_CFG2_BRIDGE, 2), (FEAT_ACTIVE_LO_ACTIVE, 16)] (sitSt 7), by decide +kernel⟩
theorem wit_rail_bad : ∃ s : State, s.dom 3 = true ∧ s.cn.railBad = true := ⟨{ State.reset with cn := { railBad := true } }, by decide +kernel⟩
/-- A braking command connection from node 7 to node 9: connection 5, in the sender's slot 1 and the receiver's slot 0. -/
def senderSt : State :=
  { sets [(SL_CONN0_EN 1, 1), (SL_CONN0_TYPE 1, 6), (SL_CONN0_PDU_ID 1, 0), (SL_CONN1_CONN 1, 5)] (sitSt 7) with
    sit := { tx := [(0, { fresh := true, cur := some [1, 2, 3, 4] })] } }
def receiverSt : State := st [(SL_CONN1_SRC 0, 7), (SL_CONN1_CONN 0, 5), (SL_CONN0_TYPE 0, 3)]
theorem wit_sealed : ∃ (s r : State) (e : SchE) (k j : Nat), s.txConn e = some k ∧ (s.tx e.idx).fresh = true ∧
    16 + dataLen (r.connType j) ≤ e.pduLen ∧ r.f (SL_CONN1_SRC j) = s.nodeId ∧ r.f (SL_CONN1_CONN j) = s.f (SL_CONN1_CONN k) :=
  ⟨senderSt, receiverSt, { (sitSt 7).sch 0 with len := 40 }, 1, 0, by decide +kernel⟩
/-- A PDU with sequence 9, sent now. -/
def pdu9 : List Nat := [0, 0, 0, 0, 0, 9, 0, 0, 0, 0, 0, 100] ++ List.replicate 8 0
theorem wit_sequence : ∃ (k : Nat) (p : List Nat) (s : State), k < 32 ∧ -100 ≤ s.pduAge (fieldAt p 6 4) ∧ fieldAt p 4 2 < 65536 ∧
    (s.conn k).hasRef = true ∧ 1 ≤ (fieldAt p 4 2 + 65536 - s.f (SL_CST_SEQ k)) % 65536 ∧
    (fieldAt p 4 2 + 65536 - s.f (SL_CST_SEQ k)) % 65536 = 8 ∧ s.fresh8 k (fieldAt p 6 4) (fieldAt p 10 2) = true :=
  ⟨31, pdu9, (st [(SL_CST_SEQ 31, 1)]).setConn 31 { hasRef := true }, by decide +kernel⟩
theorem wit_sequence_jump : ∃ (k : Nat) (p : List Nat) (s : State), k < 32 ∧ -100 ≤ s.pduAge (fieldAt p 6 4) ∧
    (s.conn k).hasRef = true ∧ (fieldAt p 4 2 + 65536 - s.f (SL_CST_SEQ k)) % 65536 = 9 :=
  ⟨0, pdu9, State.reset.setConn 0 { hasRef := true }, by decide +kernel⟩
theorem wit_sequence_repeat : ∃ (k : Nat) (p : List Nat) (s : State), k < 32 ∧ -100 ≤ s.pduAge (fieldAt p 6 4) ∧
    (s.conn k).hasRef = true ∧ (fieldAt p 4 2 + 65536 - s.f (SL_CST_SEQ k)) % 65536 = 0 :=
  ⟨0, pdu9, (st [(SL_CST_SEQ 0, 9)]).setConn 0 { hasRef := true }, by decide +kernel⟩
theorem wit_sequence_first : ∃ (k : Nat) (p : List Nat) (s : State), k < 32 ∧ -100 ≤ s.pduAge (fieldAt p 6 4) ∧
    (s.conn k).hasRef = false := ⟨0, pdu9, State.reset, by decide +kernel⟩

/-! ### The host port -/

/-- A request with its CRC. -/
def hreq (cmd : Nat) (addr : BitVec 24) (data : List Word) (len : BitVec 16) : HostReq :=
  let q : HostReq := ⟨9, addr, len, data, 0⟩
  { q with crc := BitVec.ofNat 16 (crc16 (requestBytes (hostCmd cmd q State.reset))) }
theorem wit_host_len : ∀ p ∈ hostRows, ∃ (q : HostReq) (s : State), s.dom 7 = true ∧ lenOk p.1 (hostCmd p.1 q s).len = false := fun p hp =>
  ⟨hreq 1 0 [] 0xFFFF, State.reset, by revert p; decide +kernel⟩
theorem wit_host_abort : ∃ (q : HostReq) (s : State), s.dom 7 = true ∧ lenOk cWrite (hostCmd cWrite q s).len = true ∧
    carriesData cWrite = true ∧ q.data.length < (hostCmd cWrite q s).len := ⟨hreq cWrite 0 [1] 2, State.reset, by decide +kernel⟩
theorem wit_host_crc : ∃ (q : HostReq) (s : State), s.dom 7 = true ∧ lenOk cRead (hostCmd cRead q s).len = true ∧
    carriesData cRead = false ∧ crc16 (requestBytes (hostCmd cRead q s)) ≠ q.crc.toNat :=
  ⟨{ hreq cRead 0 [] 1 with addr := 4 }, State.reset, by decide +kernel⟩
theorem wit_host_address : ∃ (q : HostReq) (s : State), s.dom 7 = true ∧ lenOk cRead (hostCmd cRead q s).len = true ∧
    carriesData cRead = false ∧ crc16 (requestBytes (hostCmd cRead q s)) = q.crc.toNat ∧
    addrOk cRead (hostCmd cRead q s).addr (hostCmd cRead q s).len = false := ⟨hreq cRead 2 [] 1, State.reset, by decide +kernel⟩
/-- The request 9 is in the cache. -/
def cachedSt (c : HCmd) (status : Option Nat) : State := { State.reset with hp := { cache := [{ req := c, status := status }] } }
theorem wit_host_repeat : ∃ (q : HostReq) (s : State) (e : HCache), s.dom 7 = true ∧ HostReqOk cRead q s ∧
    s.hp.cache.find? (fun e => e.req.tag == (hostCmd cRead q s).tag) = some e ∧ sameReq e.req (hostCmd cRead q s) = true :=
  ⟨hreq cRead 0 [] 1, cachedSt (hostCmd cRead (hreq cRead 0 [] 1) State.reset) (some 0), _, by unfold HostReqOk; exact
    ⟨rfl, by decide +kernel, rfl, by decide +kernel⟩⟩
theorem wit_host_conflict : ∃ (q : HostReq) (s : State) (e : HCache), s.dom 7 = true ∧ HostReqOk cRead q s ∧
    s.hp.cache.find? (fun e => e.req.tag == (hostCmd cRead q s).tag) = some e ∧ sameReq e.req (hostCmd cRead q s) = false ∧
    e.status = none :=
  ⟨hreq cRead 0 [] 1, cachedSt (hostCmd cRead (hreq cRead 4 [] 1) State.reset) none, _, by unfold HostReqOk; exact
    ⟨rfl, by decide +kernel, rfl, by decide +kernel⟩⟩
theorem wit_host_full : ∃ (q : HostReq) (s : State), s.dom 7 = true ∧ HostReqOk cRead q s ∧
    s.hp.cache.find? (fun e => e.req.tag == (hostCmd cRead q s).tag) = none ∧ 16 ≤ s.hp.slots.length :=
  ⟨hreq cRead 0 [] 1, { State.reset with hp := { slots := List.replicate 16 ⟨1, none⟩ } }, by unfold HostReqOk; decide +kernel⟩
theorem wit_host_unknown : ∃ (cmd : BitVec 8) (s : State), s.dom 7 = true ∧ ∀ p ∈ hostRows, p.1 ≠ cmd.toNat := ⟨4, State.reset, by decide +kernel⟩
theorem wit_host_accepted : ∀ p ∈ [(cRead, 0x000, [], 1), (cWrite, 0x000, [1], 1), (cRmw, 0x000, [1, 1], 2), (cWait, 0, [], 0),
    (cNegotiate, 0, [1, 0], 2), (cUnlock, 0, [0, 0, 0, 0, 5], 5), (cCommit, 0, [0], 1), (cStatus, 0x000009, [], 0), (cLogpull, 0, [], 16)],
    HostReqOk p.1 (hreq p.1 p.2.1 p.2.2.1 p.2.2.2) State.reset := by unfold HostReqOk; decide +kernel
theorem wit_host_idle : ∃ s : State, s.dom 7 = true ∧ s.HostIdle 9 ∧ s.pw.entry = none ∧ s.pw.req = none ∧ s.cf.commit = none ∧
    s.locked = true := ⟨State.reset, by unfold State.HostIdle; decide +kernel⟩
theorem wit_commit_empty : ∃ s : State, s.HostIdle 9 ∧ s.cf.commit = none ∧ s.locked = false ∧ s.pendSet false = [] :=
  ⟨st [(CS_STAT_LOCKED, 0)], by unfold State.HostIdle; decide +kernel⟩
theorem wit_commit_checked : ∃ s : State, s.HostIdle 9 ∧ s.cf.commit = none ∧ s.locked = false ∧
    (commitChecks (s.pendSet false) (accepted (hostCmd cCommit (hreq cCommit 0 [0] 1) s) s)).1 = 0 ∧ s.pendSet false ≠ [] :=
  ⟨{ st [(CS_STAT_LOCKED, 0)] with cf := { pend := [(PWR_CFG_A, some 0)] } }, by unfold State.HostIdle; decide +kernel⟩
theorem wit_status : ∃ (q : HostReq) (s : State) (x : HSlot), s.dom 7 = true ∧ HostReqOk cStatus q s ∧
    s.hp.slots.find? (fun x => x.res.isSome && (q.addr.toNat / 2 ^ 23 % 2 == 1 || x.tag == q.addr.toNat % 256)) = some x ∧
    x.res = some (0, [1]) :=
  ⟨hreq cStatus 3 [] 0, { State.reset with hp := { slots := [⟨2, some (0, [])⟩, ⟨3, some (0, [1])⟩] } }, ⟨3, some (0, [1])⟩, by
    unfold HostReqOk; decide +kernel⟩
theorem wit_status_oldest : ∃ (q : HostReq) (s : State) (x : HSlot), HostReqOk cStatus q s ∧
    s.hp.slots.find? (fun x => x.res.isSome && (q.addr.toNat / 2 ^ 23 % 2 == 1 || x.tag == q.addr.toNat % 256)) = some x ∧ x.tag = 2 :=
  ⟨hreq cStatus 0x800000 [] 0, { State.reset with hp := { slots := [⟨1, none⟩, ⟨2, some (0, [])⟩, ⟨3, some (0, [1])⟩] } },
    ⟨2, some (0, [])⟩, by unfold HostReqOk; decide +kernel⟩
theorem wit_status_none : ∃ (q : HostReq) (s : State), s.dom 7 = true ∧ HostReqOk cStatus q s ∧
    s.hp.slots.find? (fun x => x.res.isSome && (q.addr.toNat / 2 ^ 23 % 2 == 1 || x.tag == q.addr.toNat % 256)) = none ∧
    ∀ e ∈ s.hp.cache, e.req.tag = 9 → e.fetched = false := ⟨hreq cStatus 9 [] 0, State.reset, by unfold HostReqOk; decide +kernel⟩
theorem wit_expiry : ∃ (tag : BitVec 8) (s : State), s.dom 7 = true ∧ ∃ x ∈ s.hp.slots, x.tag = tag.toNat ∧ x.res.isSome = true :=
  ⟨255, { State.reset with hp := { slots := [⟨255, some (0, [])⟩] } }, by decide +kernel⟩
theorem wit_no_expiry : ∃ (tag : BitVec 8) (s : State), s.dom 7 = true ∧ s.hp.slots ≠ [] ∧ ∀ x ∈ s.hp.slots, x.tag = tag.toNat → x.res = none :=
  ⟨255, { State.reset with hp := { slots := [⟨255, none⟩] } }, by decide +kernel⟩

/-- A request in the payload of a REMOTE entry (R456). -/
def rreq (node : BitVec 16) (bcast : Bool) (dest cmd tag addr len : Nat) (data : List Nat) : RemoteReq :=
  ⟨0, node, bcast, ((bytesBE 2 dest ++ [0, 0, cmd, tag] ++ bytesBE 3 addr ++ bytesBE 2 len ++ data.flatMap (bytesLE 4)).map (BitVec.ofNat 8))⟩
/-- A node with a REMOTE entry of its own, 240 bytes long. -/
def remoteSt : State :=
  let s := st [(SIT_ID_NODE_ID, 7), (SCH_CFG_N, 1)]
  { s with regs := s.regs ++ [(schBase + 4, BitVec.ofNat 32 (7 * 2 ^ 16 + 3 * 2 ^ 14 + 4 * 2 ^ 11 + 240)), (schBase + 8, 0x00001000)] }
theorem wit_remote_other : ∃ (r : RemoteReq) (s : State), s.dom 7 = true ∧ r.reply = false ∧ r.empty = false ∧ r.bcast = false ∧ r.dest.toNat ≠ s.f SIT_ID_NODE_ID :=
  ⟨rreq 8 false 6 1 0 0 1 [], remoteSt, by decide +kernel⟩
theorem wit_remote_reply : ∃ (r : RemoteReq) (s : State), s.dom 7 = true ∧ r.reply = true ∧ r.dest.toNat = s.f SIT_ID_NODE_ID :=
  ⟨⟨0, 8, false, bytes8 [0, 7, 1, 0, 1, 0, 0, 0]⟩, remoteSt, by decide +kernel⟩
theorem wit_remote_empty : ∃ (r : RemoteReq) (s : State), s.dom 7 = true ∧ r.empty = true ∧ r.reply = false ∧ r.dest.toNat = s.f SIT_ID_NODE_ID :=
  ⟨⟨0, 8, false, bytes8 [0, 7, 2, 0, 0, 0, 0, 0, 0, 0, 0]⟩, remoteSt, by decide +kernel⟩
theorem wit_remote_no_entry : ∃ (r : RemoteReq) (s : State), s.dom 7 = true ∧ r.reply = false ∧ r.empty = false ∧ r.dest.toNat = s.f SIT_ID_NODE_ID ∧ s.ownRemote = [] :=
  ⟨rreq 8 false 0 1 0 0 1 [], State.reset, by decide +kernel⟩
theorem wit_remote_broadcast : ∃ (r : RemoteReq) (s : State), s.dom 7 = true ∧ s.RemoteOpen r ∧ r.bcast = true ∧ r.cmd = 0x02 :=
  ⟨rreq 8 true 6 2 0 0 1 [0], remoteSt, by unfold State.RemoteOpen; decide +kernel⟩
theorem wit_remote_read : ∃ (r : RemoteReq) (s : State), s.dom 7 = true ∧ s.RemoteOpen r ∧ r.cmd = 0x01 ∧
    lenOk cRead r.len.toNat = true ∧ addrOk cRead r.addr.toNat r.len.toNat = true ∧
    (∀ e ∈ s.ownRemote, 8 + 4 * r.len.toNat ≤ e.len) ∧ 8 + 4 * r.len.toNat ≤ 240 :=
  ⟨rreq 8 false 7 1 0 0 58 [], remoteSt, by unfold State.RemoteOpen; decide +kernel⟩

/-! ### The lock, service mode, the commit, register writes -/

theorem wit_password : ∃ (data : List Word) (s : State), s.f CS_STAT_LOCKOUT_S = 0 ∧ data.take 4 = s.nv.pwd :=
  ⟨[0, 0, 0, 0, 5], State.reset, by decide +kernel⟩
theorem wit_password_wrong : ∃ (data : List Word) (s : State), s.f CS_STAT_LOCKOUT_S = 0 ∧ data.take 4 ≠ s.nv.pwd ∧
    s.f CS_STAT_ATTEMPTS = 1 := ⟨[0, 0, 0, 1], st [(CS_STAT_ATTEMPTS, 1)], by decide +kernel⟩
theorem wit_password_third : ∃ (data : List Word) (s : State), s.f CS_STAT_LOCKOUT_S = 0 ∧ data.take 4 ≠ s.nv.pwd ∧
    2 ≤ s.f CS_STAT_ATTEMPTS := ⟨[0, 0, 0, 1], st [(CS_STAT_ATTEMPTS, 2)], by decide +kernel⟩
theorem wit_lockout : ∃ s : State, s.f CS_STAT_LOCKOUT_S ≠ 0 := ⟨st [(CS_STAT_LOCKOUT_S, 1)], by decide +kernel⟩
theorem wit_service : ∃ s : State, s.dom 7 = true ∧ s.service = false ∧ s.on CS_STAT_SERVICE_REQ = true ∧ s.locked = false ∧
    s.typeValid 3 = true ∧ bitOf s.sl.perm 2 = true ∧ s.slow = true :=
  ⟨{ st [(CS_STAT_LOCKED, 0), (CS_STAT_SERVICE_REQ, 1), (SL_CONN0_EN 31, 1), (SL_CONN0_TYPE 31, 3), (SL_CST_VALID 31, 1),
    (SS_STOP_V_STOP, 1)] with sl := { perm := 4 } }, by decide +kernel⟩
theorem wit_no_service : ∃ s : State, s.dom 7 = true ∧ s.on CS_STAT_SERVICE_REQ = false ∧ s.locked = true := ⟨State.reset, by decide +kernel⟩
theorem wit_log_ack : ∃ (v : BitVec 32) (s : State), s.dom 7 = true ∧ s.locked = false ∧ s.f CL_ACKED_SEQ < v.toNat ∧
    v.toNat + 1 = s.f CL_NEXT_SEQ ∧ s.f CL_NEXT_SEQ = s.f CL_ACKED_SEQ + 1025 :=
  ⟨1024, st [(CS_STAT_LOCKED, 0), (CL_NEXT_SEQ, 1025), (CL_ACKED_SEQ, 0)], by decide +kernel⟩
theorem wit_log_ack_refused : ∃ (v : BitVec 32) (s : State), s.dom 7 = true ∧ s.locked = false ∧ s.f CL_NEXT_SEQ ≤ v.toNat :=
  ⟨1025, st [(CS_STAT_LOCKED, 0), (CL_NEXT_SEQ, 1025)], by decide +kernel⟩
theorem wit_feature_window : ∃ s : State, s.dom 7 = true ∧ s.on FEAT_STAT_OPEN = true := ⟨st [(FEAT_STAT_OPEN, 1)], by decide +kernel⟩
theorem wit_no_feature_window : ∃ s : State, s.dom 7 = true ∧ s.on FEAT_STAT_OPEN = false := ⟨st [(FEAT_STAT_OPEN, 0)], by decide +kernel⟩
theorem wit_commit_ends : ∃ (n : Fin 16) (v : Word) (tag : Nat) (s : State), s.dom 7 = true ∧
    s.cf.commit = some { tag := tag, store := false, set := [(AX_VMAX_A n, v)], retried := false } ∧ s.hp.queue = [] ∧
    s.hp.slots = [⟨tag, none⟩] ∧ s.pw.late = none ∧ s.f CL_NEXT_SEQ + 1 < 2 ^ 32 :=
  ⟨15, 7, 9, { State.reset with
    cf := { commit := some { tag := 9, store := false, set := [(AX_VMAX_A 15, 7)], retried := false } }
    hp := { slots := [⟨9, none⟩] } }, by decide +kernel⟩
theorem wit_no_commit : ∃ s : State, s.dom 7 = true ∧ s.cf.commit = none ∧ s.hp.queue = [] := ⟨State.reset, by decide +kernel⟩
theorem wit_clear : ∃ (p : Fin 4) (s : State), s.dom 7 = true ∧ s.quiet = false ∧ (s.part = .a ∨ p.val < 2) :=
  ⟨1, { State.reset with part := .s }, by decide +kernel⟩
theorem wit_dark : ∃ s : State, s.dom 7 = true ∧ s.quiet = true := ⟨quietSt, by decide +kernel⟩
theorem wit_no_register : ∃ (addr : BitVec 24) (s : State), s.dom 7 = true ∧ (regAt (addr.toNat / 4 * 4)).isNone = true :=
  ⟨0xFFFFFF, State.reset, by decide +kernel⟩
theorem wit_write : ∃ (n : Fin 16) (addr : BitVec 24) (s : State), s.dom 7 = true ∧ s.pageBusy (0x010 + n) = false ∧
    addr.toNat = AX_VMAX_A n ∧ s.locked = false ∧ ∀ p ∈ s.tk.reg ++ s.tk.cyc, p.1 ≠ AX_VMAX_A n :=
  ⟨15, BitVec.ofNat 24 (AX_VMAX_A 15), st [(CS_STAT_LOCKED, 0)], by decide +kernel⟩
theorem wit_write_locked : ∃ (n : Fin 16) (addr : BitVec 24) (s : State), s.dom 7 = true ∧ s.pageBusy (0x010 + n) = false ∧
    addr.toNat = AX_VMAX_A n ∧ s.locked = true := ⟨0, BitVec.ofNat 24 (AX_VMAX_A 0), State.reset, by decide +kernel⟩
theorem wit_write_status : ∃ (n : Fin 16) (addr : BitVec 24) (s : State), s.dom 7 = true ∧ s.pageBusy (0x010 + n) = false ∧
    addr.toNat = AX_STAT_A n := ⟨15, BitVec.ofNat 24 (AX_STAT_A 15), State.reset, by decide +kernel⟩
theorem wit_write_fault : ∃ (n : Fin 16) (addr : BitVec 24) (s : State), s.dom 7 = true ∧ s.pageBusy (0x010 + n) = false ∧
    addr.toNat = PG_FLT_A (0x010 + n) := ⟨15, BitVec.ofNat 24 (PG_FLT_A 0x01F), State.reset, by decide +kernel⟩
theorem wit_page_enable : ∃ (pg : BitVec 14) (s : State), s.dom 7 = true ∧ s.part = .a ∧ enPage pg.toNat = true ∧ s.pageShut pg.toNat = false :=
  ⟨0x044, State.reset, by decide +kernel⟩
theorem wit_page_shutdown : ∃ (pg : BitVec 14) (s : State), s.dom 7 = true ∧ s.part = .a ∧ enPage pg.toNat = true ∧ s.pageShut pg.toNat = true :=
  ⟨0x010, st [(AX_STAT_STATE 0, 3)], by decide +kernel⟩
theorem wit_page_fixed : ∃ (pg : BitVec 14) (s : State), s.dom 7 = true ∧ enPage pg.toNat = false := ⟨0x3FFF, State.reset, by decide +kernel⟩
theorem wit_page_soft : ∃ (pg : BitVec 14) (s : State), s.dom 7 = true ∧ s.part = .a ∧ pageListed pg.toNat = true ∧
    s.pageBusy pg.toNat = false ∧ s.softOk pg.toNat = true ∧ pg.toNat < 0x041 := ⟨0x027, State.reset, by decide +kernel⟩
theorem wit_page_soft_refused : ∃ (pg : BitVec 14) (s : State), s.dom 7 = true ∧ s.part = .a ∧ pageListed pg.toNat = true ∧
    s.pageBusy pg.toNat = false ∧ s.softOk pg.toNat = false := ⟨0x010, st [(AX_STAT_STATE 0, 2)], by decide +kernel⟩
theorem wit_sched_index : ∃ (v : BitVec 32) (s : State), s.dom 7 = true ∧ v.toNat % 2 ^ 13 < 2048 := ⟨2047, State.reset, by decide +kernel⟩
theorem wit_sched_index_refused : ∃ (v : BitVec 32) (s : State), s.dom 7 = true ∧ 2048 ≤ v.toNat % 2 ^ 13 ∧ s.feature 6 = false :=
  ⟨2048, State.reset, by decide +kernel⟩
theorem wit_sched_write : ∃ s : State, s.dom 7 = true ∧ s.locked = false ∧ s.schOpen = true ∧
    (∀ p ∈ s.tk.reg ++ s.tk.cyc, p.1 < fsBase) ∧ s.sit.w0 = some 5 :=
  ⟨{ st [(CS_STAT_LOCKED, 0), (SCH_IDX_IDX, 2047)] with sit := { w0 := some 5 } }, by decide +kernel⟩
theorem wit_sched_write_refused : ∃ s : State, s.dom 7 = true ∧ (s.locked = true ∨ s.schOpen = false) := ⟨State.reset, by decide +kernel⟩
theorem wit_source_write : ∃ s : State, s.dom 7 = true ∧ s.locked = false ∧ srcAssigned (s.f FS_IDX_IDX) = true ∧
    ∀ p ∈ s.tk.reg ++ s.tk.cyc, p.1 < fsBase := ⟨st [(CS_STAT_LOCKED, 0), (FS_IDX_IDX, 0x3D9)], by decide +kernel⟩
theorem wit_sched_closed : ∃ s : State, s.feature 6 = false ∧ 2048 ≤ s.f SCH_IDX_IDX := ⟨st [(SCH_IDX_IDX, 8191)], by decide +kernel⟩

/-! ### Faults, the log, the self-test, repair -/

/-- One raised event of source `k`. -/
def faultSt (k : Nat) (l : List (Fld × Nat)) : State := { st l with flt := { raised := [⟨k, 7, false, none, 0⟩] } }
theorem wit_no_event : ∃ s : State, s.dom 2 = true ∧ s.nextEvent = none := ⟨State.reset, by decide +kernel⟩
theorem wit_event : ∃ (ev : Raised) (s : State), s.dom 2 = true ∧ s.nextEvent = some ev ∧ ev.src < 1024 ∧ s.flt.buf.length ≤ 62 :=
  ⟨⟨0x341, 7, false, none, 0⟩, faultSt 0x341 [], by decide +kernel⟩
/-- A source not above the one that registered last waits for a later timebase period. -/
theorem wit_event_waits : ∀ x ∈ [(0x341, true), (0x340, false)], ∃ s : State, s.dom 2 = true ∧ s.flt.raised ≠ [] ∧ s.flt.regTb = some s.tb ∧
    s.flt.regId = x.1 ∧ (s.nextEvent = none ↔ x.2 = true) := fun x hx =>
  ⟨{ st [] with flt := { raised := [⟨0x341, 7, false, none, 0⟩], regTb := some 0, regId := x.1 } }, by revert x; decide +kernel⟩
theorem wit_event_classes : ∀ k < 4, ∃ (ev : Raised) (s : State), s.nextEvent = some ev ∧ s.e (fsBaseF ev.src) = k :=
  fun k hk => ⟨⟨0x341, 7, false, none, 0⟩, faultSt 0x341 [(fsBaseF 0x341, k)], by revert k; decide +kernel⟩
theorem wit_expiry_of_source : ∃ (id : BitVec 10) (s : State), s.dom 2 = true ∧ (s.cls id.toNat).active = true ∧ s.srcClass id.toNat ≠ 3 ∧
    s.srcW id.toNat ≤ s.tickNo - (s.cls id.toNat).last :=
  ⟨0x341, { State.reset with tickNo := 2 ^ 30, flt := { cls := [(0x341, { active := true })] } }, by decide +kernel⟩
theorem wit_inactive_source : ∃ (id : BitVec 10) (s : State), s.dom 2 = true ∧ (s.cls id.toNat).active = false := ⟨0x3FF, State.reset, by decide +kernel⟩
theorem wit_service_mode : ∃ (pg : BitVec 14) (s : State), s.dom 2 = true ∧ s.pageThere pg.toNat = true ∧ s.service = true ∧
    s.pageDark pg.toNat = false :=
  ⟨0, st [(CS_STAT_SERVICE, 1)], by decide +kernel⟩
theorem wit_force_elsewhere : ∃ (pg : BitVec 14) (s : State), s.dom 2 = true ∧ s.pageThere pg.toNat = false :=
  ⟨0x044, { State.reset with part := .s }, by decide +kernel⟩
theorem wit_no_service_mode : ∃ s : State, s.dom 2 = true ∧ s.service = false := ⟨State.reset, by decide +kernel⟩
theorem wit_log_entry : ∃ (e : LogE) (rest : List LogE) (s : State), s.dom 2 = true ∧ s.flt.buf = e :: rest ∧
    s.f LOG_STAT_UNREAD < 4096 ∧ s.flt.freeze = none :=
  ⟨{}, [], { st [(LOG_STAT_UNREAD, 4095)] with flt := { buf := [{}] } }, by decide +kernel⟩
theorem wit_log_full : ∃ (e : LogE) (rest : List LogE) (s : State), s.dom 2 = true ∧ s.flt.buf = e :: rest ∧
    s.f LOG_STAT_UNREAD = 4096 ∧ s.flt.freeze = none ∧ s.on LOG_CFG_MODE = true :=
  ⟨{}, [{}], { st [(LOG_STAT_UNREAD, 4096), (LOG_CFG_MODE, 1)] with flt := { buf := [{}, {}] } }, by decide +kernel⟩
theorem wit_log_overwrite : ∃ (e : LogE) (rest : List LogE) (s : State), s.dom 2 = true ∧ s.flt.buf = e :: rest ∧
    s.f LOG_STAT_UNREAD = 4096 ∧ s.flt.freeze = none ∧ s.on LOG_CFG_MODE = false :=
  ⟨{}, [], { st [(LOG_STAT_UNREAD, 4096), (LOG_CFG_MODE, 0)] with flt := { buf := [{}] } }, by decide +kernel⟩
theorem wit_frozen : ∃ s : State, s.dom 2 = true ∧ s.on LOG_STAT_FROZEN = true := ⟨st [(LOG_STAT_FROZEN, 1)], by decide +kernel⟩
theorem wit_not_frozen : ∃ s : State, s.dom 2 = true ∧ s.on LOG_STAT_FROZEN = false ∧ s.flt.freeze = none := ⟨State.reset, by decide +kernel⟩
theorem wit_bist_off : ∃ s : State, s.dom 2 = true ∧ s.quiet = false ∧ s.f BIST_STAT_MODE ≠ 1 ∧ s.tk.bistLate = false :=
  ⟨st [(BIST_STAT_MODE, 0)], by decide +kernel⟩
theorem wit_bist : ∃ s : State, s.dom 2 = true ∧ s.quiet = false ∧ s.f BIST_STAT_MODE = 1 ∧ s.on PWR_DVFS_BUSY = false ∧
    s.tk.bistLate = false ∧ s.bist.waits = false ∧ s.idleStep (itemAt (s.f BIST_STAT_STEP)) = false ∧
    s.stepWaits (itemAt (s.f BIST_STAT_STEP)) = false ∧ s.stepVoid (itemAt (s.f BIST_STAT_STEP)) = false ∧ s.bist.rep = true ∧ s.f BIST_STAT_STEP < 999 ∧ s.bist.drop = none :=
  ⟨{ st [(BIST_STAT_MODE, 1), (BIST_STAT_STEP, 0)] with bist := { rep := true } }, by decide +kernel⟩
theorem wit_bist_first : ∃ s : State, s.dom 2 = true ∧ s.quiet = false ∧ s.f BIST_STAT_MODE = 1 ∧ s.on PWR_DVFS_BUSY = false ∧
    s.tk.bistLate = false ∧ s.bist.waits = false ∧ s.idleStep (itemAt (s.f BIST_STAT_STEP)) = false ∧
    s.stepWaits (itemAt (s.f BIST_STAT_STEP)) = false ∧ s.stepVoid (itemAt (s.f BIST_STAT_STEP)) = false ∧ s.bist.rep = false :=
  ⟨st [(BIST_STAT_MODE, 1), (BIST_STAT_STEP, 15574)], by decide +kernel⟩
theorem wit_bist_busy_port : ∃ s : State, s.dom 2 = true ∧ s.quiet = false ∧ s.f BIST_STAT_MODE = 1 ∧ s.tk.bistLate = false ∧
    s.bist.waits = false ∧ s.idleStep (itemAt (s.f BIST_STAT_STEP)) = false ∧ s.stepWaits (itemAt (s.f BIST_STAT_STEP)) = true :=
  ⟨st [(BIST_STAT_MODE, 1), (BIST_STAT_STEP, 15999), (SP_STAT_OPEN 3, 1)], by decide +kernel⟩
theorem wit_bist_void : ∃ s : State, s.dom 2 = true ∧ s.quiet = false ∧ s.f BIST_STAT_MODE = 1 ∧ s.tk.bistLate = false ∧
    s.bist.waits = false ∧ s.idleStep (itemAt (s.f BIST_STAT_STEP)) = false ∧ s.stepWaits (itemAt (s.f BIST_STAT_STEP)) = false ∧
    s.stepVoid (itemAt (s.f BIST_STAT_STEP)) = true :=
  ⟨{ st [(BIST_STAT_MODE, 1), (BIST_STAT_STEP, 5163)] with bist := { shadow := [(0, 0)] } }, by decide +kernel⟩
theorem wit_bist_late : ∃ s : State, s.dom 2 = true ∧ s.quiet = false ∧ s.tk.bistLate = true ∧ s.tk.bistLeft = 0 :=
  ⟨{ State.reset with tk := { bistLate := true } }, by decide +kernel⟩
theorem wit_bist_waits : ∃ s : State, s.dom 2 = true ∧ s.quiet = false ∧ s.tk.bistLate = false ∧ s.bist.waits = true :=
  ⟨{ State.reset with bist := { waits := true } }, by decide +kernel⟩
theorem wit_stall : ∃ s : State, s.dom 2 = true ∧ s.bist.started = true ∧ s.bist.stallEp = false ∧
    s.e BIST_CFG_STALL * 80000000 ≤ s.tb - s.bist.startTb :=
  ⟨{ st [(BIST_CFG_STALL, 250)] with bist := { started := true }, tb := 250 * 80000000 }, by decide +kernel⟩
theorem wit_stall_seen : ∃ s : State, s.dom 2 = true ∧ s.bist.stallEp = true :=
  ⟨{ State.reset with bist := { stallEp := true } }, by decide +kernel⟩
theorem wit_repair : ∃ (n : Nat) (s : State), s.dom 7 = true ∧ s.rep.unwritten = n + 1 ∧ s.rep.retried = false :=
  ⟨0, { State.reset with rep := { unwritten := 1 } }, by decide +kernel⟩
theorem wit_repair_again : ∃ (n : Nat) (s : State), s.dom 7 = true ∧ s.rep.unwritten = n + 1 ∧ s.rep.retried = true :=
  ⟨1, { State.reset with rep := { unwritten := 2, retried := true } }, by decide +kernel⟩
theorem wit_no_repair : ∃ s : State, s.dom 7 = true ∧ s.rep.unwritten = 0 := ⟨State.reset, by decide +kernel⟩

/-! ### Resets, pins, power, clocks, start-up -/

theorem wit_reset : ∃ s : State, s.dom 2 = true ∧ s.mapHalted = false := ⟨State.reset, by decide +kernel⟩
theorem wit_reset_refused : ∃ s : State, s.dom 7 = true ∧ s.locked = true := ⟨State.reset, by decide +kernel⟩
theorem wit_por : ∃ s : State, s.on FLT_TERM_TERM = false ∧ s.rep.unwritten = 1 ∧ s.rep.map.length = 2 :=
  ⟨{ State.reset with rep := { map := [(1, 2), (3, 4)], unwritten := 1 } }, by decide +kernel⟩
theorem wit_power_good : ∃ s : State, s.powered = true ∧ s.tap.pgFell = false := ⟨State.reset, by decide +kernel⟩
theorem wit_present_in_lrst : ∃ s : State, s.dom 2 = true ∧ s.tap.pgFell = false ∧ s.hold.lrst = true :=
  ⟨{ State.reset with hold := { lrst := true, present := true } }, by decide +kernel⟩
theorem wit_power_good_fell : ∃ s : State, s.powered = true ∧ s.tap.pgFell = true :=
  ⟨{ State.reset with tap := { pgFell := true } }, by decide +kernel⟩
theorem wit_hot_plug : ∃ s : State, s.dom 2 = true ∧ s.feature 5 = true ∧ s.on (BG_STAT_HELD 0) = false ∧ s.tap.pgFell = false :=
  ⟨st [(FEAT_ACTIVE_LO_ACTIVE, 32), (BG_STAT_HELD 0, 0)], by decide +kernel⟩
theorem wit_no_hot_plug : ∃ s : State, s.dom 2 = true ∧ s.feature 5 = false := ⟨State.reset, by decide +kernel⟩
theorem wit_scan : ∃ (ir : BitVec 8) (s : State), s.dom 2 = true ∧ irHolds (ir.toNat % 16) = s.tap.held ∧ s.tap.held = false :=
  ⟨2, State.reset, by decide +kernel⟩
theorem wit_scan_hold : ∃ (ir : BitVec 8) (s : State), s.dom 2 = true ∧ irHolds (ir.toNat % 16) ≠ s.tap.held :=
  ⟨0, State.reset, by decide +kernel⟩
theorem wit_scan_leave : ∃ s : State, s.dom 2 = true ∧ s.tap.held = true ∧ s.mapHalted = false :=
  ⟨{ State.reset with tap := { held := true } }, by decide +kernel⟩
theorem wit_scan_update : ∃ s : State, s.dom 2 = true ∧ irBoundary s.tap.ir = true ∧ s.tap.held = true :=
  ⟨{ State.reset with tap := { ir := 0, held := true } }, by decide +kernel⟩
theorem wit_scan_idcode : ∃ s : State, s.dom 2 = true ∧ s.tap.ir = 2 := ⟨State.reset, by decide +kernel⟩
theorem wit_scan_bypass : ∃ s : State, s.dom 2 = true ∧ irBoundary s.tap.ir = false ∧ s.tap.ir ≠ 2 :=
  ⟨{ State.reset with tap := { ir := 15 } }, by decide +kernel⟩
theorem test_scan_high : (updateDr ⟨[true, false], [], List.replicate 8 19999, []⟩ { State.reset with tap := { ir := 0, held := true } }).scanHigh 0
    = true := by decide +kernel
theorem test_scan_low : (updateDr ⟨[true, false], [], List.replicate 8 20000, []⟩ { State.reset with tap := { ir := 0, held := true } }).scanHigh 0
    = false := by decide +kernel
/-- A request for power state `k` that is ready, in state `m`. -/
def pwrSt (m k : Nat) : State :=
  { st [(PWR_STAT_STATE, m), (PWR_STAT_DOM_ON, if m = 1 then 0xBF else 0xFF)] with pw := { req := some ⟨k, .nobody, true⟩ } }
theorem wit_no_request : ∃ s : State, s.dom 0 = true ∧ s.hp.queue = [] ∧ ∀ r, s.pw.req = some r → r.ready = false :=
  ⟨State.reset, by decide +kernel, rfl, nofun⟩
theorem wit_request_same : ∃ (r : PReq) (s : State), s.dom 0 = true ∧ s.hp.queue = [] ∧ s.pw.req = some r ∧ r.ready = true ∧ r.tgt < 4 ∧
    r.tgt = s.f PWR_STAT_STATE := ⟨⟨0, .nobody, true⟩, pwrSt 0 0, by decide +kernel⟩
theorem wit_request_refused : ∃ (r : PReq) (s : State), s.dom 0 = true ∧ s.hp.queue = [] ∧ s.pw.req = some r ∧ r.ready = true ∧
    r.tgt < 4 ∧ r.tgt ≠ s.f PWR_STAT_STATE ∧ s.f PWR_STAT_STATE ≠ 1 ∧ ¬ (s.f PWR_STAT_STATE = 0 ∧ r.tgt = 1) ∧
    s.refusers (s.f PWR_STAT_STATE) r.tgt r.who ≠ 0 := ⟨⟨3, .nobody, true⟩, pwrSt 0 3, by decide +kernel⟩
theorem wit_request_leave : ∃ (r : PReq) (s : State), s.dom 0 = true ∧ s.hp.queue = [] ∧ s.pw.req = some r ∧ r.ready = true ∧
    r.tgt < 4 ∧ s.f PWR_STAT_STATE ≠ 0 ∧ s.refusers (s.f PWR_STAT_STATE) r.tgt r.who = 0 ∧ r.tgt = 0 :=
  ⟨⟨0, .nobody, true⟩, pwrSt 1 0, by decide +kernel⟩
theorem wit_request_enters : ∃ (r : PReq) (s : State), s.dom 0 = true ∧ s.hp.queue = [] ∧ s.pw.req = some r ∧ r.ready = true ∧
    r.tgt < 4 ∧ r.tgt ≠ s.f PWR_STAT_STATE ∧ s.refusers (s.f PWR_STAT_STATE) r.tgt r.who = 0 ∧ r.tgt ≠ 0 :=
  ⟨⟨1, .nobody, true⟩, sets [(FEAT_ACTIVE_LO_ACTIVE, 1), (SS_STAT_PHASE, 0)] (pwrSt 0 1), by decide +kernel⟩
/-- The entry into state `k`, from QUIET or, for QUIET, from RUN, at abort point `ap`. -/
def entryOf (k : Nat) : PEntry := { tgt := k, src := if k = 1 then 0 else 1, who := .nobody, ticked := true, cycled := true }
def entrySt (k ap : Nat) (l : List (Fld × Nat)) : State :=
  { st ([(PWR_STAT_STATE, if k = 1 then 0 else 1), (PWR_STAT_DOM_ON, if k = 1 then 0xFF else 0xBF), (PWR_STAT_ENTRY, 1),
      (PWR_STAT_AP, ap), (SS_STAT_PHASE, 0), (SS_STOP_V_STOP, 1)] ++ l) with pw := { entry := some (entryOf k) } }
theorem wit_abort_points : ∀ x ∈ [(1, 0), (2, 1), (2, 2), (2, 3), (3, 2), (3, 3), (1, 4)], ∃ (e : PEntry) (s : State), s.dom 0 = true ∧
    s.hp.queue = [] ∧ s.pw.entry = some e ∧ e.tgt = x.1 ∧ s.f PWR_STAT_AP = x.2 ∧ e.ticked = true ∧ e.cycled = true ∧
    s.pw.fired = [] ∧ s.stoppers e = [] := fun x hx =>
  ⟨entryOf x.1, entrySt x.1 x.2 [], by revert x; decide +kernel⟩
theorem wit_abort_stops : ∃ (e : PEntry) (s : State), s.dom 0 = true ∧ s.hp.queue = [] ∧ s.pw.entry = some e ∧ s.f PWR_STAT_AP = 0 ∧
    e.ticked = true ∧ s.stoppers e ≠ [] := ⟨entryOf 1, entrySt 1 0 [(SS_STAT_PHASE, 1)], by decide +kernel⟩
theorem wit_wake_off : ∃ (p m : Fin 4) (w : Fin 12) (s : State), s.dom 0 = true ∧ s.fbit PWR_CFG_WAKE_EN 0 = false ∧
    s.wakePort p = false ∧ s.on (LK_CFG_EN m) = false ∧ s.on (WS_CFG_EN w) = false := ⟨3, 3, 11, st [(PWR_CFG_WAKE_EN, 0), (PG_CTL_EN 0x044, 0), (LK_CFG_EN 3, 0)], by decide +kernel⟩
theorem wit_wake_in_entry : ∃ s : State, s.dom 0 = true ∧ s.fbit PWR_CFG_WAKE_EN 0 = true ∧ s.pw.entry.isSome = true ∧ 0x10 ∉ s.pw.fired ∧ s.pw.first = none :=
  ⟨entrySt 2 1 [(PWR_CFG_WAKE_EN, 1)], by decide +kernel⟩
theorem wit_wake_quiet : ∃ (w : Fin 12) (s : State), s.dom 0 = true ∧ s.fbit PWR_CFG_WAKE_EN 0 = true ∧ s.fbit PWR_CFG_WAKE_EN 4 = true ∧
    s.pw.entry = none ∧ s.f PWR_STAT_STATE = 1 ∧ s.on (WS_CFG_EN w) = true :=
  ⟨11, sets [(PWR_CFG_WAKE_EN, 17), (WS_CFG_EN 11, 1)] quietSt, by decide +kernel⟩
theorem wit_wake_retain : ∃ (p m : Fin 4) (s : State), s.dom 0 = true ∧ (∀ k, k < 4 → s.fbit PWR_CFG_WAKE_EN k = true) ∧ s.pw.entry = none ∧
    s.f PWR_STAT_STATE = 2 ∧ s.wakePort p = true ∧ s.on (LK_CFG_EN m) = true :=
  ⟨3, 3, st [(PWR_STAT_STATE, 2), (PWR_STAT_DOM_ON, 3), (PWR_CFG_WAKE_EN, 15), (PG_CTL_EN 0x044, 1), (LK_CFG_EN 3, 1)], by decide +kernel⟩
/-- A Halley wave of a level (mV) and a half bit (ns): the preamble 1010 and the bits of a code, every half a run of its own. -/
def wave (mv : Int) (ns code : Nat) : List (Int × Nat) :=
  (([true, false, true, false] ++ (List.range 16).map (fun k => code.testBit (15 - k))).flatMap (fun b =>
    if b then [(mv, ns), (-mv, ns)] else [(-mv, ns), (mv, ns)]))
theorem wit_wake_dormant : ∃ (w : List (Int × Nat)) (s : State), s.dom 0 = true ∧ halleyCode w = some (s.f PWR_HALLEY_CODE) ∧
    s.fbit PWR_CFG_WAKE_EN 1 = true ∧ s.pw.entry = none ∧ s.f PWR_STAT_STATE = 3 :=
  ⟨wave 500 122070 0xABCD, st [(PWR_STAT_STATE, 3), (PWR_STAT_DOM_ON, 1), (PWR_CFG_WAKE_EN, 2), (PWR_HALLEY_CODE, 0xABCD)], by decide +kernel⟩
theorem wit_wake_code : ∃ (w : List (Int × Nat)) (s : State), s.dom 0 = true ∧ halleyCode w ≠ some (s.f PWR_HALLEY_CODE) :=
  ⟨wave 499 122070 0xABCD, st [(PWR_HALLEY_CODE, 0xABCD)], by decide +kernel⟩
/-- R423: half a bit is 4 periods of 32.768 kHz, 122,070 ns, within 10 %; a coding without its edge in the middle of a bit is no pattern. -/
theorem test_halley : [109864, 134277, 109863, 134278].map (fun ns => halleyCode (wave 1000 ns 0x1234)) = [some 0x1234, some 0x1234, none, none] ∧
    halleyCode ((wave 1000 122070 0x1234).take 38 ++ [(1000, 244140)]) = none := by decide +kernel
theorem wit_supplies : ∃ (d : Fin 8) (s : State), s.dom d = true ∧ d.val ≠ 0 := ⟨7, State.reset, by decide +kernel⟩
theorem wit_point_late : ∃ s : State, s.dom 7 = true ∧ s.committing = true :=
  ⟨{ State.reset with cf := { commit := some { tag := 0, store := false, set := [] } } }, by decide +kernel⟩
theorem wit_point_refused : ∃ (p : BitVec 2) (s : State), s.dom 7 = true ∧ s.committing = false ∧ s.loadsFit p.toNat = false :=
  ⟨0, st [(SLICE_LOAD_PLAIN 7, 65535)], by decide +kernel⟩
theorem wit_point : ∃ (p : BitVec 2) (s : State), s.dom 7 = true ∧ s.committing = false ∧ s.loadsFit p.toNat = true ∧
    s.f PWR_STAT_STATE = 0 ∧ s.startPoint = false ∧ s.f PWR_DVFS_FPT ≠ p.toNat :=
  ⟨0, st [(BIST_STAT_FAST_OK, 1), (PWR_DVFS_FPT, 3)], by decide +kernel⟩
theorem wit_clock_rises : ∃ (p : Nat) (s : State), s.dom 2 = true ∧ s.pw.dvfs = some p ∧ p < 4 ∧ s.f PWR_DVFS_FPT < p :=
  ⟨3, { st [(PWR_DVFS_FPT, 2)] with pw := { dvfs := some 3 } }, by decide +kernel⟩
theorem wit_clock_falls : ∃ (p : Nat) (s : State), s.dom 2 = true ∧ s.pw.dvfs = some p ∧ p < 4 ∧ p ≤ s.f PWR_DVFS_FPT :=
  ⟨3, { st [(PWR_DVFS_FPT, 3)] with pw := { dvfs := some 3 } }, by decide +kernel⟩
theorem wit_tcxo_good : ∃ (chr aon : Int) (s : State), s.dom 2 = true ∧ chr.natAbs = 200 ∧ 200 < aon.natAbs := ⟨-200, 201, State.reset, by decide +kernel⟩
theorem wit_tcxo_bad : ∃ (chr aon : Int) (s : State), s.dom 2 = true ∧ 200 < chr.natAbs ∧ 200 < aon.natAbs ∧ 1 ≤ s.ck.tcxo ∧
    s.on CLK_TCXO_ST_FAILED = false ∧ s.nt.holdEp = true :=
  ⟨-201, 201, { st [(NT_STAT_STATE, 1)] with ck := { tcxo := 1 }, nt := { holdEp := true } }, by decide +kernel⟩
theorem wit_tcxo_free : ∃ (chr aon : Int) (s : State), s.dom 2 = true ∧ 200 < chr.natAbs ∧ 200 < aon.natAbs ∧ s.ck.tcxo = 0 ∧
    s.f NT_STAT_STATE = 0 := ⟨300, 300, State.reset, by decide +kernel⟩
theorem wit_clock : ∃ (i : Fin 16) (meas : BitVec 32) (s : State), s.dom 2 = true ∧ i.val < 14 ∧ (i.val = 0 → s.on PWR_DVFS_BUSY = false) ∧
    s.nominal i < 20 * ((meas.toNat : Int) - s.nominal i).natAbs ∧ smGet (fun _ => 0) s.ck.bad i = 1 :=
  ⟨13, 0, { State.reset with ck := { bad := [(13, 1)] } }, by decide +kernel⟩
theorem wit_clock_again : ∃ (i : Fin 16) (s : State), s.dom 2 = true ∧ i.val < 14 ∧ 0 < s.nominal i ∧ smGet (fun _ => 0) s.ck.bad i = 2 :=
  ⟨0, { State.reset with ck := { bad := [(0, 2)] } }, by decide +kernel⟩
theorem wit_clock_good : ∃ (i : Fin 16) (meas : BitVec 32) (s : State), s.dom 2 = true ∧ i.val < 14 ∧ s.on PWR_DVFS_BUSY = false ∧
    20 * ((meas.toNat : Int) - s.nominal i).natAbs = s.nominal i :=
  ⟨0, BitVec.ofNat 32 (State.reset.nominal 0 - State.reset.nominal 0 / 20), State.reset, by decide +kernel⟩
theorem wit_crossing : ∀ i ∈ [0, 14, 16, 17], ∃ s : State, s.dom 2 = true ∧ s.xOpen i = true ∧ s.xStopped i = false ∧ s.xHeld i = false ∧
    (i ≠ 14 → s.xArmed i = true) := fun i hi =>
  ⟨if i = 17 then entrySt 2 1 [] else { sitSt 7 with ck := { copyTb := some 0 } }, by revert i; decide +kernel⟩
theorem wit_crossing_off : ∃ (i : Fin 32) (s : State), s.dom 2 = true ∧ i.val < 18 ∧ s.xOpen i = false := ⟨2, State.reset, by decide +kernel⟩
theorem wit_crossing_held : ∀ x ∈ [(119, true), (120, false)], ∃ s : State, s.dom 2 = true ∧ xEng 1 = true ∧ s.pw.switchTb = some 100 ∧
    s.tb = x.1 ∧ s.xHeld 1 = x.2 := fun x hx => ⟨{ State.reset with tb := x.1, pw := { switchTb := some 100 } }, by revert x; decide +kernel⟩
theorem wit_crossing_stopped : ∃ (i : Fin 32) (s : State), s.dom 2 = true ∧ s.fbit CDC_TMO_STOPPED i = true :=
  ⟨17, st [(CDC_TMO_STOPPED, 2 ^ 17)], by decide +kernel⟩
/-- Start-up at step `k` with origin `o`. -/
def suSt (k o : Nat) : State := st [(SU_STAT_STEP, k), (SU_STAT_ORIGIN, o), (CLK_PLL_ST_LOCK, 7)]
theorem wit_power_up : ∃ (bad : BitVec 8) (s : State), s.dom 0 = true ∧ s.suRuns 0 = true ∧
    (∀ d, 1 ≤ d → d < 8 → bitOf bad.toNat d = false) ∧ s.f CLK_PLL_ST_LOCK = 7 :=
  ⟨0, suSt 0 0, by decide +kernel, by decide +kernel, by intro d _ _; simp [bitOf], by decide +kernel⟩
theorem wit_power_up_bad : ∃ (bad : BitVec 8) (d : Fin 8), 1 ≤ d.val ∧ bitOf bad.toNat d = true ∧
    (∀ k, k < d.val → 1 ≤ k → bitOf bad.toNat k = false) := ⟨0x80, 7, by decide +kernel⟩
theorem wit_repair_map : ∃ s : State, s.dom 7 = true ∧ s.suRuns 1 = true := ⟨suSt 1 0, by decide +kernel⟩
theorem wit_no_image : ∃ s : State, s.dom 7 = true ∧ s.suRuns 2 = true ∧ s.su.confOk = false ∧ s.su.confWait = false ∧
    (s.f SU_STAT_ORIGIN = 0 ∨ s.f SU_STAT_ORIGIN = 3) ∧ s.nv.image = none := ⟨suSt 2 3, by decide +kernel⟩
theorem wit_kept_configuration : ∃ s : State, s.dom 7 = true ∧ s.suRuns 2 = true ∧ s.su.confOk = false ∧ s.su.confWait = false ∧
    s.f SU_STAT_ORIGIN = 2 ∧ s.f PWR_STAT_RESTORING < 4 := ⟨suSt 2 2, by decide +kernel⟩
theorem wit_steps : ∀ k ∈ [3, 4], ∃ s : State, s.dom 2 = true ∧ s.suRuns k = true := fun k hk =>
  ⟨suSt k 0, by revert k; decide +kernel⟩
theorem wit_networks : ∃ s : State, s.dom 2 = true ∧ s.suRuns 5 = true ∧ s.on BIST_STAT_FAST_OK = true ∧ s.on FEAT_STAT_OPEN = false ∧
    s.su.nets = false := ⟨sets [(BIST_STAT_FAST_OK, 1), (FEAT_STAT_OPEN, 0)] (suSt 5 0), by decide +kernel⟩
theorem wit_networks_wait : ∃ s : State, s.dom 2 = true ∧ (s.on FEAT_STAT_OPEN = true ∨ s.on BIST_STAT_FAST_OK = false) :=
  ⟨State.reset, by decide +kernel⟩
theorem wit_retry : ∃ (g : Fin 8) (s : State), s.dom 2 = true ∧ s.on SU_STAT_ADMITTED = false ∧ s.fbit SU_GROUPS_REQ g = true ∧
    (s.grp g).retry = true ∧ s.su.stopped = false := ⟨7, (st [(SU_GROUPS_REQ, 128)]).setGrp 7 { retry := true }, by decide +kernel⟩
theorem wit_no_retry : ∃ (g : Fin 8) (s : State), s.dom 2 = true ∧ (s.grp g).retry = false := ⟨0, State.reset, by decide +kernel⟩
theorem wit_hours : ∃ (hours : Nat) (temp : Int) (s : State), s.dom 7 = true ∧ -2 ^ 15 ≤ temp ∧ temp < 2 ^ 15 ∧
    1000000 < satU HPL_HOURS_HOURS.width (s.f HPL_HOURS_HOURS + hours) := ⟨1, -2 ^ 15, st [(HPL_HOURS_HOURS, 1000000)], by decide +kernel⟩

/-! ### Values the specification states -/

/-- "123456789". -/
def checkText : List Nat := [0x31, 0x32, 0x33, 0x34, 0x35, 0x36, 0x37, 0x38, 0x39]
/-- R449: its CRC-16 is 0x29B1. -/
theorem test_crc16 : crc16 checkText = 0x29B1 := by decide +kernel
/-- R345: its CRC-32C is 0xE306_9283. -/
theorem test_crc32c : crc32c checkText = 0xE3069283 := by decide +kernel
/-- The WRITE of the AX_VMAX example (19): its bytes before the CRC. -/
theorem test_write_bytes : requestBytes ⟨0x02, 0x21, 0x004058, 1, [0x00001F40], 0, [], none⟩ =
    [0x02, 0x21, 0x00, 0x40, 0x58, 0x00, 0x01, 0x40, 0x1F, 0x00, 0x00] := by decide +kernel
/-- The example of R63: code 6,566 with OFFSET 12 and GAIN 256.0 gives 1,677,824. -/
theorem test_scale : scaleCode 6566 12 0x400000 = (1677824, false) := by decide +kernel
/-- The edges of HB_06 (05): ue 824, le 816. -/
theorem test_edges : edges 12 3355443 0x400000 85 26 = (824, 816, false) := by decide +kernel
/-- The band servo (05): 120 transitions of three phases in 16 ticks of 50 µs at h = 80 give h = 85. -/
theorem test_servo : servoH 80 120 3 16 50000 20000 16384 16 1000 = 85 := by decide +kernel
/-- A locked wheel (R75): edges 10 ms apart; 10 m/s at 10 ms after the last one, 5 m/s at 20 ms, 0 after TMO_MS = 50. -/
theorem test_locked_wheel : [12000000, 14000000, 20000001].map (fun t => wheelSpeed [10000000, 8000000] t 50 10000 100 100000) =
    [2 ^ 23 / 10, 2 ^ 23 / 20, 0] := by decide +kernel
/-- The addresses of the examples in 00 and 22: AX_VMAX of AXIS_00, HB_CFG of HB_32. -/
theorem test_addresses : AX_VMAX_A 0 = 0x004058 ∧ HB_CFG_A 32 = 0x009480 := by decide +kernel
/-- PG_ID of BG_5 (22). -/
theorem test_page_id : State.reset.view 0x009400 = 0x12050025 := by decide +kernel
/-- The tick arithmetic of 02: the reserve of 50 µs at 400 MHz holds 1,600 cycles; a frame of 8 bytes lasts 1,405 ns (13). -/
theorem test_times : reserveCycles 50000 400 = 1600 ∧ frameNs 8 = 1405 := by decide +kernel
/-- The sequence decisions of 14: reference 3, SEQ 12 is nine ahead and stops the connection; it becomes the reference. -/
theorem test_sequence : ∀ s : State, s = accept 0 0 ([0, 0, 0, 0, 0, 12, 0, 0, 0, 0, 0, 100] ++ List.replicate 8 0)
    ((st [(SL_CST_SEQ 0, 3), (SL_CST_RUN 0, 1)]).setConn 0 { hasRef := true }) →
    s.on (SL_CST_RUN 0) = false ∧ s.f (SL_CST_SEQ 0) = 12 := by rintro _ rfl; decide +kernel
/-- The stuck bit of 07: a coded word 59 × 2^20 with bit 12 at 1 is no multiple of 59, and the comparator says cause 1. -/
theorem test_stuck_bit : railFinds [holdWord 1048576] [59 * 1048576 + 4096] 0 0 = some (1, some 0) := by decide +kernel
/-- The vector decision of 05: V4, phase a above its window, the others inside: nothing else changes but phase a goes LOW. -/
theorem test_vector : ∃ w, vectorTable 4 2 0 0 = some w ∧ bitOf w 2 = false := ⟨_, rfl, by decide +kernel⟩
/-- A TICK while the lane is held in LRST changes nothing but the queue. -/
theorem test_tick_in_lrst : step { State.reset with hold := { lrst := true }, pending := [.tick { ain := [], spare := 0, res := [], fltRet := 0 }] } =
    .next { State.reset with hold := { lrst := true } } := rfl

end Sys2Proof.Tests
end

section
/-!
PROOFS. The windows onto the schedule and the source table (R323, R342, R388): what a word staged for the next COMMIT reads as,
where the index goes, what a refused write leaves, and what the window shows beyond the table.
-/
namespace Sys2Proof.Machine

/-! ### A write that is counted where it is refused -/

theorem State.runIn_counted_refused {s t : State} {d : Nat} (pg : Nat) (w : State → Bool × State) (hd : s.dom d = true)
    (hw : w s = (true, t)) (hp : t.pending = s.pending) (hq : t.part = s.part) (hv : t.powered = s.powered) :
    s.runIn d (fun s => counted pg (w s)) = .next (t.inc (PG_LOCK_REFUSED pg)) := by
  have hc : counted pg (w s) = t.inc (PG_LOCK_REFUSED pg) := by rw [hw]; rfl
  rw [s.runIn_on d _ hd, hc, framed_self s (t.inc _) hp hq hv]

theorem State.runIn_counted_done {s t : State} {d : Nat} (pg : Nat) (w : State → Bool × State) (hd : s.dom d = true)
    (hw : w s = (false, t)) : s.runIn d (fun s => counted pg (w s)) = .next (framed s t) := by
  have hc : counted pg (w s) = t := by rw [hw]; rfl
  rw [s.runIn_on d _ hd, hc]

/-! ### The index that goes on -/

/-- Field `x` takes `v` where `b` holds: how AUTO_INC moves a window's index. -/
def State.goOn (b : Bool) (x : Fld) (v : Nat) (s : State) : State := if b then s.set x v else s

section GoOn
variable (b : Bool) (x : Fld) (v : Nat) (s : State)

@[simp] theorem State.goOn_cf : (s.goOn b x v).cf = s.cf := by cases b <;> rfl
@[simp] theorem State.goOn_tk : (s.goOn b x v).tk = s.tk := by cases b <;> rfl
@[simp] theorem State.goOn_sit : (s.goOn b x v).sit = s.sit := by cases b <;> rfl

theorem State.f_goOn (h : x.lo + x.width ≤ 32) (hv : v < 2 ^ x.width) : (s.goOn b x v).f x = if b then v else s.f x := by
  cases b
  · rfl
  · exact s.f_set_fits x v h hv

theorem SameRegsBut.goOn : SameRegsBut [x.addr] s (s.goOn b x v) := by
  cases b
  · exact SameRegsBut.refl _ s
  · exact (SameRegsBut.refl _ s).set x v (List.mem_singleton_self _)

end GoOn

/-! ### The word last written of a window entry -/

theorem mergeW_all (old new : Word) : mergeW 0xFFFFFFFF old new = new := by
  have h : (0xFFFFFFFF : Word) = BitVec.allOnes 32 := by decide
  rw [mergeW, h, BitVec.not_allOnes, BitVec.and_zero, BitVec.zero_or, BitVec.and_allOnes]

theorem not_isPwd_of_window {a : Nat} (ha : fsBase ≤ a) : isPwd a = false := by
  have h : CS_PWD_A 3 < fsBase := by decide
  have h' : ¬ a ≤ CS_PWD_A 3 := by omega
  simp [isPwd, h']

theorem commitMask_window {a : Nat} (ha : fsBase ≤ a) : commitMask a = 0xFFFFFFFF := if_pos (Or.inl ha)

/-- A window entry is committed as one whole, so only equal words agree. -/
theorem sameConf_window {a : Nat} (ha : fsBase ≤ a) (w x : Word) : sameConf a w x = true ↔ w = x := by
  have h : (0xFFFFFFFF : Word) = BitVec.allOnes 32 := by decide
  unfold sameConf
  rw [commitMask_window ha, h, BitVec.and_allOnes, beq_iff_eq]
  exact BitVec.xor_eq_zero_iff

/-- Words that wait at other addresses do not show at `a`. -/
theorem foldl_mergeW_of_ne (a : Nat) (l : List (Nat × Word × Word)) (w : Word) (h : ∀ p ∈ l, p.1 ≠ a) :
    l.foldl (fun w p => if p.1 = a then mergeW p.2.1 w p.2.2 else w) w = w := by
  induction l with
  | nil => rfl
  | cons p l ih =>
    have hp : p.1 ≠ a := h p (List.mem_cons_self ..)
    simp only [List.foldl_cons, if_neg hp]
    exact ih (fun q hq => h q (List.mem_cons_of_mem _ hq))

/-- No field of a window entry awaits a TICK or a cycle start. -/
def State.NoWindowWaits (s : State) : Prop := ∀ p ∈ s.tk.reg ++ s.tk.cyc, p.1 < fsBase

/-- A window word reads as pending, as the COMMIT in progress takes it, or as in force. -/
theorem State.written_window {s : State} (hs : s.NoWindowWaits) {a : Nat} (ha : fsBase ≤ a) :
    s.written a = (s.pendWord a).getD ((s.commitWord a).getD (s.word a)) := by
  have hne : ∀ p ∈ s.tk.reg ++ s.tk.cyc, p.1 ≠ a := fun p hp => by have := hs p hp; omega
  have hd : a ≠ PWR_DVFS_A := by
    have : PWR_DVFS_A < fsBase := by decide
    omega
  simp only [State.written, not_isPwd_of_window ha, commitMask_window ha, mergeW_all, foldl_mergeW_of_ne a _ _ hne, if_neg hd]
  cases s.pendWord a <;> cases s.commitWord a <;> cases s.pw.late <;> rfl

/-- What decides a window word as last written. -/
theorem State.written_window_congr {s t : State} (hs : s.NoWindowWaits) {a : Nat} (ha : fsBase ≤ a) (hcf : t.cf = s.cf)
    (htk : t.tk = s.tk) (hw : t.word a = s.word a) : t.written a = s.written a := by
  have ht : t.NoWindowWaits := by unfold State.NoWindowWaits; rw [htk]; exact hs
  rw [State.written_window ht ha, State.written_window hs ha, hw]
  simp only [State.pendWord, State.commitWord, hcf]

/-- The index that goes on moves no window entry. -/
theorem State.written_goOn {s : State} (hs : s.NoWindowWaits) {a : Nat} (ha : fsBase ≤ a) (b : Bool) {x : Fld} (v : Nat)
    (hx : x.addr < fsBase) : (s.goOn b x v).written a = s.written a := by
  have hne : a ∉ [x.addr] := by simp only [List.mem_singleton]; omega
  exact State.written_window_congr hs ha (s.goOn_cf b x v) (s.goOn_tk b x v) (SameRegsBut.goOn b x v s a hne)

@[simp] theorem framed_written (s t : State) (a : Nat) : (framed s t).written a = t.written a := rfl

/-! ### Staging a word -/

@[simp] theorem putPend_regs (a : Nat) (v : Word) (s : State) : (putPend a v s).regs = s.regs := rfl
@[simp] theorem putPend_word (a : Nat) (v : Word) (s : State) (b : Nat) : (putPend a v s).word b = s.word b := rfl
@[simp] theorem putPend_commitWord (a : Nat) (v : Word) (s : State) (b : Nat) : (putPend a v s).commitWord b = s.commitWord b := rfl

theorem putPend_pendWord_ne (a : Nat) (v : Word) (s : State) {b : Nat} (h : b ≠ a) :
    (putPend a v s).pendWord b = s.pendWord b := smGet_smPut_ne _ _ _ _ _ h

theorem putPend_pendWord_same (a : Nat) (v : Word) (s : State) :
    (putPend a v s).pendWord a = if sameConf a v ((s.commitWord a).getD (s.inForce a)) then none else some v :=
  smGet_smPut_same _ _ _ _

theorem State.NoWindowWaits.putPend {s : State} (hs : s.NoWindowWaits) (a : Nat) (v : Word) :
    (putPend a v s).NoWindowWaits := hs

/-- A staged window word is the word last written, also where it equals what is or will be in force and so does not wait. -/
theorem written_putPend_same {s : State} (hs : s.NoWindowWaits) {a : Nat} (ha : fsBase ≤ a) (v : Word) :
    (putPend a v s).written a = v := by
  have hin : s.inForce a = s.word a := by simp [State.inForce, not_isPwd_of_window ha]
  rw [State.written_window (hs.putPend a v) ha, putPend_pendWord_same, hin, putPend_commitWord, putPend_word]
  split
  · next h => exact ((sameConf_window ha _ _).mp h).symm
  · rfl

theorem written_putPend_ne {s : State} (hs : s.NoWindowWaits) {a b : Nat} (hb : fsBase ≤ b) (hba : b ≠ a) (v : Word) :
    (putPend a v s).written b = s.written b := by
  rw [State.written_window (hs.putPend a v) hb, State.written_window hs hb, putPend_pendWord_ne a v s hba, putPend_commitWord,
    putPend_word]

/-- A word of the schedule window's buffer is staged, where it was written. -/
def putStaged (a : Nat) (w : Option Word) (s : State) : State :=
  match w with
  | some w => putPend a w s
  | none => s

@[simp] theorem putStaged_regs (a : Nat) (w : Option Word) (s : State) : (putStaged a w s).regs = s.regs := by cases w <;> rfl

theorem State.NoWindowWaits.putStaged {s : State} (hs : s.NoWindowWaits) (a : Nat) (w : Option Word) :
    (putStaged a w s).NoWindowWaits := by
  cases w
  · exact hs
  · exact hs.putPend a _

theorem written_putStaged_ne {s : State} (hs : s.NoWindowWaits) {a b : Nat} (hb : fsBase ≤ b) (hba : b ≠ a) (w : Option Word) :
    (putStaged a w s).written b = s.written b := by
  cases w
  · rfl
  · exact written_putPend_ne hs hb hba _

/-! ### The schedule window -/

/-- The three words of entry `e` are staged: those of the buffer that were written, and `v` as the last, without its reserved bits. -/
def stageEntry (e : Nat) (v : Word) (s : State) : State :=
  putPend (schBase + 16 * e + 8) (v &&& 0xFFFFF001)
    (putStaged (schBase + 16 * e + 4) s.sit.w1 (putStaged (schBase + 16 * e) s.sit.w0 s))

/-- The state without staged words in the window's buffer. -/
def State.dropWords (s : State) : State := { s with sit := { s.sit with w0 := none, w1 := none } }

@[simp] theorem State.dropWords_regs (s : State) : s.dropWords.regs = s.regs := rfl
@[simp] theorem State.dropWords_w0 (s : State) : s.dropWords.sit.w0 = none := rfl
@[simp] theorem State.dropWords_w1 (s : State) : s.dropWords.sit.w1 = none := rfl
@[simp] theorem State.dropWords_written (s : State) (a : Nat) : s.dropWords.written a = s.written a := rfl

theorem stageEntry_regs (e : Nat) (v : Word) (s : State) : (stageEntry e v s).regs = s.regs := by simp [stageEntry]

theorem window_of_entry (e k : Nat) : fsBase ≤ schBase + 16 * e + k := by unfold fsBase schBase; omega

theorem State.NoWindowWaits.stageEntry {s : State} (hs : s.NoWindowWaits) (e : Nat) (v : Word) :
    (stageEntry e v s).NoWindowWaits := ((hs.putStaged _ _).putStaged _ _).putPend _ _

theorem written_stageEntry_last {s : State} (hs : s.NoWindowWaits) (e : Nat) (v : Word) :
    (stageEntry e v s).written (schBase + 16 * e + 8) = v &&& 0xFFFFF001 :=
  written_putPend_same ((hs.putStaged _ _).putStaged _ _) (window_of_entry e 8) _

theorem written_stageEntry_first {s : State} (hs : s.NoWindowWaits) (e : Nat) (v w : Word) (hw : s.sit.w0 = some w) :
    (stageEntry e v s).written (schBase + 16 * e) = w := by
  have ha : fsBase ≤ schBase + 16 * e := window_of_entry e 0
  unfold stageEntry
  rw [written_putPend_ne ((hs.putStaged _ _).putStaged _ _) ha (by omega), written_putStaged_ne (hs.putStaged _ _) ha (by omega), hw]
  exact written_putPend_same hs ha w

/-- An accepted write of SCH_W2 stages the entry, empties the buffer and moves the index. -/
theorem writeSchWord_last (v : Word) (s : State) (hl : s.locked = false) (ho : s.schOpen = true) :
    writeSchWord s.locked 2 v s = (false, (stageEntry (s.f SCH_IDX_IDX) v s).dropWords.goOn (s.on SCH_CFG_AUTO_INC)
      SCH_IDX_IDX ((s.f SCH_IDX_IDX + 1) % 2 ^ 13)) := by
  have hon : (stageEntry (s.f SCH_IDX_IDX) v s).dropWords.on SCH_CFG_AUTO_INC = s.on SCH_CFG_AUTO_INC := by
    unfold State.on
    rw [State.f_congr ((State.dropWords_regs _).trans (stageEntry_regs _ v s))]
  rw [← hon, hl]
  simp only [writeSchWord, ho, Bool.not_true, Bool.or_self, Bool.false_eq_true, if_false]
  rfl

/-- A refused write of SCH_W2 drops the staged words. -/
theorem writeSchWord_last_refused (v : Word) (s : State) (h : s.locked = true ∨ s.schOpen = false) :
    writeSchWord s.locked 2 v s = (true, s.dropWords) := by
  have hc : (s.locked || !s.schOpen) = true := by rcases h with h | h <;> simp [h]
  simp only [writeSchWord, hc, if_true]
  rfl

theorem exec_schW2Write_refused (v : BitVec 32) (s : State) (hd : s.dom 7 = true) (h : s.locked = true ∨ s.schOpen = false) :
    exec (.schW2Write v) s = .next (s.dropWords.inc (PG_LOCK_REFUSED 0x045)) :=
  State.runIn_counted_refused 0x045 (fun s => writeSchWord s.locked 2 v s) hd (writeSchWord_last_refused v s h) rfl rfl rfl

theorem exec_schW2Write_stages (v : BitVec 32) (s : State) (hd : s.dom 7 = true) (hl : s.locked = false) (ho : s.schOpen = true)
    (hs : s.NoWindowWaits) :
    let e := s.f SCH_IDX_IDX
    ∃ t, exec (.schW2Write v) s = .next t ∧ t.written (schBase + 16 * e + 8) = v &&& 0xFFFFF001 ∧
      (∀ w, s.sit.w0 = some w → t.written (schBase + 16 * e) = w) ∧ t.sit.w0 = none ∧ t.sit.w1 = none ∧
      t.f SCH_IDX_IDX = (if s.on SCH_CFG_AUTO_INC then (e + 1) % 2 ^ 13 else e) ∧ SameRegsBut [SCH_IDX_A] s t := by
  intro e
  have hregs : (stageEntry e v s).dropWords.regs = s.regs := (State.dropWords_regs _).trans (stageEntry_regs e v s)
  have hwaits : (stageEntry e v s).dropWords.NoWindowWaits := hs.stageEntry e v
  have hidx : SCH_IDX_IDX.addr < fsBase := by decide
  refine ⟨_, State.runIn_counted_done 0x045 (fun s => writeSchWord s.locked 2 v s) hd (writeSchWord_last v s hl ho),
    ?_, fun w hw => ?_, ?_, ?_, ?_, ?_⟩
  · rw [framed_written, State.written_goOn hwaits (window_of_entry e 8) _ _ hidx, State.dropWords_written]
    exact written_stageEntry_last hs e v
  · have hfirst : fsBase ≤ schBase + 16 * e := window_of_entry e 0
    rw [framed_written, State.written_goOn hwaits hfirst _ _ hidx, State.dropWords_written]
    exact written_stageEntry_first hs e v w hw
  · rw [framed_sit, State.goOn_sit, State.dropWords_w0]
  · rw [framed_sit, State.goOn_sit, State.dropWords_w1]
  · have hlt : (e + 1) % 2 ^ 13 < 2 ^ SCH_IDX_IDX.width := Nat.mod_lt _ (by decide)
    rw [framed_f, State.f_goOn _ _ _ _ (by decide) hlt, State.f_congr hregs]
  · exact ((SameRegsBut.refl _ s).of_regs hregs).trans (SameRegsBut.goOn _ SCH_IDX_IDX _ _)

/-- The index selects any entry of the table that is there. -/
theorem exec_schIdxWrite_selects (v : BitVec 32) (s : State) (hd : s.dom 7 = true)
    (h : v.toNat % 2 ^ 13 < 2048 ∨ s.feature 6 = true) :
    ∃ t, exec (.schIdxWrite v) s = .next t ∧ t.f SCH_IDX_IDX = v.toNat % 2 ^ 13 ∧ t.sit.w0 = none ∧ t.sit.w1 = none ∧
      SameRegsBut [SCH_IDX_A] s t := by
  have hw : writeSchIdx v.toNat s = (false, (s.set SCH_IDX_IDX (v.toNat % 2 ^ 13)).dropWords) := by
    refine if_neg ?_
    rcases h with h | h
    · omega
    · simp [h]
  refine ⟨_, State.runIn_counted_done 0x045 (writeSchIdx v.toNat) hd hw, ?_, rfl, rfl, ?_⟩
  · have hlt : v.toNat % 2 ^ 13 < 2 ^ SCH_IDX_IDX.width := Nat.mod_lt _ (by decide)
    exact s.f_set_fits SCH_IDX_IDX _ (by decide) hlt
  · exact (SameRegsBut.refl _ s).set SCH_IDX_IDX _ (List.mem_singleton_self _)

theorem exec_schIdxWrite_refused (v : BitVec 32) (s : State) (hd : s.dom 7 = true) (hv : 2048 ≤ v.toNat % 2 ^ 13)
    (hf : s.feature 6 = false) : exec (.schIdxWrite v) s = .next (s.inc (PG_LOCK_REFUSED 0x045)) := by
  have hw : writeSchIdx v.toNat s = (true, s) := if_pos ⟨hv, by simp [hf]⟩
  exact State.runIn_counted_refused 0x045 (writeSchIdx v.toNat) hd hw rfl rfl rfl

/-- A read of the SCHED page answers what its block derives; the page has no domain that QUIET takes off. -/
theorem live_sched (s : State) (off : Nat) (hoff : 0x40 ≤ off ∧ off < 0x400) (hreg : (regAt (0x045 * 0x400 + off)).isNone = false) :
    s.live (0x045 * 0x400 + off) = s.schedReg off (s.written (0x045 * 0x400 + off)) := by
  have hpg : (0x045 * 0x400 + off) / 0x400 = 0x045 := by omega
  have hof : (0x045 * 0x400 + off) % 0x400 = off := by omega
  have hdark : s.pageDark 0x045 = false := by simp [State.pageDark]
  have hlo : ¬ off < 0x40 := by omega
  have h43 : ((0x045 : Nat) == 0x043 || (0x045 : Nat) == 0x044) = false := by decide
  simp only [State.live, hpg, hof, hreg, h43, hdark, if_neg hlo, Bool.and_false, Bool.or_false, Bool.false_eq_true, if_false]
  rfl

/-- Beyond the table the window reads 0. -/
theorem live_sched_closed (s : State) (hf : s.feature 6 = false) (hi : 2048 ≤ s.f SCH_IDX_IDX) :
    ∀ a ∈ [SCH_W0_A, SCH_W1_A, SCH_W2_A, SCH_RXST_A], s.live a = 0 := by
  have hclosed : s.schOpen = false := by simp [State.schOpen, hf, hi]
  have hzero : ∀ off ∈ [0x48, 0x4C, 0x50, 0x58], s.live (0x045 * 0x400 + off) = 0 := by
    intro off hoff
    have hbound : 0x40 ≤ off ∧ off < 0x400 := by revert off; decide
    have hreg : (regAt (0x045 * 0x400 + off)).isNone = false := by revert off; decide
    rw [live_sched s off hbound hreg]
    simp only [List.mem_cons, List.not_mem_nil, or_false] at hoff
    rcases hoff with rfl | rfl | rfl | rfl <;> simp [State.schedReg, hclosed]
  intro a ha
  simp only [List.mem_cons, List.not_mem_nil, or_false] at ha
  rcases ha with rfl | rfl | rfl | rfl
  · exact hzero 0x48 (by decide)
  · exact hzero 0x4C (by decide)
  · exact hzero 0x50 (by decide)
  · exact hzero 0x58 (by decide)

/-! ### The window onto the source table -/

/-- FS_WIN holds its 20 bits of W_M1 and nothing else. -/
theorem fsWin_fields : maskWhere (fun _ => true) (fieldsAt FS_WIN_A) = BitVec.setWidth 32 (BitVec.allOnes 20) := by decide

/-- The low 20 bits of a word are those of it under the mask of FS_WIN. -/
theorem fieldGet_and_fsWin (v : Word) :
    fieldGet (v &&& maskWhere (fun _ => true) (fieldsAt FS_WIN_A)) 0 20 = v.toNat % 2 ^ 20 := by
  have hm : (BitVec.setWidth 32 (BitVec.allOnes 20)).toNat = 2 ^ 20 - 1 := by decide
  rw [fsWin_fields, fieldGet, BitVec.toNat_and, hm, Nat.and_two_pow_sub_one_eq_mod, Nat.pow_zero, Nat.div_one, Nat.mod_mod]

theorem window_of_source (id : Nat) : fsBase ≤ fsBase + 8 * id + 4 := by omega

/-- An accepted write of FS_WIN stages the word of its source and moves the index. -/
theorem writeSrcWord_last (v : Word) (s : State) (hl : s.locked = false) (ha : srcAssigned (s.f FS_IDX_IDX) = true) :
    writeSrcWord s.locked 1 v s = (false, (putPend (fsBase + 8 * s.f FS_IDX_IDX + 4)
      (v &&& maskWhere (fun _ => true) (fieldsAt FS_WIN_A)) s).goOn (s.on FS_IDX_AUTO_INC) FS_IDX_IDX
        ((s.f FS_IDX_IDX + 1) % 1024)) := by
  simp only [writeSrcWord, hl, ha, Bool.false_eq_true, if_false, if_true, true_and, Nat.one_ne_zero, Nat.mul_one]
  rfl

theorem exec_fsWinWrite_refused (v : BitVec 32) (s : State) (hd : s.dom 7 = true) (hl : s.locked = true) :
    exec (.fsWinWrite v) s = .next (s.inc (PG_LOCK_REFUSED 0x009)) := by
  have hw : writeSrcWord s.locked 1 v s = (true, s) := if_pos hl
  exact State.runIn_counted_refused 0x009 (fun s => writeSrcWord s.locked 1 v s) hd hw rfl rfl rfl

theorem exec_fsWinWrite_stages (v : BitVec 32) (s : State) (hd : s.dom 7 = true) (hl : s.locked = false)
    (ha : srcAssigned (s.f FS_IDX_IDX) = true) (hs : s.NoWindowWaits) :
    let id := s.f FS_IDX_IDX
    ∃ t, exec (.fsWinWrite v) s = .next t ∧ fieldGet (t.written (fsBase + 8 * id + 4)) 0 20 = v.toNat % 2 ^ 20 ∧
      t.f FS_IDX_IDX = (if s.on FS_IDX_AUTO_INC then (id + 1) % 1024 else id) ∧ SameRegsBut [FS_IDX_A] s t := by
  intro id
  refine ⟨_, State.runIn_counted_done 0x009 (fun s => writeSrcWord s.locked 1 v s) hd (writeSrcWord_last v s hl ha), ?_, ?_, ?_⟩
  · have hidx : FS_IDX_IDX.addr < fsBase := by decide
    rw [framed_written, State.written_goOn (hs.putPend _ _) (window_of_source id) _ _ hidx,
      written_putPend_same hs (window_of_source id), fieldGet_and_fsWin]
  · have hlt : (id + 1) % 1024 < 2 ^ FS_IDX_IDX.width := Nat.mod_lt _ (by decide)
    rw [framed_f, State.f_goOn _ _ _ _ (by decide) hlt, State.f_congr (putPend_regs ..)]
  · exact ((SameRegsBut.refl _ s).of_regs (putPend_regs ..)).trans (SameRegsBut.goOn _ FS_IDX_IDX _ _)

/-- Settles O47: each clause is the law of its window above. -/
theorem windowWritesStageTheirEntry : Obligations.WindowWritesStageTheirEntry :=
  ⟨exec_schIdxWrite_selects, exec_schIdxWrite_refused, exec_schW2Write_refused, exec_schW2Write_stages, exec_fsWinWrite_refused,
    exec_fsWinWrite_stages, live_sched_closed⟩

end Sys2Proof.Machine
end

section
/-!
PROOFS. A request for a power state (R412, R414, R420): what an outcome and its answer write and leave, what the return to RUN leaves,
and how the power manager judges a request at the TICK after it.
-/
namespace Sys2Proof.Machine

/-! ### Frames of registers and of the host's waiting commands -/

/-- Registers outside the listed addresses hold what they held, and the same host commands wait. -/
structure KeepsBut (l : List Nat) (s t : State) : Prop where
  regs : SameRegsBut l s t
  queue : t.hp.queue = s.hp.queue

section KeepsBut
variable {l m : List Nat} {s t u : State}

theorem KeepsBut.refl (l : List Nat) (s : State) : KeepsBut l s s := ⟨SameRegsBut.refl l s, rfl⟩

theorem KeepsBut.trans (h : KeepsBut l s t) (k : KeepsBut l t u) : KeepsBut l s u :=
  ⟨h.regs.trans k.regs, k.queue.trans h.queue⟩

theorem KeepsBut.mono (h : KeepsBut l s t) (hlm : l ⊆ m) : KeepsBut m s t :=
  ⟨fun a ha => h.regs a (fun hl => ha (hlm hl)), h.queue⟩

theorem KeepsBut.set (h : KeepsBut l s t) (x : Fld) (v : Nat) (hx : x.addr ∈ l) : KeepsBut l s (t.set x v) :=
  ⟨h.regs.set x v hx, h.queue⟩

theorem KeepsBut.of_eq (h : KeepsBut l s t) (hr : u.regs = t.regs) (hh : u.hp = t.hp) : KeepsBut l s u :=
  ⟨h.regs.of_regs hr, by rw [hh]; exact h.queue⟩

theorem KeepsBut.f (h : KeepsBut l s t) (x : Fld) (hx : x.addr ∉ l) : t.f x = s.f x := by
  unfold State.f; rw [h.regs _ hx]

/-- A change of the host port that leaves the commands that wait. -/
theorem KeepsBut.of_port (l : List Nat) (s : State) (p : HostSt) (hq : p.queue = s.hp.queue) : KeepsBut l s { s with hp := p } :=
  ⟨fun _ _ => rfl, hq⟩

end KeepsBut

theorem SameRegsBut.setWord (a : Nat) (w : Word) (s : State) : SameRegsBut [a] s (s.setWord a w) := fun b hb =>
  s.word_setWord_ne a b w (by simpa using hb)

/-! ### Completed commands and replies -/

theorem showHost_keepsBut (s : State) : KeepsBut [HP_STAT_A] s (showHost s) := by
  have hin : HP_STAT_A ∈ [HP_STAT_A] := List.mem_singleton_self _
  exact (((KeepsBut.refl _ s).set HP_STAT_IN_FLIGHT _ hin).set HP_STAT_READY _ hin).set HP_STAT_REMOTE _ hin

theorem showHost_port (s : State) (p : HostSt) (hq : p.queue = s.hp.queue) : KeepsBut [HP_STAT_A] s (showHost { s with hp := p }) :=
  (KeepsBut.of_port _ s p hq).trans (showHost_keepsBut _)

theorem closeSlot_keepsBut (i tag st : Nat) (data : List Word) (s : State) : KeepsBut [HP_STAT_A] s (closeSlot i tag st data s) := by
  unfold closeSlot
  simp only
  split
  · exact showHost_port s _ rfl
  · exact KeepsBut.refl _ s

@[simp] theorem closeSlot_pw (i tag st : Nat) (data : List Word) (s : State) : (closeSlot i tag st data s).pw = s.pw := by
  unfold closeSlot
  simp only
  split <;> rfl

/-- The slot of a WAIT that completes is closed, and the WAIT in progress or the next one is another. -/
theorem completeWait_shape (tag st : Nat) (data : List Word) (s : State) : ∃ i p,
    completeWait tag st data s = { closeSlot i tag st data s with hp := p } ∧ p.queue = (closeSlot i tag st data s).hp.queue := by
  unfold completeWait
  simp only
  split_ifs
  · exact ⟨_, _, rfl, rfl⟩
  · exact ⟨0, _, rfl, rfl⟩

theorem completeWait_keepsBut (tag st : Nat) (data : List Word) (s : State) : KeepsBut [HP_STAT_A] s (completeWait tag st data s) := by
  obtain ⟨i, p, e, hq⟩ := completeWait_shape tag st data s
  rw [e]
  exact (closeSlot_keepsBut i tag st data s).trans (KeepsBut.of_port _ _ p hq)

@[simp] theorem completeWait_pw (tag st : Nat) (data : List Word) (s : State) : (completeWait tag st data s).pw = s.pw := by
  obtain ⟨i, p, e, _⟩ := completeWait_shape tag st data s
  rw [e]
  exact closeSlot_pw i tag st data s

/-- Who is told an outcome: HP_STAT is the one register that shows it. -/
theorem answer_keepsBut (w : Who) (st : Nat) (data : List Word) (s : State) : KeepsBut [HP_STAT_A] s (answer w st data s) := by
  cases w with
  | host tag => exact completeWait_keepsBut tag st data s
  | remote node tag => exact showHost_port s _ rfl
  | nobody => exact KeepsBut.refl _ s

@[simp] theorem answer_pw (w : Who) (st : Nat) (data : List Word) (s : State) : (answer w st data s).pw = s.pw := by
  cases w with
  | host tag => exact completeWait_pw tag st data s
  | remote node tag => rfl
  | nobody => rfl

/-! ### Outcomes (R420) -/

/-- The registers that count the refusers of a list of codes. -/
def refRegs (codes : List Nat) : List Nat := codes.map (fun c => (refF c).addr)

/-- The refusers of an outcome are counted, where the feature is active. -/
def countRefusers (codes : List Nat) (s : State) : State := if s.feature 1 then codes.foldl (fun t c => t.inc (refF c)) s else s

theorem countRefusers_keepsBut (codes : List Nat) (s : State) : KeepsBut (refRegs codes) s (countRefusers codes s) := by
  unfold countRefusers
  split
  · exact List.foldlRecOn codes _ (KeepsBut.refl _ s) fun t ht c hc => ht.set _ _ (List.mem_map_of_mem hc)
  · exact KeepsBut.refl _ s

@[simp] theorem countRefusers_pw (codes : List Nat) (s : State) : (countRefusers codes s).pw = s.pw := by
  unfold countRefusers
  split
  · exact List.foldlRecOn codes (motive := fun t : State => t.pw = s.pw) _ rfl fun t ht c _ => ht
  · rfl

/-- PWR_LAST after an outcome, its fields in turn. -/
def State.showLast (s : State) (out tgt ap : Nat) (codes : List Nat) : State :=
  (((((s.setWord PWR_LAST_A 0).set PWR_LAST_OUTCOME out).set PWR_LAST_TGT tgt).set PWR_LAST_AP ap).set PWR_LAST_REFUSER
    (codes.headD 0)).set PWR_LAST_REF_MASK (packBits 15 (fun b => codes.contains (b + 1)))

theorem pwrOutcome_eq (out tgt ap : Nat) (codes : List Nat) (s : State) :
    pwrOutcome out tgt ap codes s = (countRefusers codes s).showLast out tgt ap codes := rfl

section ShowLast
variable (s : State) (out tgt ap : Nat) (codes : List Nat)

theorem State.showLast_keepsBut : KeepsBut [PWR_LAST_A] s (s.showLast out tgt ap codes) := by
  have h : KeepsBut [PWR_LAST_A] s (s.setWord PWR_LAST_A 0) := ⟨SameRegsBut.setWord _ _ s, rfl⟩
  have hin : PWR_LAST_A ∈ [PWR_LAST_A] := List.mem_singleton_self _
  exact ((((h.set _ _ hin).set _ _ hin).set _ _ hin).set _ _ hin).set _ _ hin

@[simp] theorem State.showLast_pw : (s.showLast out tgt ap codes).pw = s.pw := by
  simp only [State.showLast, State.set_pw, State.setWord_pw]

theorem State.showLast_outcome (ho : out < 8) : (s.showLast out tgt ap codes).f PWR_LAST_OUTCOME = out := by
  unfold State.showLast
  rw [State.f_set_beside _ PWR_LAST_REF_MASK PWR_LAST_OUTCOME _ rfl (by decide),
    State.f_set_beside _ PWR_LAST_REFUSER PWR_LAST_OUTCOME _ rfl (by decide),
    State.f_set_beside _ PWR_LAST_AP PWR_LAST_OUTCOME _ rfl (by decide),
    State.f_set_beside _ PWR_LAST_TGT PWR_LAST_OUTCOME _ rfl (by decide)]
  exact State.f_set_fits _ _ _ (by decide) ho

theorem State.showLast_tgt (ht : tgt < 4) : (s.showLast out tgt ap codes).f PWR_LAST_TGT = tgt := by
  unfold State.showLast
  rw [State.f_set_beside _ PWR_LAST_REF_MASK PWR_LAST_TGT _ rfl (by decide),
    State.f_set_beside _ PWR_LAST_REFUSER PWR_LAST_TGT _ rfl (by decide),
    State.f_set_beside _ PWR_LAST_AP PWR_LAST_TGT _ rfl (by decide)]
  exact State.f_set_fits _ _ _ (by decide) ht

theorem State.showLast_refuser (hc : codes.headD 0 < 32) :
    (s.showLast out tgt ap codes).f PWR_LAST_REFUSER = codes.headD 0 := by
  unfold State.showLast
  rw [State.f_set_beside _ PWR_LAST_REF_MASK PWR_LAST_REFUSER _ rfl (by decide)]
  exact State.f_set_fits _ _ _ (by decide) hc

end ShowLast

/-! ### A request that ends -/

theorem refF_addr (c : Nat) : (refF c).addr = PWR_REF_A (c / 4) := by
  unfold refF
  split <;> rfl

/-- PWR_STAT is none of the registers of an outcome. -/
theorem stat_not_outcome (codes : List Nat) : PWR_STAT_A ∉ PWR_LAST_A :: HP_STAT_A :: refRegs codes := by
  have hbelow : ∀ i, PWR_STAT_A < PWR_REF_A i := fun i => by unfold PWR_STAT_A PWR_REF_A; omega
  simp only [List.mem_cons, refRegs, List.mem_map, not_or, not_exists, not_and]
  refine ⟨by decide, by decide, fun c _ e => ?_⟩
  rw [refF_addr] at e
  exact absurd e (Nat.ne_of_gt (hbelow _))

section End
variable (w : Who) (out tgt ap : Nat) (codes : List Nat) (s : State)

/-- A request that ends counts its refusers, shows its outcome and tells who asked. -/
theorem pwrEnd_eq : ∃ data,
    pwrEnd w out tgt ap codes s = answer w (pwrStatus out) data ((countRefusers codes s).showLast out tgt ap codes) :=
  ⟨_, rfl⟩

theorem pwrEnd_keepsBut : KeepsBut (PWR_LAST_A :: HP_STAT_A :: refRegs codes) s (pwrEnd w out tgt ap codes s) := by
  obtain ⟨data, e⟩ := pwrEnd_eq w out tgt ap codes s
  have hcount := countRefusers_keepsBut codes s
  have hlast := (countRefusers codes s).showLast_keepsBut out tgt ap codes
  rw [e]
  exact ((hcount.mono (by simp)).trans (hlast.mono (by simp))).trans ((answer_keepsBut w _ data _).mono (by simp))

@[simp] theorem pwrEnd_pw : (pwrEnd w out tgt ap codes s).pw = s.pw := by
  obtain ⟨data, e⟩ := pwrEnd_eq w out tgt ap codes s
  rw [e, answer_pw, State.showLast_pw, countRefusers_pw]

/-- The answer leaves PWR_LAST as the outcome wrote it. -/
theorem pwrEnd_f_last (x : Fld) (hx : x.addr = PWR_LAST_A) :
    (pwrEnd w out tgt ap codes s).f x = ((countRefusers codes s).showLast out tgt ap codes).f x := by
  obtain ⟨data, e⟩ := pwrEnd_eq w out tgt ap codes s
  rw [e]
  exact (answer_keepsBut w _ data _).f x (by rw [hx]; decide)

theorem pwrNext_keepsBut : KeepsBut [PWR_STAT_A] s (pwrNext s) := by
  have hin : PWR_STAT_A ∈ [PWR_STAT_A] := List.mem_singleton_self _
  exact (((KeepsBut.refl _ s).set PWR_STAT_PEND _ hin).set PWR_STAT_PEND_TGT _ hin).of_eq rfl rfl

@[simp] theorem pwrNext_req : (pwrNext s).pw.req = s.pw.pend := rfl
@[simp] theorem pwrNext_entry : (pwrNext s).pw.entry = s.pw.entry := rfl

/-- The pending request that takes its turn moves PEND and PEND_TGT only. -/
theorem pwrNext_f (x : Fld) (h : x.addr ≠ PWR_STAT_A ∨ x.lo + x.width ≤ 23 ∨ 26 ≤ x.lo) : (pwrNext s).f x = s.f x := by
  by_cases hx : x.addr = PWR_STAT_A
  · have hplace : x.lo + x.width ≤ 23 ∨ 26 ≤ x.lo := h.resolve_left (fun hn => hn hx)
    have htgt : (23 : Nat) + 2 ≤ x.lo ∨ x.lo + x.width ≤ 23 := by omega
    have hpend : (25 : Nat) + 1 ≤ x.lo ∨ x.lo + x.width ≤ 25 := by omega
    exact (State.f_set_beside _ PWR_STAT_PEND_TGT x _ hx htgt).trans (State.f_set_beside _ PWR_STAT_PEND x _ hx hpend)
  · exact (pwrNext_keepsBut s).f x (by simpa using hx)

/-- A request ends and the pending one takes its turn. -/
def closeReq : State := pwrNext (pwrEnd w out tgt ap codes s)

theorem closeReq_keepsBut : KeepsBut (PWR_LAST_A :: PWR_STAT_A :: HP_STAT_A :: refRegs codes) s (closeReq w out tgt ap codes s) :=
  have hsub := List.cons_subset_cons PWR_LAST_A (List.subset_cons_self PWR_STAT_A (HP_STAT_A :: refRegs codes))
  ((pwrEnd_keepsBut w out tgt ap codes s).mono hsub).trans ((pwrNext_keepsBut _).mono (by simp))

@[simp] theorem closeReq_req : (closeReq w out tgt ap codes s).pw.req = s.pw.pend := by
  rw [closeReq, pwrNext_req, pwrEnd_pw]
@[simp] theorem closeReq_entry : (closeReq w out tgt ap codes s).pw.entry = s.pw.entry := by
  rw [closeReq, pwrNext_entry, pwrEnd_pw]

theorem closeReq_f_last (x : Fld) (hx : x.addr = PWR_LAST_A) :
    (closeReq w out tgt ap codes s).f x = ((countRefusers codes s).showLast out tgt ap codes).f x :=
  (pwrNext_f _ x (Or.inl (by rw [hx]; decide))).trans (pwrEnd_f_last w out tgt ap codes s x hx)

theorem closeReq_outcome (ho : out < 8) : (closeReq w out tgt ap codes s).f PWR_LAST_OUTCOME = out :=
  (closeReq_f_last w out tgt ap codes s _ rfl).trans (State.showLast_outcome _ out tgt ap codes ho)

theorem closeReq_tgt (ht : tgt < 4) : (closeReq w out tgt ap codes s).f PWR_LAST_TGT = tgt :=
  (closeReq_f_last w out tgt ap codes s _ rfl).trans (State.showLast_tgt _ out tgt ap codes ht)

theorem closeReq_refuser (hc : codes.headD 0 < 32) : (closeReq w out tgt ap codes s).f PWR_LAST_REFUSER = codes.headD 0 :=
  (closeReq_f_last w out tgt ap codes s _ rfl).trans (State.showLast_refuser _ out tgt ap codes hc)

/-- Of PWR_STAT the end of a request moves PEND and PEND_TGT only. -/
theorem closeReq_f_stat (x : Fld) (hx : x.addr = PWR_STAT_A) (hlo : x.lo + x.width ≤ 23 ∨ 26 ≤ x.lo) :
    (closeReq w out tgt ap codes s).f x = s.f x :=
  (pwrNext_f _ x (Or.inr hlo)).trans ((pwrEnd_keepsBut w out tgt ap codes s).f x (by rw [hx]; exact stat_not_outcome codes))

theorem closeReq_state : (closeReq w out tgt ap codes s).f PWR_STAT_STATE = s.f PWR_STAT_STATE :=
  closeReq_f_stat w out tgt ap codes s PWR_STAT_STATE rfl (by decide)

end End

/-! ### Refuser codes (*Refusers*) -/

theorem packBits_lt (n : Nat) (g : Nat → Bool) : packBits n g < 2 ^ n := by
  induction n with
  | zero => simp [packBits]
  | succ n ih =>
    unfold packBits
    split <;> omega

/-- Bit k of packed bits. -/
theorem bitOf_packBits (n k : Nat) (g : Nat → Bool) : bitOf (packBits n g) k = (decide (k < n) && g k) := by
  induction n with
  | zero => simp [packBits, bitOf]
  | succ n ih =>
    have hlt := packBits_lt n g
    have hsplit : packBits (n + 1) g = 2 ^ n * (2 * 0 + b2n (g n)) + packBits n g := by
      cases h : g n <;> simp [packBits, h, b2n, Nat.add_comm]
    rw [bitOf_testBit] at ih ⊢
    rw [hsplit, split_bit 0 _ n k (g n) hlt]
    by_cases hk : k = n
    · simp [hk]
    · have hlast : k < n + 1 ↔ k < n := by omega
      simp [hk, ih, hlast]

theorem codesOf_lt {m n c : Nat} (hc : c ∈ codesOf m n) : c < n := List.mem_range.mp (List.mem_filter.mp hc).1

/-- The lowest of codes below 12 fits REFUSER. -/
theorem codesOf_headD_lt (m : Nat) : (codesOf m 12).headD 0 < 32 := by
  cases h : codesOf m 12 with
  | nil => decide
  | cons c cs =>
    have hc : c < 12 := codesOf_lt (by rw [h]; exact List.mem_cons_self ..)
    exact Nat.lt_trans hc (by decide)

/-- Code 1 is the lowest where bit 0 is clear. -/
theorem codesOf_head_one {m : Nat} (h0 : bitOf m 0 = false) (h1 : bitOf m 1 = true) : (codesOf m 12).headD 0 = 1 := by
  have hr : List.range 12 = 0 :: 1 :: (List.range 12).drop 2 := by decide
  rw [codesOf, hr, List.filter_cons_of_neg (by simp [h0]), List.filter_cons_of_pos h1]
  rfl

/-- The codes of *Refusers* are counted in PWR_REF. -/
theorem refRegs_subset (m : Nat) : refRegs (codesOf m 12) ⊆ (List.range 8).map PWR_REF_A := by
  intro a ha
  obtain ⟨c, hc, rfl⟩ := List.mem_map.mp ha
  have hlt : c / 4 < 8 := by have := codesOf_lt hc; omega
  rw [refF_addr]
  exact List.mem_map_of_mem (List.mem_range.mpr hlt)

theorem refusers_bit_zero (s : State) (src tgt : Nat) (w : Who) : bitOf (s.refusers src tgt w) 0 = false := by
  unfold State.refusers
  rw [bitOf_packBits]
  rfl

theorem refusers_bit_one (s : State) (src tgt : Nat) (w : Who) :
    bitOf (s.refusers src tgt w) 1 = (!pwrAllowed src tgt || s.inLrst) := by
  unfold State.refusers
  rw [bitOf_packBits]
  rfl

/-- A transition that *Power-state transitions* does not have is refused with code 1. -/
theorem refusers_of_not_allowed (s : State) {src tgt : Nat} (w : Who) (h : pwrAllowed src tgt = false) :
    s.refusers src tgt w ≠ 0 ∧ (codesOf (s.refusers src tgt w) 12).headD 0 = 1 := by
  have h1 : bitOf (s.refusers src tgt w) 1 = true := by simp [refusers_bit_one, h]
  refine ⟨fun hz => ?_, codesOf_head_one (refusers_bit_zero s src tgt w) h1⟩
  rw [hz] at h1
  exact absurd h1 (by decide)

theorem pwrAllowed_false {src tgt : Nat} (h : ¬ (src = 0 ∧ tgt = 1)) (hs : src ≠ 1) : pwrAllowed src tgt = false := by
  simp only [pwrAllowed, Bool.or_eq_false_iff, Bool.and_eq_false_iff, beq_eq_false_iff_ne]
  omega

/-! ### The return to RUN (R415, R442) -/

theorem takeBackCommit_keepsBut (l : List Nat) (n : Nat) (s : State) : KeepsBut l s (takeBackCommit n s) := by
  unfold takeBackCommit State.when
  simp only
  split
  · exact List.foldlRecOn _ _
      (List.foldlRecOn _ _ ((KeepsBut.refl l s).of_eq rfl rfl) fun t ht _ _ => ht.of_eq rfl rfl) fun t ht _ _ => ht.of_eq rfl rfl
  · exact KeepsBut.refl l s

/-- Between the two states only events were raised. -/
def OnlyRaises (s t : State) : Prop := ∃ f n, t = { s with flt := f, freeSeq := n }

section OnlyRaises
variable {s t : State} (h : OnlyRaises s t) (i d : Nat)
include h

theorem OnlyRaises.raise : OnlyRaises s (t.raise i d) := by obtain ⟨f, n, rfl⟩ := h; exact ⟨_, _, rfl⟩
theorem OnlyRaises.raiseU : OnlyRaises s (t.raiseU i) := by obtain ⟨f, n, rfl⟩ := h; exact ⟨_, _, rfl⟩

theorem OnlyRaises.raise_if (c : Prop) [Decidable c] : OnlyRaises s (if c then t.raise i d else t) := by
  split
  · exact h.raise i d
  · exact h

theorem OnlyRaises.raiseU_if (c : Prop) [Decidable c] : OnlyRaises s (if c then t.raiseU i else t) := by
  split
  · exact h.raiseU i
  · exact h

end OnlyRaises

theorem OnlyRaises.keepsBut {s t : State} (h : OnlyRaises s t) (l : List Nat) : KeepsBut l s t := by
  obtain ⟨f, n, rfl⟩ := h
  exact (KeepsBut.refl l s).of_eq rfl rfl

theorem dropGate_onlyRaises (s : State) : OnlyRaises s (dropGate s) := ⟨_, _, rfl⟩

theorem reRaise_onlyRaises {s t : State} (h : OnlyRaises s t) : OnlyRaises s (reRaise t) := by
  unfold reRaise
  refine State.each_ind _ _ (fun j _ u hu => (hu.raiseU_if _ _).raise_if _ _ _) ?_
  refine State.each_ind _ _ (fun k _ u hu => hu.raiseU_if _ _) ?_
  refine State.each_ind _ _ (fun g _ u hu => ?_) ?_
  · split
    · refine List.foldlRecOn _ _ hu fun v hv x _ => ?_
      split
      · exact hv.raise _ _
      · exact hv.raiseU _
    · exact hu
  refine State.each_ind _ _ (fun g _ u hu => hu.raiseU_if _ _) ?_
  exact State.each_ind _ _ (fun k _ u hu => (((hu.raiseU_if _ _).raiseU_if _ _).raise_if _ _ _).raise_if _ _ _) h

/-- The registers in which a restart of one side of a crossing shows. -/
def peerRegs (i : Nat) : List Nat := [CDC_PEER_A, (CDC_XST_RESETS i).addr]

theorem peerReset_keepsBut (i : Nat) (s : State) : KeepsBut (peerRegs i) s (peerReset i s) := by
  have hset : KeepsBut (peerRegs i) s (s.hwSet CDC_PEER_A (BitVec.ofNat 32 (2 ^ i))) :=
    KeepsBut.mono (l := [CDC_PEER_A]) ⟨SameRegsBut.setWord CDC_PEER_A _ s, rfl⟩ (by simp [peerRegs])
  have hflush : KeepsBut (peerRegs i) s (flushX i (s.hwSet CDC_PEER_A (BitVec.ofNat 32 (2 ^ i)))) := hset.of_eq rfl rfl
  exact (hflush.set (CDC_XST_RESETS i) _ (by simp [peerRegs])).of_eq rfl rfl

/-- A flush towards the gate array takes commits back, which no register shows (R442). -/
theorem peerFlush_one_keepsBut (s : State) : KeepsBut (peerRegs 1) s (peerFlush 1 s) := by
  refine (peerReset_keepsBut 1 s).trans ?_
  unfold peerFlush
  simp only
  split
  · exact State.each_ind _ _ (fun n _ t ht => ht.trans (takeBackCommit_keepsBut _ n t)) (KeepsBut.refl _ _)
  · exact KeepsBut.refl _ _

/-- A flush from the gate array loses and raises events, which no register shows yet (R443). -/
theorem peerFlush_twelve_keepsBut (s : State) : KeepsBut (peerRegs 12) s (peerFlush 12 s) := by
  refine (peerReset_keepsBut 12 s).trans ?_
  unfold peerFlush
  simp only
  split
  · exact (reRaise_onlyRaises (dropGate_onlyRaises _)).keepsBut _
  · exact (reRaise_onlyRaises ⟨_, _, rfl⟩).keepsBut _

theorem startDvfs_keepsBut (p : Nat) (s : State) : KeepsBut [PWR_DVFS_A] s (startDvfs p s) := by
  have hin : PWR_DVFS_A ∈ [PWR_DVFS_A] := List.mem_singleton_self _
  unfold startDvfs
  simp only
  split
  · exact ((KeepsBut.refl _ s).set PWR_DVFS_BUSY _ hin).of_eq rfl rfl
  · exact ((KeepsBut.refl _ s).set PWR_DVFS_BUSY _ hin).of_eq rfl rfl

/-- PWR_STAT as the lane shows it in RUN again. -/
def State.showRun (s : State) : State := ((s.set PWR_STAT_STATE 0).setBit PWR_STAT_DOM_ON 6 true).setB PWR_STAT_D5_PART false

/-- The registers that a return to RUN may move, beside PWR_STAT. -/
def toRunRegs : List Nat :=
  PWR_PADCHK_A :: SU_STAT_A :: JAN_STAT_A :: BIST_STAT_A :: PWR_DVFS_A :: (peerRegs 0 ++ peerRegs 1 ++ peerRegs 12)

/-- D6 restarts: its pad groups are to be checked again, and the crossings into it are flushed. -/
def State.restartD6 (s : State) : State :=
  peerFlush 12 (peerFlush 1 (peerReset 0 ((s.set PWR_PADCHK_PASS 0).set PWR_PADCHK_FAIL 0)))

/-- Start-up that had stopped resumes (R480). -/
def State.resumeStartup (s : State) : State :=
  { ((s.set SU_STAT_STEP (min 3 (s.f SU_STAT_STEP))).setB JAN_STAT_START_OK false).setB BIST_STAT_FAST_OK false with
    su := { s.su with stopped := false, diag := false } }

theorem toRun_eq (s : State) : toRun s =
    let t := s.showRun.restartD6
    if t.su.stopped && !t.on FLT_TERM_TERM then startDvfs 3 t.resumeStartup else startDvfs (t.f PWR_DVFS_POINT) t := rfl

theorem State.restartD6_keepsBut (s : State) : KeepsBut toRunRegs s s.restartD6 := by
  have hpads : KeepsBut toRunRegs s ((s.set PWR_PADCHK_PASS 0).set PWR_PADCHK_FAIL 0) :=
    ((KeepsBut.refl _ s).set PWR_PADCHK_PASS 0 (by decide)).set PWR_PADCHK_FAIL 0 (by decide)
  have hpeer := hpads.trans ((peerReset_keepsBut 0 _).mono (by decide))
  have hgate := hpeer.trans ((peerFlush_one_keepsBut _).mono (by decide))
  exact hgate.trans ((peerFlush_twelve_keepsBut _).mono (by decide))

theorem State.resumeStartup_keepsBut (s : State) : KeepsBut toRunRegs s s.resumeStartup := by
  have hstep := (KeepsBut.refl toRunRegs s).set SU_STAT_STEP (min 3 (s.f SU_STAT_STEP)) (by decide)
  have hok := (hstep.set JAN_STAT_START_OK (b2n false) (by decide)).set BIST_STAT_FAST_OK (b2n false) (by decide)
  exact ⟨hok.regs.of_regs rfl, rfl⟩

/-- A return to RUN shows in PWR_STAT what RUN is, and moves the registers of D6, start-up and the engine's point. -/
theorem toRun_keepsBut (s : State) : KeepsBut toRunRegs s.showRun (toRun s) := by
  have hd6 := s.showRun.restartD6_keepsBut
  have hdvfs : ∀ (p : Nat) (t : State), KeepsBut toRunRegs t (startDvfs p t) := fun p t => (startDvfs_keepsBut p t).mono (by decide)
  rw [toRun_eq]
  simp only
  split
  · exact (hd6.trans (State.resumeStartup_keepsBut _)).trans (hdvfs 3 _)
  · exact hd6.trans (hdvfs _ _)

theorem toRun_f_stat (s : State) (x : Fld) (hx : x.addr = PWR_STAT_A) : (toRun s).f x = s.showRun.f x :=
  (toRun_keepsBut s).f x (by rw [hx]; decide)

theorem State.showRun_state (s : State) : s.showRun.f PWR_STAT_STATE = 0 := by
  unfold State.showRun
  rw [State.setB_eq, State.setBit_eq, State.f_set_beside _ PWR_STAT_D5_PART PWR_STAT_STATE _ rfl (by decide),
    State.f_set_beside _ PWR_STAT_DOM_ON PWR_STAT_STATE _ rfl (by decide)]
  exact State.f_set_fits _ _ _ (by decide) (by decide)

theorem State.showRun_dom_on (s : State) : s.showRun.fbit PWR_STAT_DOM_ON 6 = true := by
  have hf : s.showRun.f PWR_STAT_DOM_ON = ((s.set PWR_STAT_STATE 0).setBit PWR_STAT_DOM_ON 6 true).f PWR_STAT_DOM_ON :=
    State.f_set_beside _ PWR_STAT_D5_PART PWR_STAT_DOM_ON _ rfl (by decide)
  unfold State.fbit
  rw [hf]
  exact State.fbit_setBit _ PWR_STAT_DOM_ON 6 6 true (by decide) (by decide)

theorem State.showRun_d5_part (s : State) : s.showRun.on PWR_STAT_D5_PART = false :=
  State.on_setB_same _ PWR_STAT_D5_PART false (by decide) rfl

/-! ### The judgement (R412, R414) -/

/-- The power manager has taken its request. -/
def State.reqTaken (s : State) : State := { s with pw := { s.pw with req := none } }

theorem KeepsBut.of_reqTaken {l : List Nat} {s t : State} (h : KeepsBut l s.reqTaken t) : KeepsBut l s t := ⟨h.regs, h.queue⟩

/-- The entry of a request begins. -/
def State.enter (s : State) (r : PReq) : State :=
  { (s.setB PWR_STAT_ENTRY true).set PWR_STAT_AP 0 with pw := { s.pw with
    entry := some { tgt := r.tgt, src := s.f PWR_STAT_STATE, who := r.who }, fired := [], first := none, cdc := false } }

theorem State.enter_keepsBut (s : State) (r : PReq) : KeepsBut [PWR_STAT_A] s (s.enter r) := by
  have hin : PWR_STAT_A ∈ [PWR_STAT_A] := List.mem_singleton_self _
  exact (((KeepsBut.refl _ s).set PWR_STAT_ENTRY _ hin).set PWR_STAT_AP _ hin).of_eq rfl rfl

theorem State.enter_on_entry (s : State) (r : PReq) : (s.enter r).on PWR_STAT_ENTRY = true := by
  have hf : (s.enter r).f PWR_STAT_ENTRY = (s.setB PWR_STAT_ENTRY true).f PWR_STAT_ENTRY :=
    State.f_set_beside _ PWR_STAT_AP PWR_STAT_ENTRY _ rfl (by decide)
  unfold State.on
  rw [hf]
  exact s.on_setB_same PWR_STAT_ENTRY true (by decide) rfl

theorem State.enter_ap (s : State) (r : PReq) : (s.enter r).f PWR_STAT_AP = 0 :=
  State.f_set_fits _ PWR_STAT_AP 0 (by decide) (by decide)

theorem pwrEvaluate_idle {s : State} (h : ∀ r, s.pw.req = some r → r.ready = false) : pwrEvaluate s = s := by
  unfold pwrEvaluate
  split
  · rfl
  · next r hr => simp [h r hr]

/-- What a request that is due comes to: DONE, REFUSED, the return to RUN, or an entry. -/
theorem pwrEvaluate_due {r : PReq} {s : State} (hreq : s.pw.req = some r) (hready : r.ready = true) : pwrEvaluate s =
    if r.tgt = s.f PWR_STAT_STATE then closeReq r.who 1 r.tgt 0 [] s.reqTaken
    else if s.refusers (s.f PWR_STAT_STATE) r.tgt r.who ≠ 0 then
      closeReq r.who 2 r.tgt 0 (codesOf (s.refusers (s.f PWR_STAT_STATE) r.tgt r.who) 12) s.reqTaken
    else if r.tgt = 0 then closeReq r.who 1 0 0 [] (toRun s.reqTaken)
    else s.reqTaken.enter r := by
  unfold pwrEvaluate
  rw [hreq]
  simp only [hready, Bool.not_true, Bool.false_eq_true, if_false]
  rfl

/-- A command that leaves no host command waiting runs none. -/
theorem drained_of_queue_nil {s : State} (h : s.hp.queue = []) : drained s = s := by
  unfold drained
  rw [h]
  rfl

theorem exec_powerRequestEvaluate {s t : State} (hd : s.dom 0 = true) (ht : pwrEvaluate s = t) (hq : t.hp.queue = []) :
    exec .powerRequestEvaluate s = .next (framed s t) := by
  have hrun : exec .powerRequestEvaluate s = s.runIn 0 (fun s => drained (pwrEvaluate s)) := rfl
  rw [hrun, s.runIn_on 0 _ hd, ht, drained_of_queue_nil hq]

section Clauses
variable {r : PReq} {s : State} (hd : s.dom 0 = true) (hq : s.hp.queue = [])
include hd hq

theorem exec_powerRequestEvaluate_idle (h : ∀ r, s.pw.req = some r → r.ready = false) :
    exec .powerRequestEvaluate s = .next s :=
  (exec_powerRequestEvaluate hd (pwrEvaluate_idle h) hq).trans (congrArg _ (framed_self s s rfl rfl rfl))

variable (hreq : s.pw.req = some r) (hready : r.ready = true)
include hreq hready

/-- A request for the state in force is DONE, and no counter moves (R412). -/
theorem exec_powerRequestEvaluate_done (htgt : r.tgt < 4) (h : r.tgt = s.f PWR_STAT_STATE) :
    ∃ t, exec .powerRequestEvaluate s = .next t ∧ t.f PWR_LAST_OUTCOME = 1 ∧ t.f PWR_LAST_TGT = r.tgt ∧
      t.f PWR_STAT_STATE = s.f PWR_STAT_STATE ∧ t.pw.req = s.pw.pend ∧ t.pw.entry = s.pw.entry ∧
      SameRegsBut [PWR_LAST_A, PWR_STAT_A, HP_STAT_A] s t := by
  have he : pwrEvaluate s = closeReq r.who 1 r.tgt 0 [] s.reqTaken := by rw [pwrEvaluate_due hreq hready, if_pos h]
  have hk := (closeReq_keepsBut r.who 1 r.tgt 0 [] s.reqTaken).of_reqTaken
  refine ⟨_, exec_powerRequestEvaluate hd he (hk.queue.trans hq), ?_, ?_, ?_, ?_, ?_, ?_⟩
  · exact closeReq_outcome r.who 1 r.tgt 0 [] _ (by decide)
  · exact closeReq_tgt r.who 1 r.tgt 0 [] _ htgt
  · exact closeReq_state r.who 1 r.tgt 0 [] s.reqTaken
  · exact closeReq_req r.who 1 r.tgt 0 [] s.reqTaken
  · exact closeReq_entry r.who 1 r.tgt 0 [] s.reqTaken
  · exact hk.regs

/-- A refuser ends the request as REFUSED with the lowest code, and the lane stays in its state (R414, R420). -/
theorem exec_powerRequestEvaluate_refused (htgt : r.tgt < 4) (h : r.tgt ≠ s.f PWR_STAT_STATE)
    (hm : s.refusers (s.f PWR_STAT_STATE) r.tgt r.who ≠ 0) :
    ∃ t, exec .powerRequestEvaluate s = .next t ∧ t.f PWR_LAST_OUTCOME = 2 ∧ t.f PWR_LAST_TGT = r.tgt ∧
      t.f PWR_LAST_REFUSER = (codesOf (s.refusers (s.f PWR_STAT_STATE) r.tgt r.who) 12).headD 0 ∧ t.pw.entry = s.pw.entry ∧
      t.pw.req = s.pw.pend ∧ t.f PWR_STAT_STATE = s.f PWR_STAT_STATE ∧
      SameRegsBut (PWR_LAST_A :: PWR_STAT_A :: HP_STAT_A :: (List.range 8).map PWR_REF_A) s t := by
  generalize hmask : s.refusers (s.f PWR_STAT_STATE) r.tgt r.who = m at hm ⊢
  have he : pwrEvaluate s = closeReq r.who 2 r.tgt 0 (codesOf m 12) s.reqTaken := by
    rw [pwrEvaluate_due hreq hready, if_neg h, hmask, if_pos hm]
  have hk := (closeReq_keepsBut r.who 2 r.tgt 0 (codesOf m 12) s.reqTaken).of_reqTaken
  refine ⟨_, exec_powerRequestEvaluate hd he (hk.queue.trans hq), ?_, ?_, ?_, ?_, ?_, ?_, ?_⟩
  · exact closeReq_outcome r.who 2 r.tgt 0 _ _ (by decide)
  · exact closeReq_tgt r.who 2 r.tgt 0 _ _ htgt
  · exact closeReq_refuser r.who 2 r.tgt 0 _ _ (codesOf_headD_lt m)
  · exact closeReq_entry r.who 2 r.tgt 0 _ s.reqTaken
  · exact closeReq_req r.who 2 r.tgt 0 _ s.reqTaken
  · exact closeReq_state r.who 2 r.tgt 0 _ s.reqTaken
  · have hsub := refRegs_subset m
    exact (hk.mono (List.cons_subset_cons _ (List.cons_subset_cons _ (List.cons_subset_cons _ hsub)))).regs

/-- Where nothing refuses, the entry into the other state begins (R414). -/
theorem exec_powerRequestEvaluate_enters (h : r.tgt ≠ s.f PWR_STAT_STATE)
    (hm : s.refusers (s.f PWR_STAT_STATE) r.tgt r.who = 0) (h0 : r.tgt ≠ 0) :
    ∃ t, exec .powerRequestEvaluate s = .next t ∧
      t.pw.entry = some { tgt := r.tgt, src := s.f PWR_STAT_STATE, who := r.who } ∧
      t.pw.req = none ∧ t.on PWR_STAT_ENTRY = true ∧ t.f PWR_STAT_AP = 0 ∧ SameRegsBut [PWR_STAT_A] s t := by
  have he : pwrEvaluate s = s.reqTaken.enter r := by
    rw [pwrEvaluate_due hreq hready, if_neg h, if_neg (not_not_intro hm), if_neg h0]
  refine ⟨_, exec_powerRequestEvaluate hd he hq, rfl, rfl, ?_, ?_, ?_⟩
  · exact s.reqTaken.enter_on_entry r
  · exact s.reqTaken.enter_ap r
  · exact (s.reqTaken.enter_keepsBut r).of_reqTaken.regs

/-- Where nothing refuses a request for RUN, the lane is in RUN at once, with D6 and all of D5 on (R415). -/
theorem exec_powerRequestEvaluate_runs (h : s.f PWR_STAT_STATE ≠ 0)
    (hm : s.refusers (s.f PWR_STAT_STATE) r.tgt r.who = 0) (h0 : r.tgt = 0) :
    ∃ t, exec .powerRequestEvaluate s = .next t ∧ t.f PWR_STAT_STATE = 0 ∧ t.fbit PWR_STAT_DOM_ON 6 = true ∧
      t.on PWR_STAT_D5_PART = false ∧ t.f PWR_LAST_OUTCOME = 1 := by
  have hne : r.tgt ≠ s.f PWR_STAT_STATE := fun e => h (e.symm.trans h0)
  have he : pwrEvaluate s = closeReq r.who 1 0 0 [] (toRun s.reqTaken) := by
    rw [pwrEvaluate_due hreq hready, if_neg hne, if_neg (not_not_intro hm), if_pos h0]
  have hqt : (closeReq r.who 1 0 0 [] (toRun s.reqTaken)).hp.queue = [] :=
    (closeReq_keepsBut r.who 1 0 0 [] _).queue.trans ((toRun_keepsBut s.reqTaken).queue.trans hq)
  have hstat : ∀ x : Fld, x.addr = PWR_STAT_A → x.lo + x.width ≤ 23 ∨ 26 ≤ x.lo →
      (closeReq r.who 1 0 0 [] (toRun s.reqTaken)).f x = s.reqTaken.showRun.f x := fun x hx hlo =>
    (closeReq_f_stat r.who 1 0 0 [] _ x hx hlo).trans (toRun_f_stat _ x hx)
  refine ⟨_, exec_powerRequestEvaluate hd he hqt, ?_, ?_, ?_, ?_⟩
  · exact (hstat PWR_STAT_STATE rfl (by decide)).trans (State.showRun_state _)
  · rw [framed_fbit, State.fbit, hstat PWR_STAT_DOM_ON rfl (by decide)]
    exact State.showRun_dom_on _
  · rw [framed_on, State.on, hstat PWR_STAT_D5_PART rfl (by decide)]
    exact State.showRun_d5_part _
  · exact closeReq_outcome r.who 1 0 0 [] _ (by decide)

end Clauses

/-- Settles O53: what the request comes to is the law of its case above; a transition that there is not has refuser 1. -/
theorem powerRequestsAreJudged : Obligations.PowerRequestsAreJudged := by
  refine ⟨fun s hd hq h => exec_powerRequestEvaluate_idle hd hq h, fun r s hd hq hreq hready htgt => ⟨?_, ?_, ?_, ?_, ?_⟩⟩
  · exact exec_powerRequestEvaluate_done hd hq hreq hready htgt
  · exact fun _ hrun hquiet => refusers_of_not_allowed s r.who (pwrAllowed_false hrun hquiet)
  · exact exec_powerRequestEvaluate_refused hd hq hreq hready htgt
  · exact exec_powerRequestEvaluate_enters hd hq hreq hready
  · exact exec_powerRequestEvaluate_runs hd hq hreq hready

end Sys2Proof.Machine
end

section
/-!
PROOFS. The end of start-up, its watch and the life counters (R477, R478, R481, R499): what a saturating and a signed field read after
their own write, when step 6 begins, which group tries its run again, and what the life counters hold once they are stored.
-/
namespace Sys2Proof.Machine

/-! ### Saturating and signed fields -/

theorem satU_lt (wd n : Nat) : satU wd n < 2 ^ wd := by
  have := Nat.two_pow_pos wd
  unfold satU
  split <;> omega

theorem satU_of_lt {wd n : Nat} (h : n < 2 ^ wd) : satU wd n = n := if_pos h

theorem State.f_addSat_same (s : State) (x : Fld) (n : Nat) (h : x.lo + x.width ≤ 32) :
    (s.addSat x n).f x = satU x.width (s.f x + n) := s.f_set_fits x _ h (satU_lt _ _)

/-- A number within the range of a two's complement field is read back from its bits. -/
theorem toSigned_ofSigned (wd : Nat) (x : Int) (hw : 1 ≤ wd) (hlo : -2 ^ (wd - 1) ≤ x) (hhi : x < 2 ^ (wd - 1)) :
    toSigned wd (ofSigned wd x % 2 ^ wd) = x := by
  obtain ⟨k, rfl⟩ : ∃ k, wd = k + 1 := ⟨wd - 1, by omega⟩
  have hpow : (2 : Int) ^ (k + 1) = 2 * 2 ^ k := by rw [pow_succ, mul_comm]
  have hcast : ((2 ^ k : Nat) : Int) = 2 ^ k := Nat.cast_pow 2 k
  simp only [Nat.add_sub_cancel] at hlo hhi
  have hbits : ((ofSigned (k + 1) x : Nat) : Int) = if 0 ≤ x then x else x + 2 * 2 ^ k := by
    have hmod : x % 2 ^ (k + 1) = if 0 ≤ x then x else x + 2 * 2 ^ k := by
      rw [hpow]
      split
      · exact Int.emod_eq_of_lt ‹_› (by omega)
      · rw [← Int.add_emod_right]
        exact Int.emod_eq_of_lt (by omega) (by omega)
    rw [ofSigned, hmod]
    exact Int.toNat_of_nonneg (by split <;> omega)
  have hfits : ofSigned (k + 1) x < 2 ^ (k + 1) := by
    split at hbits <;> omega
  simp only [toSigned, Nat.mod_eq_of_lt hfits, Nat.add_sub_cancel, hpow]
  split at hbits <;> split <;> omega

theorem State.fI_setI_same (s : State) (x : Fld) (v : Int) (h : x.lo + x.width ≤ 32) (hw : 1 ≤ x.width)
    (hlo : -2 ^ (x.width - 1) ≤ v) (hhi : v < 2 ^ (x.width - 1)) : (s.setI x v).fI x = v := by
  unfold State.fI State.setI
  rw [s.f_set_same x _ h]
  exact toSigned_ofSigned _ v hw hlo hhi

@[simp] theorem framed_fI (s t : State) (x : Fld) : (framed s t).fI x = t.fI x := rfl

/-- A run in a domain that is on answers what it computes, where that has the queue, the part and the supply of before. -/
theorem State.runIn_to {s t : State} {d : Nat} {f : State → State} (hd : s.dom d = true) (hf : f s = t)
    (hp : t.pending = s.pending) (hq : t.part = s.part) (hw : t.powered = s.powered) : s.runIn d f = .next t := by
  rw [s.runIn_on d f hd, hf, framed_self s t hp hq hw]

/-! ### Step 6 (R477) -/

/-- The networks begin: step 6, with its time mark. -/
def State.netsBegun (s : State) : State :=
  { (s.set SU_MARK_NET_MS (satU 16 s.suMs)).set SU_STAT_STEP 6 with su := { s.su with nets := true } }

theorem startNets_begins {s : State} (hrun : s.suRuns 5 = true) (hbist : s.on BIST_STAT_FAST_OK = true)
    (hopen : s.on FEAT_STAT_OPEN = false) (hnets : s.su.nets = false) : startNets s = s.netsBegun := by
  simp [startNets, hrun, hbist, hopen, hnets, State.netsBegun]

theorem startNets_waits {s : State} (h : s.on FEAT_STAT_OPEN = true ∨ s.on BIST_STAT_FAST_OK = false) : startNets s = s := by
  rcases h with h | h <;> simp [startNets, h]

theorem State.netsBegun_step (s : State) : s.netsBegun.f SU_STAT_STEP = 6 :=
  State.f_set_fits _ SU_STAT_STEP 6 (by decide) (by decide)

theorem State.netsBegun_mark (s : State) : s.netsBegun.f SU_MARK_NET_MS = satU 16 s.suMs := by
  have hstep : s.netsBegun.f SU_MARK_NET_MS = (s.set SU_MARK_NET_MS (satU 16 s.suMs)).f SU_MARK_NET_MS :=
    State.f_set_ne _ SU_STAT_STEP SU_MARK_NET_MS 6 (by decide)
  rw [hstep]
  exact s.f_set_fits SU_MARK_NET_MS _ (by decide) (satU_lt 16 _)

theorem exec_startupNetworks_begins {s : State} (hd : s.dom 2 = true) (hrun : s.suRuns 5 = true)
    (hbist : s.on BIST_STAT_FAST_OK = true) (hopen : s.on FEAT_STAT_OPEN = false) (hnets : s.su.nets = false) :
    ∃ t, exec .startupNetworks s = .next t ∧ t.su.nets = true ∧ t.f SU_STAT_STEP = 6 ∧
      t.f SU_MARK_NET_MS = satU 16 ((s.tb - s.su.startTb) / 200000) :=
  ⟨s.netsBegun, State.runIn_to hd (startNets_begins hrun hbist hopen hnets) rfl rfl rfl, rfl, s.netsBegun_step, s.netsBegun_mark⟩

theorem exec_startupNetworks_waits {s : State} (hd : s.dom 2 = true)
    (h : s.on FEAT_STAT_OPEN = true ∨ s.on BIST_STAT_FAST_OK = false) : exec .startupNetworks s = .next s :=
  State.runIn_to hd (startNets_waits h) rfl rfl rfl

/-! ### Step 7 and its watch (R478, R481) -/

theorem exec_startupDiagnostics (s : State) (hd : s.dom 2 = true) :
    exec .startupDiagnostics s = .next { s with su := { s.su with diag := s.su.diag || s.on BIST_STAT_FAST_OK } } :=
  State.runIn_to hd rfl rfl rfl rfl

theorem exec_startupOverdue (s : State) (hd : s.dom 2 = true) :
    exec .startupOverdue s = .next (if s.on SU_STAT_ADMITTED then s else s.setB SU_STAT_OVERDUE true) := by
  refine State.runIn_to hd rfl ?_ ?_ ?_ <;> split <;> rfl

section DiagRetry
variable {g : Fin 8} {s : State} (hd : s.dom 2 = true)
include hd

/-- A required group whose run ended in NOT_READY asks for another while the lane is not admitted. -/
theorem exec_diagRetry_enables (hadm : s.on SU_STAT_ADMITTED = false) (hreq : s.fbit SU_GROUPS_REQ g = true)
    (hretry : (s.grp g).retry = true) (hstop : s.su.stopped = false) :
    ∃ t, exec (.diagRetry g) s = .next t ∧ t.on (PG_CTL_EN (0x020 + g)) = true ∧ (t.grp g).retry = false ∧
      SameRegsBut [PG_CTL_A (0x020 + g)] s t := by
  have hrun : diagRetry g s = (s.setB (PG_CTL_EN (0x020 + g)) true).setGrp g { s.grp g with retry := false } := by
    simp [diagRetry, hadm, hreq, hretry, hstop]
  refine ⟨_, State.runIn_to hd hrun rfl rfl rfl, ?_, ?_, ?_⟩
  · rw [State.setGrp_on]
    exact s.on_setB_same (PG_CTL_EN _) true (show 0 + 1 ≤ 32 by decide) rfl
  · rw [State.setGrp_grp_same]
  · exact ((SameRegsBut.refl _ s).set (PG_CTL_EN _) _ (List.mem_singleton_self _)).of_regs rfl

theorem exec_diagRetry_idle (hretry : (s.grp g).retry = false) : exec (.diagRetry g) s = .next s := by
  have hrun : diagRetry g s = s := by simp [diagRetry, hretry]
  exact State.runIn_to hd hrun rfl rfl rfl

end DiagRetry

/-! ### Life counters (R485, R499) -/

/-- The end of life shows once a counter has passed its limit. -/
def State.markLifeEnd (s : State) : State :=
  if 1000000 < s.f HPL_HOURS_HOURS ∨ 10000000 < s.f HPL_KM_KM then s.setB HPL_LIFE_END true else s

theorem hoursStore_eq (hours : Nat) (temp : Int) (s : State) :
    hoursStore hours temp s = storeLife (noteTemp temp (countHours hours s)).markLifeEnd := rfl

theorem State.markLifeEnd_keepsBut (s : State) : KeepsBut [HPL_LIFE_A] s s.markLifeEnd := by
  unfold State.markLifeEnd
  split
  · exact (KeepsBut.refl _ s).set HPL_LIFE_END _ (List.mem_singleton_self _)
  · exact KeepsBut.refl _ s

theorem State.markLifeEnd_on {s : State} (h : 1000000 < s.f HPL_HOURS_HOURS) : s.markLifeEnd.on HPL_LIFE_END = true := by
  rw [State.markLifeEnd, if_pos (Or.inl h)]
  exact s.on_setB_same HPL_LIFE_END true (by decide) rfl

/-- The highest temperature stands beside the one last measured. -/
theorem State.fI_setI_base (s : State) (temp : Int) : (s.setI HPL_TEMP_T_BASE temp).fI HPL_TEMP_T_MAX = s.fI HPL_TEMP_T_MAX :=
  congrArg (toSigned _) (s.f_set_beside HPL_TEMP_T_BASE HPL_TEMP_T_MAX _ rfl (by decide))

theorem noteTemp_eq (temp : Int) (s : State) : noteTemp temp s =
    if s.fI HPL_TEMP_T_MAX < temp then (s.setI HPL_TEMP_T_BASE temp).setI HPL_TEMP_T_MAX temp else s.setI HPL_TEMP_T_BASE temp := by
  simp only [noteTemp, State.when, decide_eq_true_eq, s.fI_setI_base temp]

theorem noteTemp_keepsBut (temp : Int) (s : State) : KeepsBut [HPL_TEMP_A] s (noteTemp temp s) := by
  have hbase : KeepsBut [HPL_TEMP_A] s (s.setI HPL_TEMP_T_BASE temp) :=
    (KeepsBut.refl _ s).set HPL_TEMP_T_BASE _ (List.mem_singleton_self _)
  rw [noteTemp_eq]
  split
  · exact hbase.set HPL_TEMP_T_MAX _ (List.mem_singleton_self _)
  · exact hbase

/-- Operating time is taken up to now; what is left of 0.1 h shows in no register. -/
def State.hoursTaken (s : State) : State :=
  { s with nv := { s.nv with opRest := (s.nv.opRest + (s.tb - s.nv.opTb)) % (72 * 10 ^ 9), opTb := s.tb } }

theorem countHours_eq (more : Nat) (s : State) : countHours more s =
    if s.hoursRun + more = 0 then s.hoursTaken
    else if 1000000 < (s.hoursTaken.addSat HPL_HOURS_HOURS (s.hoursRun + more)).f HPL_HOURS_HOURS then
      (s.hoursTaken.addSat HPL_HOURS_HOURS (s.hoursRun + more)).setB HPL_LIFE_END true
    else s.hoursTaken.addSat HPL_HOURS_HOURS (s.hoursRun + more) := by
  simp only [countHours, State.when, decide_eq_true_eq]
  rfl

theorem countHours_keepsBut (more : Nat) (s : State) : KeepsBut [HPL_HOURS_A, HPL_LIFE_A] s (countHours more s) := by
  have htaken : KeepsBut [HPL_HOURS_A, HPL_LIFE_A] s s.hoursTaken := (KeepsBut.refl _ s).of_eq rfl rfl
  have hcount : KeepsBut [HPL_HOURS_A, HPL_LIFE_A] s (s.hoursTaken.addSat HPL_HOURS_HOURS (s.hoursRun + more)) :=
    htaken.set HPL_HOURS_HOURS _ (by decide)
  rw [countHours_eq]
  split
  · exact htaken
  · split
    · exact hcount.set HPL_LIFE_END _ (by decide)
    · exact hcount

theorem countHours_hours (more : Nat) (s : State) :
    (countHours more s).f HPL_HOURS_HOURS = satU HPL_HOURS_HOURS.width (s.f HPL_HOURS_HOURS + (s.hoursRun + more)) := by
  have hcount := s.hoursTaken.f_addSat_same HPL_HOURS_HOURS (s.hoursRun + more) (by decide)
  rw [countHours_eq]
  split
  · next h =>
    rw [h, Nat.add_zero, satU_of_lt (s.f_lt HPL_HOURS_HOURS)]
    rfl
  · split
    · exact (State.f_set_ne _ HPL_LIFE_END HPL_HOURS_HOURS _ (by decide)).trans hcount
    · exact hcount

section NoteTemp
variable {temp : Int} (s : State) (hlo : -2 ^ 15 ≤ temp) (hhi : temp < 2 ^ 15)
include hlo hhi

theorem noteTemp_base : (noteTemp temp s).fI HPL_TEMP_T_BASE = temp := by
  have hbase : (s.setI HPL_TEMP_T_BASE temp).fI HPL_TEMP_T_BASE = temp :=
    s.fI_setI_same HPL_TEMP_T_BASE temp (by decide) (by decide) hlo hhi
  rw [noteTemp_eq]
  split
  · exact (congrArg (toSigned _) (State.f_set_beside _ HPL_TEMP_T_MAX HPL_TEMP_T_BASE _ rfl (by decide))).trans hbase
  · exact hbase

theorem noteTemp_max : (noteTemp temp s).fI HPL_TEMP_T_MAX = max (s.fI HPL_TEMP_T_MAX) temp := by
  rw [noteTemp_eq]
  split
  · next h =>
    rw [max_eq_right h.le]
    exact State.fI_setI_same _ HPL_TEMP_T_MAX temp (by decide) (by decide) hlo hhi
  · next h => rw [s.fI_setI_base temp, max_eq_left (not_lt.mp h)]

end NoteTemp

theorem exec_hoursStore (hours : Nat) (temp : Int) (s : State) (hd : s.dom 7 = true) (hlo : -2 ^ 15 ≤ temp) (hhi : temp < 2 ^ 15) :
    ∃ t, exec (.hoursStore hours temp) s = .next t ∧
      t.f HPL_HOURS_HOURS = satU HPL_HOURS_HOURS.width (s.f HPL_HOURS_HOURS + (s.hoursRun + hours)) ∧ t.fI HPL_TEMP_T_BASE = temp ∧
      t.fI HPL_TEMP_T_MAX = max (s.fI HPL_TEMP_T_MAX) temp ∧ t.nv.hours = t.f HPL_HOURS_HOURS ∧
      (1000000 < t.f HPL_HOURS_HOURS → t.on HPL_LIFE_END = true) := by
  have hcount := countHours_keepsBut hours s
  have htemp := noteTemp_keepsBut temp (countHours hours s)
  have hlife := (noteTemp temp (countHours hours s)).markLifeEnd_keepsBut
  have hhours := hlife.f HPL_HOURS_HOURS (by decide)
  have hmaxOld : (countHours hours s).fI HPL_TEMP_T_MAX = s.fI HPL_TEMP_T_MAX :=
    congrArg (toSigned _) (hcount.f HPL_TEMP_T_MAX (by decide))
  refine ⟨_, s.runIn_on 7 (hoursStore hours temp) hd, ?_, ?_, ?_, rfl, ?_⟩
  · exact (hhours.trans (htemp.f HPL_HOURS_HOURS (by decide))).trans (countHours_hours hours s)
  · exact (congrArg (toSigned _) (hlife.f HPL_TEMP_T_BASE (by decide))).trans (noteTemp_base _ hlo hhi)
  · rw [← hmaxOld]
    exact (congrArg (toSigned _) (hlife.f HPL_TEMP_T_MAX (by decide))).trans (noteTemp_max _ hlo hhi)
  · exact fun h => State.markLifeEnd_on (hhours ▸ h)

/-- Settles O59: the networks begin or wait, the diagnostics, the retry and the watch do what their rule says, and the life counters
are stored with what has passed. -/
theorem startupEndsOrIsOverdue : Obligations.StartupEndsOrIsOverdue := by
  refine ⟨fun s hd => ⟨?_, ?_⟩, exec_startupDiagnostics, fun g s hd => ⟨?_, ?_⟩, exec_startupOverdue, exec_hoursStore⟩
  · exact exec_startupNetworks_begins hd
  · exact exec_startupNetworks_waits hd
  · exact exec_diagRetry_enables hd
  · exact exec_diagRetry_idle hd

end Sys2Proof.Machine
end

section
/-!
PROOFS. The queue and the supply (R4, R488): what a vector decision unit may change, what every command leaves of the queue, the part
and the supply, and what an unpowered module does.
-/
namespace Sys2Proof.Machine

/-! ### What the gate array's units change -/

/-- Between the two states only registers, half-bridges and vector decision units changed. -/
def UnitsOnly (s t : State) : Prop := ∃ r h v, t = { s with regs := r, hbs := h, vdus := v }

section UnitsOnly
variable {s t : State} (h : UnitsOnly s t)

theorem UnitsOnly.refl (s : State) : UnitsOnly s s := ⟨_, _, _, rfl⟩

include h

theorem UnitsOnly.trans {u : State} (k : UnitsOnly t u) : UnitsOnly s u := by
  obtain ⟨_, _, _, rfl⟩ := h
  obtain ⟨_, _, _, rfl⟩ := k
  exact ⟨_, _, _, rfl⟩

theorem UnitsOnly.set (x : Fld) (v : Nat) : UnitsOnly s (t.set x v) := by obtain ⟨_, _, _, rfl⟩ := h; exact ⟨_, _, _, rfl⟩
theorem UnitsOnly.setHb (k : Nat) (b : HbSt) : UnitsOnly s (t.setHb k b) := by obtain ⟨_, _, _, rfl⟩ := h; exact ⟨_, _, _, rfl⟩
theorem UnitsOnly.setVdu (u : Nat) (v : VduSt) : UnitsOnly s (t.setVdu u v) := by obtain ⟨_, _, _, rfl⟩ := h; exact ⟨_, _, _, rfl⟩

theorem UnitsOnly.of_ite {c : Prop} [Decidable c] {u : State} (k : UnitsOnly s u) : UnitsOnly s (if c then t else u) := by
  split
  · exact h
  · exact k

end UnitsOnly

theorem driveHb_unitsOnly (h cmd : Nat) (s : State) : UnitsOnly s (driveHb h cmd s) := by
  have hreq := (UnitsOnly.refl s).setHb h { s.hb h with
    hiReq := cmd == 2, loReq := cmd == 1, blkHi := cmd == 2 && ((s.hb h).blkHi || s.on (HB_STAT_BOOT_BLOCK h)) }
  unfold driveHb
  simp only
  by_cases hst : (s.setHb h { s.hb h with
      hiReq := cmd == 2, loReq := cmd == 1, blkHi := cmd == 2 && ((s.hb h).blkHi || s.on (HB_STAT_BOOT_BLOCK h)) }).groupState (h / 6) = 4
  · rw [gateStep_latched h _ hst]
    exact hreq
  · obtain ⟨b, e, _⟩ := gateStep_only h _ hst
    rw [e]
    exact hreq.setHb h b

theorem setOff_unitsOnly (u : Nat) (s : State) : UnitsOnly s (setOff u s) := by
  refine UnitsOnly.setVdu (State.each_ind (UnitsOnly s) s ?_ (UnitsOnly.refl s)) u _
  intro h _ t ht
  exact ((ht.setHb h _).set (HB_LOOP_OFF h) _).trans (driveHb_unitsOnly h 0 _)

theorem driveLeg_unitsOnly (u i : Nat) (high count : Bool) (s : State) : UnitsOnly s (driveLeg u i high count s) := by
  unfold driveLeg
  extract_lets h changed swap t t1 v t2 b t3
  have h0 : UnitsOnly s t := ((UnitsOnly.refl s).set _ _).set _ _
  have h1 : UnitsOnly s t1 := (h0.set _ _).of_ite h0
  have h2 : UnitsOnly s t2 := (h1.setVdu _ _).of_ite h1
  have h3 : UnitsOnly s t3 := (h2.setHb _ _).of_ite h2
  exact h3.trans (driveHb_unitsOnly h _ t3)

theorem applyVec_unitsOnly (u v : Nat) (count : Bool) (s : State) : UnitsOnly s (applyVec u v count s) := by
  refine UnitsOnly.set (State.each_ind (UnitsOnly s) s ?_ (UnitsOnly.refl s)) (VDU_STAT_VEC u) v
  intro i _ t ht
  exact (ht.trans (driveLeg_unitsOnly u i _ count t)).of_ite ht

theorem decide_unitsOnly (u : Nat) (s : State) : UnitsOnly s (decide_ u s) := by
  have hself := UnitsOnly.refl s
  have hvec : ∀ v c, UnitsOnly s (applyVec u v c s) := fun v c => applyVec_unitsOnly u v c s
  unfold decide_
  refine hself.of_ite (((setOff_unitsOnly u s).set _ _).of_ite (hself.of_ite (UnitsOnly.of_ite ?restore (UnitsOnly.of_ite ?refresh ?windows))))
  case restore => exact hself.of_ite ((hvec _ _).setVdu _ _)
  case refresh => exact hself.of_ite (((hvec _ _).set _ _).setVdu _ _)
  case windows => exact hself.of_ite (hself.of_ite (hvec _ _))

theorem decideAll_unitsOnly (k : Nat) (s : State) : UnitsOnly s (decideAll k s) := by
  induction k generalizing s with
  | zero => exact UnitsOnly.refl s
  | succ k ih =>
    exact (State.each_ind (UnitsOnly s) s (fun u _ t ht => ht.trans (decide_unitsOnly u t)) (UnitsOnly.refl s)).trans (ih _)

/-! ### One period of the timebase -/

/-- A period that passes is no command: the queue, the part and the supply stay. -/
theorem idle_frame (s : State) : (idle s).pending = s.pending ∧ (idle s).part = s.part ∧ (idle s).powered = s.powered := by
  obtain ⟨r, h, v, e⟩ := decideAll_unitsOnly (min 1 3) s
  have hpass : unitsPass 1 s = { s with regs := r, hbs := h, vdus := v } := e
  unfold idle
  split
  · simp only [passBy, hpass, and_self]
  · exact ⟨rfl, rfl, rfl⟩

theorem idle_of_unpowered {s : State} (h : s.powered = false) : idle s = s := by simp [idle, h]

/-! ### The supply -/

theorem State.dom_of_unpowered {s : State} (h : s.powered = false) (d : Nat) : s.dom d = false := by simp [State.dom, h]

/-- The commands of the supply itself: every other one has its domain. -/
theorem Instr.domain_none {c : Instr} (h : c.domain = none) :
    (∃ ms pos id, c = .por ms pos id) ∨ c = .powerGoodFall ∨ c = .holdupExhausted := by
  cases c
  case por ms pos id => exact Or.inl ⟨ms, pos, id, rfl⟩
  case powerGoodFall => exact Or.inr (Or.inl rfl)
  case holdupExhausted => exact Or.inr (Or.inr rfl)
  all_goals exact nomatch h

/-- A command in a domain that is off changes nothing. -/
theorem exec_of_domain_off {c : Instr} {d : Nat} {s : State} (hc : c.domain = some d) (hd : s.dom d = false) : exec c s = .next s := by
  obtain ⟨b, f, e⟩ := exec_shape c d s hc
  rw [e, s.runIf_off d b f hd]

theorem exec_por (ms : Nat) (pos : BitVec 4) (id : BitVec 2) (s : State) :
    exec (.por ms pos id) s =
      .next { por ms pos.toNat id.toNat s with pending := s.pending, part := s.part, powered := true } := rfl

theorem exec_powerGoodFall (s : State) :
    exec .powerGoodFall s = .next (if s.powered then framed s (powerGoodFall s) else s) := rfl

theorem exec_holdupExhausted (s : State) :
    exec .holdupExhausted s = .next (if s.tap.pgFell then { s with powered := false } else s) := rfl

/-- Every command answers a next state with the queue and the part of before; only POR and the end of hold-up may change the supply. -/
theorem exec_answers (c : Instr) (s : State) : ∃ t, exec c s = .next t ∧ t.pending = s.pending ∧ t.part = s.part ∧
    ((∀ ms pos id, c ≠ .por ms pos id) → c ≠ .holdupExhausted → t.powered = s.powered) := by
  cases hc : c.domain with
  | some d =>
    obtain ⟨b, f, e⟩ := exec_shape c d s hc
    obtain ⟨t, ht, hp, hq, hw⟩ := s.runIf_next d b f
    exact ⟨t, e.trans ht, hp, hq, fun _ _ => hw⟩
  | none =>
    obtain ⟨ms, pos, id, rfl⟩ | rfl | rfl := Instr.domain_none hc
    · exact ⟨_, exec_por ms pos id s, rfl, rfl, fun h => absurd rfl (h ms pos id)⟩
    · refine ⟨_, exec_powerGoodFall s, ?_, ?_, fun _ _ => ?_⟩ <;> split <;> rfl
    · refine ⟨_, exec_holdupExhausted s, ?_, ?_, fun _ h => absurd rfl h⟩ <;> split <;> rfl

/-- Without supply every command but POR leaves the state as it is. -/
theorem exec_of_unpowered {c : Instr} {s : State} (hs : s.powered = false) (hc : ∀ ms pos id, c ≠ .por ms pos id) :
    exec c s = .next s := by
  cases hd : c.domain with
  | some d => exact exec_of_domain_off hd (State.dom_of_unpowered hs d)
  | none =>
    obtain ⟨ms, pos, id, rfl⟩ | rfl | rfl := Instr.domain_none hd
    · exact absurd rfl (hc ms pos id)
    · rw [exec_powerGoodFall, if_neg (by simp [hs])]
    · have hself : { s with powered := false } = s := by rw [← hs]
      rw [exec_holdupExhausted, hself, ite_self]

/-! ### Steps -/

theorem step_cons {c : Instr} {rest : List Instr} {s : State} (h : s.pending = c :: rest) :
    step s = exec c { s with pending := rest } := by
  unfold step
  rw [h]

theorem step_nil {s : State} (h : s.pending = []) : step s = .next (idle s) := by
  unfold step
  rw [h]

/-- Settles O1: both clauses are the two cases of the queue. -/
theorem stepRunsFrontCommand : Obligations.StepRunsFrontCommand := ⟨fun _ _ _ => step_cons, fun _ => step_nil⟩

/-- Settles O2: a command keeps the queue's rest, and a period that passes keeps the empty queue. -/
theorem stepConsumesOneCommand : Obligations.StepConsumesOneCommand := by
  intro s
  cases hq : s.pending with
  | nil =>
    obtain ⟨hp, hpart, _⟩ := idle_frame s
    exact ⟨idle s, step_nil hq, hp.trans hq, hpart⟩
  | cons c rest =>
    obtain ⟨t, ht, hp, hpart, _⟩ := exec_answers c { s with pending := rest }
    exact ⟨t, (step_cons hq).trans ht, hp, hpart⟩

theorem Unpowered.tail {s : State} (h : Unpowered s) : Unpowered { s with pending := s.pending.tail } :=
  ⟨h.1, fun i hi => h.2 i (List.mem_of_mem_tail hi)⟩

/-- Settles O3: a module without supply has every domain off, and POR is no command of its queue; so a step takes the front command and
changes nothing else. -/
theorem unpoweredModuleStaysStill : Obligations.UnpoweredModuleStaysStill := by
  intro s t hs ht
  have hstep : step s = .next { s with pending := s.pending.tail } := by
    cases hq : s.pending with
    | nil =>
      have hself : { s with pending := [] } = s := by rw [← hq]
      rw [step_nil hq, idle_of_unpowered hs.1, List.tail_nil, hself]
    | cons c rest =>
      have hc : ∀ ms pos id, c ≠ .por ms pos id := hs.2 c (by rw [hq]; exact List.mem_cons_self ..)
      rw [step_cons hq, exec_of_unpowered (s := { s with pending := rest }) hs.1 hc, List.tail_cons]
  obtain rfl : { s with pending := s.pending.tail } = t := by
    rw [hstep] at ht
    injection ht
  exact ⟨hs.tail, rfl⟩

/-- Settles O4: the domain is off in `exec_of_domain_off`, the supply stays by `exec_answers`, and POR and the end of hold-up are what
the model says of them. -/
theorem supplyAndDomainsGateTheCommands : Obligations.SupplyAndDomainsGateTheCommands := by
  refine ⟨fun c d s => exec_of_domain_off, fun c s t hpor hhold ht => ?_, fun ms pos id s => ?_, fun s => ?_⟩
  · obtain ⟨u, hu, _, _, hw⟩ := exec_answers c s
    obtain rfl : u = t := by
      rw [hu] at ht
      injection ht
    exact hw hpor hhold
  · exact ⟨_, exec_por ms pos id s, rfl, rfl⟩
  · refine ⟨_, exec_holdupExhausted s, ?_⟩
    cases h : s.tap.pgFell <;> simp

/-- Settles O5: a register that the table does not list holds the value of its register table. -/
theorem resetRegisterValues : Obligations.ResetRegisterValues := by
  unfold Obligations.ResetRegisterValues
  decide +kernel

end Sys2Proof.Machine
end

section
/-!
PROOFS. The comparator (R176, R180, R182): a number with one bit inverted, the parity of a hold-store word and the residue of a coded
word after it, and the first word of a result set that fails.
-/
namespace Sys2Proof.Machine

/-! ### One bit inverted -/

theorem bitOf_xor (n m j : Nat) : bitOf (Nat.xor n m) j = (bitOf n j ^^ bitOf m j) := by
  simp only [bitOf_testBit]
  exact Nat.testBit_xor n m j

theorem bitOf_two_pow (b j : Nat) : bitOf (2 ^ b) j = decide (b = j) := by rw [bitOf_testBit, Nat.testBit_two_pow]

theorem xor_two_pow_eq_withBit (n b : Nat) : Nat.xor n (2 ^ b) = withBit n b (!bitOf n b) := by
  refine Nat.eq_of_testBit_eq fun j => ?_
  rw [← bitOf_testBit, ← bitOf_testBit, bitOf_xor, bitOf_two_pow, bitOf_withBit]
  by_cases h : j = b
  · simp [h]
  · simp [h, Ne.symm h]

theorem two_pow_le_of_bitOf {n b : Nat} (h : bitOf n b = true) : 2 ^ b ≤ n := by
  rw [bitOf_testBit] at h
  exact Nat.ge_two_pow_of_testBit h

/-- Inverting bit `b` moves a number by `2 ^ b`, downwards where the bit was 1. -/
theorem xor_two_pow_cast (n b : Nat) :
    ((Nat.xor n (2 ^ b) : Nat) : Int) = if bitOf n b then (n : Int) - 2 ^ b else n + 2 ^ b := by
  rw [xor_two_pow_eq_withBit]
  cases h : bitOf n b with
  | false => simp [withBit, h]
  | true =>
    have hle := two_pow_le_of_bitOf h
    simp [withBit, h, Nat.cast_sub hle]

theorem xor_two_pow_lt {n b wd : Nat} (hn : n < 2 ^ wd) (hb : b < wd) : Nat.xor n (2 ^ b) < 2 ^ wd := by
  rw [xor_two_pow_eq_withBit]
  exact withBit_lt n b wd _ hn hb

/-! ### A coded word with one bit inverted -/

theorem ofSigned_lt (wd : Nat) (x : Int) : ofSigned wd x < 2 ^ wd := by
  have hpos : (0 : Int) < 2 ^ wd := by positivity
  have hlt := Int.emod_lt_of_pos x hpos
  have hnn := Int.emod_nonneg x hpos.ne'
  unfold ofSigned
  zify
  rwa [Int.toNat_of_nonneg hnn]

/-- The sign of a two's complement number is its highest bit. -/
theorem toSigned_of_lt {wd n : Nat} (hn : n < 2 ^ (wd + 1)) :
    toSigned (wd + 1) n = (n : Int) - if bitOf n wd then 2 ^ (wd + 1) else 0 := by
  have hbit : bitOf n wd = decide (2 ^ wd ≤ n) := by
    rw [Nat.pow_succ] at hn
    by_cases h : 2 ^ wd ≤ n
    · have hdiv : n / 2 ^ wd = 1 := Nat.div_eq_of_lt_le (by omega) (by omega)
      simp [bitOf, hdiv, h]
    · have hdiv : n / 2 ^ wd = 0 := Nat.div_eq_of_lt (by omega)
      simp [bitOf, hdiv, h]
  rw [toSigned, Nat.mod_eq_of_lt hn, Nat.add_sub_cancel, hbit]
  by_cases h : 2 ^ wd ≤ n
  · simp [h, Nat.not_lt.mpr h]
  · simp [h, Nat.not_le.mp h]

/-- A bit error moves a word by a power of two. -/
theorem flipI_two_pow {wd b : Nat} {x : Int} (hlo : -2 ^ wd ≤ x) (hhi : x < 2 ^ wd) (hb : b < wd + 1) :
    flipI (wd + 1) (2 ^ b) x = x + 2 ^ b ∨ flipI (wd + 1) (2 ^ b) x = x - 2 ^ b := by
  have hfits := ofSigned_lt (wd + 1) x
  have hx : toSigned (wd + 1) (ofSigned (wd + 1) x) = x := by
    have h := toSigned_ofSigned (wd + 1) x (by omega) hlo hhi
    rwa [Nat.mod_eq_of_lt hfits] at h
  have hmask : 2 ^ b % 2 ^ (wd + 1) = 2 ^ b := Nat.mod_eq_of_lt (Nat.pow_lt_pow_right (by decide) hb)
  unfold flipI
  generalize ofSigned (wd + 1) x = n at hfits hx
  rw [hmask, toSigned_of_lt (xor_two_pow_lt hfits hb), xor_two_pow_cast, bitOf_xor, bitOf_two_pow, ← hx, toSigned_of_lt hfits]
  by_cases hsign : b = wd
  · subst hsign
    have hpow : (2 : Int) ^ (b + 1) = 2 * 2 ^ b := by rw [pow_succ, mul_comm]
    cases bitOf n b <;> simp <;> omega
  · simp only [hsign, decide_false, Bool.xor_false]
    cases bitOf n b <;> simp <;> omega

theorem not_dvd_two_pow (b : Nat) : ¬ (59 : Int) ∣ 2 ^ b := by
  have hprime : Prime (59 : Int) := Int.prime_iff_natAbs_prime.mpr (by norm_num)
  exact fun h => absurd (hprime.dvd_of_dvd_pow h) (by decide)

/-- A coded word is a multiple of 59, and with one bit inverted it is none (R176). -/
theorem coded_flip_not_multiple {v : Int} {b : Nat} (hv : -puMax ≤ v ∧ v ≤ puMax) (hb : b < 30) :
    flipI 30 (2 ^ b) (59 * v) % 59 ≠ 0 := by
  have hpu : puMax = 8388607 := rfl
  have hnot := not_dvd_two_pow b
  rw [ne_eq, ← Int.dvd_iff_emod_eq_zero]
  rcases flipI_two_pow (wd := 29) (b := b) (x := 59 * v) (by omega) (by omega) hb with h | h
  · rw [h, dvd_add_right (dvd_mul_right 59 v)]
    exact hnot
  · rw [h, dvd_sub_right (dvd_mul_right 59 v)]
    exact hnot

/-! ### A hold-store word with one bit inverted -/

theorem popCount_congr {n v w : Nat} (h : ∀ j < n, bitOf v j = bitOf w j) : popCount n v = popCount n w := by
  induction n with
  | zero => rfl
  | succ n ih => rw [popCount, popCount, ih (fun j hj => h j (by omega)), h n (by omega)]

/-- One inverted bit among those counted changes the parity. -/
theorem popCount_xor_two_pow (n v b : Nat) :
    popCount n (Nat.xor v (2 ^ b)) % 2 = (popCount n v + b2n (decide (b < n))) % 2 := by
  induction n with
  | zero => simp [popCount, b2n]
  | succ n ih =>
    have hbit : bitOf (Nat.xor v (2 ^ b)) n = (bitOf v n ^^ decide (b = n)) := by rw [bitOf_xor, bitOf_two_pow]
    rw [popCount, popCount, hbit]
    by_cases h : b = n
    · subst h
      simp only [lt_irrefl, decide_false, b2n, Bool.false_eq_true, if_false, Nat.add_zero] at ih
      generalize popCount b (Nat.xor v (2 ^ b)) = m at ih ⊢
      cases bitOf v b <;> simp [b2n] <;> omega
    · have hlt : b < n + 1 ↔ b < n := by omega
      simp only [h, decide_false, Bool.xor_false, hlt]
      omega

theorem parityOk_iff (h : Nat) : parityOk h = true ↔ popCount 25 h % 2 = 0 := by simp [parityOk]

/-- The parity bit makes the parity of a hold-store word even (R180). -/
theorem parityOk_holdWord (x : Int) : parityOk (holdWord x) = true := by
  have hlt := ofSigned_lt 24 x
  have hword : holdWord x = ofSigned 24 x + popCount 24 (ofSigned 24 x) % 2 * 2 ^ 24 := rfl
  generalize ofSigned 24 x = n at hlt hword
  have hlow : ∀ j < 24, bitOf (holdWord x) j = bitOf n j := fun j hj => by
    rw [bitOf_testBit, bitOf_testBit, hword, Nat.add_comm, Nat.mul_comm, Nat.testBit_two_pow_mul_add _ hlt, if_pos hj]
  have htop : bitOf (holdWord x) 24 = decide (popCount 24 n % 2 = 1) := by
    have hdiv : holdWord x / 2 ^ 24 = popCount 24 n % 2 := by omega
    rw [bitOf, hdiv, Nat.mod_mod, beq_eq_decide]
  rw [parityOk_iff, popCount, popCount_congr hlow, htop]
  rcases Nat.mod_two_eq_zero_or_one (popCount 24 n) with h | h
  · simp [h, b2n]
  · simp [h, b2n, Nat.add_mod]

theorem parityOk_flip {x : Int} {b : Nat} (hb : b < 25) : parityOk (Nat.xor (holdWord x) (2 ^ b)) = false := by
  have heven := (parityOk_iff _).mp (parityOk_holdWord x)
  have hflip := popCount_xor_two_pow 25 (holdWord x) b
  have hone : (popCount 25 (holdWord x) + b2n (decide (b < 25))) % 2 = 1 := by simp [hb, b2n]; omega
  rw [← Bool.not_eq_true, parityOk_iff, hflip, hone]
  decide

theorem holdPlain_holdWord {v : Int} (hv : -puMax ≤ v ∧ v ≤ puMax) : holdPlain (holdWord v) = v := by
  have hpu : puMax = 8388607 := rfl
  have hread := toSigned_ofSigned 24 v (by decide) (by omega) (by omega)
  have hmod : holdWord v % 2 ^ 24 = ofSigned 24 v % 2 ^ 24 := by simp [holdWord]
  unfold holdPlain toSigned at *
  rw [hmod]
  rwa [Nat.mod_mod] at hread

/-! ### The first word that fails -/

theorem firstBad_good {h : Nat} {c : Int} {hs : List Nat} {cs : List Int} (i : Nat) (hp : parityOk h = true) (hc : c % 59 = 0)
    (he : c.fdiv 59 = holdPlain h) : firstBad i (h :: hs) (c :: cs) = firstBad (i + 1) hs cs := by
  simp [firstBad, hp, hc, he]

theorem firstBad_parity {h : Nat} {c : Int} {hs : List Nat} {cs : List Int} (i : Nat) (hp : parityOk h = false) :
    firstBad i (h :: hs) (c :: cs) = some (3, i) := by
  simp [firstBad, hp]

theorem firstBad_residue {h : Nat} {c : Int} {hs : List Nat} {cs : List Int} (i : Nat) (hp : parityOk h = true) (hc : c % 59 ≠ 0) :
    firstBad i (h :: hs) (c :: cs) = some (1, i) := by
  simp [firstBad, hp, hc]

/-- A sound word at the front passes. -/
theorem firstBad_sound_cons {v : Int} {hs : List Nat} {cs : List Int} (i : Nat) (hv : -puMax ≤ v ∧ v ≤ puMax) :
    firstBad i (holdWord v :: hs) (59 * v :: cs) = firstBad (i + 1) hs cs := by
  refine firstBad_good i (parityOk_holdWord v) (by omega) ?_
  rw [holdPlain_holdWord hv, Int.fdiv_eq_ediv_of_nonneg _ (by decide), Int.mul_ediv_cancel_left v (by decide)]

/-- The two copies of a result set: its words in the hold store, and its coded words. -/
abbrev holdCopy (w : List Int) : List Nat := w.map holdWord
abbrev codedCopy (w : List Int) : List Int := w.map (fun v => 59 * v)

theorem firstBad_sound (w : List Int) (i : Nat) (hw : ∀ v ∈ w, -puMax ≤ v ∧ v ≤ puMax) :
    firstBad i (holdCopy w) (codedCopy w) = none := by
  induction w generalizing i with
  | nil => rfl
  | cons v w ih =>
    obtain ⟨hv, hw⟩ := List.forall_mem_cons.mp hw
    exact (firstBad_sound_cons i hv).trans (ih (i + 1) hw)

/-- One bit error in a coded word is found at that word, as a residue. -/
theorem firstBad_coded_flip {w : List Int} {k b : Nat} (i : Nat) (hw : ∀ v ∈ w, -puMax ≤ v ∧ v ≤ puMax) (hk : k < w.length)
    (hb : b < 30) :
    firstBad i (holdCopy w) (listSet (codedCopy w) k (flipI 30 (2 ^ b) ((codedCopy w).getD k 0))) = some (1, i + k) := by
  induction w generalizing i k with
  | nil => exact absurd hk (Nat.not_lt_zero k)
  | cons v w ih =>
    obtain ⟨hv, hw⟩ := List.forall_mem_cons.mp hw
    cases k with
    | zero =>
      simp only [codedCopy, List.map_cons, List.getD_cons_zero, listSet, Nat.add_zero]
      exact firstBad_residue i (parityOk_holdWord v) (coded_flip_not_multiple hv hb)
    | succ k =>
      have hrest := ih (i + 1) hw (Nat.lt_of_succ_lt_succ hk)
      rw [Nat.add_assoc, Nat.add_comm 1 k] at hrest
      exact (firstBad_sound_cons i hv).trans hrest

/-- One bit error in a hold-store word is found at that word, as a wrong parity. -/
theorem firstBad_hold_flip {w : List Int} {k b : Nat} (i : Nat) (hw : ∀ v ∈ w, -puMax ≤ v ∧ v ≤ puMax) (hk : k < w.length)
    (hb : b < 25) :
    firstBad i (listSet (holdCopy w) k (Nat.xor ((holdCopy w).getD k 0) (2 ^ b))) (codedCopy w) = some (3, i + k) := by
  induction w generalizing i k with
  | nil => exact absurd hk (Nat.not_lt_zero k)
  | cons v w ih =>
    obtain ⟨hv, hw⟩ := List.forall_mem_cons.mp hw
    cases k with
    | zero =>
      simp only [holdCopy, List.map_cons, List.getD_cons_zero, listSet, Nat.add_zero]
      exact firstBad_parity i (parityOk_flip hb)
    | succ k =>
      have hrest := ih (i + 1) hw (Nat.lt_of_succ_lt_succ hk)
      rw [Nat.add_assoc, Nat.add_comm 1 k] at hrest
      exact (firstBad_sound_cons i hv).trans hrest

theorem railFinds_of_bad {hold : List Nat} {coded : List Int} {c k : Nat} (fp fc : Nat) (h : firstBad 0 hold coded = some (c, k)) :
    railFinds hold coded fp fc = some (c, some k) := by
  rw [railFinds, h]

theorem railFinds_of_sound {hold : List Nat} {coded : List Int} (fp fc : Nat) (h : firstBad 0 hold coded = none) :
    railFinds hold coded fp fc = if fp ≠ fc then some (2, none) else none := by
  rw [railFinds, h]

/-- Settles O24: sound copies pass every word, so only the flags decide; a bit error is found at its word, before any other check. -/
theorem comparatorFindsEverySingleBitError : Obligations.ComparatorFindsEverySingleBitError := by
  intro w fl hw
  have hsound := firstBad_sound w 0 hw
  refine ⟨?_, fun f' hf => ?_, fun k b hk hb => ?_, fun k b hk hb => ?_⟩
  · rw [railFinds_of_sound fl fl hsound, if_neg (not_not_intro rfl)]
  · rw [railFinds_of_sound fl f' hsound, if_pos hf.symm]
  · exact railFinds_of_bad fl fl ((firstBad_coded_flip 0 hw hk hb).trans (by rw [Nat.zero_add]))
  · exact railFinds_of_bad fl fl ((firstBad_hold_flip 0 hw hk hb).trans (by rw [Nat.zero_add]))

end Sys2Proof.Machine
end

section
/-!
PROOFS. The bytes of a Sitil frame and the code groups of its line (R312, R314, R316): big-endian fields read back, the frame check, and
the characters of a line read back at the running disparity of the sender.
-/
namespace Sys2Proof.Machine

/-! ### Big-endian fields -/

@[simp] theorem length_bytesLE (n v : Nat) : (bytesLE n v).length = n := by
  induction n generalizing v with
  | zero => rfl
  | succ n ih => rw [bytesLE, List.length_cons, ih]

@[simp] theorem length_bytesBE (n v : Nat) : (bytesBE n v).length = n := by simp [bytesBE]

theorem ofBytesLE_bytesLE (n v : Nat) : ofBytesLE (bytesLE n v) = v % 2 ^ (8 * n) := by
  induction n generalizing v with
  | zero => simp [bytesLE, ofBytesLE, Nat.mod_one]
  | succ n ih =>
    have hpow : 2 ^ (8 * (n + 1)) = 256 * 2 ^ (8 * n) := by rw [Nat.mul_add, Nat.pow_add, Nat.mul_comm]
    rw [bytesLE, ofBytesLE, ih, Nat.mod_mod, hpow, Nat.mod_mul]

@[simp] theorem beNat_bytesBE (n v : Nat) : beNat (bytesBE n v) = v % 2 ^ (8 * n) := by
  rw [beNat, bytesBE, List.reverse_reverse, ofBytesLE_bytesLE]

/-- A field that was written big-endian, at its place in the bytes. -/
theorem fieldAt_of_split {b a c : List Nat} {o n v : Nat} (hb : b = a ++ bytesBE n v ++ c) (ho : a.length = o) :
    fieldAt b o n = v % 2 ^ (8 * n) := by
  subst hb ho
  simp [fieldAt]

/-! ### CRC-32 -/

theorem crcShiftR_lt {wd poly : Nat} (hp : poly < 2 ^ wd) (n : Nat) {c : Nat} (hc : c < 2 ^ wd) : crcShiftR poly n c < 2 ^ wd := by
  induction n generalizing c with
  | zero => exact hc
  | succ n ih =>
    have hhalf : c / 2 < 2 ^ wd := Nat.lt_of_le_of_lt (Nat.div_le_self c 2) hc
    refine ih ?_
    split
    · exact Nat.xor_lt_two_pow hhalf hp
    · exact hhalf

theorem crcLsb_lt {wd poly : Nat} (hw : 8 ≤ wd) (hp : poly < 2 ^ wd) (bs : List Nat) {c : Nat} (hc : c < 2 ^ wd) :
    crcLsb poly bs c < 2 ^ wd := by
  induction bs generalizing c with
  | nil => exact hc
  | cons b bs ih =>
    have hb : b % 256 < 2 ^ wd := Nat.lt_of_lt_of_le (Nat.mod_lt b (show 0 < 256 by decide)) (Nat.pow_le_pow_right (show 0 < 2 by decide) hw)
    exact ih (crcShiftR_lt hp 8 (Nat.xor_lt_two_pow hc hb))

theorem crc32_lt (bs : List Nat) : crc32 bs < 2 ^ 32 :=
  Nat.xor_lt_two_pow (crcLsb_lt (by decide) (by decide) bs (by decide)) (by decide)

/-! ### A frame's bytes (R314, R316) -/

/-- What a frame carries as its CRC: the complement marks a failed one. -/
def Frame.crc (f : Frame) (ok : Bool) : Nat := if ok then crc32 f.body else 2 ^ 32 - 1 - crc32 f.body

theorem Frame.crc_lt (f : Frame) (ok : Bool) : f.crc ok < 2 ^ 32 := by
  have := crc32_lt f.body
  unfold Frame.crc
  split <;> omega

theorem Frame.crc_eq_iff (f : Frame) (ok : Bool) : crc32 f.body = f.crc ok ↔ ok = true := by
  cases ok
  · simp only [Frame.crc, Bool.false_eq_true, if_false, iff_false]
    omega
  · simp [Frame.crc]

theorem Frame.bytes_eq (f : Frame) (ok : Bool) : f.bytes ok = f.body ++ bytesBE 4 (f.crc ok) := rfl

/-- The byte of the age and the flags. -/
def Frame.flagByte (f : Frame) : Nat := f.age * 16 + b2n f.bcast * 8 + b2n f.sync * 4 + b2n f.cstart * 2 + b2n f.null

theorem Frame.body_eq (f : Frame) : f.body = bytesBE 2 f.node ++ bytesBE 2 (f.slot * 8 + f.ver) ++ bytesBE 2 f.cycle ++
    [f.flagByte, f.len] ++ f.payload ++ bytesBE 6 f.corr := rfl

theorem b2n_le (b : Bool) : b2n b ≤ 1 := by cases b <;> decide

/-- Bit `k` of a number that is put together with `b` at that place. -/
theorem bitOf_of_split {n k hi lo : Nat} {b : Bool} (hn : n = 2 ^ k * (2 * hi + b2n b) + lo) (hlo : lo < 2 ^ k) : bitOf n k = b := by
  rw [bitOf_testBit, hn, split_bit hi lo k k b hlo, if_pos rfl]

/-- The flags read back from their byte. -/
theorem Frame.flagByte_fields (f : Frame) : f.flagByte / 16 = f.age ∧ bitOf f.flagByte 3 = f.bcast ∧ bitOf f.flagByte 2 = f.sync ∧
    bitOf f.flagByte 1 = f.cstart ∧ bitOf f.flagByte 0 = f.null := by
  have hb := b2n_le f.bcast
  have hs := b2n_le f.sync
  have hc := b2n_le f.cstart
  have hn := b2n_le f.null
  have hdef : f.flagByte = f.age * 16 + b2n f.bcast * 8 + b2n f.sync * 4 + b2n f.cstart * 2 + b2n f.null := rfl
  refine ⟨by omega, ?_, ?_, ?_, ?_⟩
  · exact bitOf_of_split (hi := f.age) (lo := b2n f.sync * 4 + b2n f.cstart * 2 + b2n f.null) (by omega) (by omega)
  · exact bitOf_of_split (hi := f.age * 2 + b2n f.bcast) (lo := b2n f.cstart * 2 + b2n f.null) (by omega) (by omega)
  · exact bitOf_of_split (hi := f.age * 4 + b2n f.bcast * 2 + b2n f.sync) (lo := b2n f.null) (by omega) (by omega)
  · exact bitOf_of_split (hi := f.age * 8 + b2n f.bcast * 4 + b2n f.sync * 2 + b2n f.cstart) (lo := 0) (by omega) (by omega)

section Frame
variable {f : Frame} (hpay : f.payload.length = f.len) (ok : Bool)
include hpay

theorem Frame.length_body : f.body.length = 14 + f.len := by
  simp [Frame.body_eq, hpay]
  omega

theorem Frame.length_bytes : (f.bytes ok).length = 18 + f.len := by
  rw [Frame.bytes_eq, List.length_append, Frame.length_body hpay, length_bytesBE]
  omega

/-- The check of a frame that arrives as it was sent finds what the sender put in. -/
theorem Frame.crcOk_bytes : frameCrcOk (f.bytes ok) = ok := by
  have hlen := Frame.length_body hpay
  have hplace : (f.bytes ok).length - 4 = f.body.length := by rw [Frame.length_bytes hpay, hlen]; omega
  have hbody : (f.bytes ok).take f.body.length = f.body := by rw [Frame.bytes_eq, List.take_left]
  have hcrc : fieldAt (f.bytes ok) f.body.length 4 = f.crc ok := by
    rw [fieldAt_of_split (a := f.body) (c := []) (by rw [List.append_nil, Frame.bytes_eq]) rfl]
    exact Nat.mod_eq_of_lt (f.crc_lt ok)
  rw [frameCrcOk, hplace, hbody, hcrc, Bool.eq_iff_iff, beq_iff_eq, f.crc_eq_iff]

theorem Frame.parse_bytes (hnode : f.node < 2 ^ 16) (hslot : f.slot < 2 ^ 13) (hver : f.ver < 2 ^ 3) (hcycle : f.cycle < 2 ^ 16)
    (hlen : f.len ≤ 240) (hcorr : f.corr < 2 ^ 48) : Frame.parse (f.bytes ok) = some f := by
  have hbytes : f.bytes ok = bytesBE 2 f.node ++ (bytesBE 2 (f.slot * 8 + f.ver) ++ (bytesBE 2 f.cycle ++ (f.flagByte :: f.len ::
      (f.payload ++ (bytesBE 6 f.corr ++ bytesBE 4 (f.crc ok)))))) := by simp [Frame.bytes_eq, Frame.body_eq]
  have hnodeAt : fieldAt (f.bytes ok) 0 2 = f.node % 2 ^ 16 := fieldAt_of_split (a := []) (by rw [hbytes, List.nil_append]) rfl
  have hslotAt : fieldAt (f.bytes ok) 2 2 = (f.slot * 8 + f.ver) % 2 ^ 16 :=
    fieldAt_of_split (a := bytesBE 2 f.node) (by rw [hbytes, List.append_assoc]) (length_bytesBE _ _)
  have hcycleAt : fieldAt (f.bytes ok) 4 2 = f.cycle % 2 ^ 16 :=
    fieldAt_of_split (a := bytesBE 2 f.node ++ bytesBE 2 (f.slot * 8 + f.ver))
      (by rw [hbytes]; simp only [List.append_assoc]; rfl) (by simp)
  have hcorrAt : fieldAt (f.bytes ok) (8 + f.len) 6 = f.corr % 2 ^ 48 :=
    fieldAt_of_split (a := bytesBE 2 f.node ++ bytesBE 2 (f.slot * 8 + f.ver) ++ bytesBE 2 f.cycle ++ [f.flagByte, f.len] ++ f.payload)
      (by rw [Frame.bytes_eq, Frame.body_eq]) (by simp [hpay]; omega)
  obtain ⟨head, hhead, hsplit⟩ : ∃ head, head.length = 6 ∧
      f.bytes ok = head ++ f.flagByte :: f.len :: (f.payload ++ (bytesBE 6 f.corr ++ bytesBE 4 (f.crc ok))) :=
    ⟨bytesBE 2 f.node ++ bytesBE 2 (f.slot * 8 + f.ver) ++ bytesBE 2 f.cycle, by simp, by rw [hbytes]; simp only [List.append_assoc]⟩
  have hover : head.drop 8 = [] := List.drop_eq_nil_of_le (by omega)
  have hflags : (f.bytes ok).getD 6 0 = f.flagByte := by simp [hsplit, hhead]
  have hlenAt : (f.bytes ok).getD 7 0 = f.len := by simp [hsplit, List.getElem?_append, hhead]
  have hpayAt : ((f.bytes ok).drop 8).take f.len = f.payload := by simp [hsplit, List.drop_append, hover, hhead, ← hpay]
  obtain ⟨hage, hbcast, hsync, hcstart, hnull⟩ := f.flagByte_fields
  rw [Nat.mod_eq_of_lt hnode] at hnodeAt
  rw [Nat.mod_eq_of_lt (by omega)] at hslotAt
  rw [Nat.mod_eq_of_lt hcycle] at hcycleAt
  rw [Nat.mod_eq_of_lt hcorr] at hcorrAt
  have hfits : (f.bytes ok).length = 18 + f.len ∧ f.len ≤ 240 := ⟨Frame.length_bytes hpay ok, hlen⟩
  have hslotOf : (f.slot * 8 + f.ver) / 8 = f.slot := by omega
  have hverOf : (f.slot * 8 + f.ver) % 8 = f.ver := by omega
  simp only [Frame.parse, hlenAt, if_pos hfits, hnodeAt, hslotAt, hslotOf, hverOf, hcycleAt, hflags, hage, hbcast, hsync, hcstart, hnull,
    hpayAt, hcorrAt]

end Frame

/-! ### The line (R312) -/

/-- The running disparity of the receiver after a code group. -/
def rxDisparity (g : Nat) (pos : Bool) : Bool := if 2 * popCount 10 g = 10 then pos else decide (10 < 2 * popCount 10 g)

/-- A character is read back at the sender's running disparity, and leaves the receiver at the sender's next one. -/
def readsBack (c : Char8) (pos : Bool) : Bool :=
  decChar (encChar c pos).1 pos == some c && rxDisparity (encChar c pos).1 pos == (encChar c pos).2

theorem readsBack_iff {c : Char8} {pos : Bool} : readsBack c pos = true ↔
    decChar (encChar c pos).1 pos = some c ∧ rxDisparity (encChar c pos).1 pos = (encChar c pos).2 := by
  rw [readsBack, Bool.and_eq_true, beq_iff_eq, beq_iff_eq]

theorem readsBack_data : ∀ (b : Fin 256) (pos : Bool), readsBack ⟨false, b⟩ pos = true := by decide +kernel

theorem readsBack_delimiters : ∀ pos : Bool, readsBack kStart pos = true ∧ readsBack kEnd pos = true := by decide +kernel

theorem length_encLine (cs : List Char8) (pos : Bool) : (encLine cs pos).length = cs.length := by
  induction cs generalizing pos with
  | nil => rfl
  | cons c cs ih => rw [encLine, List.length_cons, ih, List.length_cons]

/-- A line of characters that read back is received as it was sent. -/
theorem decLine_encLine {cs : List Char8} (hcs : ∀ c ∈ cs, ∀ pos, readsBack c pos = true) (pos : Bool) :
    decLine (encLine cs pos) pos = cs.map some := by
  induction cs generalizing pos with
  | nil => rfl
  | cons c cs ih =>
    obtain ⟨hc, hcs⟩ := List.forall_mem_cons.mp hcs
    obtain ⟨hchar, hnext⟩ := readsBack_iff.mp (hc pos)
    have hrest : decLine (encLine (c :: cs) pos) pos =
        decChar (encChar c pos).1 pos :: decLine (encLine cs (encChar c pos).2) (rxDisparity (encChar c pos).1 pos) := rfl
    rw [hrest, hchar, hnext, ih hcs, List.map_cons]

/-- The characters of a frame's line: its bytes between the delimiters. -/
def lineChars (b : List Nat) : List Char8 := kStart :: b.map (fun x => ⟨false, x⟩) ++ [kEnd]

theorem lineChars_readBack {b : List Nat} (hb : ∀ x ∈ b, x < 256) : ∀ c ∈ lineChars b, ∀ pos, readsBack c pos = true := by
  intro c hc pos
  simp only [lineChars, List.cons_append, List.mem_cons, List.mem_append, List.mem_map, List.not_mem_nil, or_false] at hc
  rcases hc with rfl | ⟨x, hx, rfl⟩ | rfl
  · exact (readsBack_delimiters pos).1
  · exact readsBack_data ⟨x, hb x hx⟩ pos
  · exact (readsBack_delimiters pos).2

theorem codedBytes_lineOf {b : List Nat} (hb : ∀ x ∈ b, x < 256) : codedBytes (lineOf b) = some b := by
  have hdec : decLine (lineOf b) false = (lineChars b).map some := decLine_encLine (lineChars_readBack hb) false
  have hlen : (lineOf b).length = b.length + 2 := by
    rw [lineOf, length_encLine]
    simp
  have hbytes : lineBytes (lineOf b) = b.map some := by
    rw [lineBytes, hdec, hlen]
    simp [lineChars]
  have hfirst : ((lineChars b).map some).head? = some (some kStart) := rfl
  have hlast : ((lineChars b).map some).getLast? = some (some kEnd) := by
    rw [lineChars, List.map_append]
    exact List.getLast?_concat
  have htwo : 1 < (lineChars b).length := by simp [lineChars]
  simp [codedBytes, hdec, hbytes, hfirst, hlast, htwo]

/-! ### The bytes of a frame are bytes -/

theorem bytesLE_lt {n v x : Nat} (hx : x ∈ bytesLE n v) : x < 256 := by
  induction n generalizing v with
  | zero => exact absurd hx List.not_mem_nil
  | succ n ih =>
    rcases List.mem_cons.mp hx with rfl | hx
    · exact Nat.mod_lt v (by decide)
    · exact ih hx

theorem bytesBE_lt {n v x : Nat} (hx : x ∈ bytesBE n v) : x < 256 := bytesLE_lt (List.mem_reverse.mp hx)

theorem Frame.bytes_lt {f : Frame} (ok : Bool) (hage : f.age < 2 ^ 4) (hlen : f.len ≤ 240) (hpay : ∀ b ∈ f.payload, b < 256) :
    ∀ x ∈ f.bytes ok, x < 256 := by
  have hflags : f.flagByte < 256 := by
    have := f.flagByte_fields.1
    omega
  intro x hx
  simp only [Frame.bytes_eq, Frame.body_eq, List.mem_append, List.mem_cons, List.not_mem_nil, or_false] at hx
  rcases hx with (((((hx | hx) | hx) | rfl | rfl) | hx) | hx) | hx
  · exact bytesBE_lt hx
  · exact bytesBE_lt hx
  · exact bytesBE_lt hx
  · exact hflags
  · omega
  · exact hpay x hx
  · exact bytesBE_lt hx
  · exact bytesBE_lt hx

/-- Settles O31: the fields stand where the receiver looks for them, the complement is never the CRC, and every character of the line
reads back. -/
theorem sitilFramesReadBack : Obligations.SitilFramesReadBack := by
  intro f ok hnode hslot hver hcycle hage hlen hpay hbytes hcorr
  exact ⟨Frame.parse_bytes hpay ok hnode hslot hver hcycle hlen hcorr, Frame.crcOk_bytes hpay ok, Frame.length_bytes hpay ok,
    codedBytes_lineOf (Frame.bytes_lt ok hage hlen hbytes)⟩

end Sys2Proof.Machine
end

section
/-!
PROOFS. Rules of fields and frames: what a field, a truth value or a bit reads after a write beside it, how frames of registers compose,
and the answer of a command that runs in its domain.
-/
namespace Sys2Proof.Machine

/-! ### Fields of one register -/

/-- Two fields of one register that share no bit. -/
def Fld.apart (x y : Fld) : Bool := (x.lo + x.width).ble y.lo || (y.lo + y.width).ble x.lo

/-- A field keeps its value where another field of its register is written. -/
theorem State.f_set_apart (s : State) (x y : Fld) (v : Nat) (ha : y.addr = x.addr) (h : x.apart y = true) :
    (s.set x v).f y = s.f y := by
  refine s.f_set_beside x y v ha ?_
  rw [Fld.apart, Bool.or_eq_true] at h
  exact h.imp Nat.le_of_ble_eq_true Nat.le_of_ble_eq_true

theorem State.on_of_f {s t : State} {x : Fld} (h : t.f x = s.f x) : t.on x = s.on x := by rw [State.on, State.on, h]
theorem State.fI_of_f {s t : State} {x : Fld} (h : t.f x = s.f x) : t.fI x = s.fI x := by rw [State.fI, State.fI, h]
theorem State.fbit_of_f {s t : State} {x : Fld} (h : t.f x = s.f x) (k : Nat) : t.fbit x k = s.fbit x k := by
  rw [State.fbit, State.fbit, h]

theorem State.on_set_ne (s : State) (x y : Fld) (v : Nat) (h : y.addr ≠ x.addr) : (s.set x v).on y = s.on y :=
  State.on_of_f (s.f_set_ne x y v h)

theorem State.on_set_apart (s : State) (x y : Fld) (v : Nat) (ha : y.addr = x.addr) (h : x.apart y = true) :
    (s.set x v).on y = s.on y := State.on_of_f (s.f_set_apart x y v ha h)

theorem State.f_incWrap_same (s : State) (x : Fld) (h : x.lo + x.width ≤ 32) : (s.incWrap x).f x = (s.f x + 1) % 2 ^ x.width :=
  s.f_set_fits x _ h (Nat.mod_lt _ (Nat.two_pow_pos x.width))

theorem State.on_iff (s : State) (x : Fld) : s.on x = true ↔ s.f x = 1 := by rw [State.on, beq_iff_eq]

/-! ### Frames -/

section SameRegsBut
variable {l m : List Nat} {s t : State}

theorem SameRegsBut.mono (h : SameRegsBut l s t) (hlm : l ⊆ m) : SameRegsBut m s t := fun a ha => h a (fun hl => ha (hlm hl))

theorem SameRegsBut.f (h : SameRegsBut l s t) (x : Fld) (hx : x.addr ∉ l) : t.f x = s.f x := by rw [State.f, State.f, h _ hx]

theorem SameRegsBut.on (h : SameRegsBut l s t) (x : Fld) (hx : x.addr ∉ l) : t.on x = s.on x := State.on_of_f (h.f x hx)

theorem SameRegsBut.of_ite {c : Prop} [Decidable c] {u : State} (h : SameRegsBut l s t) (k : SameRegsBut l s u) :
    SameRegsBut l s (if c then t else u) := by
  split
  · exact h
  · exact k

theorem SameRegsBut.setWord_mem (h : SameRegsBut l s t) (a : Nat) (w : Word) (ha : a ∈ l) : SameRegsBut l s (t.setWord a w) :=
  fun b hb => (t.word_setWord_ne a b w (fun e => hb (e ▸ ha))).trans (h b hb)

theorem SameRegsBut.set_one (s : State) (x : Fld) (v : Nat) : SameRegsBut [x.addr] s (s.set x v) :=
  (SameRegsBut.refl _ s).set x v (List.mem_singleton_self _)

end SameRegsBut

/-! ### States that differ in registers only -/

section OnlyRegs
variable {s t u : State}

theorem OnlyRegs.of_eq {r : SMap Word} (h : t = { s with regs := r }) : OnlyRegs s t := by
  subst h
  rfl

theorem OnlyRegs.exists (h : OnlyRegs s t) : ∃ r, t = { s with regs := r } := ⟨t.regs, h⟩

theorem OnlyRegs.refl (s : State) : OnlyRegs s s := rfl

theorem OnlyRegs.trans (h : OnlyRegs s t) (k : OnlyRegs t u) : OnlyRegs s u := by
  obtain ⟨r, rfl⟩ := h.exists
  obtain ⟨q, rfl⟩ := k.exists
  rfl

theorem OnlyRegs.set (h : OnlyRegs s t) (x : Fld) (v : Nat) : OnlyRegs s (t.set x v) := by
  obtain ⟨r, rfl⟩ := h.exists
  rfl

theorem OnlyRegs.setWord (h : OnlyRegs s t) (a : Nat) (w : Word) : OnlyRegs s (t.setWord a w) := by
  obtain ⟨r, rfl⟩ := h.exists
  rfl

theorem OnlyRegs.of_ite {c : Prop} [Decidable c] (h : OnlyRegs s t) (k : OnlyRegs s u) : OnlyRegs s (if c then t else u) := by
  split
  · exact h
  · exact k

end OnlyRegs

/-! ### The answer of a command -/

/-- A run under its condition answers what it computes, where that has the queue, the part and the supply of before. -/
theorem State.runIf_to {s t : State} {d : Nat} {b : Bool} {f : State → State} (hd : s.dom d = true) (hb : b = true) (hf : f s = t)
    (hp : t.pending = s.pending) (hq : t.part = s.part) (hw : t.powered = s.powered) : s.runIf d b f = .next t := by
  rw [s.runIf_on d b f hd hb, hf, framed_self s t hp hq hw]

end Sys2Proof.Machine
end

section
/-!
PROOFS. Sensor events (R70, R71, R73): the stamp of a wheel-speed edge, and the burst of an encoder.
-/
namespace Sys2Proof.Machine

/-! ### Wheel-speed edges (R73) -/

/-- The period since the stamp before, where there is one. -/
def State.showPeriod (w : Nat) (edges : List Nat) (s : State) : State :=
  match edges with
  | [] => s
  | e :: _ => s.set (WS_PER_PERIOD w) ((s.tb - e) % 2 ^ 32)

theorem wsEdge_enabled {w : Nat} {s : State} (h : s.on (WS_CFG_EN w) = true) :
    wsEdge w s = ((s.incWrap (WS_EDGE_EDGES w)).showPeriod w (s.inp (0x70 + w)).edges).setInp (0x70 + w)
      { s.inp (0x70 + w) with edges := s.tb :: (s.inp (0x70 + w)).edges.take 63 } := by
  unfold wsEdge
  simp only [h, Bool.not_true, Bool.false_eq_true, if_false]
  cases (s.inp (0x70 + w)).edges <;> rfl

section ShowPeriod
variable (w : Nat) (edges : List Nat) (s : State)

theorem State.showPeriod_only : ∃ r, s.showPeriod w edges = { s with regs := r } := by
  cases edges <;> exact ⟨_, rfl⟩

theorem State.showPeriod_frame : SameRegsBut [WS_PER_A w] s (s.showPeriod w edges) := by
  cases edges
  · exact SameRegsBut.refl _ s
  · exact SameRegsBut.set_one s (WS_PER_PERIOD w) _

theorem State.showPeriod_cons (e : Nat) (rest : List Nat) : (s.showPeriod w (e :: rest)).f (WS_PER_PERIOD w) = (s.tb - e) % 2 ^ 32 :=
  s.f_set_fits (WS_PER_PERIOD w) _ (show 0 + 32 ≤ 32 by decide) (Nat.mod_lt _ (by decide))

end ShowPeriod

theorem wsEdge_ne_wsPer (w : Nat) : WS_EDGE_A w ≠ WS_PER_A w := by
  unfold WS_EDGE_A WS_PER_A
  omega

theorem exec_wsEdge_stamps (w : Fin 12) (s : State) (hd : s.dom 5 = true) (hen : s.on (WS_CFG_EN w) = true) :
    ∃ t, exec (.wsEdge w) s = .next t ∧ t.f (WS_EDGE_EDGES w) = (s.f (WS_EDGE_EDGES w) + 1) % 2 ^ (WS_EDGE_EDGES w).width ∧
      (t.inp (0x70 + w)).edges = s.tb :: (s.inp (0x70 + w)).edges.take 63 ∧
      (∀ e rest, (s.inp (0x70 + w)).edges = e :: rest → t.f (WS_PER_PERIOD w) = (s.tb - e) % 2 ^ 32) ∧
      SameRegsBut [WS_EDGE_A w, WS_PER_A w] s t := by
  obtain ⟨r, hr⟩ := State.showPeriod_only w (s.inp (0x70 + w)).edges (s.incWrap (WS_EDGE_EDGES w))
  have hper := State.showPeriod_frame w (s.inp (0x70 + w)).edges (s.incWrap (WS_EDGE_EDGES w))
  have hcount : SameRegsBut [WS_EDGE_A w] s (s.incWrap (WS_EDGE_EDGES w)) := SameRegsBut.set_one s (WS_EDGE_EDGES w) _
  refine ⟨_, State.runIn_to hd (wsEdge_enabled hen) (by rw [hr]; rfl) (by rw [hr]; rfl) (by rw [hr]; rfl), ?_, ?_, ?_, ?_⟩
  · rw [State.setInp_f, hper.f (WS_EDGE_EDGES w) (by simp [WS_EDGE_EDGES, wsEdge_ne_wsPer])]
    exact s.f_incWrap_same (WS_EDGE_EDGES w) (show 0 + 32 ≤ 32 by decide)
  · rw [State.setInp_inp_same]
  · intro e rest he
    rw [State.setInp_f, he]
    exact State.showPeriod_cons w _ e rest
  · exact ((hcount.mono (by simp)).trans (hper.mono (by simp))).of_regs rfl

/-! ### Encoder bursts (R70, R71) -/

/-- The burst of an enabled encoder is kept with what was wrong with it. -/
theorem ssiBurst_enabled {e : Nat} {s : State} (hb la : Bool) (bits : Nat) (p : Bool) (h : s.eOn (ENC_CFG_EN e) = true) :
    let n := s.e (ENC_CFG_BITS e)
    let raw := bits % 2 ^ n
    let ones := popCount n raw + b2n p
    let ok := if s.e (ENC_CFG_PARITY e) = 1 then decide (ones % 2 = 0)
      else if s.e (ENC_CFG_PARITY e) = 2 then decide (ones % 2 = 1) else true
    ssiBurst e hb la bits p s = s.setInp (0x68 + e) { s.inp (0x68 + e) with
      frame := some (if s.eOn (ENC_CFG_GRAY e) then grayDecode n raw else raw), badFrame := !(hb && la && ok) } := by
  unfold ssiBurst
  simp only [h, Bool.not_true, Bool.false_eq_true, if_false]
  rcases s.e (ENC_CFG_PARITY e) with _ | _ | _ | n <;> rfl

/-- Settles O6: the count, the stamp and the period of an edge, and the burst as the parity in force judges it. -/
theorem sensorEventsAreKept : Obligations.SensorEventsAreKept := by
  refine ⟨exec_wsEdge_stamps, fun e hb la bits p s hd hq hen => ?_⟩
  refine ⟨_, State.runIf_to hd (by rw [hq]; rfl) (ssiBurst_enabled hb la bits.toNat p hen) rfl rfl rfl, ?_, ?_, rfl⟩
  · rw [State.setInp_inp_same]
  · rw [State.setInp_inp_same]

end Sys2Proof.Machine
end

section
/-!
PROOFS. Feedback checks (R62, R66, R69, R74, R76-R78, R81): what makes an input invalid and what it then shows, the reports of sensor
faults, and channels that the input freeze finds late.
-/
namespace Sys2Proof.Machine

/-! ### Passes over a list of indices -/

/-- Where only the pass of index `k` changes what `view` shows, a pass over all indices changes it once. -/
theorem State.each_at {β : Type} (view : State → β) (g : β → β) {l : List Nat} {f : Nat → State → State} {k : Nat} (s : State)
    (hk : k ∈ l) (hnd : l.Nodup) (hne : ∀ i ∈ l, i ≠ k → ∀ t, view (f i t) = view t) (hat : ∀ t, view (f k t) = g (view t)) :
    view (s.each l f) = g (view s) := by
  have hrest : ∀ (l : List Nat) (s : State), (∀ i ∈ l, ∀ t, view (f i t) = view t) → view (s.each l f) = view s := fun l s h =>
    State.each_ind (fun t => view t = view s) s (fun i hi t ht => (h i hi t).trans ht) rfl
  induction l generalizing s with
  | nil => exact absurd hk List.not_mem_nil
  | cons a l ih =>
    obtain ⟨ha, hnd⟩ := List.nodup_cons.mp hnd
    have hstep : s.each (a :: l) f = (f a s).each l f := rfl
    rw [hstep]
    rcases List.mem_cons.mp hk with rfl | hk
    · rw [hrest l _ fun i hi => hne i (List.mem_cons_of_mem _ hi) (fun e => ha (e ▸ hi)), hat]
    · have hak : a ≠ k := fun e => ha (e ▸ hk)
      rw [ih (f a s) hk hnd fun i hi => hne i (List.mem_cons_of_mem _ hi), hne a (List.mem_cons_self ..) hak]

/-- A pass that no index changes leaves the state. -/
theorem State.each_id {l : List Nat} {f : Nat → State → State} {s : State} (h : ∀ i ∈ l, f i s = s) : s.each l f = s :=
  State.each_ind (fun t => t = s) s (fun i hi _ ht => ht ▸ h i hi) rfl

/-! ### The invalid mark (R81) -/

/-- The mark and the cause of an input stand in one register, in bits 31 and 30 to 28. -/
theorem inpMark_place (k : Nat) : ∃ a, inpInvalidF k = ⟨a, 31, 1⟩ ∧ inpCauseF k = ⟨a, 28, 3⟩ := by
  unfold inpInvalidF inpCauseF
  split_ifs <;> exact ⟨_, rfl, rfl⟩

theorem chVal_ne_inpMark {k : Nat} (j : Nat) (hk : k < 0x60) : (inpInvalidF k).addr ≠ CH_VAL_A j := by
  rw [inpInvalidF, if_pos hk]
  simp only [CH_STAT_INVALID, CH_STAT_A, CH_VAL_A]
  omega

/-- The register of an input's mark. -/
def inpStatA (k : Nat) : Nat := (inpInvalidF k).addr

/-- The mark and its cause, as an input shows them from now on. -/
def State.markInvalid (s : State) (k c : Nat) : State := (s.setB (inpInvalidF k) true).set (inpCauseF k) c

theorem State.makeInvalid_of_invalid {s : State} {k : Nat} (c : Nat) (h : s.on (inpInvalidF k) = true) : s.makeInvalid k c = s := if_pos h

theorem State.makeInvalid_of_valid {s : State} {k : Nat} (c : Nat) (h : s.on (inpInvalidF k) = false) :
    s.makeInvalid k c = if k < 0x60 then (s.markInvalid k c).setB (CH_VAL_VALID k) false else s.markInvalid k c := by
  simp only [State.makeInvalid, h, Bool.false_eq_true, if_false, State.markInvalid]

theorem State.makeInvalid_only (s : State) (k c : Nat) : ∃ r, s.makeInvalid k c = { s with regs := r } := by
  cases h : s.on (inpInvalidF k) with
  | true => exact ⟨s.regs, by rw [s.makeInvalid_of_invalid c h]⟩
  | false =>
    rw [s.makeInvalid_of_valid c h]
    split <;> exact ⟨_, rfl⟩

section MakeInvalid
variable (s : State) (k c : Nat)

theorem State.markInvalid_on : (s.markInvalid k c).on (inpInvalidF k) = true := by
  obtain ⟨a, hi, hc⟩ := inpMark_place k
  rw [State.markInvalid, hi, hc, State.on_set_apart _ ⟨a, 28, 3⟩ ⟨a, 31, 1⟩ c rfl rfl]
  exact s.on_setB_same ⟨a, 31, 1⟩ true (show 31 + 1 ≤ 32 by decide) rfl

theorem State.markInvalid_cause : (s.markInvalid k c).f (inpCauseF k) = c % 2 ^ (inpCauseF k).width := by
  obtain ⟨a, hi, hc⟩ := inpMark_place k
  rw [State.markInvalid, hi, hc]
  exact State.f_set_same _ ⟨a, 28, 3⟩ c (show 28 + 3 ≤ 32 by decide)

/-- What a channel shows beside CH_STAT, its VALID, moves neither mark nor cause. -/
theorem State.makeInvalid_f_mark {x : Fld} (h : s.on (inpInvalidF k) = false) (hx : x.addr = inpStatA k) :
    (s.makeInvalid k c).f x = (s.markInvalid k c).f x := by
  rw [s.makeInvalid_of_valid c h]
  split
  · next hk => exact State.f_set_ne _ (CH_VAL_VALID k) x _ (by rw [hx]; exact chVal_ne_inpMark k hk)
  · rfl

theorem inpCause_addr : (inpCauseF k).addr = inpStatA k := by
  obtain ⟨a, hi, hc⟩ := inpMark_place k
  rw [inpStatA, hi, hc]

theorem State.makeInvalid_on : (s.makeInvalid k c).on (inpInvalidF k) = true := by
  cases h : s.on (inpInvalidF k) with
  | true => rw [s.makeInvalid_of_invalid c h, h]
  | false => exact (State.on_of_f (s.makeInvalid_f_mark k c h rfl)).trans (s.markInvalid_on k c)

theorem State.makeInvalid_cause (h : s.on (inpInvalidF k) = false) :
    (s.makeInvalid k c).f (inpCauseF k) = c % 2 ^ (inpCauseF k).width :=
  (s.makeInvalid_f_mark k c h (inpCause_addr k)).trans (s.markInvalid_cause k c)

/-- The first cause stays. -/
theorem State.makeInvalid_twice (c' : Nat) : (s.makeInvalid k c).makeInvalid k c' = s.makeInvalid k c :=
  State.makeInvalid_of_invalid c' (s.makeInvalid_on k c)

theorem State.makeInvalid_frame : SameRegsBut [inpStatA k, CH_VAL_A k] s (s.makeInvalid k c) := by
  have hmark : SameRegsBut [inpStatA k, CH_VAL_A k] s (s.markInvalid k c) :=
    ((SameRegsBut.refl _ s).set _ _ (List.mem_cons_self ..)).set _ _ (by rw [inpCause_addr]; exact List.mem_cons_self ..)
  cases h : s.on (inpInvalidF k) with
  | true => rw [s.makeInvalid_of_invalid c h]; exact SameRegsBut.refl _ s
  | false =>
    rw [s.makeInvalid_of_valid c h]
    exact (hmark.set (CH_VAL_VALID k) _ (List.mem_cons_of_mem _ (List.mem_cons_self ..))).of_ite hmark

@[simp] theorem State.makeInvalid_inp (j : Nat) : (s.makeInvalid k c).inp j = s.inp j := by
  obtain ⟨r, e⟩ := s.makeInvalid_only k c
  rw [e]
  rfl
@[simp] theorem State.makeInvalid_pending : (s.makeInvalid k c).pending = s.pending := by
  obtain ⟨r, e⟩ := s.makeInvalid_only k c
  rw [e]
@[simp] theorem State.makeInvalid_part : (s.makeInvalid k c).part = s.part := by
  obtain ⟨r, e⟩ := s.makeInvalid_only k c
  rw [e]
@[simp] theorem State.makeInvalid_powered : (s.makeInvalid k c).powered = s.powered := by
  obtain ⟨r, e⟩ := s.makeInvalid_only k c
  rw [e]

end MakeInvalid

/-! ### Reports of sensor faults -/

theorem exec_resExcitationFault {r : Fin 8} {s : State} (hd : s.dom 5 = true) (hq : s.quiet = false)
    (hen : s.on (RES_CFG_EN r) = true) (hc : (s.inp (0x60 + r)).pendCause = 0) :
    exec (.resExcitationFault r) s =
      .next ((s.setInp (0x60 + r) { s.inp (0x60 + r) with pendCause := 2 }).raiseU (0x260 + r)) := by
  have hrun : resExcFault r s = (s.setInp (0x60 + r) { s.inp (0x60 + r) with pendCause := 2 }).raiseU (0x260 + r) := by
    simp [resExcFault, hen, hc]
  exact State.runIf_to hd (by rw [hq]; rfl) hrun rfl rfl rfl

section WheelSpeed
variable {w : Fin 12} {s : State} (hd : s.dom 5 = true) (hen : s.on (WS_CFG_EN w) = true)
include hd hen

theorem exec_wsOpen (hc : (s.inp (0x70 + w)).pendCause = 0) :
    exec (.wsOpen w) s = .next ((s.setInp (0x70 + w) { s.inp (0x70 + w) with pendCause := 1 }).raiseU (0x270 + w)) := by
  have hrun : wsOpen w s = (s.setInp (0x70 + w) { s.inp (0x70 + w) with pendCause := 1 }).raiseU (0x270 + w) := by
    simp [wsOpen, hen, hc]
  exact State.runIn_to hd hrun rfl rfl rfl

theorem exec_wsShort (hc : (s.inp (0x70 + w)).pendCause = 0) :
    exec (.wsShort w) s =
      .next (((s.setInp (0x70 + w) { s.inp (0x70 + w) with pendCause := 2 }).setB (WS_STAT_SUP_OFF w) true).raiseU (0x270 + w)) := by
  have hrun : wsShort w s =
      ((s.setInp (0x70 + w) { s.inp (0x70 + w) with pendCause := 2 }).setB (WS_STAT_SUP_OFF w) true).raiseU (0x270 + w) := by
    simp [wsShort, hen, hc]
  exact State.runIn_to hd hrun rfl rfl rfl

/-- An open input that shorts loses its supply and keeps its cause. -/
theorem exec_wsShort_open (hc : (s.inp (0x70 + w)).pendCause = 1) (hsup : s.on (WS_STAT_SUP_OFF w) = false) :
    exec (.wsShort w) s =
      .next (((s.setInp (0x70 + w) { s.inp (0x70 + w) with pendCause := 1 }).setB (WS_STAT_SUP_OFF w) true).raiseU (0x270 + w)) := by
  have hrun : wsShort w s =
      ((s.setInp (0x70 + w) { s.inp (0x70 + w) with pendCause := 1 }).setB (WS_STAT_SUP_OFF w) true).raiseU (0x270 + w) := by
    simp [wsShort, hen, hc, hsup]
  exact State.runIn_to hd hrun rfl rfl rfl

end WheelSpeed

/-! ### Range, freeze, cross-lane, lost sense -/

section Checks
variable {s : State} (hd : s.dom 5 = true) (hq : s.quiet = false)
include hd hq

theorem exec_chRange {k : Fin 96} (hk : 48 ≤ k.val) (hen : s.eOn (CH_CFG_EN k) = true) (hrun : s.e (CH_CFG_RANGE_N k) ≤ (s.inp k).run)
    (hval : s.on (CH_STAT_INVALID k) = false) : exec (.chRange k) s = .next ((s.makeInvalid k 1).raiseU (0x200 + k)) := by
  have hcheck : chRange k s = (s.makeInvalid k 1).raiseU (0x200 + k) := by simp [chRange, hen, hrun, hval]
  exact State.runIf_to hd (by simp [hq, hk]) hcheck (by simp) (by simp) (by simp)

theorem exec_fbFreeze {k : Fin 124} (hfrz : s.frozen k = true) (hval : s.on (inpInvalidF k) = false) :
    exec (.fbFreeze k) s = .next ((s.makeInvalid k (if k.val < 0x60 then 2 else 3)).raise 0x27E k) := by
  have hcheck : fbFreeze k s = (s.makeInvalid k (if k.val < 0x60 then 2 else 3)).raise 0x27E k := by simp [fbFreeze, hfrz, hval]
  exact State.runIf_to hd (by rw [hq]; rfl) hcheck (by simp) (by simp) (by simp)

theorem exec_fbXchk {k : Fin 124} (hn : s.xlN k ≤ s.f (inpXlF k)) (hpos : 0 < s.f (inpXlF k)) (hsaid : (s.inp k).xlRaised = false)
    (hthree : (s.votedOf k).three = true) :
    exec (.fbXchk k) s =
      .next (((s.setInp k { s.inp k with xlRaised := true }).raise 0x27F k).makeInvalid k (if k.val < 0x60 then 3 else 4)) := by
  have hvoted : (((s.setInp k { s.inp k with xlRaised := true }).raise 0x27F k).votedOf k).three = true := hthree
  have hcheck : fbXchk k s =
      ((s.setInp k { s.inp k with xlRaised := true }).raise 0x27F k).makeInvalid k (if k.val < 0x60 then 3 else 4) := by
    simp only [fbXchk, hn, hpos, and_self, if_true, hsaid, Bool.not_false, State.when, hvoted]
  exact State.runIf_to hd (by rw [hq]; rfl) hcheck (by simp) (by simp) (by simp)

theorem exec_senseLost {h : Fin 48} (hen : s.eOn (CH_CFG_EN h) = true) (hrun : s.e (CH_CFG_RANGE_N h) ≤ (s.inp h).run)
    (hsaid : (s.inp h).rangeSaid = false) :
    exec (.senseLost h) s = .next (framed s (senseReport (h / 3)
      (((s.setInp h { s.inp h with rangeSaid := true }).makeInvalid h 1).raiseU (0x200 + h)))) := by
  have hcheck : senseLost h s = senseReport (h / 3)
      (((s.setInp h { s.inp h with rangeSaid := true }).makeInvalid h 1).raiseU (0x200 + h)) := by
    simp [senseLost, hen, hrun, hsaid]
  have hexec : exec (.senseLost h) s = s.runIf 5 (!s.quiet) (senseLost h) := rfl
  rw [hexec, s.runIf_on 5 _ _ hd (by rw [hq]; rfl), hcheck]

theorem exec_inputFreezeEnd (late : List (Fin 96)) :
    exec (.inputFreezeEnd late) s = .next (framed s (freezeEnd (s.lateOf late) s)) :=
  s.runIf_on 5 (!s.quiet) (fun s => freezeEnd (s.lateOf late) s) hd (by rw [hq]; rfl)

end Checks

/-! ### Late channels (R62) -/

/-- What a block reads as configuration is decided by its register and by what a COMMIT has put aside for this tick. -/
theorem State.e_congr {s t : State} (x : Fld) (ho : t.engOld = s.engOld) (hw : t.word x.addr = s.word x.addr) : t.e x = s.e x := by
  rw [State.e, State.e, ho, hw]

theorem State.eOn_congr {s t : State} (x : Fld) (ho : t.engOld = s.engOld) (hw : t.word x.addr = s.word x.addr) :
    t.eOn x = s.eOn x := by rw [State.eOn, State.eOn, State.e_congr x ho hw]

/-- The code and the value of before, not VALID. -/
def showBefore (k : Nat) (s : State) : State :=
  ((s.set (CH_RAW_RAW k) (s.inp k).prevRaw).set (CH_VAL_VALUE k) (s.inp k).prevVal).setB (CH_VAL_VALID k) false

/-- What the snapshot has counted and marked in CH_STAT is taken back. -/
def takeBackMarks (k : Nat) (i : InpSt) (s : State) : State :=
  let t := s.set (CH_STAT_FRZ_CNT k) (i.prevFrz.foldl (fun m p => max m p.2.1) 0)
  if i.satNew then t.setB (CH_STAT_SAT k) false else t

/-- An input late once more, with the counts of before. -/
def InpSt.again (i : InpSt) : InpSt :=
  { i with stale := true, late := i.late + 1, run := i.prevRun, frz := i.prevFrz, satNew := false, rangeSaid := i.prevSaid }

/-- The channel as it was before the snapshot. -/
def lateBase (k : Nat) (s : State) : State :=
  ((takeBackMarks k (s.inp k) (showBefore k s)).setInp k (s.inp k).again).inc SNAP_STAT_LATE_CNT

/-- The third late tick in a row makes a channel in use invalid with cause LATE. -/
theorem lateCh_eq (k : Nat) (s : State) : lateCh k s =
    if 3 ≤ (s.inp k).late + 1 ∧ (lateBase k s).eOn (CH_CFG_EN k) then (lateBase k s).makeInvalid k 5 else lateBase k s := rfl

theorem chVal_addresses (k : Nat) : CH_VAL_A k ≠ CH_STAT_A k ∧ CH_VAL_A k ≠ SNAP_STAT_A ∧ CH_VAL_A k ≠ CH_RAW_A k := by
  unfold CH_VAL_A CH_STAT_A SNAP_STAT_A CH_RAW_A
  omega

theorem chCfg_addresses (k : Nat) : CH_CFG_A k ∉ [CH_RAW_A k, CH_VAL_A k, CH_STAT_A k, SNAP_STAT_A] := by
  simp only [List.mem_cons, List.not_mem_nil, or_false, CH_CFG_A, CH_VAL_A, CH_STAT_A, SNAP_STAT_A, CH_RAW_A]
  omega

section Late
variable (k : Nat) (s : State)

theorem takeBackMarks_frame (i : InpSt) : SameRegsBut [CH_STAT_A k] s (takeBackMarks k i s) := by
  have hcount := SameRegsBut.set_one s (CH_STAT_FRZ_CNT k) (i.prevFrz.foldl (fun m p => max m p.2.1) 0)
  exact (hcount.set (CH_STAT_SAT k) _ (List.mem_singleton_self _)).of_ite hcount

theorem takeBackMarks_onlyRegs (i : InpSt) : OnlyRegs s (takeBackMarks k i s) := by
  have hcount := (OnlyRegs.refl s).set (CH_STAT_FRZ_CNT k) (i.prevFrz.foldl (fun m p => max m p.2.1) 0)
  exact (hcount.set (CH_STAT_SAT k) _).of_ite hcount

/-- Only registers and the input itself move. -/
theorem lateBase_only : ∃ r, lateBase k s = ({ s with regs := r }).setInp k (s.inp k).again := by
  have hshow : OnlyRegs s (showBefore k s) := (((OnlyRegs.refl s).set _ _).set _ _).set _ _
  obtain ⟨r, e⟩ := (hshow.trans (takeBackMarks_onlyRegs k _ (s.inp k))).exists
  rw [lateBase, e]
  generalize (s.inp k).again = i
  exact ⟨_, rfl⟩

theorem lateBase_frame : SameRegsBut [CH_RAW_A k, CH_VAL_A k, CH_STAT_A k, SNAP_STAT_A] s (lateBase k s) := by
  have hshow : SameRegsBut [CH_RAW_A k, CH_VAL_A k, CH_STAT_A k, SNAP_STAT_A] s (showBefore k s) :=
    (((SameRegsBut.refl _ s).set (CH_RAW_RAW k) _ (by simp [CH_RAW_RAW])).set (CH_VAL_VALUE k) _ (by simp [CH_VAL_VALUE])).set
      (CH_VAL_VALID k) _ (by simp [CH_VAL_VALID])
  have hmarks := hshow.trans ((takeBackMarks_frame k (showBefore k s) (s.inp k)).mono (by simp))
  exact (hmarks.of_regs rfl).set SNAP_STAT_LATE_CNT _ (by simp [SNAP_STAT_LATE_CNT])

/-- CH_VAL shows the value of before. -/
theorem lateBase_f_val {x : Fld} (hx : x.addr = CH_VAL_A k) : (lateBase k s).f x = (showBefore k s).f x := by
  obtain ⟨hstat, hsnap, _⟩ := chVal_addresses k
  rw [lateBase, State.inc_eq, State.f_set_ne _ SNAP_STAT_LATE_CNT x _ (by rw [hx]; exact hsnap), State.setInp_f]
  exact (takeBackMarks_frame k _ _).f x (by rw [hx]; simpa using hstat)

theorem lateBase_value : (lateBase k s).f (CH_VAL_VALUE k) = (s.inp k).prevVal % 2 ^ 24 := by
  rw [lateBase_f_val k s rfl, showBefore, State.setB_eq, State.f_set_apart _ (CH_VAL_VALID k) (CH_VAL_VALUE k) _ rfl rfl]
  exact State.f_set_same _ (CH_VAL_VALUE k) _ (show 0 + 24 ≤ 32 by decide)

theorem lateBase_not_valid : (lateBase k s).on (CH_VAL_VALID k) = false :=
  (State.on_of_f (lateBase_f_val k s rfl)).trans (State.on_setB_same _ (CH_VAL_VALID k) false (show 31 + 1 ≤ 32 by decide) rfl)

theorem lateBase_inp (j : Nat) : (lateBase k s).inp j = if j = k then (s.inp k).again else s.inp j := by
  obtain ⟨r, e⟩ := lateBase_only k s
  rw [e, State.setInp_inp]
  rfl

theorem lateBase_eOn : (lateBase k s).eOn (CH_CFG_EN k) = s.eOn (CH_CFG_EN k) := by
  refine State.eOn_congr _ ?_ (lateBase_frame k s _ (chCfg_addresses k))
  obtain ⟨r, e⟩ := lateBase_only k s
  rw [e]
  rfl

end Late

/-- Being marked takes VALID of a channel, and nothing else of CH_VAL. -/
theorem State.makeInvalid_value (s : State) {k : Nat} (c : Nat) (hk : k < 0x60) :
    (s.makeInvalid k c).f (CH_VAL_VALUE k) = s.f (CH_VAL_VALUE k) := by
  have hne : (CH_VAL_VALUE k).addr ≠ inpStatA k := (chVal_ne_inpMark k hk).symm
  have hmark : (s.markInvalid k c).f (CH_VAL_VALUE k) = s.f (CH_VAL_VALUE k) := by
    rw [State.markInvalid, State.f_set_ne _ _ _ c (by rw [inpCause_addr]; exact hne), State.setB_eq, State.f_set_ne _ _ _ _ hne]
  cases h : s.on (inpInvalidF k) with
  | true => rw [s.makeInvalid_of_invalid c h]
  | false =>
    rw [s.makeInvalid_of_valid c h, if_pos hk, State.setB_eq, State.f_set_apart _ (CH_VAL_VALID k) (CH_VAL_VALUE k) _ rfl rfl, hmark]

theorem State.makeInvalid_not_valid (s : State) {k : Nat} (c : Nat) (hk : k < 0x60)
    (h : s.on (inpInvalidF k) = false ∨ s.on (CH_VAL_VALID k) = false) : (s.makeInvalid k c).on (CH_VAL_VALID k) = false := by
  cases hinv : s.on (inpInvalidF k) with
  | true =>
    rw [s.makeInvalid_of_invalid c hinv]
    exact h.resolve_left (by simp [hinv])
  | false =>
    rw [s.makeInvalid_of_valid c hinv, if_pos hk]
    exact State.on_setB_same _ (CH_VAL_VALID k) false (show 31 + 1 ≤ 32 by decide) rfl

section LateCh
variable {k : Nat} (s : State)

/-- A late channel shows the value before, not VALID, and counts; in its third late tick it is invalid (R62). -/
theorem lateCh_shows (hk : k < 0x60) : (lateCh k s).f (CH_VAL_VALUE k) = (s.inp k).prevVal % 2 ^ 24 ∧
    (lateCh k s).on (CH_VAL_VALID k) = false ∧ (lateCh k s).inp k = (s.inp k).again := by
  have hinp : (lateBase k s).inp k = (s.inp k).again := by rw [lateBase_inp, if_pos rfl]
  rw [lateCh_eq]
  split
  · rw [State.makeInvalid_value _ 5 hk, State.makeInvalid_inp]
    exact ⟨lateBase_value k s, State.makeInvalid_not_valid _ 5 hk (Or.inr (lateBase_not_valid k s)), hinp⟩
  · exact ⟨lateBase_value k s, lateBase_not_valid k s, hinp⟩

theorem lateCh_third (hk : k < 0x60) (hlate : (s.inp k).late = 2) (hen : s.eOn (CH_CFG_EN k) = true) :
    (lateCh k s).on (CH_STAT_INVALID k) = true := by
  have hf : CH_STAT_INVALID k = inpInvalidF k := (if_pos hk).symm
  rw [lateCh_eq, lateBase_eOn, if_pos ⟨by omega, hen⟩, hf]
  exact State.makeInvalid_on _ k 5

theorem lateCh_frame (k : Nat) (hk : k < 0x60) :
    SameRegsBut [CH_RAW_A k, CH_VAL_A k, CH_STAT_A k, SNAP_STAT_A] s (lateCh k s) := by
  have hbase := lateBase_frame k s
  have hstat : inpStatA k = CH_STAT_A k := by rw [inpStatA, inpInvalidF, if_pos hk]; rfl
  rw [lateCh_eq]
  exact (hbase.trans ((State.makeInvalid_frame _ k 5).mono (by rw [hstat]; simp))).of_ite hbase

theorem lateCh_inp (k j : Nat) : (lateCh k s).inp j = if j = k then (s.inp k).again else s.inp j := by
  rw [lateCh_eq]
  split
  · rw [State.makeInvalid_inp, lateBase_inp]
  · exact lateBase_inp k s j

end LateCh

/-! ### Nothing late -/

theorem lateSet_nil (u : Nat) (s : State) : lateSet [] u s = s := by simp [lateSet]

theorem lateBus_nil (k : Nat) (s : State) : lateBus [] k s = s := by simp [lateBus, State.when]

/-- Where every channel was converted, was not late before, and no cross-check waits, the end of the input freeze changes nothing. -/
theorem freezeEnd_nil {s : State} (hlate : ∀ k, k < 96 → (s.inp k).late = 0) (hx : s.afe.xpend = none) : freezeEnd [] s = s := by
  have hch : s.each (List.range 96) (fun k t =>
      if [].contains k then lateCh k t else if (t.inp k).late = 0 then t else t.setInp k { t.inp k with late := 0 }) = s :=
    State.each_id fun k hk => by
      have h0 := hlate k (List.mem_range.mp hk)
      simp [h0]
  have hset : s.each (List.range 16) (lateSet []) = s := State.each_id fun u _ => lateSet_nil u s
  have hjudge : xchkJudge [] s = s := by rw [xchkJudge, hx]
  have hbus : s.each (List.range 4) (lateBus []) = s := State.each_id fun k _ => lateBus_nil k s
  simp only [freezeEnd, hch, hset, hjudge, hbus, List.any_nil, Bool.false_eq_true, if_false]

/-- Settles O7: each clause is the law of its command or of the mark above. -/
theorem faultyInputsBecomeInvalid : Obligations.FaultyInputsBecomeInvalid := by
  refine ⟨fun r s => exec_resExcitationFault, fun w s hd hen hc => ⟨exec_wsOpen hd hen hc, exec_wsShort hd hen hc⟩,
    fun w s => exec_wsShort_open, fun k s hd hq => exec_chRange hd hq, fun k s hd hq => exec_fbFreeze hd hq,
    fun k s hd hq => exec_fbXchk hd hq, fun h s hd hq => exec_senseLost hd hq,
    fun s k c c' _ _ => ⟨s.makeInvalid_on k c, s.makeInvalid_twice k c c', s.makeInvalid_cause k c⟩, fun late s hd hq => ⟨?_, ?_, ?_⟩,
    fun k s hk hval => ?_, fun s => freezeEnd_nil⟩
  · exact exec_inputFreezeEnd hd hq late
  · exact fun h => by simp [State.lateOf, h]
  · exact fun h => by simp [State.lateOf, h]
  · obtain ⟨hvalue, hvalid, hinp⟩ := lateCh_shows s hk
    rw [Nat.mod_eq_of_lt hval] at hvalue
    exact ⟨hvalue, hvalid, by rw [hinp]; rfl, lateCh_third s hk⟩

end Sys2Proof.Machine
end

section
/-!
PROOFS. The gates of a half-bridge (R125, R199-R206, R213): what request lines, dead time and lockout do, and that no command of the
request path turns both gates on.
-/
namespace Sys2Proof.Machine

/-- A field that lies in its register. -/
theorem Fld.fits {x : Fld} (h : (x.lo + x.width).ble 32 = true) : x.lo + x.width ≤ 32 := Nat.le_of_ble_eq_true h

/-! ### Records written twice -/

theorem smErase_smErase {α : Type} (m : SMap α) (k : Nat) : smErase (smErase m k) k = smErase m k := by
  simp [smErase, List.filter_filter]

theorem smErase_smIns {α : Type} (m : SMap α) (k : Nat) (v : α) : smErase (smIns k v m) k = smErase m k := by
  induction m with
  | nil => simp [smIns, smErase]
  | cons p m ih =>
    obtain ⟨a, w⟩ := p
    rw [smIns]
    split
    · simp [smErase]
    · unfold smErase at ih ⊢
      rw [List.filter_cons, List.filter_cons, ih]

/-- Of two writes of one key the last counts. -/
theorem smPut_smPut {α : Type} [DecidableEq α] (d : Nat → α) (m : SMap α) (k : Nat) (v w : α) :
    smPut d (smPut d m k v) k w = smPut d m k w := by
  have herase : smErase (smPut d m k v) k = smErase m k := by
    rw [smPut]
    split
    · exact smErase_smErase m k
    · rw [smErase_smIns, smErase_smErase]
  rw [smPut, herase, smPut]

@[simp] theorem State.setHb_setHb (s : State) (h : Nat) (a b : HbSt) : (s.setHb h a).setHb h b = s.setHb h b := by
  simp only [State.setHb, smPut_smPut]

/-! ### Request lines -/

/-- The record of a half-bridge whose command is given (R199). -/
def State.commanded (s : State) (h cmd : Nat) : HbSt :=
  { s.hb h with hiReq := cmd == 2, loReq := cmd == 1, blkHi := cmd == 2 && ((s.hb h).blkHi || s.on (HB_STAT_BOOT_BLOCK h)) }

theorem driveHb_eq (h cmd : Nat) (s : State) : driveHb h cmd s = gateStep h (s.setHb h (s.commanded h cmd)) := rfl

/-- A command writes the half-bridge's record only; the gates of a latched group stay, those of another are not both on, and only the
gate asked for is. -/
theorem driveHb_only (h cmd : Nat) (s : State) : ∃ b, driveHb h cmd s = s.setHb h b ∧ b.minRun = (s.hb h).minRun ∧
    (s.groupState (h / 6) = 4 → b.gh = (s.hb h).gh ∧ b.gl = (s.hb h).gl) ∧
    (s.groupState (h / 6) ≠ 4 → (b.gh && b.gl) = false ∧ (cmd ≠ 2 → b.gh = false) ∧ (cmd ≠ 1 → b.gl = false)) := by
  rw [driveHb_eq]
  by_cases hst : s.groupState (h / 6) = 4
  · exact ⟨_, gateStep_latched h _ hst, rfl, fun _ => ⟨rfl, rfl⟩, fun hne => absurd hst hne⟩
  · obtain ⟨b, hb, hone, hrun, _, _, hhi, hlo⟩ := gateStep_only h (s.setHb h (s.commanded h cmd)) hst
    rw [State.setHb_hb_same] at hrun hhi hlo
    refine ⟨b, by rw [hb, State.setHb_setHb], hrun, fun heq => absurd heq hst, fun _ => ⟨hone, fun hc => hhi ?_, fun hc => hlo ?_⟩⟩
    · simp [State.commanded, hc]
    · simp [State.commanded, hc]

/-- A group that drives is not latched. -/
theorem State.not_latched_of_free {s : State} {h : Nat} (hfree : s.gateFree h = true) : s.groupState (h / 6) ≠ 4 := by
  simp only [State.gateFree, Bool.and_eq_true, beq_iff_eq] at hfree
  omega

/-- The high gate turns on where nothing keeps it off (R205). -/
theorem gateStep_high {h : Nat} {s : State} (hfree : s.gateFree h = true) (hlock : s.on (HB_STAT_LOCKOUT h) = false)
    (hboot : s.on (HB_STAT_BOOT_BLOCK h) = false) (hblk : (s.hb h).blkHi = false) (hhi : (s.hb h).hiReq = true)
    (hlo : (s.hb h).loReq = false) (hgl : (s.hb h).gl = false) (hdt : (s.hb h).dtL = false) :
    ∃ b, gateStep h s = s.setHb h b ∧ b.gh = true ∧ b.gl = false := by
  unfold gateStep
  rw [if_neg (State.not_latched_of_free hfree)]
  extract_lets b b1 b2
  have h1 : b1 = b := if_neg (by simp [b, hhi, hlo])
  have h2 : b2 = b := by simp [b2, h1, b, hgl]
  simp only [h2, b, hfree, hlock, hboot, hblk, hhi, hlo, hdt]
  cases hgh : (s.hb h).gh
  · exact ⟨_, rfl, rfl, hgl⟩
  · exact ⟨_, rfl, hgh, hgl⟩

/-- So does the low gate. -/
theorem gateStep_low {h : Nat} {s : State} (hfree : s.gateFree h = true) (hlock : s.on (HB_STAT_LOCKOUT h) = false)
    (hlo : (s.hb h).loReq = true) (hhi : (s.hb h).hiReq = false) (hgh : (s.hb h).gh = false) (hdt : (s.hb h).dtH = false) :
    ∃ b, gateStep h s = s.setHb h b ∧ b.gl = true ∧ b.gh = false := by
  unfold gateStep
  rw [if_neg (State.not_latched_of_free hfree)]
  extract_lets b b1 b2
  have h1 : b1 = b := by simp [b1, b, hgh]
  have h2 : b2 = b := by simp [b2, h1, b, hhi, hlo]
  simp only [h2, b, hfree, hlock, hhi, hlo, hdt]
  cases hgl : (s.hb h).gl
  · exact ⟨_, rfl, rfl, hgh⟩
  · exact ⟨_, rfl, hgl, hgh⟩

/-! ### Lockout and dead time (R205, R206) -/

/-- The record of a half-bridge in a shoot-through lockout: both gates off. -/
def State.lockedOut (s : State) (h : Nat) : HbSt :=
  { s.hb h with
    hiReq := true, loReq := true, gh := false, gl := false, dtH := true, dtL := true
    outH := if (s.hb h).gh then s.edgeDrive h 1 else (s.hb h).outH, outL := if (s.hb h).gl then s.edgeDrive h 3 else (s.hb h).outL
    armH := false, armL := false }

theorem shootThrough_latched {h : Nat} {s : State} (hst : s.groupState (h / 6) = 4) : shootThrough h s = s := if_pos hst

theorem shootThrough_again {h : Nat} {s : State} (hst : s.groupState (h / 6) ≠ 4) (hlock : s.on (HB_STAT_LOCKOUT h) = true) :
    shootThrough h s = s.setHb h (s.lockedOut h) := by
  rw [shootThrough, if_neg hst, if_pos hlock]
  rfl

theorem shootThrough_first {h : Nat} {s : State} (hst : s.groupState (h / 6) ≠ 4) (hlock : s.on (HB_STAT_LOCKOUT h) = false) :
    shootThrough h s =
      (((s.setHb h (s.lockedOut h)).setB (HB_STAT_LOCKOUT h) true).inc (HB_CNT_SHOOT h)).raiseU (hbSrc h 3) := by
  rw [shootThrough, if_neg hst, if_neg (by simp [hlock])]
  rfl

theorem hbCnt_ne_hbStat (h : Nat) : HB_CNT_A h ≠ HB_STAT_A h := by
  unfold HB_CNT_A HB_STAT_A
  omega

/-- The end of dead time in a lockout ends it: the lines take the levels of the loop, the gates stay off, and dead time counts anew. -/
theorem deadTimeEnd_lockout {h : Nat} {s : State} (high : Bool) (hlock : s.on (HB_STAT_LOCKOUT h) = true) : ∃ b,
    deadTimeEnd h high s = (s.setB (HB_STAT_LOCKOUT h) false).setHb h b ∧
      b.gh = (s.hb h).gh ∧ b.gl = (s.hb h).gl ∧ b.dtH = true ∧ b.dtL = true := by
  rw [deadTimeEnd, if_pos hlock]
  exact ⟨_, rfl, rfl, rfl, rfl, rfl⟩

theorem deadTimeEnd_gate {h : Nat} {s : State} (high : Bool) (hlock : s.on (HB_STAT_LOCKOUT h) = false) :
    deadTimeEnd h high s =
      gateStep h (s.setHb h (if high then { s.hb h with dtH := false } else { s.hb h with dtL := false })) :=
  if_neg (by simp [hlock])

/-! ### At most one gate on -/

/-- No half-bridge has both gates on. -/
def OneGateOff (s : State) : Prop := ∀ h, ((s.hb h).gh && (s.hb h).gl) = false

section OneGateOff
variable {s t : State} (hs : OneGateOff s)
include hs

theorem OneGateOff.of_hb (h : ∀ k, t.hb k = s.hb k) : OneGateOff t := fun k => by rw [h k]; exact hs k

theorem OneGateOff.of_hbs (h : t.hbs = s.hbs) : OneGateOff t := hs.of_hb fun k => by rw [State.hb, State.hb, h]

theorem OneGateOff.setHb (h : Nat) (b : HbSt) (hb : (b.gh && b.gl) = false) : OneGateOff (s.setHb h b) := fun k => by
  rw [State.setHb_hb]
  split
  · exact hb
  · exact hs k

/-- A half-bridge's record may change beside its gates. -/
theorem OneGateOff.setHb_gates (h : Nat) (b : HbSt) (hgh : b.gh = (s.hb h).gh) (hgl : b.gl = (s.hb h).gl) : OneGateOff (s.setHb h b) :=
  hs.setHb h b (by rw [hgh, hgl]; exact hs h)

theorem OneGateOff.set (x : Fld) (v : Nat) : OneGateOff (s.set x v) := hs.of_hbs rfl
theorem OneGateOff.raise (src data : Nat) : OneGateOff (s.raise src data) := hs.of_hbs rfl
theorem OneGateOff.raiseU (src : Nat) : OneGateOff (s.raiseU src) := hs.of_hbs rfl
theorem OneGateOff.setWord (a : Nat) (w : Word) : OneGateOff (s.setWord a w) := hs.of_hbs rfl
theorem OneGateOff.setVdu (u : Nat) (v : VduSt) : OneGateOff (s.setVdu u v) := hs.of_hbs rfl

theorem OneGateOff.of_ite {c : Prop} [Decidable c] (ht : OneGateOff t) : OneGateOff (if c then s else t) := by
  split
  · exact hs
  · exact ht

theorem OneGateOff.gateStep (h : Nat) : OneGateOff (gateStep h s) := by
  by_cases hst : s.groupState (h / 6) = 4
  · rw [gateStep_latched h s hst]
    exact hs
  · obtain ⟨b, hb, hone, _⟩ := gateStep_only h s hst
    rw [hb]
    exact hs.setHb h b hone

theorem OneGateOff.driveHb (h cmd : Nat) : OneGateOff (driveHb h cmd s) := by
  have hcmd : OneGateOff (s.setHb h (s.commanded h cmd)) := hs.setHb_gates h _ rfl rfl
  exact hcmd.gateStep h

theorem OneGateOff.setOff (u : Nat) : OneGateOff (setOff u s) := by
  refine OneGateOff.setVdu (State.each_ind OneGateOff s ?_ hs) u _
  intro h _ t ht
  have hrun : OneGateOff (t.setHb h { t.hb h with minRun := false }) := ht.setHb_gates h _ rfl rfl
  exact (hrun.set (HB_LOOP_OFF h) _).driveHb h 0

theorem OneGateOff.driveLeg (u i : Nat) (high count : Bool) : OneGateOff (driveLeg u i high count s) := by
  unfold Machine.driveLeg
  extract_lets h changed swap t t1 v t2 b t3
  have h0 : OneGateOff t := (hs.set _ _).set _ _
  have h1 : OneGateOff t1 := (h0.set _ _).of_ite h0
  have h2 : OneGateOff t2 := (h1.setVdu _ _).of_ite h1
  have hrun : OneGateOff (t2.setHb h { b with minRun := true }) := h2.setHb_gates h _ rfl rfl
  have h3 : OneGateOff t3 := hrun.of_ite h2
  exact h3.driveHb h _

theorem OneGateOff.applyVec (u v : Nat) (count : Bool) : OneGateOff (applyVec u v count s) := by
  refine OneGateOff.set (State.each_ind OneGateOff s ?_ hs) (VDU_STAT_VEC u) v
  intro i _ t ht
  exact (ht.driveLeg u i _ count).of_ite ht

/-- One decision of a unit keeps it: a unit acts through its half-bridges' commands only. -/
theorem OneGateOff.decide (u : Nat) : OneGateOff (decide_ u s) := by
  have hvec : ∀ v c, OneGateOff (Machine.applyVec u v c s) := fun v c => hs.applyVec u v c
  have hoff : OneGateOff ((Machine.setOff u s).set (VDU_STAT_STATE u) 3) := (hs.setOff u).set _ _
  unfold decide_
  refine hs.of_ite (hoff.of_ite (hs.of_ite (OneGateOff.of_ite ?restore (OneGateOff.of_ite ?refresh ?windows))))
  case restore => exact hs.of_ite ((hvec _ _).setVdu _ _)
  case refresh => exact hs.of_ite (((hvec _ _).set _ _).setVdu _ _)
  case windows => exact hs.of_ite (hs.of_ite (hvec _ _))

theorem OneGateOff.requestRefresh (h : Nat) : OneGateOff (requestRefresh h s) := by
  unfold Machine.requestRefresh
  exact ((hs.setVdu _ _).decide _).of_ite hs

theorem OneGateOff.refreshEnd (u : Nat) : OneGateOff (refreshEnd u s) := by
  unfold Machine.refreshEnd
  exact ((hs.setVdu _ _).decide u).of_ite hs

theorem OneGateOff.refreshRequest (h : Nat) : OneGateOff (refreshRequest h s) := by
  unfold Machine.refreshRequest
  exact hs.of_ite (hs.requestRefresh h)

theorem OneGateOff.heldOff (u : Nat) : OneGateOff (heldOff u s) := by
  unfold Machine.heldOff
  exact ((hs.setOff u).set _ _).of_ite hs

theorem OneGateOff.windowChange (h : Nat) (above below : Bool) : OneGateOff (windowChange h above below s) := by
  unfold Machine.windowChange
  extract_lets u code b t t1 old d new t2 t3
  have hwin : OneGateOff (s.setHb h { s.hb h with above := above, below := below }) := hs.setHb_gates h _ rfl rfl
  have h0 : OneGateOff t := hwin.set _ _
  have h1 : OneGateOff t1 := (h0.set _ _).of_ite h0
  have h2 : OneGateOff t2 := h1.set _ _
  have h3 : OneGateOff t3 := (h2.set _ _).of_ite h2
  exact h3.decide u

theorem OneGateOff.minPulseEnd (h : Nat) : OneGateOff (minPulseEnd h s) := by
  have hrun : OneGateOff (s.setHb h { s.hb h with minRun := false }) := hs.setHb_gates h _ rfl rfl
  exact hrun.decide _

theorem OneGateOff.groupGatesLow (g : Nat) : OneGateOff (groupGatesLow g s) := fun k => by
  rw [groupGatesLow_hb]
  split
  · rfl
  · exact hs k

theorem OneGateOff.groupEnterOff (g : Nat) : OneGateOff (groupEnterOff g s) := by
  have hlow := (hs.set (BG_STAT_STATE g) 0).groupGatesLow g
  exact hlow.of_hb fun k => abortDiag_hb g k _

theorem OneGateOff.shootThrough (h : Nat) : OneGateOff (shootThrough h s) := by
  by_cases hst : s.groupState (h / 6) = 4
  · rw [shootThrough_latched hst]
    exact hs
  · have hlow : OneGateOff (s.setHb h (s.lockedOut h)) := hs.setHb h _ rfl
    cases hlock : s.on (HB_STAT_LOCKOUT h) with
    | true =>
      rw [shootThrough_again hst hlock]
      exact hlow
    | false =>
      rw [shootThrough_first hst hlock]
      exact ((hlow.set _ _).set _ _).raiseU _

theorem OneGateOff.deadTimeEnd (h : Nat) (high : Bool) : OneGateOff (deadTimeEnd h high s) := by
  cases hlock : s.on (HB_STAT_LOCKOUT h) with
  | true =>
    obtain ⟨b, hb, hgh, hgl, _⟩ := deadTimeEnd_lockout (h := h) high hlock
    rw [hb]
    exact (hs.set _ _).setHb_gates h b hgh hgl
  | false =>
    rw [deadTimeEnd_gate high hlock]
    refine OneGateOff.gateStep (hs.setHb_gates h _ ?_ ?_) h <;> cases high <;> rfl

theorem OneGateOff.bootUv (h v : Nat) : OneGateOff (bootUv h v s) := by
  unfold Machine.bootUv
  extract_lets g t b t1 t2
  have h0 : OneGateOff t := ((hs.set _ _).set _ _).set _ _
  have h1 : OneGateOff t1 := h0.setHb h _ rfl
  have h2 : OneGateOff t2 := (h1.set _ _).raiseU _
  exact ((h2.of_ite (h2.requestRefresh h)).of_ite h1).of_ite hs

theorem OneGateOff.groupShutdownTmo (g : Nat) : OneGateOff (groupShutdownTmo g s) := by
  unfold Machine.groupShutdownTmo State.when
  exact (hs.groupEnterOff g).of_ite hs

theorem OneGateOff.gdEnFall (g : Nat) : OneGateOff (gdEnFall g s) := by
  have hlow := (hs.set (BG_STAT_GD_EN g) 0).groupGatesLow g
  unfold Machine.gdEnFall
  exact hlow.of_ite (hlow.groupEnterOff g)

theorem OneGateOff.gdEnRise (g : Nat) (long : Bool) : OneGateOff (gdEnRise g long s) := by
  unfold Machine.gdEnRise
  extract_lets t
  have hen : OneGateOff t := hs.set _ _
  have hcount : OneGateOff (t.inc SUP_CNT_CLR_REF) := hen.set _ _
  have hclear : OneGateOff (clearLatch g t) := (hen.setWord (SUP_LATCH_A g) 0).groupEnterOff g
  exact hen.of_ite (OneGateOff.of_ite (hen.set _ _) (OneGateOff.of_ite (hcount.raise _ _) (OneGateOff.of_ite (hcount.raise _ _) hclear)))

/-- What a command's run keeps of this, its answer keeps. -/
theorem OneGateOff.of_runIn {d : Nat} {f : State → State} (hf : OneGateOff (f s)) (ht : s.runIn d f = .next t) : OneGateOff t := by
  have hframed : OneGateOff (framed s (f s)) := hf.of_hbs rfl
  have hres : OneGateOff (if s.dom d then framed s (f s) else s) := hframed.of_ite hs
  rw [State.runIn] at ht
  injection ht with ht
  rwa [ht] at hres

end OneGateOff

/-- Settles O9: every command of the request path keeps at most one gate of each half-bridge on. -/
theorem requestPathKeepsOneGateOff : Obligations.RequestPathKeepsOneGateOff := by
  intro c s t hs hc ht
  have h1 : OneGateOff s := hs
  obtain ⟨h, rfl⟩ | ⟨h, hi, rfl⟩ | ⟨h, x, y, rfl⟩ | ⟨h, rfl⟩ | ⟨u, rfl⟩ | ⟨h, rfl⟩ | ⟨u, rfl⟩ | ⟨h, v, rfl⟩ | ⟨g, rfl⟩ | ⟨g, l, rfl⟩ | ⟨g, rfl⟩ :=
    hc
  · exact h1.of_runIn (f := shootThrough h) (h1.shootThrough h) ht
  · exact h1.of_runIn (f := deadTimeEnd h hi) (h1.deadTimeEnd h hi) ht
  · exact h1.of_runIn (f := windowSample h x.1 x.2 y) (h1.windowChange h _ _) ht
  · exact h1.of_runIn (f := minPulseEnd h) (h1.minPulseEnd h) ht
  · exact h1.of_runIn (f := heldOff u) (h1.heldOff u) ht
  · exact h1.of_runIn (f := refreshRequest h) (h1.refreshRequest h) ht
  · exact h1.of_runIn (f := refreshEnd u) (h1.refreshEnd u) ht
  · exact h1.of_runIn (f := bootUv h v.toNat) (h1.bootUv h v.toNat) ht
  · exact h1.of_runIn (f := gdEnFall g) (h1.gdEnFall g) ht
  · exact h1.of_runIn (f := gdEnRise g l) (h1.gdEnRise g l) ht
  · exact h1.of_runIn (f := groupShutdownTmo g) (h1.groupShutdownTmo g) ht

/-! ### The commands of lockout and dead time -/

/-- What a command answers that writes one half-bridge's record. -/
theorem State.runIn_setHb {s t : State} {d h : Nat} {f : State → State} {b : HbSt} (hd : s.dom d = true)
    (hf : f s = t.setHb h b) (ht : t = s ∨ ∃ c, t = s.setHb h c) :
    s.runIn d f = .next (s.setHb h b) := by
  have hb : t.setHb h b = s.setHb h b := by
    obtain rfl | ⟨c, rfl⟩ := ht
    · rfl
    · rw [State.setHb_setHb]
  exact State.runIn_to hd (hf.trans hb) rfl rfl rfl

theorem exec_shootThrough_latched (h : Fin 48) (s : State) (hd : s.dom 6 = true) (hst : s.groupState (h / 6) = 4) :
    exec (.shootThroughLockout h) s = .next s :=
  State.runIn_to hd (shootThrough_latched hst) rfl rfl rfl

theorem exec_shootThrough_again (h : Fin 48) (s : State) (hd : s.dom 6 = true) (hst : s.groupState (h / 6) ≠ 4)
    (hlock : s.on (HB_STAT_LOCKOUT h) = true) : exec (.shootThroughLockout h) s = .next (s.setHb h (s.lockedOut h)) :=
  State.runIn_to hd (shootThrough_again hst hlock) rfl rfl rfl

theorem exec_shootThrough_first (h : Fin 48) (s : State) (hd : s.dom 6 = true) (hst : s.groupState (h / 6) ≠ 4)
    (hlock : s.on (HB_STAT_LOCKOUT h) = false) : exec (.shootThroughLockout h) s = .next
      ((((s.setHb h (s.lockedOut h)).setB (HB_STAT_LOCKOUT h) true).inc (HB_CNT_SHOOT h)).raiseU (hbSrc h 3)) :=
  State.runIn_to hd (shootThrough_first hst hlock) rfl rfl rfl

/-- Settles O8: the cases of the lockout, and of the end of dead time in and outside it. -/
theorem requestLinesDriveTheGates : Obligations.RequestLinesDriveTheGates := by
  refine ⟨exec_shootThrough_latched, fun h s hd hst => ?shoot, fun h s hd hfree hlock hboot hblk hhi hlo hgl => ?high,
    fun h s hd hfree hlock hlo hhi hgh => ?low, fun h high s hd hlock => ?lockout⟩
  case shoot =>
    cases hlock : s.on (HB_STAT_LOCKOUT h) with
    | true =>
      exact ⟨_, exec_shootThrough_again h s hd hst hlock, by simp [State.lockedOut], by simp [State.lockedOut], hlock,
        fun k hk => State.setHb_hb_ne _ _ _ _ hk, fun _ => ⟨rfl, rfl⟩, nofun⟩
    | false =>
      have hb : ∀ k, (((((s.setHb h (s.lockedOut h)).setB (HB_STAT_LOCKOUT h) true).inc (HB_CNT_SHOOT h)).raiseU (hbSrc h 3)).hb k)
          = (s.setHb h (s.lockedOut h)).hb k := fun k => rfl
      have hcnt : (HB_CNT_SHOOT h).addr ≠ (HB_STAT_LOCKOUT h).addr := hbCnt_ne_hbStat h
      refine ⟨_, exec_shootThrough_first h s hd hst hlock, ?_, ?_, ?_, fun k hk => ?_, nofun, fun _ => ⟨?_, ?_, rfl⟩⟩
      · rw [hb, State.setHb_hb_same]; rfl
      · rw [hb, State.setHb_hb_same]; rfl
      · exact (State.on_set_ne _ _ _ _ hcnt.symm).trans (State.on_setB_same _ _ _ (Fld.fits rfl) rfl)
      · rw [hb, State.setHb_hb_ne _ _ _ _ hk]
      · have hself : SameRegsBut [HB_STAT_A h, HB_CNT_A h] s (s.setHb h (s.lockedOut h)) := (SameRegsBut.refl _ s).of_regs rfl
        exact ((hself.set (HB_STAT_LOCKOUT h) _ (by simp [HB_STAT_LOCKOUT])).set (HB_CNT_SHOOT h) _ (by simp [HB_CNT_SHOOT])).of_regs rfl
      · exact (State.f_inc_same _ _ (Fld.fits rfl)).trans (by rw [State.setB_eq, State.f_set_ne _ _ _ _ hcnt]; rfl)
  case high =>
    obtain ⟨b, hb, hgh, hgl'⟩ := gateStep_high (s := s.setHb h { s.hb h with dtL := false }) hfree hlock hboot (by simpa using hblk)
      (by simpa using hhi) (by simpa using hlo) (by simpa using hgl) (by simp)
    exact ⟨_, State.runIn_setHb hd ((deadTimeEnd_gate false hlock).trans hb) (.inr ⟨_, rfl⟩), by simpa using hgh, by simpa using hgl', rfl,
      fun k hk => State.setHb_hb_ne _ _ _ _ hk⟩
  case low =>
    obtain ⟨b, hb, hgl, hgh'⟩ := gateStep_low (s := s.setHb h { s.hb h with dtH := false }) hfree hlock
      (by simpa using hlo) (by simpa using hhi) (by simpa using hgh) (by simp)
    exact ⟨_, State.runIn_setHb hd ((deadTimeEnd_gate true hlock).trans hb) (.inr ⟨_, rfl⟩), by simpa using hgl, by simpa using hgh', rfl,
      fun k hk => State.setHb_hb_ne _ _ _ _ hk⟩
  case lockout =>
    obtain ⟨b, hb, hgh, hgl, hdh, hdl⟩ := deadTimeEnd_lockout (h := h) high hlock
    exact ⟨_, State.runIn_to hd hb rfl rfl rfl, State.on_setB_same s _ _ (Fld.fits rfl) rfl, (SameRegsBut.set_one s (HB_STAT_LOCKOUT h) _).of_regs rfl, by simpa using hgh,
      by simpa using hgl, by simpa using hdh, by simpa using hdl⟩

end Sys2Proof.Machine
end

section
/-!
PROOFS. Bootstrap and the life of a group (R200, R201, R203, R213), and measured edges (R209, R210).
-/
namespace Sys2Proof.Machine

/-! ### Bootstrap (R213) -/

/-- The bootstrap marks of half-bridge `h` with its voltage. -/
def State.showBoot (s : State) (h v : Nat) (block : Bool) : State :=
  ((s.setB (HB_STAT_BOOT_BLOCK h) block).setB (HB_STAT_BOOT_OK h) (!block)).set (HB_STAT_BOOT_V h) v

section ShowBoot
variable (s : State) (h v : Nat) (block : Bool)

theorem State.showBoot_block : (s.showBoot h v block).on (HB_STAT_BOOT_BLOCK h) = block := by
  unfold State.showBoot
  rw [State.on_set_apart _ (HB_STAT_BOOT_V h) (HB_STAT_BOOT_BLOCK h) _ rfl rfl, State.setB_eq _ (HB_STAT_BOOT_OK h),
    State.on_set_apart _ (HB_STAT_BOOT_OK h) (HB_STAT_BOOT_BLOCK h) _ rfl rfl]
  exact State.on_setB_same _ _ _ (Fld.fits rfl) rfl

theorem State.showBoot_ok : (s.showBoot h v block).on (HB_STAT_BOOT_OK h) = !block := by
  unfold State.showBoot
  rw [State.on_set_apart _ (HB_STAT_BOOT_V h) (HB_STAT_BOOT_OK h) _ rfl rfl]
  exact State.on_setB_same _ _ _ (Fld.fits rfl) rfl

theorem State.showBoot_v (hv : v < 256) : (s.showBoot h v block).f (HB_STAT_BOOT_V h) = v :=
  State.f_set_fits _ _ _ (Fld.fits rfl) hv

theorem State.showBoot_frame : SameRegsBut [HB_STAT_A h] s (s.showBoot h v block) :=
  (((SameRegsBut.refl _ s).set (HB_STAT_BOOT_BLOCK h) _ (by simp [HB_STAT_BOOT_BLOCK])).set (HB_STAT_BOOT_OK h) _
    (by simp [HB_STAT_BOOT_OK])).set (HB_STAT_BOOT_V h) _ (by simp [HB_STAT_BOOT_V])

@[simp] theorem State.showBoot_pending : (s.showBoot h v block).pending = s.pending := rfl
@[simp] theorem State.showBoot_part : (s.showBoot h v block).part = s.part := rfl
@[simp] theorem State.showBoot_powered : (s.showBoot h v block).powered = s.powered := rfl

end ShowBoot

theorem bootUvEnd_eq {h : Nat} {s : State} (v : Nat) (hst : s.groupState (h / 6) = 2 ∨ s.groupState (h / 6) = 3) :
    bootUvEnd h v s = s.showBoot h v false := if_pos (by simpa using hst)

theorem bootUvEnd_elsewhere {h : Nat} {s : State} (v : Nat) (h2 : s.groupState (h / 6) ≠ 2) (h3 : s.groupState (h / 6) ≠ 3) :
    bootUvEnd h v s = s := if_neg (by simp [h2, h3])

theorem bootUv_elsewhere {h : Nat} {s : State} (v : Nat) (h2 : s.groupState (h / 6) ≠ 2) (h3 : s.groupState (h / 6) ≠ 3) :
    bootUv h v s = s := if_neg (by simp [h2, h3])

/-- The record of a half-bridge whose bootstrap has failed: the high gate off, and a high command that met the block kept. -/
def State.bootOff (s : State) (h : Nat) : HbSt :=
  { s.hb h with
    gh := false, dtH := (s.hb h).dtH || (s.hb h).gh, outH := if (s.hb h).gh then s.fullDrive h true else (s.hb h).outH
    armH := false, blkHi := (s.hb h).hiReq }

theorem bootUv_precharge {h : Nat} {s : State} (v : Nat) (hst : s.groupState (h / 6) = 2)
    (hblk : s.on (HB_STAT_BOOT_BLOCK h) = false) :
    bootUv h v s = (s.showBoot h v true).setHb h ((s.showBoot h v true).bootOff h) := by
  rw [bootUv, if_pos ⟨.inl hst, by simp [hblk]⟩]
  exact if_neg (by omega)

theorem hbCfg_apart (h : Nat) : HB_CFG_A h ≠ HB_STAT_A h ∧ HB_CFG_A h ≠ HB_CNT_A h := by
  unfold HB_CFG_A HB_STAT_A HB_CNT_A
  omega

theorem bootUv_none {h : Nat} {s : State} (v : Nat) (hst : s.groupState (h / 6) = 3)
    (hblk : s.on (HB_STAT_BOOT_BLOCK h) = false) (hmode : s.f (HB_CFG_BOOT_MODE h) = 2) :
    bootUv h v s =
      (((s.showBoot h v true).setHb h ((s.showBoot h v true).bootOff h)).inc (HB_CNT_BOOT_UV h)).raiseU (hbSrc h 2) := by
  have hcfg : (s.showBoot h v true).f (HB_CFG_BOOT_MODE h) = 2 := by
    rw [(s.showBoot_frame h v true).f _ (by simpa [HB_CFG_BOOT_MODE] using (hbCfg_apart h).1), hmode]
  have hmode' : ((((s.showBoot h v true).setHb h ((s.showBoot h v true).bootOff h)).inc (HB_CNT_BOOT_UV h)).raiseU (hbSrc h 2)).f
      (HB_CFG_BOOT_MODE h) = 2 := by
    rw [State.raiseU_f, State.inc_eq, State.f_set_ne _ (HB_CNT_BOOT_UV h) (HB_CFG_BOOT_MODE h) _ (hbCfg_apart h).2, State.setHb_f, hcfg]
  unfold bootUv
  extract_lets g t b t1 t2
  rw [if_pos ⟨.inr hst, by simp [hblk]⟩, if_pos hst]
  exact if_pos hmode'

/-! ### A group that enters OFF -/

theorem bgStat_ne_odRes (g k : Nat) (hg : g < 8) : BG_STAT_A g ≠ OD_RES_A k := by
  unfold BG_STAT_A OD_RES_A
  omega

theorem groupEnterOff_frame (g : Nat) (s : State) : SameRegsBut [BG_STAT_A g, OD_RES_A g] s (groupEnterOff g s) := by
  obtain ⟨_, _, _, hr, _⟩ := abortDiag_only g (groupGatesLow g (s.set (BG_STAT_STATE g) 0))
  have hset : SameRegsBut [BG_STAT_A g, OD_RES_A g] s (groupGatesLow g (s.set (BG_STAT_STATE g) 0)) :=
    ((SameRegsBut.refl _ s).set (BG_STAT_STATE g) 0 (by simp [BG_STAT_STATE])).of_regs (groupGatesLow_regs g _)
  exact SameRegsBut.of_regs (hset.trans (hr.mono (by simp))) rfl

theorem groupEnterOff_low (g : Nat) (s : State) {h : Nat} (hh : h ∈ groupHbs g) :
    ((groupEnterOff g s).hb h).gh = false ∧ ((groupEnterOff g s).hb h).gl = false := by
  have e : (groupEnterOff g s).hb h = (groupGatesLow g (s.set (BG_STAT_STATE g) 0)).hb h := abortDiag_hb g h _
  rw [e, groupGatesLow_hb, if_pos hh]
  exact ⟨rfl, rfl⟩

theorem groupEnterOff_hb_ne (g : Nat) (s : State) {h : Nat} (hh : h ∉ groupHbs g) : (groupEnterOff g s).hb h = s.hb h := by
  have e : (groupEnterOff g s).hb h = (groupGatesLow g (s.set (BG_STAT_STATE g) 0)).hb h := abortDiag_hb g h _
  rw [e, groupGatesLow_hb, if_neg hh]
  rfl

/-- The fields of the group's own status register: STATE is OFF, the others stay. -/
theorem groupEnterOff_f_stat (g : Nat) (s : State) (x : Fld) (hx : x.addr = BG_STAT_A g) (hg : g < 8) :
    (groupEnterOff g s).f x = (s.set (BG_STAT_STATE g) 0).f x := by
  have e : (groupEnterOff g s).f x = (abortDiag g (groupGatesLow g (s.set (BG_STAT_STATE g) 0))).f x := rfl
  rw [e, abortDiag_f _ _ _ (by rw [hx]; exact bgStat_ne_odRes g g hg), groupGatesLow_f]

theorem groupEnterOff_state (g : Nat) (s : State) (hg : g < 8) : (groupEnterOff g s).groupState g = 0 :=
  (groupEnterOff_f_stat g s _ rfl hg).trans (State.f_set_fits _ (BG_STAT_STATE g) 0 (Fld.fits rfl) (Nat.two_pow_pos _))

/-! ### The commands of a group -/

theorem exec_groupShutdownTimeout_over (g : Fin 8) (s : State) (hd : s.dom 6 = true) (hover : s.shutOver g = true) :
    ∃ t, exec (.groupShutdownTimeout g) s = .next t ∧ t.regs = (groupEnterOff g s).regs ∧ t.hbs = (groupEnterOff g s).hbs :=
  ⟨_, State.runIn_on s 6 _ hd, by simp [groupShutdownTmo, State.when, hover]⟩

theorem State.shutOver_of_time {s : State} {g : Nat} (hst : s.groupState g = 5) (ht : 20000000 ≤ (s.grp g).shutTicks * s.tNs) :
    s.shutOver g = true := by simp [State.shutOver, hst, ht]

theorem gdEnFall_latched {g : Nat} {s : State} (hst : s.groupState g = 4) :
    gdEnFall g s = groupGatesLow g (s.setB (BG_STAT_GD_EN g) false) :=
  if_pos (by
    show (groupGatesLow g (s.setB (BG_STAT_GD_EN g) false)).f (BG_STAT_STATE g) = 4
    rw [groupGatesLow_f, State.setB_eq, State.f_set_apart _ (BG_STAT_GD_EN g) (BG_STAT_STATE g) _ rfl rfl]
    exact hst)

theorem gdEnFall_off {g : Nat} {s : State} (hst : s.groupState g ≠ 4) :
    gdEnFall g s = groupEnterOff g (groupGatesLow g (s.setB (BG_STAT_GD_EN g) false)) :=
  if_neg (by
    show ¬ (groupGatesLow g (s.setB (BG_STAT_GD_EN g) false)).f (BG_STAT_STATE g) = 4
    rw [groupGatesLow_f, State.setB_eq, State.f_set_apart _ (BG_STAT_GD_EN g) (BG_STAT_STATE g) _ rfl rfl]
    exact hst)

section GdEnFall
variable (g : Nat) (s : State)

/-- GD_EN_g is low and every gate of the group off, in whatever state it is. -/
theorem gdEnFall_gates : (∀ h ∈ groupHbs g, ((gdEnFall g s).hb h).gh = false ∧ ((gdEnFall g s).hb h).gl = false) ∧
    (∀ h, h ∉ groupHbs g → (gdEnFall g s).hb h = s.hb h) := by
  have hbefore : ∀ h, h ∉ groupHbs g → (groupGatesLow g (s.setB (BG_STAT_GD_EN g) false)).hb h = s.hb h := fun h hh => by
    rw [groupGatesLow_hb, if_neg hh]
    rfl
  by_cases hst : s.groupState g = 4
  · rw [gdEnFall_latched hst]
    refine ⟨fun h hh => ?_, hbefore⟩
    rw [groupGatesLow_hb, if_pos hh]
    exact ⟨rfl, rfl⟩
  · rw [gdEnFall_off hst]
    exact ⟨fun h hh => groupEnterOff_low g _ hh, fun h hh => (groupEnterOff_hb_ne g _ hh).trans (hbefore h hh)⟩

theorem gdEnFall_frame : SameRegsBut [BG_STAT_A g, OD_RES_A g] s (gdEnFall g s) := by
  have hpin : SameRegsBut [BG_STAT_A g, OD_RES_A g] s (groupGatesLow g (s.setB (BG_STAT_GD_EN g) false)) :=
    ((SameRegsBut.refl _ s).set (BG_STAT_GD_EN g) 0 (by simp [BG_STAT_GD_EN])).of_regs (groupGatesLow_regs g _)
  by_cases hst : s.groupState g = 4
  · rw [gdEnFall_latched hst]
    exact hpin
  · rw [gdEnFall_off hst]
    exact hpin.trans (groupEnterOff_frame g _)

theorem gdEnFall_state (hg : g < 8) : (gdEnFall g s).groupState g = if s.groupState g = 4 then 4 else 0 := by
  by_cases hst : s.groupState g = 4
  · rw [gdEnFall_latched hst, if_pos hst]
    show (groupGatesLow g (s.setB (BG_STAT_GD_EN g) false)).f (BG_STAT_STATE g) = 4
    rw [groupGatesLow_f, State.setB_eq, State.f_set_apart _ (BG_STAT_GD_EN g) (BG_STAT_STATE g) _ rfl rfl]
    exact hst
  · rw [gdEnFall_off hst, if_neg hst]
    exact groupEnterOff_state g _ hg

theorem gdEnFall_pin (hg : g < 8) : (gdEnFall g s).on (BG_STAT_GD_EN g) = false := by
  have hpin : (groupGatesLow g (s.setB (BG_STAT_GD_EN g) false)).on (BG_STAT_GD_EN g) = false :=
    (State.on_of_f (groupGatesLow_f g _ _)).trans (State.on_setB_same _ _ _ (Fld.fits rfl) rfl)
  by_cases hst : s.groupState g = 4
  · rw [gdEnFall_latched hst]
    exact hpin
  · rw [gdEnFall_off hst]
    exact (State.on_of_f ((groupEnterOff_f_stat g _ (BG_STAT_GD_EN g) rfl hg).trans (State.f_set_apart _ (BG_STAT_STATE g) (BG_STAT_GD_EN g) _ rfl rfl))).trans hpin

end GdEnFall

/-- Settles O11: what the bootstrap marks read, and what a group that enters OFF keeps. -/
theorem bootstrapAndEnableGateTheGroup : Obligations.BootstrapAndEnableGateTheGroup := by
  refine ⟨fun h v s hd hst => ?bootEnd, fun h v s hd h2 h3 => ?elsewhere, fun h v s hd hst hblk => ?precharge,
    fun h v s hd hst hblk hmode => ?none, fun g s hd => ?fall, fun g s hd hst ht => ?timeout, fun g s hd hover => ?early, fun g s hd hst => ?preEnd⟩
  case bootEnd =>
    exact ⟨_, State.runIn_to hd (bootUvEnd_eq v.toNat hst) rfl rfl rfl, s.showBoot_block h _ _, s.showBoot_ok h _ _,
      s.showBoot_v h _ _ v.isLt, s.showBoot_frame h _ _, rfl⟩
  case elsewhere =>
    exact ⟨State.runIn_to hd (bootUvEnd_elsewhere v.toNat h2 h3) rfl rfl rfl, State.runIn_to hd (bootUv_elsewhere v.toNat h2 h3) rfl rfl rfl⟩
  case precharge =>
    refine ⟨_, State.runIn_to hd (bootUv_precharge v.toNat hst hblk) (by simp) (by simp) (by simp), ?_, ?_, ?_, ?_, ?_⟩
    · rw [State.setHb_on, State.showBoot_block]
    · rw [State.setHb_on, State.showBoot_ok]; rfl
    · rw [State.setHb_f, State.showBoot_v _ _ _ _ v.isLt]
    · rw [State.setHb_hb_same]; rfl
    · exact (s.showBoot_frame h _ _).of_regs (State.setHb_regs _ _ _)
  case none =>
    have hcnt : HB_STAT_A h ≠ HB_CNT_A h := (hbCnt_ne_hbStat h).symm
    have hshow := s.showBoot_frame h v.toNat true
    have hold : (s.showBoot h v.toNat true).f (HB_CNT_BOOT_UV h) = s.f (HB_CNT_BOOT_UV h) :=
      hshow.f _ (by simpa [HB_CNT_BOOT_UV] using hcnt.symm)
    refine ⟨_, State.runIn_to hd (bootUv_none v.toNat hst hblk hmode) (by simp [State.inc_eq]) (by simp [State.inc_eq]) (by simp [State.inc_eq]), ?_, ?_, ?_, ?_⟩
    · rw [State.raiseU_on, State.inc_eq, State.on_set_ne _ (HB_CNT_BOOT_UV h) (HB_STAT_BOOT_BLOCK h) _ hcnt, State.setHb_on,
        State.showBoot_block]
    · rw [State.raiseU_hb, State.inc_eq, State.set_hb, State.setHb_hb_same]; rfl
    · rw [State.raiseU_f, State.f_inc_same _ _ (Fld.fits rfl), State.setHb_f, hold]; rfl
    · refine SameRegsBut.of_regs (SameRegsBut.set ?_ (HB_CNT_BOOT_UV h) _ (by simp [HB_CNT_BOOT_UV])) (State.raiseU_regs _ _)
      exact (hshow.mono (by simp)).of_regs (State.setHb_regs _ _ _)
  case fall =>
    exact ⟨_, State.runIn_on s 6 _ hd, gdEnFall_pin g s g.isLt, (gdEnFall_gates g s).1, (gdEnFall_gates g s).2, gdEnFall_state g s g.isLt,
      gdEnFall_frame g s⟩
  case timeout =>
    obtain ⟨t, ht, hr, hb⟩ := exec_groupShutdownTimeout_over g s hd (State.shutOver_of_time hst ht)
    refine ⟨t, ht, ?_, fun h hh => ?_, (groupEnterOff_frame g s).of_regs hr⟩
    · exact (State.f_congr hr _).trans (groupEnterOff_state g s g.isLt)
    · have e : t.hb h = (groupEnterOff g s).hb h := by rw [State.hb, State.hb, hb]
      rw [e]
      exact groupEnterOff_low g s hh
  case early => exact State.runIn_to hd (by rw [groupShutdownTmo, State.when, if_neg (by simp [hover])]) rfl rfl rfl
  case preEnd => exact State.runIn_to hd (if_pos hst) rfl rfl rfl

/-! ### Measured edges (R209, R210) -/

theorem stepF_place (h : Nat) (k : Fin 4) : stepF h k = ⟨HB_STEP_A h, 28 - 4 * k, 4⟩ := by fin_cases k <;> rfl
theorem measF_place (h : Nat) (k : Fin 4) : measF h k = ⟨HB_MEAS_A h, 24 - 8 * k, 8⟩ := by fin_cases k <;> rfl

theorem satU_eq_min (wd n : Nat) : satU wd n = min n (2 ^ wd - 1) := by
  have := Nat.two_pow_pos wd
  unfold satU
  split <;> omega

theorem hbStep_addresses (h : Nat) : HB_STEP_A h ≠ HB_MEAS_A h ∧ HB_STEP_A h ≠ HB_CNT_A h ∧ HB_MEAS_A h ≠ HB_CNT_A h ∧
    HB_CFG_A h ≠ HB_MEAS_A h ∧ HB_TGT_A h ≠ HB_MEAS_A h := by
  unfold HB_STEP_A HB_MEAS_A HB_CNT_A HB_CFG_A HB_TGT_A
  omega

/-- The step after a measured edge of `m` units of 1.25 ns (R210): one towards the target `tgt`, within 0 to 15, or left inside its
tolerance. -/
def movedStep (tgt tol m old : Nat) : Nat :=
  if tgt + tol < 5 * m then (if old < 15 then old + 1 else 15) else if 5 * m + tol < tgt then old - 1 else old

theorem movedStep_lt {tgt tol m old : Nat} (h : old < 16) : movedStep tgt tol m old < 16 := by
  unfold movedStep
  split_ifs <;> omega

/-- The state with a measured edge shown and its step moved. -/
def State.moveStep (s : State) (h : Nat) (k : Fin 4) (m : Nat) : State :=
  (s.set (measF h k) (satU 8 (m / 4))).set (stepF h k)
    (movedStep (4 * s.e (HB_TGT_T_TGT h)) (4 * s.e (HB_TGT_TOL h)) m (s.f (stepF h k)))

section MoveStep
variable (s : State) (h : Nat) (k : Fin 4) (m : Nat)

theorem State.moveStep_step : (s.moveStep h k m).f (stepF h k) =
    movedStep (4 * s.e (HB_TGT_T_TGT h)) (4 * s.e (HB_TGT_TOL h)) m (s.f (stepF h k)) := by
  have hold : s.f (stepF h k) < 16 := by
    have := s.f_lt (stepF h k)
    rwa [stepF_place] at this ⊢
  refine State.f_set_fits _ _ _ ?_ ?_
  · rw [stepF_place]
    simp only
    omega
  · have := movedStep_lt (tgt := 4 * s.e (HB_TGT_T_TGT h)) (tol := 4 * s.e (HB_TGT_TOL h)) (m := m) hold
    rwa [stepF_place] at this ⊢

theorem State.moveStep_meas : (s.moveStep h k m).f (measF h k) = min (m / 4) 255 := by
  have hstep : (measF h k).addr ≠ (stepF h k).addr := by
    rw [stepF_place, measF_place]
    exact (hbStep_addresses h).1.symm
  rw [State.moveStep, State.f_set_ne _ _ _ _ hstep, State.f_set_fits, satU_eq_min]
  · rfl
  · rw [measF_place]
    simp only
    omega
  · rw [measF_place]
    exact satU_lt 8 _

theorem State.moveStep_others {j : Fin 4} (hj : j ≠ k) : (s.moveStep h k m).f (stepF h j) = s.f (stepF h j) ∧
    (s.moveStep h k m).f (measF h j) = s.f (measF h j) := by
  have hjk : j.val ≠ k.val := fun e => hj (Fin.ext e)
  have hsm := (hbStep_addresses h).1
  constructor
  · rw [State.moveStep, State.f_set_beside, State.f_set_ne]
    · rw [stepF_place, measF_place]
      exact hsm
    · rw [stepF_place, stepF_place]
    · simp only [stepF_place]
      omega
  · rw [State.moveStep, State.f_set_ne, State.f_set_beside]
    · rw [measF_place, measF_place]
    · simp only [measF_place]
      omega
    · rw [stepF_place, measF_place]
      exact hsm.symm

theorem State.moveStep_frame : SameRegsBut [HB_STEP_A h, HB_MEAS_A h, HB_CNT_A h] s (s.moveStep h k m) :=
  ((SameRegsBut.refl _ s).set _ _ (by simp [measF_place])).set _ _ (by simp [stepF_place])

theorem State.e_after_meas (x : Fld) (v : Nat) (hx : x.addr ≠ HB_MEAS_A h) : (s.set (measF h k) v).e x = s.e x :=
  State.e_congr x (State.set_engOld _ _ _) (State.word_set_ne _ _ _ _ (by rw [measF_place]; exact hx))

/-- In adaptive mode a measured edge moves its step; beside it only the count of edges at a limit and its report may change. -/
theorem stepUpdate_adaptive (had : s.adaptive h = true) : ∃ b,
    stepUpdate h k m s = (s.moveStep h k m).setHb h b ∨
      stepUpdate h k m s = (((s.moveStep h k m).setHb h b).inc (HB_CNT_ADP_LIM h)).raiseU (0x09F + 0x20 * (h / 6)) := by
  obtain ⟨hsm, _, _, hcm, htm⟩ := hbStep_addresses h
  have had' : (s.set (measF h k) (satU 8 (m / 4))).adaptive h = true := by
    have hfeat : (s.set (measF h k) (satU 8 (m / 4))).feature 3 = s.feature 3 := by
      refine State.fbit_of_f (State.f_set_ne _ _ _ _ ?_) 3
      rw [measF_place]
      simp only [FEAT_ACTIVE_LO_ACTIVE, FEAT_ACTIVE_LO_A, HB_MEAS_A]
      omega
    rw [State.adaptive, State.e_after_meas _ _ _ _ _ hcm, hfeat]
    exact had
  have hstep : (s.set (measF h k) (satU 8 (m / 4))).f (stepF h k) = s.f (stepF h k) :=
    State.f_set_ne _ _ _ _ (by rw [stepF_place, measF_place]; exact hsm)
  unfold stepUpdate
  extract_lets s1 tgt tol long short step step' s2 b run lim run' s3
  have hs2 : s2 = s.moveStep h k m := by
    simp only [s2, step', step, long, short, tgt, tol, s1, State.moveStep, movedStep, hstep, State.e_after_meas s h k (HB_TGT_T_TGT h) _ htm,
      State.e_after_meas s h k (HB_TGT_TOL h) _ htm]
  rw [if_neg (by simp [s1, had'])]
  refine ⟨{ b with lim := listSet b.lim k run' }, ?_⟩
  rw [← hs2]
  split
  · exact .inr rfl
  · exact .inl rfl

end MoveStep

theorem edgeMeasured_miss {h : Nat} {high : Bool} {node : List Nat} {i kind : Nat} {s : State}
    (hinv : s.on (CH_STAT_INVALID (48 + s.busOf (h / 6))) = false) (hstale : (s.inp (48 + s.busOf (h / 6))).stale = false)
    (hedge : nodeEdge (s.uBus23 (s.busOf (h / 6))) node = some (i, none)) (hkind : edgeKind (s.f (HB_CFG_DT h)) high i = some kind) :
    edgeMeasured h high node s = s.inc (HB_CNT_ADP_MISS h) := by
  simp [edgeMeasured, hinv, hstale, hedge, hkind]

theorem edgeMeasured_step {h : Nat} {high : Bool} {node : List Nat} {i kind m : Nat} {s : State}
    (hinv : s.on (CH_STAT_INVALID (48 + s.busOf (h / 6))) = false) (hstale : (s.inp (48 + s.busOf (h / 6))).stale = false)
    (hedge : nodeEdge (s.uBus23 (s.busOf (h / 6))) node = some (i, some m)) (hkind : edgeKind (s.f (HB_CFG_DT h)) high i = some kind) :
    edgeMeasured h high node s = stepUpdate h kind m s := by
  simp [edgeMeasured, hinv, hstale, hedge, hkind]

theorem edgeMeasured_nothing {h : Nat} {high : Bool} {node : List Nat} {s : State}
    (hno : (s.on (CH_STAT_INVALID (48 + s.busOf (h / 6))) || (s.inp (48 + s.busOf (h / 6))).stale) = true ∨
      nodeEdge (s.uBus23 (s.busOf (h / 6))) node = none ∨
      (∃ i d, nodeEdge (s.uBus23 (s.busOf (h / 6))) node = some (i, d) ∧ edgeKind (s.f (HB_CFG_DT h)) high i = none)) :
    edgeMeasured h high node s = s := by
  unfold edgeMeasured
  extract_lets bus
  split
  · rfl
  · next hvalid =>
    obtain hbad | hnone | ⟨i, d, hedge, hkind⟩ := hno
    · exact absurd hbad hvalid
    · simp [bus, hnone]
    · simp [bus, hedge, hkind]

/-- The state after a measured edge has what `moveStep` shows. -/
theorem exec_edgeMeasured_step {h : Fin 48} {high : Bool} {node : List Nat} {k : Fin 4} {m : Nat} {s : State} (hd : s.dom 6 = true)
    (hrun : edgeMeasured h high node s = stepUpdate h k m s) (had : s.adaptive h = true) :
    ∃ t, exec (.edgeMeasured h high node) s = .next t ∧ SameRegsBut [HB_CNT_A h] (s.moveStep h k m) t := by
  obtain ⟨b, hb | hb⟩ := stepUpdate_adaptive s h k m had
  · refine ⟨_, State.runIn_on s 6 _ hd, SameRegsBut.of_regs (SameRegsBut.refl _ _) ?_⟩
    rw [framed_regs, hrun, hb, State.setHb_regs]
  · refine ⟨_, State.runIn_on s 6 _ hd, ?_⟩
    have hset : SameRegsBut [HB_CNT_A h] (s.moveStep h k m) (((s.moveStep h k m).setHb h b).inc (HB_CNT_ADP_LIM h)) :=
      SameRegsBut.set ((SameRegsBut.refl _ _).of_regs (State.setHb_regs _ _ _)) (HB_CNT_ADP_LIM h) _ (by simp [HB_CNT_ADP_LIM])
    exact hset.of_regs (by rw [framed_regs, hrun, hb, State.raiseU_regs])

/-- Settles O10: an edge without its second crossing counts, a measured one moves its step, any other changes nothing. -/
theorem measuredEdgeMovesItsStep : Obligations.MeasuredEdgeMovesItsStep := by
  refine ⟨fun h high node i kind s hd hinv hstale hedge hkind => ?miss, fun h high node i kind m s hd hinv hstale hedge hkind had => ?step,
    fun h high node s hd hno => State.runIn_to hd (edgeMeasured_nothing hno) rfl rfl rfl⟩
  case miss => exact State.runIn_to hd (edgeMeasured_miss hinv hstale hedge hkind) rfl rfl rfl
  case step =>
    extract_lets tgt tol old
    obtain ⟨t, ht, hr⟩ := exec_edgeMeasured_step (k := kind) hd (edgeMeasured_step hinv hstale hedge hkind) had
    have hcnt : ∀ k : Fin 4, t.f (stepF h k) = (s.moveStep h kind m).f (stepF h k) ∧ t.f (measF h k) = (s.moveStep h kind m).f (measF h k) :=
      fun k => ⟨hr.f _ (by simpa [stepF_place] using (hbStep_addresses h).2.1), hr.f _ (by simpa [measF_place] using (hbStep_addresses h).2.2.1)⟩
    have hold : old < 16 := by
      have := s.f_lt (stepF h kind)
      rw [stepF_place] at this
      simpa [old, stepF_place] using this
    have hstep : t.f (stepF h kind) = movedStep tgt tol m old := (hcnt kind).1.trans (s.moveStep_step h kind m)
    refine ⟨t, ht, (hcnt kind).2.trans (s.moveStep_meas h kind m), fun hlong => ?_, fun hshort => ?_, fun hlo hhi => ?_, fun k hk => ?_, ?_⟩
    · rw [hstep, movedStep, if_pos hlong]
      split <;> omega
    · rw [hstep, movedStep, if_neg (by omega), if_pos hshort]
    · rw [hstep, movedStep, if_neg (by omega), if_neg (by omega)]
    · exact ⟨(hcnt k).1.trans (s.moveStep_others h kind m hk).1, (hcnt k).2.trans (s.moveStep_others h kind m hk).2⟩
    · exact (s.moveStep_frame h kind m).trans (hr.mono (by simp))

end Sys2Proof.Machine
end

section
/-!
PROOFS. The vector decision units (R129-R138, R214, R235): what a leg and a vector write, the cases of one decision, and the commands
that lead to one.
-/
namespace Sys2Proof.Machine

/-! ### Addresses of a unit -/

/-- A field that shares no bit with the written one keeps its value, in whatever register. -/
theorem State.f_set_disjoint (s : State) (x y : Fld) (v : Nat) (h : x.apart y = true) : (s.set x v).f y = s.f y := by
  by_cases ha : y.addr = x.addr
  · exact s.f_set_apart x y v ha h
  · exact s.f_set_ne x y v ha

theorem hbLoop_injective {h k : Nat} (e : HB_LOOP_A h = HB_LOOP_A k) : h = k := by
  unfold HB_LOOP_A at e
  omega

theorem hbLoop_ne_vduStat (h u : Nat) : HB_LOOP_A h ≠ VDU_STAT_A u := by
  unfold HB_LOOP_A VDU_STAT_A
  omega

theorem hbLoop_ne_bgStat (h g : Nat) : HB_LOOP_A h ≠ BG_STAT_A g := by
  unfold HB_LOOP_A BG_STAT_A
  omega

theorem vduStat_ne_bgStat (u g : Nat) : VDU_STAT_A u ≠ BG_STAT_A g := by
  unfold VDU_STAT_A BG_STAT_A
  omega

theorem leg_group {u i : Nat} (hi : i < 3) : (3 * u + i) / 6 = u / 2 := by omega

/-! ### A leg and a vector -/

/-- Registers that a unit's drive of its legs writes. -/
def legRegs (u : Nat) : List Nat := [HB_LOOP_A (3 * u), HB_LOOP_A (3 * u + 1), HB_LOOP_A (3 * u + 2)]

theorem hbLoop_mem_legRegs {u i : Nat} (hi : i < 3) : HB_LOOP_A (3 * u + i) ∈ legRegs u := by
  obtain rfl | rfl | rfl : i = 0 ∨ i = 1 ∨ i = 2 := by omega
  all_goals simp [legRegs]

/-- What driving the legs of unit `u` keeps: every register but those of the loops, their window states, and all of a unit's record
but its count of transitions. -/
structure LegsDriven (u : Nat) (s t : State) : Prop where
  regs : SameRegsBut (legRegs u) s t
  filt : ∀ k, t.f (HB_LOOP_FILT k) = s.f (HB_LOOP_FILT k)
  vdu : ∀ k, ∃ n, t.vdu k = { s.vdu k with trans := n }

section LegsDriven
variable {u : Nat} {s t : State}

theorem LegsDriven.refl (u : Nat) (s : State) : LegsDriven u s s := ⟨SameRegsBut.refl _ s, fun _ => rfl, fun _ => ⟨_, rfl⟩⟩

variable (h : LegsDriven u s t)
include h

/-- A loop field beside the window state may be written. -/
theorem LegsDriven.set {i : Nat} (x : Fld) (v : Nat) (hi : i < 3) (hx : x.addr = HB_LOOP_A (3 * u + i)) (hlo : (x.lo + x.width).ble 30 = true) :
    LegsDriven u s (t.set x v) where
  regs := h.regs.set x v (hx ▸ hbLoop_mem_legRegs hi)
  filt k := (State.f_set_disjoint _ _ _ _ (by simp only [Fld.apart, HB_LOOP_FILT, Bool.or_eq_true]; exact .inl hlo)).trans (h.filt k)
  vdu k := h.vdu k

theorem LegsDriven.setHb (k : Nat) (b : HbSt) : LegsDriven u s (t.setHb k b) where
  regs := h.regs.of_regs rfl
  filt := h.filt
  vdu := h.vdu

theorem LegsDriven.setTrans (k n : Nat) : LegsDriven u s (t.setVdu k { t.vdu k with trans := n }) where
  regs := h.regs.of_regs rfl
  filt := h.filt
  vdu j := by
    rw [State.setVdu_vdu]
    split
    · next hj =>
      subst hj
      obtain ⟨m, e⟩ := h.vdu j
      exact ⟨n, by rw [e]⟩
    · exact h.vdu j

theorem LegsDriven.of_ite {c : Prop} [Decidable c] {r : State} (k : LegsDriven u s r) : LegsDriven u s (if c then t else r) := by
  split
  · exact h
  · exact k

theorem LegsDriven.driveHb (k cmd : Nat) : LegsDriven u s (driveHb k cmd t) := by
  obtain ⟨b, hb, _⟩ := driveHb_only k cmd t
  rw [hb]
  exact h.setHb k b

theorem LegsDriven.driveLeg {i : Nat} (high count : Bool) (hi : i < 3) : LegsDriven u s (driveLeg u i high count t) := by
  unfold Machine.driveLeg
  extract_lets k changed swap t0 t1 v t2 b t3
  have h0 : LegsDriven u s t0 := (h.set (HB_LOOP_OFF k) 0 hi rfl rfl).set (HB_LOOP_SW k) _ hi rfl rfl
  have h1 : LegsDriven u s t1 := (h0.set (HB_LOOP_TRANS k) _ hi rfl rfl).of_ite h0
  have h2 : LegsDriven u s t2 := (h1.setTrans u _).of_ite h1
  have h3 : LegsDriven u s t3 := (h2.setHb k _).of_ite h2
  exact h3.driveHb k _

end LegsDriven

/-- A vector is written into VDU_STAT after its legs are driven. -/
theorem applyVec_legs (u v : Nat) (count : Bool) (s : State) : ∃ t, applyVec u v count s = t.set (VDU_STAT_VEC u) v ∧ LegsDriven u s t := by
  refine ⟨_, rfl, State.each_ind (LegsDriven u s) s ?_ (LegsDriven.refl u s)⟩
  intro i hi t ht
  have hi3 : i < 3 := by
    simp only [List.mem_cons, List.not_mem_nil, or_false] at hi
    omega
  exact (ht.driveLeg _ _ hi3).of_ite ht

section ApplyVec
variable (u v : Nat) (count : Bool) (s : State)

theorem applyVec_vec (hv : v < 8) : (applyVec u v count s).vec u = v := by
  obtain ⟨t, e, _⟩ := applyVec_legs u v count s
  rw [e]
  exact State.f_set_fits _ _ _ (Fld.fits rfl) hv

theorem applyVec_filt (k : Nat) : (applyVec u v count s).f (HB_LOOP_FILT k) = s.f (HB_LOOP_FILT k) := by
  obtain ⟨t, e, h⟩ := applyVec_legs u v count s
  rw [e, State.f_set_ne _ _ _ _ (hbLoop_ne_vduStat k u), h.filt]

/-- Of VDU_STAT only the vector changes. -/
theorem applyVec_f_stat (x : Fld) (hx : x.addr = VDU_STAT_A u) (hlo : 3 ≤ x.lo) : (applyVec u v count s).f x = s.f x := by
  obtain ⟨t, e, h⟩ := applyVec_legs u v count s
  rw [e, State.f_set_disjoint, h.regs.f]
  · rw [hx, legRegs]
    simp only [List.mem_cons, List.not_mem_nil, or_false, not_or]
    exact ⟨(hbLoop_ne_vduStat _ u).symm, (hbLoop_ne_vduStat _ u).symm, (hbLoop_ne_vduStat _ u).symm⟩
  · simp only [Fld.apart, VDU_STAT_VEC, Bool.or_eq_true, Nat.ble_eq]
    omega

theorem applyVec_frame : SameRegsBut (VDU_STAT_A u :: legRegs u) s (applyVec u v count s) := by
  obtain ⟨t, e, h⟩ := applyVec_legs u v count s
  rw [e]
  exact (h.regs.mono (List.subset_cons_self _ _)).set _ _ (by simp [VDU_STAT_VEC])

end ApplyVec

/-! ### The set turned off -/

/-- One half-bridge of a set that turns off. -/
def legOff (k : Nat) (t : State) : State := driveHb k 0 ((t.setHb k { t.hb k with minRun := false }).setB (HB_LOOP_OFF k) true)

theorem setOff_eq (u : Nat) (s : State) : ∃ v, setOff u s = (s.each [3 * u, 3 * u + 1, 3 * u + 2] legOff).setVdu u v := ⟨_, rfl⟩

/-- What the turn-off of a set shows of half-bridge `k`: OFF, the two gates, and the state of its group. -/
def legView (k : Nat) (t : State) : Bool × Bool × Bool × Nat :=
  (t.on (HB_LOOP_OFF k), (t.hb k).gh, (t.hb k).gl, t.groupState (k / 6))

/-- The half-bridge turned off: its gates follow unless the group is latched (R235). -/
def viewOff (x : Bool × Bool × Bool × Nat) : Bool × Bool × Bool × Nat :=
  (true, if x.2.2.2 = 4 then x.2.1 else false, if x.2.2.2 = 4 then x.2.2.1 else false, x.2.2.2)

theorem legOff_groupState (j g : Nat) (t : State) : (legOff j t).groupState g = t.groupState g := by
  obtain ⟨b, hb, _⟩ := driveHb_only j 0 ((t.setHb j { t.hb j with minRun := false }).setB (HB_LOOP_OFF j) true)
  rw [legOff, hb, State.setHb_groupState, State.setB_eq, State.groupState,
    State.f_set_ne _ (HB_LOOP_OFF j) (BG_STAT_STATE g) _ (hbLoop_ne_bgStat j g).symm, State.setHb_f]
  rfl

theorem legOff_view_ne {j k : Nat} (h : j ≠ k) (t : State) : legView k (legOff j t) = legView k t := by
  have hg := legOff_groupState j (k / 6) t
  obtain ⟨b, hb, _⟩ := driveHb_only j 0 ((t.setHb j { t.hb j with minRun := false }).setB (HB_LOOP_OFF j) true)
  have hoff : (legOff j t).on (HB_LOOP_OFF k) = t.on (HB_LOOP_OFF k) := by
    rw [legOff, hb, State.setHb_on, State.setB_eq, State.on_set_ne _ (HB_LOOP_OFF j) (HB_LOOP_OFF k) _ fun e => h (hbLoop_injective e).symm,
      State.setHb_on]
  have hhb : (legOff j t).hb k = t.hb k := by
    rw [legOff, hb, State.setHb_hb_ne _ _ _ _ h.symm, State.setB_eq, State.set_hb, State.setHb_hb_ne _ _ _ _ h.symm]
  rw [legView, hoff, hhb, hg, legView]

theorem legOff_view_same (k : Nat) (t : State) : legView k (legOff k t) = viewOff (legView k t) := by
  have hg := legOff_groupState k (k / 6) t
  obtain ⟨b, hb, _, hlatched, hfree⟩ := driveHb_only k 0 ((t.setHb k { t.hb k with minRun := false }).setB (HB_LOOP_OFF k) true)
  have hst : ((t.setHb k { t.hb k with minRun := false }).setB (HB_LOOP_OFF k) true).groupState (k / 6) = t.groupState (k / 6) := by
    rw [State.setB_eq, State.groupState, State.f_set_ne _ (HB_LOOP_OFF k) (BG_STAT_STATE (k / 6)) _ (hbLoop_ne_bgStat k _).symm,
      State.setHb_f]
    rfl
  have hoff : (legOff k t).on (HB_LOOP_OFF k) = true := by
    rw [legOff, hb, State.setHb_on]
    exact State.on_setB_same _ _ _ (Fld.fits rfl) rfl
  have hhb : (legOff k t).hb k = b := by rw [legOff, hb, State.setHb_hb_same]
  rw [hst] at hlatched hfree
  rw [State.setB_eq, State.set_hb, State.setHb_hb_same] at hlatched
  rw [legView, hoff, hhb, hg, viewOff]
  by_cases h4 : t.groupState (k / 6) = 4
  · obtain ⟨hgh, hgl⟩ := hlatched h4
    simp [legView, h4, hgh, hgl]
  · obtain ⟨_, hgh, hgl⟩ := hfree h4
    simp [legView, h4, hgh (by decide), hgl (by decide)]

theorem setOff_view {u i : Nat} (hi : i < 3) (s : State) : legView (3 * u + i) (setOff u s) = viewOff (legView (3 * u + i) s) := by
  obtain ⟨v, e⟩ := setOff_eq u s
  have hmem : 3 * u + i ∈ [3 * u, 3 * u + 1, 3 * u + 2] := by
    obtain rfl | rfl | rfl : i = 0 ∨ i = 1 ∨ i = 2 := by omega
    all_goals simp
  have hpass := State.each_at (legView (3 * u + i)) viewOff (f := legOff) s hmem (by simp) (fun j _ hj t => legOff_view_ne hj t)
    (fun t => legOff_view_same _ t)
  rw [e, ← hpass]
  simp only [legView, State.setVdu_on, State.setVdu_hb, State.setVdu_groupState]

/-! ### One decision (R133) -/

section Decide
variable {u : Nat} {s : State}

theorem State.tooShort_of_free (v : Nat) (h : ∀ i, i < 3 → (s.hb (3 * u + i)).minRun = false) : s.tooShort u v = false := by
  simp [State.tooShort, h 1 (by decide), h 2 (by decide), show (s.hb (3 * u)).minRun = false from h 0 (by decide)]

theorem decide_idle (hst : s.f (VDU_STAT_STATE u) ≠ 1) : decide_ u s = s := if_pos hst

theorem decide_windows (hst : s.f (VDU_STAT_STATE u) = 1) (hr : s.rank1 u = false) (hsv : (s.vdu u).saved = none)
    (hw : (s.vdu u).wait = 0) (hrun : ∀ i, i < 3 → (s.hb (3 * u + i)).minRun = false) :
    decide_ u s = if s.wanted u = s.vec u then s else applyVec u (s.wanted u) true s := by
  simp [decide_, hst, hr, hsv, hw, State.tooShort_of_free _ hrun]

theorem decide_refresh (hst : s.f (VDU_STAT_STATE u) = 1) (hr : s.rank1 u = false) (hsv : (s.vdu u).saved = none)
    (hw : (s.vdu u).wait ≠ 0) (hrun : ∀ i, i < 3 → (s.hb (3 * u + i)).minRun = false) :
    ∃ v, decide_ u s = ((applyVec u (s.refreshVec u) false s).inc (VDU_CNT_A_REFRESH u)).setVdu u v ∧ v.saved = some (s.vec u) := by
  refine ⟨{ ((applyVec u (s.refreshVec u) false s).inc (VDU_CNT_A_REFRESH u)).vdu u with
    saved := some (s.vec u), savedOff := 0, wait := 0, refSeen := true }, ?_, rfl⟩
  simp [decide_, hst, hr, hsv, hw, State.tooShort_of_free _ hrun]

theorem decide_restore {v : Nat} (hst : s.f (VDU_STAT_STATE u) = 1) (hr : s.rank1 u = false) (hsv : (s.vdu u).saved = some v)
    (hoff : (s.vdu u).savedOff ≠ 0) (hrun : ∀ i, i < 3 → (s.hb (3 * u + i)).minRun = false) :
    ∃ w, decide_ u s = (applyVec u v false s).setVdu u w ∧ w.saved = none := by
  refine ⟨{ (applyVec u v false s).vdu u with saved := none, savedOff := 0 }, ?_, rfl⟩
  simp [decide_, hst, hr, hsv, hoff, State.tooShort_of_free _ hrun]

end Decide

/-! ### The decision table (R131) -/

theorem vectorTable_lt {v a b c w : Nat} (h : vectorTable v a b c = some w) : w < 8 := by
  unfold vectorTable at h
  extract_lets ka kb kc at h
  have hka : ka < 2 := Nat.mod_lt _ (by decide)
  have hkb : kb < 2 := Nat.mod_lt _ (by decide)
  have hkc : kc < 2 := Nat.mod_lt _ (by decide)
  split at h <;> simp only [Option.some.injEq, reduceCtorEq] at h <;> omega

/-- Each row drives a phase below its window HIGH and one above it LOW. -/
theorem vectorTable_rows : ∀ (v : Fin 8) (a b c : Fin 3), (vectorTable v a b c = none ↔ a = b ∧ b = c) ∧
    (vectorTable v a b c).all (fun w => decide (w < 8 ∧ (a = 1 → bitOf w 2 = true) ∧ (a = 2 → bitOf w 2 = false) ∧
      (b = 1 → bitOf w 1 = true) ∧ (b = 2 → bitOf w 1 = false) ∧ (c = 1 → bitOf w 0 = true) ∧ (c = 2 → bitOf w 0 = false))) = true := by
  decide +kernel

/-- The vector of the table for the window states of unit `u`, the present one where the table holds it. -/
def State.tableVec (s : State) (u : Nat) : Nat :=
  (vectorTable (s.vec u) (s.f (HB_LOOP_FILT (3 * u))) (s.f (HB_LOOP_FILT (3 * u + 1))) (s.f (HB_LOOP_FILT (3 * u + 2)))).getD (s.vec u)

section TableVec
variable {u : Nat} {s : State}

theorem State.vec_lt (s : State) (u : Nat) : s.vec u < 8 := s.f_lt (VDU_STAT_VEC u)

theorem State.tableVec_lt (s : State) (u : Nat) : s.tableVec u < 8 := by
  unfold State.tableVec
  cases h : vectorTable (s.vec u) (s.f (HB_LOOP_FILT (3 * u))) (s.f (HB_LOOP_FILT (3 * u + 1))) (s.f (HB_LOOP_FILT (3 * u + 2))) with
  | none => exact s.vec_lt u
  | some w => exact vectorTable_lt h

theorem State.wanted_vector (hm : s.f (VDU_STAT_MODE u) = 1) : s.wanted u = s.tableVec u := by
  unfold State.wanted
  extract_lets d
  rw [if_neg (by omega)]
  rfl

/-- A unit in VECTOR mode that decides freely takes the vector of the table, and keeps its window states and their pattern. -/
theorem decide_vector (hst : s.f (VDU_STAT_STATE u) = 1) (hm : s.f (VDU_STAT_MODE u) = 1) (hr : s.rank1 u = false)
    (hsv : (s.vdu u).saved = none) (hw : (s.vdu u).wait = 0) (hrun : ∀ i, i < 3 → (s.hb (3 * u + i)).minRun = false) :
    (decide_ u s).vec u = s.tableVec u ∧ (s.tableVec u = s.vec u → decide_ u s = s) ∧
      (∀ k, (decide_ u s).f (HB_LOOP_FILT k) = s.f (HB_LOOP_FILT k)) ∧
      (decide_ u s).f (VDU_STAT_PATTERN u) = s.f (VDU_STAT_PATTERN u) := by
  rw [decide_windows hst hr hsv hw hrun, State.wanted_vector hm]
  split
  · next hkeep => exact ⟨hkeep.symm, fun _ => rfl, fun _ => rfl, rfl⟩
  · next hnew =>
    exact ⟨applyVec_vec u _ true s (s.tableVec_lt u), fun h => absurd h hnew, applyVec_filt u _ true s,
      applyVec_f_stat u _ true s (VDU_STAT_PATTERN u) rfl (by simp [VDU_STAT_PATTERN])⟩

end TableVec

/-! ### A window change (R129, R131) -/

theorem vduCnt_addresses (u k g : Nat) : HB_LOOP_A k ≠ VDU_CNT_A_A u ∧ VDU_STAT_A u ≠ VDU_CNT_A_A u ∧ BG_STAT_A g ≠ VDU_CNT_A_A u := by
  unfold HB_LOOP_A VDU_CNT_A_A VDU_STAT_A BG_STAT_A
  omega

/-- The code of a window whose comparators read `above` and `below`; both count as inside. -/
def windowCode (above below : Bool) : Nat := if above && below then 0 else if below then 1 else if above then 2 else 0

theorem windowCode_lt (above below : Bool) : windowCode above below < 4 := by cases above <;> cases below <;> decide

/-- What a window change shows before the unit of half-bridge `h` decides. -/
structure WindowShown (h code : Nat) (s t : State) : Prop where
  filt : ∀ k, t.f (HB_LOOP_FILT k) = if k = h then code else s.f (HB_LOOP_FILT k)
  pattern : t.f (VDU_STAT_PATTERN (h / 3)) = 16 * t.f (HB_LOOP_FILT (3 * (h / 3))) + 4 * t.f (HB_LOOP_FILT (3 * (h / 3) + 1)) +
    t.f (HB_LOOP_FILT (3 * (h / 3) + 2))
  stat : ∀ x, x.addr = VDU_STAT_A (h / 3) → (VDU_STAT_PATTERN (h / 3)).apart x = true → t.f x = s.f x
  group : ∀ x g, x.addr = BG_STAT_A g → t.f x = s.f x
  vdu : ∀ k, t.vdu k = s.vdu k
  run : ∀ k, (t.hb k).minRun = (s.hb k).minRun

theorem windowChange_shows (h : Nat) (above below : Bool) (s : State) :
    ∃ t, windowChange h above below s = decide_ (h / 3) t ∧ WindowShown h (windowCode above below) s t := by
  unfold windowChange
  extract_lets u code b t t1 old d new t2 t3
  have hcnt := fun k g => vduCnt_addresses u k g
  have hinc : ∀ (r : State) (c : Bool) (x : Fld), x.addr ≠ VDU_CNT_A_A u → (if c then r.inc (VDU_CNT_A_IMPL u) else r).f x = r.f x := by
    intro r c x hx
    split
    · rw [State.inc_eq, State.f_set_ne _ (VDU_CNT_A_IMPL u) x _ hx]
    · rfl
  have hkeep : ∀ (r : State) (c : Bool), (if c then r.inc (VDU_CNT_A_IMPL u) else r).hbs = r.hbs ∧
      (if c then r.inc (VDU_CNT_A_IMPL u) else r).vdus = r.vdus := by
    intro r c
    split
    · exact ⟨State.set_hbs _ _ _, State.set_vdus _ _ _⟩
    · exact ⟨rfl, rfl⟩
  have hhbs : t3.hbs = (s.setHb h { b with above := above, below := below }).hbs :=
    (hkeep t2 _).1.trans ((State.set_hbs t1 _ _).trans ((hkeep t _).1.trans (State.set_hbs _ _ _)))
  have hvdus : t3.vdus = s.vdus :=
    (hkeep t2 _).2.trans ((State.set_vdus t1 _ _).trans ((hkeep t _).2.trans ((State.set_vdus _ _ _).trans (State.setHb_vdus _ _ _))))
  have hfilt1 : ∀ k, t1.f (HB_LOOP_FILT k) = if k = h then code else s.f (HB_LOOP_FILT k) := by
    intro k
    rw [show t1.f (HB_LOOP_FILT k) = t.f (HB_LOOP_FILT k) from hinc t _ _ (hcnt k 0).1]
    split
    · next e =>
      rw [e]
      exact State.f_set_fits _ _ _ (Fld.fits rfl) (windowCode_lt above below)
    · next e =>
      rw [show t = (s.setHb h _).set (HB_LOOP_FILT h) code from rfl, State.f_set_ne _ (HB_LOOP_FILT h) (HB_LOOP_FILT k) _
        fun a => e (hbLoop_injective a), State.setHb_f]
  have hfilt3 : ∀ k, t3.f (HB_LOOP_FILT k) = t1.f (HB_LOOP_FILT k) := by
    intro k
    rw [show t3.f (HB_LOOP_FILT k) = t2.f (HB_LOOP_FILT k) from hinc t2 _ _ (hcnt k 0).1]
    exact State.f_set_ne t1 (VDU_STAT_PATTERN u) (HB_LOOP_FILT k) new (hbLoop_ne_vduStat k u)
  refine ⟨t3, rfl, fun k => (hfilt3 k).trans (hfilt1 k), ?_, fun x hx hapart => ?_, fun x g hx => ?_, fun k => ?_, fun k => ?_⟩
  · have hnew : new < 2 ^ (VDU_STAT_PATTERN u).width := by
      have hd : ∀ i, d i < 4 := fun i => t1.f_lt (HB_LOOP_FILT (3 * u + i))
      have h0 := hd 0
      have h1 := hd 1
      have h2 := hd 2
      show 16 * d 0 + 4 * d 1 + d 2 < 64
      omega
    rw [show t3.f (VDU_STAT_PATTERN u) = t2.f (VDU_STAT_PATTERN u) from hinc t2 _ _ (hcnt 0 0).2.1, hfilt3, hfilt3, hfilt3]
    exact State.f_set_fits _ _ _ (Fld.fits rfl) hnew
  · have hxc : x.addr ≠ VDU_CNT_A_A u := by rw [hx]; exact (hcnt 0 0).2.1
    have hxl : x.addr ≠ (HB_LOOP_FILT h).addr := by rw [hx]; exact (hbLoop_ne_vduStat h u).symm
    rw [show t3.f x = t2.f x from hinc t2 _ _ hxc, show t2.f x = t1.f x from State.f_set_disjoint _ _ _ _ hapart,
      show t1.f x = t.f x from hinc t _ _ hxc, show t.f x = _ from State.f_set_ne _ _ _ _ hxl, State.setHb_f]
  · have hxc : x.addr ≠ VDU_CNT_A_A u := by rw [hx]; exact (hcnt 0 g).2.2
    have hxp : x.addr ≠ (VDU_STAT_PATTERN u).addr := by rw [hx]; exact (vduStat_ne_bgStat u g).symm
    have hxl : x.addr ≠ (HB_LOOP_FILT h).addr := by rw [hx]; exact (hbLoop_ne_bgStat h g).symm
    rw [show t3.f x = t2.f x from hinc t2 _ _ hxc, show t2.f x = t1.f x from State.f_set_ne _ _ _ _ hxp,
      show t1.f x = t.f x from hinc t _ _ hxc, show t.f x = _ from State.f_set_ne _ _ _ _ hxl, State.setHb_f]
  · rw [State.vdu, State.vdu, hvdus]
  · rw [State.hb, hhbs, ← State.hb, State.setHb_hb]
    split
    · next e => rw [e]
    · rfl

theorem State.rank1_congr {s t : State} (u : Nat) (h : ∀ x g, x.addr = BG_STAT_A g → t.f x = s.f x) : t.rank1 u = s.rank1 u := by
  rw [State.rank1, State.rank1, State.groupState, State.groupState, h (BG_STAT_STATE (u / 2)) _ rfl,
    State.on_of_f (h (BG_STAT_HELD (u / 2)) _ rfl)]

/-- Settles O14: the unit decides on what the window change shows, and the rows of the table are checked one by one. -/
theorem windowsDecideTheVector : Obligations.WindowsDecideTheVector := by
  refine ⟨fun h x y z s hd => ?change, fun v a b c => ⟨(vectorTable_rows v a b c).1, fun w hw => ?row⟩⟩
  case change =>
    intro u above below code d hst hm hr hsv hw hrun
    obtain ⟨t, e, hshown⟩ := windowChange_shows h above below s
    have hstat := hshown.stat
    have hvec : t.vec u = s.vec u := hstat (VDU_STAT_VEC u) rfl rfl
    have hd : ∀ i, t.f (HB_LOOP_FILT (3 * u + i)) = d i := fun i => hshown.filt _
    obtain ⟨htable, _, hfilt, hpat⟩ := decide_vector (u := u) (s := t) ((hstat (VDU_STAT_STATE u) rfl rfl).trans hst)
      ((hstat (VDU_STAT_MODE u) rfl rfl).trans hm) ((State.rank1_congr u hshown.group).trans hr) (by rw [hshown.vdu]; exact hsv)
      (by rw [hshown.vdu]; exact hw) (fun i hi => by rw [hshown.run]; exact hrun i hi)
    refine ⟨_, State.runIn_on s 6 _ ‹_›, ?_, ?_, ?_⟩
    · rw [framed_f, windowSample, e, hfilt, hshown.filt, if_pos rfl]
      rfl
    · rw [framed_f, windowSample, e, hpat, hshown.pattern]
      exact congrArg₂ (· + ·) (congrArg₂ (· + ·) (congrArg (16 * ·) (hd 0)) (congrArg (4 * ·) (hd 1))) (hd 2)
    · rw [framed_vec, windowSample, e, htable, State.tableVec, hvec, ← hd 0, ← hd 1, ← hd 2]
      rfl
  case row =>
    have hall := (vectorTable_rows v a b c).2
    rw [hw, Option.all_some] at hall
    exact of_decide_eq_true hall

/-! ### Rank 1, the refresh and the end of MIN_PULSE -/

theorem vduCntRefresh_not_driven (u : Nat) : VDU_CNT_A_A u ∉ VDU_STAT_A u :: legRegs u := by
  simp only [legRegs, List.mem_cons, List.not_mem_nil, or_false, not_or, VDU_CNT_A_A, VDU_STAT_A, HB_LOOP_A]
  omega

theorem refreshVec_vector {u : Nat} {s : State} (hm : s.f (VDU_STAT_MODE u) = 1) : s.refreshVec u = 0 := by
  unfold State.refreshVec
  rw [if_neg (by omega)]

theorem withBit_true_ne_zero (n k : Nat) : withBit n k true ≠ 0 := fun e => by
  have h := bitOf_withBit n k k true
  rw [e, if_pos rfl] at h
  simp [bitOf] at h

theorem rank1_free {u : Nat} {s : State} (h : s.rank1 u = false) : s.groupState (u / 2) = 3 := by
  simp only [State.rank1, Bool.or_eq_false_iff, bne_eq_false_iff_eq] at h
  exact h.1

/-- Settles O15: each command leads to the case of `decide_` that its premises name, or to none. -/
theorem unitYieldsToHoldAndRefresh : Obligations.UnitYieldsToHoldAndRefresh := by
  refine ⟨fun u s hd hst hr => ?held, fun h s hd hno => ?never, fun h s hd hmode hhigh hst hm hr hsv hrun => ?refresh,
    fun u v s hd hst hr hsv hv hrun => ?restore, fun h s hd hst => ?idle, fun h s hd => ?minPulse⟩
  case held =>
    have hheld : heldOff u s = (setOff u s).set (VDU_STAT_STATE u) 3 := if_pos ⟨hst, hr⟩
    refine ⟨_, State.runIn_on s 6 _ hd, ?_, fun i hi => ?_⟩
    · rw [framed_f, hheld]
      exact State.f_set_fits _ _ _ (Fld.fits rfl) (show 3 < 2 ^ 3 by decide)
    · have hview := setOff_view (u := u) hi s
      simp only [legView, viewOff, Prod.mk.injEq, leg_group hi] at hview
      obtain ⟨hoff, hgh, hgl, _⟩ := hview
      rw [framed_on, framed_hb, hheld, State.set_hb, hgh, hgl,
        State.on_set_ne _ (VDU_STAT_STATE u) (HB_LOOP_OFF (3 * u + i)) _ (hbLoop_ne_vduStat _ _)]
      exact ⟨hoff, fun h4 => by simp [h4], fun h4 => by simp [h4]⟩
  case never => exact State.runIn_to hd (if_pos (by simpa using hno)) rfl rfl rfl
  case refresh =>
    have hreq : refreshRequest h s = requestRefresh h s := if_neg (by simp [hmode, hhigh])
    have hgrp : s.groupState (h / 6) = 3 := by
      have := rank1_free hr
      rwa [Nat.div_div_eq_div_mul] at this
    obtain ⟨v, e, hsaved⟩ := decide_refresh (u := h / 3)
      (s := s.setVdu (h / 3) { s.vdu (h / 3) with wait := withBit (s.vdu (h / 3)).wait (h % 3) true }) hst hr (by simpa using hsv)
      (by simpa using withBit_true_ne_zero _ _) hrun
    have hreqv : requestRefresh h s = _ := if_pos ⟨hst, hgrp⟩
    rw [refreshVec_vector (by simpa using hm)] at e
    generalize hs' : s.setVdu (h / 3) { s.vdu (h / 3) with wait := withBit (s.vdu (h / 3)).wait (h % 3) true } = s' at e hsaved hreqv
    have hvec' : s'.vec (h / 3) = s.vec (h / 3) := by rw [← hs', State.setVdu_vec]
    have hcnt' : s'.f (VDU_CNT_A_REFRESH (h / 3)) = s.f (VDU_CNT_A_REFRESH (h / 3)) := by rw [← hs', State.setVdu_f]
    refine ⟨_, State.runIn_on s 6 _ hd, ?_, ?_, ?_⟩
    · rw [framed_vec, hreq, hreqv, e, State.setVdu_vec, State.inc_eq, State.vec,
        State.f_set_ne _ (VDU_CNT_A_REFRESH (h / 3)) (VDU_STAT_VEC (h / 3)) _ (vduCnt_addresses (h / 3) 0 0).2.1]
      exact applyVec_vec _ 0 _ _ (by decide)
    · rw [framed_vdu, hreq, hreqv, e, State.setVdu_vdu_same, hsaved, hvec']
    · rw [framed_f, hreq, hreqv, e, State.setVdu_f, State.f_inc_same _ _ (Fld.fits rfl),
        (applyVec_frame (h / 3) 0 false s').f (VDU_CNT_A_REFRESH (h / 3)) (vduCntRefresh_not_driven _), hcnt']
  case restore =>
    have hend : refreshEnd u s = decide_ u (s.setVdu u { s.vdu u with savedOff := 1 }) := if_pos (by simp [hsv])
    obtain ⟨w, e, hw⟩ := decide_restore (u := u) (s := s.setVdu u { s.vdu u with savedOff := 1 }) hst hr (by simpa using hsv)
      (by simp) hrun
    refine ⟨_, State.runIn_on s 6 _ hd, ?_, ?_⟩
    · rw [framed_vec, hend, e, State.setVdu_vec]
      exact applyVec_vec _ v _ _ hv
    · rw [framed_vdu, hend, e, State.setVdu_vdu_same, hw]
  case idle => exact State.runIn_to hd (decide_idle hst) rfl rfl rfl
  case minPulse =>
    intro u d hst hm hr hsv hw hrun
    have hrun' : ∀ i, i < 3 → ((s.setHb h { s.hb h with minRun := false }).hb (3 * u + i)).minRun = false := by
      intro i hi
      rw [State.setHb_hb]
      split
      · rfl
      · next hne => exact hrun i hi hne
    obtain ⟨htable, hkeep, _⟩ := decide_vector (u := u) (s := s.setHb h { s.hb h with minRun := false }) hst hm hr hsv hw hrun'
    refine ⟨_, State.runIn_on s 6 _ hd, ?_, fun hsame => ?_⟩
    · rw [framed_vec, minPulseEnd, htable]
      rfl
    · rw [minPulseEnd, hkeep hsame]
      exact framed_self _ _ (by simp) (by simp) (by simp)

end Sys2Proof.Machine
end

section
/-!
PROOFS. Auxiliary outputs and the bus chopper (R163, R218-R221, R227, R229, R230).
-/
namespace Sys2Proof.Machine

/-! ### Auxiliary outputs -/

theorem exec_auxRb (x : Fin 8) (s : State) (hd : s.dom 6 = true) :
    exec (.auxRb x) s = .next (if bitOf s.aux.rbEp x || bitOf s.aux.rbNew x then
        { s with aux := { s.aux with rbNew := withBit s.aux.rbNew x true } }
      else ({ s with aux := { s.aux with rbNew := withBit s.aux.rbNew x true } }.inc AUX_CNT_AUX_RB).raiseU (0x180 + x)) := by
  refine State.runIn_to hd rfl ?_ ?_ ?_ <;> split <;> simp [State.inc_eq]

section TqRb
variable {x : Nat} {s : State} (hx : x < 2) (hep : bitOf s.aux.tqRbEp x = false) (hnew : bitOf s.aux.tqNew x = false)

/-- The read-back of a torque-off switch shown, with its episode. -/
def State.tqSeen (s : State) (x : Nat) : State :=
  { s.setBit AUX_STAT_TQ_RB x (!s.fbit AUX_STAT_TQ_CMD x) with aux := { s.aux with tqNew := withBit s.aux.tqNew x true } }

include hep hnew in
theorem tqRb_first : tqRb x s = ((s.tqSeen x).inc AUX_CNT_TQ_RB).raiseU (0x18A + x) := if_neg (by simp [hep, hnew])

theorem State.tqSeen_f (s : State) (x : Nat) (y : Fld) :
    (s.tqSeen x).f y = (s.setBit AUX_STAT_TQ_RB x (!s.fbit AUX_STAT_TQ_CMD x)).f y := rfl

theorem State.tqSeen_frame (s : State) (x : Nat) : SameRegsBut [AUX_STAT_A, AUX_CNT_A] s (s.tqSeen x) :=
  SameRegsBut.of_regs ((SameRegsBut.refl _ s).set AUX_STAT_TQ_RB (withBit (s.f AUX_STAT_TQ_RB) x (!s.fbit AUX_STAT_TQ_CMD x))
    (by simp [AUX_STAT_TQ_RB])) rfl

end TqRb

/-- The assertion of the return of a stage in use: its marks, and the stage out from the next TICK. -/
def State.retLost (s : State) (k : Nat) : State :=
  ((s.setBit AUX_STAT_FLT_RET k true).inc AUX_CNT_FLT_RET).setBit AUX_STAT_RET_ACT k false

theorem auxFlt_named {k : Nat} {s : State} (hk : bitOf (s.e BLD_CFG_RET_STAGES) k = true) :
    auxFlt k s = { (s.retLost k).raise 0x3A2 k with
      aux := { s.aux with fltPin := withBit s.aux.fltPin k true, retOut := withBit s.aux.retOut k true } } := by
  unfold auxFlt State.when
  exact if_pos hk

theorem auxFlt_unnamed {k : Nat} {s : State} (hk : bitOf (s.e BLD_CFG_RET_STAGES) k = false) :
    auxFlt k s = { s with aux := { s.aux with fltPin := withBit s.aux.fltPin k true } } :=
  if_neg (by rw [show bitOf _ k = false from hk]; decide)

theorem auxCnt_ne_auxStat : AUX_CNT_A ≠ AUX_STAT_A := by decide

section RetLost
variable (s : State) {k : Nat} (hk : k < 4)
include hk

theorem State.retLost_flt : (s.retLost k).fbit AUX_STAT_FLT_RET k = true := by
  have hbit := s.fbit_setBit AUX_STAT_FLT_RET k k true (by decide) hk
  rw [if_pos rfl] at hbit
  refine (State.fbit_of_f ?_ k).trans hbit
  rw [State.retLost, State.setBit_eq _ AUX_STAT_RET_ACT, State.f_set_apart _ AUX_STAT_RET_ACT AUX_STAT_FLT_RET _ rfl rfl, State.inc_eq,
    State.f_set_ne _ AUX_CNT_FLT_RET AUX_STAT_FLT_RET _ auxCnt_ne_auxStat.symm]

theorem State.retLost_act : (s.retLost k).fbit AUX_STAT_RET_ACT k = false := by
  have hbit := ((s.setBit AUX_STAT_FLT_RET k true).inc AUX_CNT_FLT_RET).fbit_setBit AUX_STAT_RET_ACT k k false (by decide) hk
  rwa [if_pos rfl] at hbit

omit hk in
theorem State.retLost_count : (s.retLost k).f AUX_CNT_FLT_RET = satU 8 (s.f AUX_CNT_FLT_RET + 1) := by
  rw [State.retLost, State.setBit_eq _ AUX_STAT_RET_ACT, State.f_set_ne _ AUX_STAT_RET_ACT AUX_CNT_FLT_RET _ auxCnt_ne_auxStat,
    State.f_inc_same _ _ (by decide), State.setBit_eq, State.f_set_ne _ AUX_STAT_FLT_RET AUX_CNT_FLT_RET _ auxCnt_ne_auxStat]
  rfl

omit hk in
theorem State.retLost_frame : SameRegsBut [AUX_STAT_A, AUX_CNT_A] s (s.retLost k) :=
  (((SameRegsBut.refl _ s).set AUX_STAT_FLT_RET _ (by simp [AUX_STAT_FLT_RET])).set AUX_CNT_FLT_RET _ (by simp [AUX_CNT_FLT_RET])).set
    AUX_STAT_RET_ACT _ (by simp [AUX_STAT_RET_ACT])

end RetLost

theorem exec_parkI (k : Fin 2) (s : State) (hd : s.dom 6 = true) (hrun : s.msTicks 20 ≤ s.aux.parkBad.getD k 0)
    (hep : bitOf s.aux.parkEp k = false) : exec (.parkI k) s =
      .next ((({ s with aux := { s.aux with parkEp := withBit s.aux.parkEp k true } }).inc AUX_CNT_PARK_I).raiseU (0x188 + k)) :=
  State.runIn_to hd (if_pos ⟨hrun, by simp [hep]⟩) (by simp [State.inc_eq]) (by simp [State.inc_eq]) (by simp [State.inc_eq])

/-! ### The bus chopper (R229, R230) -/

theorem State.chopOut_lt {s : State} {k c : Nat} (h : s.chopOut k = some c) : c < 2 := by
  unfold State.chopOut at h
  split_ifs at h <;> injection h with h <;> omega

theorem State.chopOut_on {s : State} {k c : Nat} (h : s.chopOut k = some c) : s.on (SUP_BCFG_EN k) = true := by
  cases hen : s.on (SUP_BCFG_EN k) with
  | true => rfl
  | false => simp [State.chopOut, hen] at h

theorem supBstat_ne (k : Nat) : AUX_STAT_A ≠ SUP_BSTAT_A k ∧ SUP_CHOP_A ≠ SUP_BSTAT_A k ∧ AUX_STAT_A ≠ SUP_CHOP_A := by
  unfold AUX_STAT_A SUP_BSTAT_A SUP_CHOP_A
  omega

/-- The gate of a chopper as its marks show it. -/
def State.showChop (s : State) (k c : Nat) (high : Bool) : State := (s.setBit AUX_STAT_CHOP_ACT c high).setB (SUP_BSTAT_CHOP_ACT k) high

section ShowChop
variable (s : State) (k : Nat) {c : Nat} (high : Bool)

theorem State.showChop_act (hc : c < 2) : (s.showChop k c high).fbit AUX_STAT_CHOP_ACT c = high := by
  have hbit := s.fbit_setBit AUX_STAT_CHOP_ACT c c high (by decide) hc
  rw [if_pos rfl] at hbit
  refine (State.fbit_of_f ?_ c).trans hbit
  rw [State.showChop, State.setB_eq, State.f_set_ne _ (SUP_BSTAT_CHOP_ACT k) AUX_STAT_CHOP_ACT _ (supBstat_ne k).1]

theorem State.showChop_bus : (s.showChop k c high).on (SUP_BSTAT_CHOP_ACT k) = high := State.on_setB_same _ _ _ (Fld.fits rfl) rfl

theorem State.showChop_frame : SameRegsBut [AUX_STAT_A, SUP_BSTAT_A k] s (s.showChop k c high) :=
  ((SameRegsBut.refl _ s).set AUX_STAT_CHOP_ACT _ (by simp [AUX_STAT_CHOP_ACT])).set (SUP_BSTAT_CHOP_ACT k) _ (by simp [SUP_BSTAT_CHOP_ACT])

end ShowChop

/-- A chopper gate that goes high shows it; a rising edge counts beside. -/
theorem chopDrive_high {s : State} (k c : Nat) (hheld : s.aux.auxHeld = false) :
    chopDrive k c true s = (if !s.fbit AUX_STAT_CHOP_ACT c then (s.showChop k c true).incWrap (if c = 0 then SUP_CHOP_ON_0 else SUP_CHOP_ON_1)
      else s.showChop k c true) := by
  simp only [chopDrive, hheld, Bool.not_false, Bool.and_self, Bool.true_and, if_true, State.showChop]

theorem chopDrive_low (k c : Nat) (s : State) : chopDrive k c false s =
    { s.showChop k c false with aux := { s.aux with chopEp := withBit s.aux.chopEp c false } } := rfl

theorem chopDrive_high_frame {s : State} (k c : Nat) (hheld : s.aux.auxHeld = false) :
    SameRegsBut [SUP_CHOP_A] (s.showChop k c true) (chopDrive k c true s) := by
  rw [chopDrive_high k c hheld]
  refine SameRegsBut.of_ite ((SameRegsBut.refl _ _).set _ _ ?_) (SameRegsBut.refl _ _)
  split <;> simp [SUP_CHOP_ON_0, SUP_CHOP_ON_1]

/-- The state with the comparator at U_CH_ON noted. -/
def State.chopAt (s : State) (k : Nat) (above : Bool) : State :=
  { s with aux := { s.aux with chopAbove := withBit s.aux.chopAbove k above } }

theorem chopOn_drives {k c : Nat} {x y z : Int} {s : State} (hout : s.chopOut k = some c)
    (habove : aboveEdge (s.busCode k (s.f (SUP_BTH_U_CH_ON k))) x y z = true) : chopOn k x y z s = chopDrive k c true (s.chopAt k true) := by
  have hout' : (s.chopAt k true).chopOut k = some c := hout
  rw [chopOn, State.when, if_pos (State.chopOut_on hout), habove]
  show (match (s.chopAt k true).chopOut k with
    | some c => chopDrive k c true (s.chopAt k true)
    | none => s.chopAt k true) = _
  rw [hout']

theorem chopOn_below {k : Nat} {x y z : Int} {s : State} (hen : s.on (SUP_BCFG_EN k) = true)
    (hbelow : aboveEdge (s.busCode k (s.f (SUP_BTH_U_CH_ON k))) x y z = false) : chopOn k x y z s =
      { s with aux := { s.aux with chopAbove := withBit s.aux.chopAbove k false, hovEp := withBit s.aux.hovEp k false } } := by
  rw [chopOn, State.when, if_pos hen, hbelow]
  rfl

theorem chopOff_served {k c : Nat} {x y z : Int} {s : State} (hout : s.chopOut k = some c) : chopOff k x y z s =
    if belowEdge (s.busCode k (s.f (SUP_BTH_U_CH_OFF k))) x y z then chopDrive k c false s else s := by
  simp [chopOff, hout, State.when]

/-- Settles O13: what each report and each comparator shows, and what it counts. -/
theorem auxiliaryOutputsFollowTheirInputs : Obligations.AuxiliaryOutputsFollowTheirInputs := by
  refine ⟨fun x s hd => exec_auxRb x s hd, fun x s hd hep hnew => ?tqRb, fun k s hd hk => ?flt, fun k s hd hk => ?fltElse,
    fun k s hd hrun hep => exec_parkI k s hd hrun hep, fun k c x y z s hd hout hheld habove => ?chopOn, fun k x y z s hd => ⟨fun hen => ?unmonitored, fun hen hbelow => ?below⟩,
    fun k c x y z s hd hout => ⟨fun hbelow => ?chopOff, fun hbelow => ?chopKeep⟩, fun c s hd hact hep => ?long⟩
  case tqRb =>
    have hbit := s.fbit_setBit AUX_STAT_TQ_RB x x (!s.fbit AUX_STAT_TQ_CMD x) (by decide) x.isLt
    rw [if_pos rfl] at hbit
    refine ⟨_, State.runIn_to hd (tqRb_first hep hnew) (by simp [State.inc_eq, State.tqSeen, State.setBit_eq])
      (by simp [State.inc_eq, State.tqSeen, State.setBit_eq]) (by simp [State.inc_eq, State.tqSeen, State.setBit_eq]), ?_, ?_, ?_, ?_⟩
    · rw [State.raiseU_f, State.f_inc_same _ _ (by decide), State.tqSeen_f, State.setBit_eq,
        State.f_set_ne _ AUX_STAT_TQ_RB AUX_CNT_TQ_RB _ auxCnt_ne_auxStat]
      rfl
    · rw [State.raiseU_fbit, ← hbit]
      refine State.fbit_of_f ?_ x
      rw [State.inc_eq, State.f_set_ne _ AUX_CNT_TQ_RB AUX_STAT_TQ_RB _ auxCnt_ne_auxStat.symm, State.tqSeen_f]
    · rw [State.raiseU_f, State.inc_eq, State.f_set_ne _ AUX_CNT_TQ_RB AUX_STAT_TQ_CMD _ auxCnt_ne_auxStat.symm, State.tqSeen_f,
        State.setBit_eq, State.f_set_apart _ AUX_STAT_TQ_RB AUX_STAT_TQ_CMD _ rfl rfl]
    · exact ((s.tqSeen_frame x).set AUX_CNT_TQ_RB _ (by simp [AUX_CNT_TQ_RB])).of_regs (State.raiseU_regs _ _)
  case flt =>
    have hr : (auxFlt k s).regs = (s.retLost k).regs := by
      rw [auxFlt_named hk]
      exact State.raise_regs (s.retLost k) 0x3A2 k
    have hf : ∀ y : Fld, (auxFlt k s).f y = (s.retLost k).f y := State.f_congr hr
    refine ⟨_, State.runIn_on s 6 _ hd, ?_, ?_, ?_, ?_, ?_⟩
    · rw [framed_fbit, State.fbit_of_f (hf _)]
      exact s.retLost_flt k.isLt
    · rw [framed_fbit, State.fbit_of_f (hf _)]
      exact s.retLost_act k.isLt
    · rw [framed_aux, auxFlt_named hk]
      exact (bitOf_withBit _ _ _ _).trans (if_pos rfl)
    · rw [framed_f, hf]
      exact s.retLost_count
    · exact s.retLost_frame.of_regs hr
  case fltElse => exact State.runIn_to hd (auxFlt_unnamed hk) rfl rfl rfl
  case chopOn =>
    have hframe : SameRegsBut [SUP_CHOP_A] ((s.chopAt k true).showChop k c true) (chopOn k x y z s) := by
      rw [chopOn_drives hout habove]
      exact chopDrive_high_frame k c hheld
    refine ⟨_, State.runIn_on s 6 _ hd, ?_, ?_, ?_⟩
    · rw [framed_fbit, State.fbit_of_f (hframe.f AUX_STAT_CHOP_ACT (by decide))]
      exact State.showChop_act _ _ _ (State.chopOut_lt hout)
    · rw [framed_on, hframe.on (SUP_BSTAT_CHOP_ACT k) (by simpa [SUP_BSTAT_CHOP_ACT] using (supBstat_ne k).2.1.symm)]
      exact State.showChop_bus _ _ _
    · have hshow : SameRegsBut [AUX_STAT_A, SUP_BSTAT_A k] s ((s.chopAt k true).showChop k c true) := (s.chopAt k true).showChop_frame k true
      exact (hshow.mono (by simp)).trans (hframe.mono (by simp [SUP_CHOP_ON_0]))
  case unmonitored => exact State.runIn_to hd (if_neg (by simp [hen])) rfl rfl rfl
  case below => exact State.runIn_to hd (chopOn_below hen hbelow) rfl rfl rfl
  case chopOff =>
    have hoff : chopOff k x y z s = chopDrive k c false s := by rw [chopOff_served hout, if_pos hbelow]
    have hr : (chopOff k x y z s).regs = (s.showChop k c false).regs := by rw [hoff, chopDrive_low]
    have hf : ∀ r : Fld, (chopOff k x y z s).f r = (s.showChop k c false).f r := State.f_congr hr
    refine ⟨_, State.runIn_on s 6 _ hd, ?_, ?_, ?_⟩
    · rw [framed_fbit]
      exact (State.fbit_of_f (hf _) c).trans (s.showChop_act k false (State.chopOut_lt hout))
    · rw [framed_on]
      exact (State.on_of_f (hf _)).trans (s.showChop_bus k false)
    · exact (s.showChop_frame k false).of_regs hr
  case chopKeep => exact State.runIn_to hd (by rw [chopOff_served hout, if_neg (by simp [hbelow])]) rfl rfl rfl
  case long => exact State.runIn_to hd (if_pos (by simp [hact, hep])) rfl rfl rfl

end Sys2Proof.Machine
end

section
/-!
PROOFS. Latching of a group (R231-R237): what a latch cause does to its group and leaves of the others, desaturation with its soft
turn-off, and bus and gate supply faults.
-/
namespace Sys2Proof.Machine

/-! ### Passes over groups -/

/-- Where each index but `k` keeps the premise before, and the conclusion after, the pass of `k` decides. -/
theorem State.each_once {l : List Nat} {f : Nat → State → State} {k : Nat} (P Q : State → Prop) (s : State) (hk : k ∈ l) (hnd : l.Nodup)
    (hP : ∀ i ∈ l, i ≠ k → ∀ t, P t → P (f i t)) (hQ : ∀ i ∈ l, i ≠ k → ∀ t, Q t → Q (f i t)) (hat : ∀ t, P t → Q (f k t)) (hs : P s) :
    Q (s.each l f) := by
  induction l generalizing s with
  | nil => exact absurd hk List.not_mem_nil
  | cons a l ih =>
    obtain ⟨ha, hnd⟩ := List.nodup_cons.mp hnd
    show Q ((f a s).each l f)
    rcases List.mem_cons.mp hk with rfl | hk
    · exact State.each_ind Q (f k s) (fun i hi => hQ i (List.mem_cons_of_mem _ hi) fun e => ha (e ▸ hi)) (hat s hs)
    · have hak : a ≠ k := fun e => ha (e ▸ hk)
      exact ih (f a s) hk hnd (fun i hi => hP i (List.mem_cons_of_mem _ hi)) (fun i hi => hQ i (List.mem_cons_of_mem _ hi))
        (hP a (List.mem_cons_self ..) hak s hs)

/-! ### A commit taken back -/

/-- What a commit taken back may change: shadow edges and their shift, and the record of its axis. -/
structure EdgesOnly (s t : State) : Prop where
  regs : t.regs = s.regs
  grps : t.grps = s.grps
  aux : t.aux = s.aux
  tb : t.tb = s.tb
  hb : ∀ k, ∃ ue le, t.hb k = { s.hb k with ueS := ue, leS := le }

section EdgesOnly
variable {s t : State}

theorem EdgesOnly.refl (s : State) : EdgesOnly s s := ⟨rfl, rfl, rfl, rfl, fun _ => ⟨_, _, rfl⟩⟩

theorem EdgesOnly.of_ite {c : Prop} [Decidable c] {r : State} (h : EdgesOnly s t) (k : EdgesOnly s r) : EdgesOnly s (if c then t else r) := by
  split
  · exact h
  · exact k

variable (h : EdgesOnly s t)
include h

theorem EdgesOnly.gates (k : Nat) : (t.hb k).gh = (s.hb k).gh ∧ (t.hb k).gl = (s.hb k).gl := by
  obtain ⟨ue, le, e⟩ := h.hb k
  rw [e]
  exact ⟨rfl, rfl⟩

theorem EdgesOnly.trans {r : State} (k : EdgesOnly t r) : EdgesOnly s r where
  regs := k.regs.trans h.regs
  grps := k.grps.trans h.grps
  aux := k.aux.trans h.aux
  tb := k.tb.trans h.tb
  hb j := by
    obtain ⟨ue, le, e⟩ := k.hb j
    obtain ⟨_, _, e'⟩ := h.hb j
    exact ⟨ue, le, by rw [e, e']⟩

theorem EdgesOnly.setEdges (k ue le : Nat) : EdgesOnly s (t.setHb k { t.hb k with ueS := ue, leS := le }) where
  regs := h.regs
  grps := h.grps
  aux := h.aux
  tb := h.tb
  hb j := by
    obtain ⟨ue', le', e⟩ := h.hb j
    rw [State.setHb_hb]
    split
    · next hj => exact ⟨ue, le, by rw [← hj, e]⟩
    · exact ⟨ue', le', e⟩

theorem EdgesOnly.setVdu (u : Nat) (v : VduSt) : EdgesOnly s (t.setVdu u v) := ⟨h.regs, h.grps, h.aux, h.tb, h.hb⟩
theorem EdgesOnly.setAxs (n : Nat) (a : AxisSt) : EdgesOnly s (t.setAxs n a) := ⟨h.regs, h.grps, h.aux, h.tb, h.hb⟩

theorem EdgesOnly.undoEdges (l : List (Nat × Nat × Nat)) :
    EdgesOnly s (l.foldl (fun t p => t.setHb p.1 { t.hb p.1 with ueS := p.2.1, leS := p.2.2 }) t) := by
  induction l generalizing t with
  | nil => exact h
  | cons p l ih => exact ih (h.setEdges _ _ _)

theorem EdgesOnly.undoShifts (l : List (Nat × Nat)) :
    EdgesOnly s (l.foldl (fun t p => t.setVdu p.1 { t.vdu p.1 with deltaS := p.2 }) t) := by
  induction l generalizing t with
  | nil => exact h
  | cons p l ih => exact ih (h.setVdu _ _)

theorem EdgesOnly.takeBackCommit (n : Nat) : EdgesOnly s (takeBackCommit n t) := by
  unfold Machine.takeBackCommit State.when
  extract_lets a
  exact (((h.setAxs _ _).undoEdges _).undoShifts _).of_ite h

theorem EdgesOnly.undoCommit (n : Nat) : EdgesOnly s (undoCommit n t) := by
  unfold Machine.undoCommit State.when
  exact (h.takeBackCommit n).of_ite h

end EdgesOnly

/-- A safety reaction takes back what was committed in its cycle, and notes its time in the group. -/
theorem reactGroup_edges (g : Nat) (s : State) : EdgesOnly (s.setGrp g { s.grp g with reactTb := some s.tb }) (reactGroup g s) :=
  State.each_ind (EdgesOnly _) _ (fun n _ _ ht => ht.undoCommit n) (EdgesOnly.refl _)

@[simp] theorem reactGroup_regs (g : Nat) (s : State) : (reactGroup g s).regs = s.regs := (reactGroup_edges g s).regs
@[simp] theorem reactGroup_f (g : Nat) (s : State) (x : Fld) : (reactGroup g s).f x = s.f x := State.f_congr (reactGroup_regs g s) x
@[simp] theorem reactGroup_aux (g : Nat) (s : State) : (reactGroup g s).aux = s.aux := (reactGroup_edges g s).aux

/-! ### A latch cause (R237) -/

/-- Registers that a latch cause of group `g` writes. -/
def latchRegs (g : Nat) : List Nat := [BG_STAT_A g, OD_RES_A g, SUP_LATCH_A g]

theorem latch_addresses (g k : Nat) (hg : g < 8) (hk : k < 8) : BG_STAT_A g ≠ OD_RES_A k ∧ BG_STAT_A g ≠ SUP_LATCH_A k ∧
    SUP_LATCH_A g ≠ OD_RES_A k ∧ (g ≠ k → BG_STAT_A g ≠ BG_STAT_A k ∧ SUP_LATCH_A g ≠ SUP_LATCH_A k) := by
  unfold BG_STAT_A OD_RES_A SUP_LATCH_A
  omega

theorem supMap_not_latched (g : Nat) (hg : g < 8) : SUP_MAP_A ∉ latchRegs g := by
  simp only [latchRegs, List.mem_cons, List.not_mem_nil, or_false, not_or, SUP_MAP_A, BG_STAT_A, OD_RES_A, SUP_LATCH_A]
  omega

/-- A half-bridge whose gate outputs a latch takes low; its comparators stay armed for the cycle. -/
def HbSt.latched (b : HbSt) (h l : Nat) : HbSt :=
  { b with gh := false, gl := false, dtH := b.dtH || b.gh, dtL := b.dtL || b.gl, outH := h, outL := l, softH := 0, softL := 0 }

/-- Every gate output of group `g` low for a latch. -/
def latchLow (g : Nat) (s : State) : State :=
  s.each (groupHbs g) (fun h t => t.setHb h ((t.hb h).latched (t.fullDrive h true) (t.fullDrive h false)))

theorem latchLow_regs (g : Nat) (s : State) : (latchLow g s).regs = s.regs :=
  State.each_ind (fun t => t.regs = s.regs) s (fun _ _ _ ht => (State.setHb_regs _ _ _).trans ht) rfl

theorem latchLow_grps (g : Nat) (s : State) : (latchLow g s).grps = s.grps :=
  State.each_ind (fun t => t.grps = s.grps) s (fun _ _ _ ht => (State.setHb_grps _ _ _).trans ht) rfl

theorem latchLow_off {g h : Nat} (s : State) (hh : h ∈ groupHbs g) : ((latchLow g s).hb h).gh = false ∧ ((latchLow g s).hb h).gl = false := by
  refine State.each_once (fun _ => True) (fun t => (t.hb h).gh = false ∧ (t.hb h).gl = false) s hh ?_ (fun _ _ _ _ h => h) ?_ ?_ trivial
  · exact (List.nodup_range).map fun a b e => by simpa using e
  · intro i _ hi t ht
    rwa [State.setHb_hb_ne _ _ _ _ hi.symm]
  · intro t _
    rw [State.setHb_hb_same]
    exact ⟨rfl, rfl⟩

theorem latchLow_hb_ne {g h : Nat} (s : State) (hh : h ∉ groupHbs g) : (latchLow g s).hb h = s.hb h :=
  State.each_ind (fun t => t.hb h = s.hb h) s
    (fun i hi t ht => (State.setHb_hb_ne t i h _ fun e => hh (e ▸ hi)).trans ht) rfl

/-- The mark of a latch with its first cause. -/
def State.showLatch (s : State) (g cause : Nat) : State :=
  ((s.setB (SUP_LATCH_LATCHED g) true).set (SUP_LATCH_FIRST g) cause).setBit (SUP_LATCH_CAUSES g) (cause - 1) true

@[simp] theorem State.showLatch_hb (s : State) (g cause k : Nat) : (s.showLatch g cause).hb k = s.hb k := by
  simp only [State.showLatch, State.setB_eq, State.setBit_eq, State.set_hb]

theorem State.showLatch_frame (s : State) (g cause : Nat) : SameRegsBut (latchRegs g) s (s.showLatch g cause) := by
  have hmem : ∀ x : Fld, x.addr = SUP_LATCH_A g → x.addr ∈ latchRegs g := fun x hx => by simp [latchRegs, hx]
  exact (((SameRegsBut.refl _ s).set (SUP_LATCH_LATCHED g) _ (hmem _ rfl)).set (SUP_LATCH_FIRST g) _ (hmem _ rfl)).set (SUP_LATCH_CAUSES g)
    _ (hmem _ rfl)

theorem latchGroup_collects {g : Nat} {s : State} (cause : Nat) (any : Bool) (hst : s.groupState g = 4) :
    latchGroup g cause any s = (s.set (SUP_LATCH_FIRST g) (s.firstCause g cause)).setBit (SUP_LATCH_CAUSES g) (cause - 1) true := if_pos hst

theorem latchGroup_off {g : Nat} {s : State} (cause : Nat) (hst : s.groupState g = 0) : latchGroup g cause false s = s := by
  rw [latchGroup, if_neg (by omega), if_pos (by simp [hst])]

theorem latchGroup_enters {g : Nat} {s : State} (cause : Nat) (any : Bool) (hst : s.groupState g ≠ 4)
    (hreach : s.groupState g ≠ 0 ∨ any = true) : ∃ v, latchGroup g cause any s =
      reactGroup g (((abortDiag g (latchLow g (s.set (BG_STAT_STATE g) 4))).showLatch g cause).setGrp g v) := by
  rw [latchGroup, if_neg hst, if_neg (by obtain h | h := hreach <;> simp [h])]
  exact ⟨_, rfl⟩

/-- A state with a group's registers written for a latch, gates low. -/
theorem latchGroup_frame (g cause : Nat) (any : Bool) (s : State) : SameRegsBut (latchRegs g) s (latchGroup g cause any s) := by
  have hmem : ∀ x : Fld, x.addr = SUP_LATCH_A g → x.addr ∈ latchRegs g := fun x hx => by simp [latchRegs, hx]
  by_cases hst : s.groupState g = 4
  · rw [latchGroup_collects cause any hst]
    exact ((SameRegsBut.refl _ s).set (SUP_LATCH_FIRST g) _ (hmem _ rfl)).set (SUP_LATCH_CAUSES g) _ (hmem _ rfl)
  · by_cases hreach : s.groupState g ≠ 0 ∨ any = true
    · obtain ⟨v, e⟩ := latchGroup_enters cause any hst hreach
      obtain ⟨_, _, _, hdiag, _⟩ := abortDiag_only g (latchLow g (s.set (BG_STAT_STATE g) 4))
      have hlow : SameRegsBut (latchRegs g) s (latchLow g (s.set (BG_STAT_STATE g) 4)) :=
        ((SameRegsBut.refl _ s).set (BG_STAT_STATE g) 4 (by simp [latchRegs, BG_STAT_STATE])).of_regs (latchLow_regs g _)
      have habort := hlow.trans (hdiag.mono (by simp [latchRegs]))
      have hshow := habort.trans (State.showLatch_frame _ g cause)
      rw [e]
      exact hshow.of_regs ((reactGroup_regs g _).trans (State.setGrp_regs _ _ _))
    · obtain ⟨h0, hany⟩ := not_or.mp hreach
      rw [Bool.not_eq_true] at hany
      rw [hany, latchGroup_off cause (not_not.mp h0)]
      exact SameRegsBut.refl _ s

/-- A latch leaves the gates of other groups. -/
theorem latchGroup_gates_ne {g k : Nat} (cause : Nat) (any : Bool) (s : State) (hk : k ∉ groupHbs g) :
    ((latchGroup g cause any s).hb k).gh = (s.hb k).gh ∧ ((latchGroup g cause any s).hb k).gl = (s.hb k).gl := by
  by_cases hst : s.groupState g = 4
  · rw [latchGroup_collects cause any hst]
    exact ⟨rfl, rfl⟩
  · by_cases hreach : s.groupState g ≠ 0 ∨ any = true
    · obtain ⟨v, e⟩ := latchGroup_enters cause any hst hreach
      obtain ⟨hgh, hgl⟩ := (reactGroup_edges g (((abortDiag g (latchLow g (s.set (BG_STAT_STATE g) 4))).showLatch g cause).setGrp g v)).gates k
      rw [e, hgh, hgl, State.setGrp_hb, State.setGrp_hb, State.showLatch_hb, abortDiag_hb, latchLow_hb_ne _ hk, State.set_hb]
      exact ⟨rfl, rfl⟩
    · obtain ⟨h0, hany⟩ := not_or.mp hreach
      rw [Bool.not_eq_true] at hany
      rw [hany, latchGroup_off cause (not_not.mp h0)]
      exact ⟨rfl, rfl⟩

section LatchEntered
variable {g cause : Nat} {any : Bool} {s : State} (hg : g < 8) (hst : s.groupState g ≠ 4) (hreach : s.groupState g ≠ 0 ∨ any = true)
include hg hst hreach

theorem latchGroup_state : (latchGroup g cause any s).groupState g = 4 := by
  obtain ⟨v, e⟩ := latchGroup_enters cause any hst hreach
  obtain ⟨hod, hlatch, _, _⟩ := latch_addresses g g hg hg
  have hshow : ∀ t : State, (t.showLatch g cause).f (BG_STAT_STATE g) = t.f (BG_STAT_STATE g) := fun t => by
    rw [State.showLatch, State.setBit_eq, State.f_set_ne _ (SUP_LATCH_CAUSES g) (BG_STAT_STATE g) _ hlatch,
      State.f_set_ne _ (SUP_LATCH_FIRST g) (BG_STAT_STATE g) _ hlatch, State.setB_eq,
      State.f_set_ne _ (SUP_LATCH_LATCHED g) (BG_STAT_STATE g) _ hlatch]
  rw [State.groupState, e, reactGroup_f, State.setGrp_f, hshow, abortDiag_f g _ _ hod, State.f_congr (latchLow_regs g _)]
  exact State.f_set_fits _ _ _ (Fld.fits rfl) (show 4 < 2 ^ 3 by decide)

omit hg in
theorem latchGroup_first (hc : cause < 8) : (latchGroup g cause any s).f (SUP_LATCH_FIRST g) = cause := by
  obtain ⟨v, e⟩ := latchGroup_enters cause any hst hreach
  rw [e, reactGroup_f, State.setGrp_f, State.showLatch, State.setBit_eq,
    State.f_set_apart _ (SUP_LATCH_CAUSES g) (SUP_LATCH_FIRST g) _ rfl rfl]
  exact State.f_set_fits _ _ _ (Fld.fits rfl) hc

omit hg in
theorem latchGroup_gates {h : Nat} (hh : h ∈ groupHbs g) :
    ((latchGroup g cause any s).hb h).gh = false ∧ ((latchGroup g cause any s).hb h).gl = false := by
  obtain ⟨v, e⟩ := latchGroup_enters cause any hst hreach
  obtain ⟨hgh, hgl⟩ := (reactGroup_edges g (((abortDiag g (latchLow g (s.set (BG_STAT_STATE g) 4))).showLatch g cause).setGrp g v)).gates h
  rw [e, hgh, hgl, State.setGrp_hb, State.setGrp_hb, State.showLatch_hb, abortDiag_hb]
  exact latchLow_off _ hh

end LatchEntered

theorem mem_groupHbs {g h : Nat} : h ∈ groupHbs g ↔ h / 6 = g := by
  simp only [groupHbs, List.mem_map, List.mem_range]
  constructor
  · rintro ⟨k, hk, rfl⟩
    omega
  · intro e
    exact ⟨h % 6, Nat.mod_lt _ (by decide), by omega⟩

theorem State.busOf_congr {s t : State} (h : t.f SUP_MAP_BUS_g = s.f SUP_MAP_BUS_g) (g : Nat) : t.busOf g = s.busOf g := by
  rw [State.busOf, State.busOf, h]

theorem latchGroup_busOf {g : Nat} (hg : g < 8) (cause : Nat) (any : Bool) (s : State) (k : Nat) :
    (latchGroup g cause any s).busOf k = s.busOf k :=
  State.busOf_congr ((latchGroup_frame g cause any s).f SUP_MAP_BUS_g (supMap_not_latched g hg)) k

/-- A latch leaves the state and the latch of another group. -/
theorem latchGroup_others {g k : Nat} (hg : g < 8) (hk : k < 8) (hne : g ≠ k) (cause : Nat) (any : Bool) (s : State) :
    (latchGroup g cause any s).groupState k = s.groupState k ∧
      (latchGroup g cause any s).f (SUP_LATCH_FIRST k) = s.f (SUP_LATCH_FIRST k) := by
  have hkg := latch_addresses k g hk hg
  have hgk := latch_addresses g k hg hk
  refine ⟨(latchGroup_frame g cause any s).f _ ?_, (latchGroup_frame g cause any s).f _ ?_⟩
  · simp only [BG_STAT_STATE, latchRegs, List.mem_cons, List.not_mem_nil, or_false, not_or]
    exact ⟨(hgk.2.2.2 hne).1.symm, hkg.1, hkg.2.1⟩
  · simp only [SUP_LATCH_FIRST, latchRegs, List.mem_cons, List.not_mem_nil, or_false, not_or]
    exact ⟨hgk.2.1.symm, hkg.2.2.1, (hgk.2.2.2 hne).2.symm⟩

/-! ### Hard over-voltage (R231) -/

/-- The latch of every driving group of bus `k`. -/
def busLatch (k : Nat) (s : State) : State := s.each (List.range 8) (fun g t => if t.busOf g = k then latchGroup g 2 false t else t)

section BusLatch
variable (k g : Nat) (hg : g < 8) (s : State)
include hg

theorem busLatch_of_bus (hbus : s.busOf g = k) (h0 : s.groupState g ≠ 0) (h4 : s.groupState g ≠ 4) :
    (busLatch k s).groupState g = 4 ∧ (busLatch k s).f (SUP_LATCH_FIRST g) = 2 ∧
      ∀ h ∈ groupHbs g, ((busLatch k s).hb h).gh = false ∧ ((busLatch k s).hb h).gl = false := by
  refine State.each_once (fun t => t.busOf g = k ∧ t.groupState g ≠ 0 ∧ t.groupState g ≠ 4)
    (fun t => t.groupState g = 4 ∧ t.f (SUP_LATCH_FIRST g) = 2 ∧ ∀ h ∈ groupHbs g, (t.hb h).gh = false ∧ (t.hb h).gl = false) s
    (List.mem_range.mpr hg) List.nodup_range ?before ?after ?here ⟨hbus, h0, h4⟩
  case before =>
    intro i hi hne t ht
    split
    · have hi8 := List.mem_range.mp hi
      rw [latchGroup_busOf hi8, (latchGroup_others hi8 hg hne 2 false t).1]
      exact ht
    · exact ht
  case after =>
    rintro i hi hne t ⟨hst, hfirst, hgates⟩
    split
    · have hi8 := List.mem_range.mp hi
      obtain ⟨hst', hfirst'⟩ := latchGroup_others hi8 hg hne 2 false t
      refine ⟨hst'.trans hst, hfirst'.trans hfirst, fun h hh => ?_⟩
      obtain ⟨hgh, hgl⟩ := latchGroup_gates_ne (g := i) (k := h) 2 false t (fun hm => hne ((mem_groupHbs.mp hm).symm.trans (mem_groupHbs.mp hh)))
      rw [hgh, hgl]
      exact hgates h hh
    · exact ⟨hst, hfirst, hgates⟩
  case here =>
    rintro t ⟨hbus, h0, h4⟩
    rw [if_pos hbus]
    exact ⟨latchGroup_state hg h4 (.inl h0), latchGroup_first h4 (.inl h0) (by decide), fun h hh => latchGroup_gates h4 (.inl h0) hh⟩

theorem busLatch_other_bus (hbus : s.busOf g ≠ k) : (busLatch k s).groupState g = s.groupState g ∧
    ∀ h ∈ groupHbs g, ((busLatch k s).hb h).gh = (s.hb h).gh ∧ ((busLatch k s).hb h).gl = (s.hb h).gl := by
  have hpass := State.each_ind (l := List.range 8) (f := fun g t => if t.busOf g = k then latchGroup g 2 false t else t)
    (fun t => t.busOf g = s.busOf g ∧ t.groupState g = s.groupState g ∧ ∀ h ∈ groupHbs g, (t.hb h).gh = (s.hb h).gh ∧ (t.hb h).gl = (s.hb h).gl)
    s ?_ ⟨rfl, rfl, fun _ _ => ⟨rfl, rfl⟩⟩
  · exact hpass.2
  · rintro i hi t ⟨hb, hst, hgates⟩
    split
    · next hik =>
      have hi8 := List.mem_range.mp hi
      have hne : i ≠ g := fun e => hbus (by rw [← hb, ← e, hik])
      refine ⟨(latchGroup_busOf hi8 2 false t g).trans hb, (latchGroup_others hi8 hg hne 2 false t).1.trans hst, fun h hh => ?_⟩
      obtain ⟨hgh, hgl⟩ := latchGroup_gates_ne (g := i) (k := h) 2 false t (fun hm => hne ((mem_groupHbs.mp hm).symm.trans (mem_groupHbs.mp hh)))
      rw [hgh, hgl]
      exact hgates h hh
    · exact ⟨hb, hst, hgates⟩

end BusLatch

theorem busLatch_hov (k : Nat) (hk : k < 4) (s : State) : (busLatch k s).on (SUP_BSTAT_HOV k) = s.on (SUP_BSTAT_HOV k) := by
  refine State.each_ind (fun t => t.on (SUP_BSTAT_HOV k) = s.on (SUP_BSTAT_HOV k)) s ?_ rfl
  intro g hg t ht
  split
  · refine ((latchGroup_frame g 2 false t).on (SUP_BSTAT_HOV k) ?_).trans ht
    have hg8 := List.mem_range.mp hg
    simp only [SUP_BSTAT_HOV, latchRegs, List.mem_cons, List.not_mem_nil, or_false, not_or, SUP_BSTAT_A, BG_STAT_A, OD_RES_A, SUP_LATCH_A]
    omega
  · exact ht

/-- Over the hard limit, after the groups of the bus have latched only the episode, its count and its report follow. -/
theorem hovChange_above (k : Nat) (s : State) : SameRegsBut [SUP_CNT_A] (busLatch k (s.setB (SUP_BSTAT_HOV k) true)) (hovChange k true s) ∧
    (hovChange k true s).hbs = (busLatch k (s.setB (SUP_BSTAT_HOV k) true)).hbs := by
  generalize hb : busLatch k (s.setB (SUP_BSTAT_HOV k) true) = b
  have e : hovChange k true s = if bitOf s.aux.hovEp k then b
      else ({ b with aux := { b.aux with hovEp := withBit b.aux.hovEp k true } }.inc SUP_CNT_HOV).raiseU (0x1A0 + k) := by
    subst hb
    rfl
  rw [e]
  split
  · exact ⟨SameRegsBut.refl _ _, rfl⟩
  · refine ⟨SameRegsBut.of_regs (SameRegsBut.set ((SameRegsBut.refl _ b).of_regs rfl) SUP_CNT_HOV _ (by simp [SUP_CNT_HOV]))
      (State.raiseU_regs _ _), ?_⟩
    rw [State.raiseU_hbs, State.inc_eq, State.set_hbs]

/-! ### Gate supplies (R233) -/

/-- The latch of one group for a gate supply, with the event kept for the gate array. -/
def supplyLatch (src data g : Nat) (t : State) : State :=
  let old := if t.fbit (SUP_LATCH_CAUSES g) 2 then (t.grp g).gsup else []
  let t := latchGroup g 3 false t
  if t.fbit (SUP_LATCH_CAUSES g) 2 then t.setGrp g { t.grp g with gsup := if old.contains (src, data) then old else old ++ [(src, data)] } else t

theorem gsupLatch_eq (j src data : Nat) (s : State) : gsupLatch j src data s = s.each [2 * j, 2 * j + 1] (supplyLatch src data) := rfl

theorem supplyLatch_regs (src data g : Nat) (t : State) : (supplyLatch src data g t).regs = (latchGroup g 3 false t).regs := by
  unfold supplyLatch
  extract_lets old r
  split
  · exact State.setGrp_regs _ _ _
  · rfl

theorem supplyLatch_f (src data g : Nat) (t : State) (x : Fld) : (supplyLatch src data g t).f x = (latchGroup g 3 false t).f x :=
  State.f_congr (supplyLatch_regs src data g t) x

theorem supGstat_not_latched {g : Nat} (hg : g < 8) : SUP_GSTAT_A ∉ latchRegs g := by
  simp only [latchRegs, List.mem_cons, List.not_mem_nil, or_false, not_or, SUP_GSTAT_A, BG_STAT_A, OD_RES_A, SUP_LATCH_A]
  omega

section GsupLatch
variable {j : Nat} (hj : j < 4) (src data : Nat) (s : State)
include hj

theorem gsupLatch_gstat (x : Fld) (hx : x.addr = SUP_GSTAT_A) : (gsupLatch j src data s).f x = s.f x := by
  rw [gsupLatch_eq]
  refine State.each_ind (fun t => t.f x = s.f x) s ?_ rfl
  intro g hg t ht
  have hg8 : g < 8 := by
    simp only [List.mem_cons, List.not_mem_nil, or_false] at hg
    omega
  rw [supplyLatch_f, (latchGroup_frame g 3 false t).f x (hx ▸ supGstat_not_latched hg8), ht]

/-- Both groups of a gate supply latch with cause GSUP where they drive. -/
theorem gsupLatch_group {g : Nat} (hg : g = 2 * j ∨ g = 2 * j + 1) (h0 : s.groupState g ≠ 0) (h4 : s.groupState g ≠ 4) :
    (gsupLatch j src data s).groupState g = 4 ∧ (gsupLatch j src data s).f (SUP_LATCH_FIRST g) = 3 := by
  rw [gsupLatch_eq]
  have hg8 : g < 8 := by omega
  refine State.each_once (fun t => t.groupState g ≠ 0 ∧ t.groupState g ≠ 4) (fun t => t.groupState g = 4 ∧ t.f (SUP_LATCH_FIRST g) = 3) s
    (by simpa using hg) (by simp) ?before ?after ?here ⟨h0, h4⟩
  case before =>
    rintro i hi hne t ht
    have hi8 : i < 8 := by
      simp only [List.mem_cons, List.not_mem_nil, or_false] at hi
      omega
    rw [State.groupState, supplyLatch_f, ← State.groupState, (latchGroup_others hi8 hg8 hne 3 false t).1]
    exact ht
  case after =>
    rintro i hi hne t ⟨hst, hfirst⟩
    have hi8 : i < 8 := by
      simp only [List.mem_cons, List.not_mem_nil, or_false] at hi
      omega
    obtain ⟨hst', hfirst'⟩ := latchGroup_others hi8 hg8 hne 3 false t
    exact ⟨(supplyLatch_f ..).trans (hst'.trans hst), (supplyLatch_f ..).trans (hfirst'.trans hfirst)⟩
  case here =>
    rintro t ⟨h0, h4⟩
    exact ⟨(supplyLatch_f ..).trans (latchGroup_state hg8 h4 (.inl h0)), (supplyLatch_f ..).trans (latchGroup_first h4 (.inl h0) (by decide))⟩

end GsupLatch

theorem gsupUv_of_group {j : Nat} (hj : j < 4) (s : State) : gsupUv j s =
    (gsupLatch j (0x1AA + j) 0 (s.setBit SUP_GSTAT_UV j true)).raiseU (0x1AA + j) := if_pos hj

theorem gsupOv_of_group {j : Nat} (hj : j < 4) (s : State) : gsupOv j s =
    (gsupLatch j 0x1AF j (s.setBit SUP_GSTAT_OV j true)).raise 0x1AF j := if_pos hj

theorem gstat_not_group (g : Nat) (hg : g < 8) : BG_STAT_A g ≠ SUP_GSTAT_A := by
  unfold BG_STAT_A SUP_GSTAT_A
  omega

/-! ### VG_AUX (R233) -/

/-- The outputs of VG_AUX are held low, before the choppers follow. -/
def State.auxLow (s : State) : State :=
  ({ s with aux := { s.aux with auxHeld := true, dutyF := [0, 0] } }.set (PK_STAT_DUTY 0) 0).set (PK_STAT_DUTY 1) 0

/-- The choppers' bus marks cleared. -/
def busMarksOff (s : State) : State := s.each (List.range 4) (fun k t => t.setB (SUP_BSTAT_CHOP_ACT k) false)

theorem auxSupplyLost_eq (s : State) : auxSupplyLost s =
    { (busMarksOff s.auxLow).set AUX_STAT_CHOP_ACT 0 with aux := { (busMarksOff s.auxLow).aux with chopEp := 0 } } := rfl

theorem State.withAux_f (s : State) (a : AuxSt) (x : Fld) : ({ s with aux := a } : State).f x = s.f x := rfl
theorem State.withAux_hbs (s : State) (a : AuxSt) : ({ s with aux := a } : State).hbs = s.hbs := rfl

theorem auxSupplyLost_f (s : State) (x : Fld) : (auxSupplyLost s).f x = ((busMarksOff s.auxLow).set AUX_STAT_CHOP_ACT 0).f x := by
  rw [auxSupplyLost_eq, State.withAux_f]

/-- Clearing the bus marks writes their registers only. -/
theorem busMarksOff_keeps (s : State) : (busMarksOff s).aux = s.aux ∧ (busMarksOff s).hbs = s.hbs ∧
    SameRegsBut ((List.range 4).map SUP_BSTAT_A) s (busMarksOff s) := by
  refine State.each_ind (fun t => t.aux = s.aux ∧ t.hbs = s.hbs ∧ SameRegsBut ((List.range 4).map SUP_BSTAT_A) s t) s ?_
    ⟨rfl, rfl, SameRegsBut.refl _ s⟩
  rintro k hk t ⟨haux, hhbs, hr⟩
  exact ⟨(State.set_aux _ _ _).trans haux, (State.set_hbs _ _ _).trans hhbs, hr.set (SUP_BSTAT_CHOP_ACT k) 0 (List.mem_map_of_mem hk)⟩

theorem pkStat_not_marked (i : Nat) (hi : i < 2) : PK_STAT_A i ∉ (List.range 4).map SUP_BSTAT_A := by
  simp only [List.mem_map, List.mem_range, not_exists, not_and, PK_STAT_A, SUP_BSTAT_A]
  omega

theorem pkStat_addresses : PK_STAT_A 0 ≠ PK_STAT_A 1 ∧ PK_STAT_A 0 ≠ AUX_STAT_A ∧ PK_STAT_A 1 ≠ AUX_STAT_A := by decide

section AuxSupplyLost
variable (s : State)

theorem auxSupplyLost_chop : (auxSupplyLost s).f AUX_STAT_CHOP_ACT = 0 := by
  rw [auxSupplyLost_f]
  exact State.f_set_fits _ AUX_STAT_CHOP_ACT 0 (by decide) (by decide)

theorem auxSupplyLost_duty (i : Nat) (hi : i < 2) : (auxSupplyLost s).f (PK_STAT_DUTY i) = 0 := by
  have hne : (PK_STAT_DUTY i).addr ≠ AUX_STAT_CHOP_ACT.addr := by
    simp only [PK_STAT_DUTY, AUX_STAT_CHOP_ACT, PK_STAT_A, AUX_STAT_A]
    omega
  have hlow : s.auxLow.f (PK_STAT_DUTY i) = 0 := by
    obtain rfl | rfl : i = 0 ∨ i = 1 := by omega
    · rw [State.auxLow, State.f_set_ne _ (PK_STAT_DUTY 1) (PK_STAT_DUTY 0) _ pkStat_addresses.1]
      exact State.f_set_fits _ (PK_STAT_DUTY 0) 0 (by decide) (by decide)
    · exact State.f_set_fits _ (PK_STAT_DUTY 1) 0 (by decide) (by decide)
  rw [auxSupplyLost_f, ← hlow, ← (busMarksOff_keeps s.auxLow).2.2.f (PK_STAT_DUTY i) (pkStat_not_marked i hi)]
  exact State.f_set_ne _ AUX_STAT_CHOP_ACT _ _ hne

theorem auxSupplyLost_held : (auxSupplyLost s).aux.auxHeld = true := by
  rw [auxSupplyLost_eq]
  show (busMarksOff s.auxLow).aux.auxHeld = true
  rw [(busMarksOff_keeps s.auxLow).1]
  rfl

theorem auxSupplyLost_hbs : (auxSupplyLost s).hbs = s.hbs := by
  rw [auxSupplyLost_eq, State.withAux_hbs, State.set_hbs, (busMarksOff_keeps s.auxLow).2.1, State.auxLow, State.set_hbs, State.set_hbs]

end AuxSupplyLost

/-- The supply's marks cleared, and the outputs of VG_AUX released. -/
def State.auxReturned (s : State) : State :=
  { (s.setBit SUP_GSTAT_UV 4 false).setBit SUP_GSTAT_OV 4 false with aux := { s.aux with auxHeld := false } }

/-- The choppers whose bus still stands above U_CH_ON drive again. -/
def chopsAgain (s : State) : State :=
  s.each (List.range 4) (fun k t =>
    match t.chopOut k with
    | some c => if bitOf t.aux.chopAbove k then chopDrive k c true t else t
    | none => t)

theorem gsupReturn_aux (s : State) : gsupReturn 4 s = chopsAgain s.auxReturned := rfl

theorem chopDrive_high_aux {k c : Nat} {s : State} (hheld : s.aux.auxHeld = false) : (chopDrive k c true s).aux = s.aux := by
  rw [chopDrive_high k c hheld]
  split <;> simp only [State.incWrap_eq, State.set_aux, State.showChop, State.setB_eq, State.setBit_eq]

/-- Choppers that drive again leave the supply's marks and its release. -/
theorem chopsAgain_keeps (s : State) (hheld : s.aux.auxHeld = false) : (chopsAgain s).aux.auxHeld = false ∧
    ∀ x : Fld, x.addr = SUP_GSTAT_A → (chopsAgain s).f x = s.f x := by
  refine State.each_ind (fun t => t.aux.auxHeld = false ∧ ∀ x : Fld, x.addr = SUP_GSTAT_A → t.f x = s.f x) s ?_ ⟨hheld, fun _ _ => rfl⟩
  rintro k _ t ⟨hh, hf⟩
  split
  · next c hc =>
    split
    · refine ⟨by rw [chopDrive_high_aux hh]; exact hh, fun x hx => ?_⟩
      have hout : SUP_GSTAT_A ∉ [SUP_CHOP_A] ∧ SUP_GSTAT_A ∉ [AUX_STAT_A, SUP_BSTAT_A k] := by
        simp only [List.mem_cons, List.not_mem_nil, or_false, not_or, SUP_GSTAT_A, SUP_CHOP_A, AUX_STAT_A, SUP_BSTAT_A]
        omega
      rw [(chopDrive_high_frame k c hh).f x (hx ▸ hout.1), (t.showChop_frame k true).f x (hx ▸ hout.2), hf x hx]
    · exact ⟨hh, hf⟩
  · exact ⟨hh, hf⟩

theorem State.auxReturned_gstat (s : State) : s.auxReturned.fbit SUP_GSTAT_UV 4 = false ∧ s.auxReturned.fbit SUP_GSTAT_OV 4 = false := by
  have huv := s.fbit_setBit SUP_GSTAT_UV 4 4 false (by decide) (by decide)
  have hov := (s.setBit SUP_GSTAT_UV 4 false).fbit_setBit SUP_GSTAT_OV 4 4 false (by decide) (by decide)
  rw [if_pos rfl] at huv hov
  refine ⟨?_, hov⟩
  have hkeep : ((s.setBit SUP_GSTAT_UV 4 false).setBit SUP_GSTAT_OV 4 false).f SUP_GSTAT_UV = (s.setBit SUP_GSTAT_UV 4 false).f SUP_GSTAT_UV :=
    State.f_set_apart _ SUP_GSTAT_OV SUP_GSTAT_UV _ rfl rfl
  exact (State.fbit_of_f hkeep 4).trans huv

theorem fbit_after_setBit {s : State} {x : Fld} {j : Nat} (hfit : x.lo + x.width ≤ 32) (hj : j < x.width) :
    (s.setBit x j true).fbit x j = true := (s.fbit_setBit x j j true hfit hj).trans (if_pos rfl)

theorem busHov_monitored {k : Nat} {x y z : Int} {s : State} (hen : s.on (SUP_BCFG_EN k) = true) :
    busHov k x y z s = hovChange k (aboveEdge (s.busCode k (s.f (SUP_BTH2_U_HOV k))) x y z) s := if_pos hen

theorem supBstat_not_latch (k g : Nat) (hk : k < 4) : BG_STAT_A g ≠ SUP_BSTAT_A k ∧ SUP_MAP_A ≠ SUP_BSTAT_A k := by
  unfold BG_STAT_A SUP_BSTAT_A SUP_MAP_A
  omega

/-- Settles O17: a pass over the groups of the faulty supply latches those that drive, and leaves the others. -/
theorem supplyFaultsLatchTheirGroups : Obligations.SupplyFaultsLatchTheirGroups := by
  refine ⟨fun k x y z s hd hen habove => ?hov, fun k x y z s hd => ⟨fun hen hbelow => ?hovEnd, fun hen => ?unmonitored⟩,
    fun k s hd hen hrun huv => ?uv, fun k s hd hno => ?uvNot, fun j g s hd hg h0 h4 => ⟨?gsupUv, ?gsupOv⟩, fun s hd => ⟨?auxUv, ?auxReturn⟩,
    fun j s hd => ?back⟩
  case hov =>
    have hrun : busHov k x y z s = hovChange k true s := by rw [busHov_monitored hen, habove]
    obtain ⟨hr, hh⟩ := hovChange_above k s
    have hbusOf : ∀ g, (s.setB (SUP_BSTAT_HOV k) true).busOf g = s.busOf g := State.busOf_congr
      (s.f_set_ne (SUP_BSTAT_HOV k) SUP_MAP_BUS_g _ (supBstat_not_latch k 0 k.isLt).2)
    have hst : ∀ g : Fin 8, (s.setB (SUP_BSTAT_HOV k) true).groupState g = s.groupState g := fun g =>
      s.f_set_ne (SUP_BSTAT_HOV k) (BG_STAT_STATE g) _ (supBstat_not_latch k g k.isLt).1
    have hb : ∀ h, (hovChange k true s).hb h = (busLatch k (s.setB (SUP_BSTAT_HOV k) true)).hb h := fun h => by
      rw [State.hb, State.hb, hh]
    have hg : ∀ g : Fin 8, (hovChange k true s).groupState g = (busLatch k (s.setB (SUP_BSTAT_HOV k) true)).groupState g ∧
        (hovChange k true s).f (SUP_LATCH_FIRST g) = (busLatch k (s.setB (SUP_BSTAT_HOV k) true)).f (SUP_LATCH_FIRST g) := by
      intro g
      refine ⟨hr.f _ ?_, hr.f _ ?_⟩
      · simp only [BG_STAT_STATE, List.mem_singleton, BG_STAT_A, SUP_CNT_A]
        omega
      · simp only [SUP_LATCH_FIRST, List.mem_singleton, SUP_LATCH_A, SUP_CNT_A]
        omega
    refine ⟨_, State.runIn_on s 6 _ hd, ?_, fun g hbus h0 h4 => ?_, fun g hbus => ?_⟩
    · rw [framed_on, hrun, hr.on _ (by simp only [SUP_BSTAT_HOV, List.mem_singleton, SUP_BSTAT_A, SUP_CNT_A]; omega), busLatch_hov k k.isLt]
      exact State.on_setB_same _ _ _ (Fld.fits rfl) rfl
    · obtain ⟨hst', hfirst, hgates⟩ := busLatch_of_bus k g g.isLt (s.setB (SUP_BSTAT_HOV k) true) ((hbusOf g).trans hbus)
        (by rw [hst]; exact h0) (by rw [hst]; exact h4)
      rw [framed_groupState, framed_f, hrun, (hg g).1, (hg g).2]
      refine ⟨hst', hfirst, fun h hh => ?_⟩
      rw [framed_hb, hb]
      exact hgates h hh
    · obtain ⟨hst', hgates⟩ := busLatch_other_bus k g g.isLt (s.setB (SUP_BSTAT_HOV k) true) (by rw [hbusOf]; exact hbus)
      rw [framed_groupState, hrun, (hg g).1, hst', hst]
      refine ⟨rfl, fun h hh => ?_⟩
      rw [framed_hb, hb]
      exact hgates h hh
  case hovEnd => exact State.runIn_to hd (by rw [busHov_monitored hen, hbelow]; rfl) rfl rfl rfl
  case unmonitored => exact State.runIn_to hd (if_neg (by simp [hen])) rfl rfl rfl
  case uv => exact State.runIn_to hd (if_pos ⟨hen, hrun, by simp [huv]⟩) rfl rfl rfl
  case uvNot =>
    refine State.runIn_to hd (if_neg ?_) rfl rfl rfl
    rintro ⟨hen, hrun, huv⟩
    obtain h | h | h := hno
    · simp [h] at hen
    · omega
    · simp [h] at huv
  case gsupUv =>
    obtain ⟨hst, hfirst⟩ := gsupLatch_group j.isLt (0x1AA + j) 0 (s.setBit SUP_GSTAT_UV j true) hg
      (by rw [State.groupState, State.setBit_eq, State.f_set_ne _ SUP_GSTAT_UV (BG_STAT_STATE g) _ (gstat_not_group g (by omega))]; exact h0)
      (by rw [State.groupState, State.setBit_eq, State.f_set_ne _ SUP_GSTAT_UV (BG_STAT_STATE g) _ (gstat_not_group g (by omega))]; exact h4)
    have hrun := gsupUv_of_group j.isLt s
    refine ⟨_, State.runIn_on s 6 _ hd, ?_, ?_, ?_⟩
    · rw [framed_fbit, Fin.val_castSucc, hrun, State.raiseU_fbit, State.fbit_of_f (gsupLatch_gstat j.isLt _ _ _ SUP_GSTAT_UV rfl)]
      exact fbit_after_setBit (by decide) (Nat.lt_of_lt_of_le j.isLt (by decide))
    · rw [framed_groupState, Fin.val_castSucc, hrun, State.raiseU_groupState, hst]
    · rw [framed_f, Fin.val_castSucc, hrun, State.raiseU_f, hfirst]
  case gsupOv =>
    obtain ⟨hst, hfirst⟩ := gsupLatch_group j.isLt 0x1AF j (s.setBit SUP_GSTAT_OV j true) hg
      (by rw [State.groupState, State.setBit_eq, State.f_set_ne _ SUP_GSTAT_OV (BG_STAT_STATE g) _ (gstat_not_group g (by omega))]; exact h0)
      (by rw [State.groupState, State.setBit_eq, State.f_set_ne _ SUP_GSTAT_OV (BG_STAT_STATE g) _ (gstat_not_group g (by omega))]; exact h4)
    have hrun := gsupOv_of_group j.isLt s
    refine ⟨_, State.runIn_on s 6 _ hd, ?_, ?_, ?_⟩
    · rw [framed_fbit, Fin.val_castSucc, hrun, State.raise_fbit, State.fbit_of_f (gsupLatch_gstat j.isLt _ _ _ SUP_GSTAT_OV rfl)]
      exact fbit_after_setBit (by decide) (Nat.lt_of_lt_of_le j.isLt (by decide))
    · rw [framed_groupState, Fin.val_castSucc, hrun, State.raise_groupState, hst]
    · rw [framed_f, Fin.val_castSucc, hrun, State.raise_f, hfirst]
  case auxUv =>
    have hrun : gsupUv 4 s = (auxSupplyLost (s.setBit SUP_GSTAT_UV 4 true)).raiseU 0x1AE := rfl
    refine ⟨_, State.runIn_on s 6 _ hd, ?_, ?_, ?_, ?_, ?_⟩
    · rw [framed_aux, show ((4 : Fin 5) : Nat) = 4 from rfl, hrun, State.raiseU_aux, auxSupplyLost_held]
    · rw [framed_f, show ((4 : Fin 5) : Nat) = 4 from rfl, hrun, State.raiseU_f, auxSupplyLost_chop]
    · rw [framed_f, show ((4 : Fin 5) : Nat) = 4 from rfl, hrun, State.raiseU_f, auxSupplyLost_duty _ 0 (by decide)]
    · rw [framed_f, show ((4 : Fin 5) : Nat) = 4 from rfl, hrun, State.raiseU_f, auxSupplyLost_duty _ 1 (by decide)]
    · rw [framed_hbs, show ((4 : Fin 5) : Nat) = 4 from rfl, hrun, State.raiseU_hbs, auxSupplyLost_hbs, State.setBit_eq, State.set_hbs]
  case auxReturn =>
    obtain ⟨hheld, hgstat⟩ := chopsAgain_keeps s.auxReturned rfl
    obtain ⟨huv, hov⟩ := s.auxReturned_gstat
    refine ⟨_, State.runIn_on s 6 _ hd, ?_, ?_, ?_⟩
    · rw [framed_aux, show ((4 : Fin 5) : Nat) = 4 from rfl, gsupReturn_aux, hheld]
    · rw [framed_fbit, show ((4 : Fin 5) : Nat) = 4 from rfl, gsupReturn_aux, State.fbit_of_f (hgstat SUP_GSTAT_UV rfl), huv]
    · rw [framed_fbit, show ((4 : Fin 5) : Nat) = 4 from rfl, gsupReturn_aux, State.fbit_of_f (hgstat SUP_GSTAT_OV rfl), hov]
  case back => exact State.runIn_to hd (if_pos j.isLt) rfl rfl rfl

end Sys2Proof.Machine
end

section
/-!
PROOFS. Desaturation (R234, R235, R237): the pass that turns a group off but for the faulted gate, the latch it shows, and the soft
turn-off.
-/
namespace Sys2Proof.Machine

/-! ### The gates at a desaturation -/

/-- Half-bridge `i` when gate `high` of half-bridge `h` has desaturated: every gate off but those that turn off softly. -/
def HbSt.desat (b : HbSt) (i h : Nat) (high : Bool) (dh dl : Nat) : HbSt :=
  let gh := (i == h && high) || b.softH != 0
  let gl := (i == h && !high) || b.softL != 0
  { b with
    gh := gh, gl := gl, dtH := b.dtH || (b.gh && !gh), dtL := b.dtL || (b.gl && !gl)
    outH := if gh then b.outH else dh, outL := if gl then b.outL else dl
    armH := b.armH && i != h, armL := b.armL && i != h }

/-- The pass over the group of half-bridge `h`. -/
def desatGates (h : Nat) (high : Bool) (s : State) : State :=
  s.each (groupHbs (h / 6)) (fun i t => t.setHb i ((t.hb i).desat i h high (t.fullDrive i true) (t.fullDrive i false)))

theorem desatGates_regs (h : Nat) (high : Bool) (s : State) : (desatGates h high s).regs = s.regs :=
  State.each_ind (fun t => t.regs = s.regs) s (fun _ _ _ ht => (State.setHb_regs _ _ _).trans ht) rfl

/-- With no soft turn-off in progress only the faulted gate stays on. -/
theorem desatGates_hb {h k : Nat} (high : Bool) {s : State} (hk : k ∈ groupHbs (h / 6)) (hsoft : (s.hb k).softH = 0 ∧ (s.hb k).softL = 0) :
    ((desatGates h high s).hb k).gh = (k == h && high) ∧ ((desatGates h high s).hb k).gl = (k == h && !high) := by
  refine State.each_once (fun t => (t.hb k).softH = 0 ∧ (t.hb k).softL = 0)
    (fun t => (t.hb k).gh = (k == h && high) ∧ (t.hb k).gl = (k == h && !high)) s hk ?_ ?_ ?_ ?_ hsoft
  · exact (List.nodup_range).map fun a b e => by simpa using e
  · intro i _ hi t ht
    rwa [State.setHb_hb_ne _ _ _ _ hi.symm]
  · intro i _ hi t ht
    rwa [State.setHb_hb_ne _ _ _ _ hi.symm]
  · rintro t ⟨hH, hL⟩
    rw [State.setHb_hb_same]
    simp [HbSt.desat, hH, hL]

/-! ### The latch of a desaturation -/

/-- The group's state LATCHED, its gates off, and the run of diagnostics ended. -/
def desatOff (h : Nat) (high : Bool) (s : State) : State := abortDiag (h / 6) ((desatGates h high s).set (BG_STAT_STATE (h / 6)) 4)

/-- The latch with its first cause, before the reaction. -/
def desatCause (h : Nat) (high : Bool) (s : State) : State :=
  ((desatOff h high s).setB (SUP_LATCH_LATCHED (h / 6)) true).set (SUP_LATCH_FIRST (h / 6)) 1

/-- The marks of the half-bridge and the gate that latched group `g`. -/
def State.showDesat (s : State) (g k : Nat) (high : Bool) : State :=
  (((s.set (SUP_LATCH_FIRST_HB g) k).setB (SUP_LATCH_FIRST_GATE g) high).setBit (SUP_LATCH_CAUSES g) 0 true).setBit
    (if high then SUP_LATCH_DSAT_H g else SUP_LATCH_DSAT_L g) k true

/-- The faulted gate's soft turn-off begins. -/
def HbSt.softOff (b : HbSt) (high : Bool) : HbSt := if high then { b with softH := 1 } else { b with softL := 1 }

/-- The marks, the count and the report of a desaturation, after the group has latched. -/
def desatMarks (h : Nat) (high : Bool) (t : State) : State :=
  let g := h / 6
  let k := h % 6
  let t := firstGate g k high t
  let t := t.setBit (SUP_LATCH_CAUSES g) 0 true
  let t := if high then t.setBit (SUP_LATCH_DSAT_H g) k true else t.setBit (SUP_LATCH_DSAT_L g) k true
  let t := t.setHb h ((t.hb h).softOff high)
  (t.inc SUP_CNT_DESAT).raise (hbSrc h (if high then 0 else 1)) (b2n high)

theorem desaturation_latches {h : Nat} {high : Bool} {s : State} (hseen : s.desatSeen h high = true)
    (hlat : s.on (SUP_LATCH_LATCHED (h / 6)) = false) (hst : s.groupState (h / 6) ≠ 4) : ∃ v,
    desaturation h high s = desatMarks h high (reactGroup (h / 6) ((desatCause h high s).setGrp (h / 6) v)) := by
  have e : desaturation h high s = if !s.desatSeen h high then s else
      desatMarks h high (if !s.on (SUP_LATCH_LATCHED (h / 6)) then
          reactGroup (h / 6) (((((abortDiag (h / 6) (if s.groupState (h / 6) = 4 then desatGates h high s
            else (desatGates h high s).set (BG_STAT_STATE (h / 6)) 4)).setB (SUP_LATCH_LATCHED (h / 6)) true).set
            (SUP_LATCH_FIRST (h / 6)) 1)).setGrp (h / 6) { (((abortDiag (h / 6) (if s.groupState (h / 6) = 4 then desatGates h high s
            else (desatGates h high s).set (BG_STAT_STATE (h / 6)) 4)).setB (SUP_LATCH_LATCHED (h / 6)) true).set
            (SUP_LATCH_FIRST (h / 6)) 1).grp (h / 6) with
              lostWait := true, preDone := false, shutTicks := 0, latchTb := some s.tb, latchWas := s.word (SUP_LATCH_A (h / 6)) })
        else (abortDiag (h / 6) (if s.groupState (h / 6) = 4 then desatGates h high s
            else (desatGates h high s).set (BG_STAT_STATE (h / 6)) 4)).set (SUP_LATCH_FIRST (h / 6)) (s.firstCause (h / 6) 1)) := by
    cases high <;> rfl
  rw [e, if_neg (by simp [hseen]), if_pos (by simp [hlat]), if_neg hst]
  exact ⟨_, rfl⟩

theorem firstGate_first {g : Nat} {t : State} (k : Nat) (high : Bool) (hH : t.f (SUP_LATCH_DSAT_H g) = 0) (hL : t.f (SUP_LATCH_DSAT_L g) = 0) :
    ∃ w, firstGate g k high t = ((t.setGrp g w).set (SUP_LATCH_FIRST_HB g) k).setB (SUP_LATCH_FIRST_GATE g) high := by
  unfold firstGate
  extract_lets none_ old same v s1
  rw [if_pos (.inl ⟨hH, hL⟩)]
  exact ⟨{ t.grp g with desatTb := some t.tb }, by simp only [s1, if_pos (show none_ from ⟨hH, hL⟩), v]⟩

theorem desatMarks_first {h : Nat} {t : State} (high : Bool) (hH : t.f (SUP_LATCH_DSAT_H (h / 6)) = 0)
    (hL : t.f (SUP_LATCH_DSAT_L (h / 6)) = 0) : ∃ w, desatMarks h high t =
      ((((t.setGrp (h / 6) w).showDesat (h / 6) (h % 6) high).setHb h ((t.hb h).softOff high)).inc SUP_CNT_DESAT).raise
        (hbSrc h (if high then 0 else 1)) (b2n high) := by
  obtain ⟨w, e⟩ := firstGate_first (h % 6) high hH hL
  refine ⟨w, ?_⟩
  unfold desatMarks
  simp only [e]
  cases high <;> rfl

/-! ### What the registers show -/

section ShowDesat
variable (s : State) (g k : Nat) (high : Bool)

/-- The fields of the latch that a half-bridge's marks leave. -/
theorem State.showDesat_f (x : Fld) (hhb : (SUP_LATCH_FIRST_HB g).apart x = true) (hgate : (SUP_LATCH_FIRST_GATE g).apart x = true)
    (hcause : (SUP_LATCH_CAUSES g).apart x = true) (hH : (SUP_LATCH_DSAT_H g).apart x = true) (hL : (SUP_LATCH_DSAT_L g).apart x = true) :
    (s.showDesat g k high).f x = s.f x := by
  have hdsat : (if high then SUP_LATCH_DSAT_H g else SUP_LATCH_DSAT_L g).apart x = true := by
    cases high
    · exact hL
    · exact hH
  rw [State.showDesat, State.setBit_eq, State.f_set_disjoint _ _ _ _ hdsat, State.setBit_eq, State.f_set_disjoint _ _ _ _ hcause,
    State.setB_eq, State.f_set_disjoint _ _ _ _ hgate, State.f_set_disjoint _ _ _ _ hhb]

theorem State.showDesat_frame : SameRegsBut [SUP_LATCH_A g] s (s.showDesat g k high) := by
  refine ((((SameRegsBut.refl _ s).set (SUP_LATCH_FIRST_HB g) _ ?_).set (SUP_LATCH_FIRST_GATE g) _ ?_).set (SUP_LATCH_CAUSES g) _ ?_).set
    (if high then SUP_LATCH_DSAT_H g else SUP_LATCH_DSAT_L g) _ ?_
  · simp [SUP_LATCH_FIRST_HB]
  · simp [SUP_LATCH_FIRST_GATE]
  · simp [SUP_LATCH_CAUSES]
  · cases high <;> simp [SUP_LATCH_DSAT_H, SUP_LATCH_DSAT_L]

theorem State.showDesat_latch {x : Fld} (hx : x = SUP_LATCH_FIRST_HB g ∨ x = SUP_LATCH_FIRST_GATE g) :
    (s.showDesat g k high).f x = ((s.set (SUP_LATCH_FIRST_HB g) k).setB (SUP_LATCH_FIRST_GATE g) high).f x := by
  have hcause : (SUP_LATCH_CAUSES g).apart x = true := by obtain rfl | rfl := hx <;> rfl
  have hdsat : (if high then SUP_LATCH_DSAT_H g else SUP_LATCH_DSAT_L g).apart x = true := by
    obtain rfl | rfl := hx <;> cases high <;> rfl
  rw [State.showDesat, State.setBit_eq, State.f_set_disjoint _ _ _ _ hdsat, State.setBit_eq, State.f_set_disjoint _ _ _ _ hcause]

theorem State.showDesat_hb_field (hk : k < 8) : (s.showDesat g k high).f (SUP_LATCH_FIRST_HB g) = k := by
  rw [State.showDesat_latch _ _ _ _ (.inl rfl), State.setB_eq, State.f_set_apart _ (SUP_LATCH_FIRST_GATE g) (SUP_LATCH_FIRST_HB g) _ rfl rfl]
  exact State.f_set_fits _ _ _ (Fld.fits rfl) hk

theorem State.showDesat_gate : (s.showDesat g k high).on (SUP_LATCH_FIRST_GATE g) = high :=
  (State.on_of_f (State.showDesat_latch _ _ _ _ (.inr rfl))).trans (State.on_setB_same _ _ _ (Fld.fits rfl) rfl)

end ShowDesat

section DesatCause
variable (h : Nat) (high : Bool) (s : State)

theorem desatOff_frame : SameRegsBut [BG_STAT_A (h / 6), OD_RES_A (h / 6)] s (desatOff h high s) := by
  obtain ⟨_, _, _, hdiag, _⟩ := abortDiag_only (h / 6) ((desatGates h high s).set (BG_STAT_STATE (h / 6)) 4)
  have hgates : SameRegsBut [BG_STAT_A (h / 6), OD_RES_A (h / 6)] s (desatGates h high s) :=
    (SameRegsBut.refl _ s).of_regs (desatGates_regs h high s)
  exact (hgates.set (BG_STAT_STATE (h / 6)) 4 (by simp [BG_STAT_STATE])).trans (hdiag.mono (by simp))

theorem desatCause_frame : SameRegsBut (latchRegs (h / 6)) s (desatCause h high s) :=
  (((desatOff_frame h high s).mono (by simp [latchRegs])).set (SUP_LATCH_LATCHED (h / 6)) 1 (by simp [latchRegs, SUP_LATCH_LATCHED])).set
    (SUP_LATCH_FIRST (h / 6)) 1 (by simp [latchRegs, SUP_LATCH_FIRST])

theorem desatCause_first : (desatCause h high s).f (SUP_LATCH_FIRST (h / 6)) = 1 :=
  State.f_set_fits _ _ _ (Fld.fits rfl) (show 1 < 2 ^ 3 by decide)

theorem desatCause_latched : (desatCause h high s).on (SUP_LATCH_LATCHED (h / 6)) = true :=
  (State.on_set_apart _ (SUP_LATCH_FIRST (h / 6)) (SUP_LATCH_LATCHED (h / 6)) _ rfl rfl).trans (State.on_setB_same _ _ _ (Fld.fits rfl) rfl)

theorem desatCause_hb (k : Nat) : (desatCause h high s).hb k = (desatGates h high s).hb k := by
  rw [desatCause, State.set_hb, State.setB_eq, State.set_hb, desatOff, abortDiag_hb, State.set_hb]

variable {h}

theorem desatCause_state (hh : h / 6 < 8) : (desatCause h high s).groupState (h / 6) = 4 := by
  obtain ⟨hod, hlatch, _, _⟩ := latch_addresses (h / 6) (h / 6) hh hh
  rw [State.groupState, desatCause, State.f_set_ne _ (SUP_LATCH_FIRST (h / 6)) (BG_STAT_STATE (h / 6)) _ hlatch, State.setB_eq,
    State.f_set_ne _ (SUP_LATCH_LATCHED (h / 6)) (BG_STAT_STATE (h / 6)) _ hlatch, desatOff, abortDiag_f _ _ _ hod]
  exact State.f_set_fits _ _ _ (Fld.fits rfl) (show 4 < 2 ^ 3 by decide)

/-- The marks of earlier detections stay as they were. -/
theorem desatCause_dsat (hh : h / 6 < 8) {x : Fld} (hx : x = SUP_LATCH_DSAT_H (h / 6) ∨ x = SUP_LATCH_DSAT_L (h / 6)) :
    (desatCause h high s).f x = s.f x := by
  have haddr : x.addr = SUP_LATCH_A (h / 6) := by obtain rfl | rfl := hx <;> rfl
  have hfirst : (SUP_LATCH_FIRST (h / 6)).apart x = true := by obtain rfl | rfl := hx <;> rfl
  have hlat : (SUP_LATCH_LATCHED (h / 6)).apart x = true := by obtain rfl | rfl := hx <;> rfl
  obtain ⟨_, hlatch, hod, _⟩ := latch_addresses (h / 6) (h / 6) hh hh
  rw [desatCause, State.f_set_disjoint _ _ _ _ hfirst, State.setB_eq, State.f_set_disjoint _ _ _ _ hlat]
  refine (desatOff_frame h high s).f x ?_
  simp only [haddr, List.mem_cons, List.not_mem_nil, or_false, not_or]
  exact ⟨hlatch.symm, hod⟩

end DesatCause

theorem supCnt_not_latched {g : Nat} (hg : g < 8) : SUP_CNT_A ∉ latchRegs g ∧ SUP_CNT_A ≠ SUP_LATCH_A g ∧ BG_STAT_A g ≠ SUP_CNT_A := by
  simp only [latchRegs, List.mem_cons, List.not_mem_nil, or_false, not_or, SUP_CNT_A, BG_STAT_A, OD_RES_A, SUP_LATCH_A]
  omega

theorem HbSt.softOff_gates (b : HbSt) (high : Bool) : (b.softOff high).gh = b.gh ∧ (b.softOff high).gl = b.gl ∧
    (if high then (b.softOff high).softH else (b.softOff high).softL) = 1 := by
  cases high <;> exact ⟨rfl, rfl, rfl⟩

/-- The state that a first desaturation leaves, from the state `t` after its reaction. -/
theorem desaturation_first {h : Nat} {high : Bool} {s : State} (hh : h / 6 < 8) (hseen : s.desatSeen h high = true)
    (hlat : s.on (SUP_LATCH_LATCHED (h / 6)) = false) (hst : s.groupState (h / 6) = 3) (hH : s.f (SUP_LATCH_DSAT_H (h / 6)) = 0)
    (hL : s.f (SUP_LATCH_DSAT_L (h / 6)) = 0) : ∃ (t : State) (w : GroupSt),
    (∀ x, t.f x = (desatCause h high s).f x) ∧ t.regs = (desatCause h high s).regs ∧
    (∀ k, (t.hb k).gh = ((desatGates h high s).hb k).gh ∧ (t.hb k).gl = ((desatGates h high s).hb k).gl) ∧
    desaturation h high s =
      ((((t.setGrp (h / 6) w).showDesat (h / 6) (h % 6) high).setHb h ((t.hb h).softOff high)).inc SUP_CNT_DESAT).raise
        (hbSrc h (if high then 0 else 1)) (b2n high) := by
  obtain ⟨v, e⟩ := desaturation_latches hseen hlat (by omega)
  have hedges := reactGroup_edges (h / 6) ((desatCause h high s).setGrp (h / 6) v)
  have hregs : (reactGroup (h / 6) ((desatCause h high s).setGrp (h / 6) v)).regs = (desatCause h high s).regs :=
    (reactGroup_regs _ _).trans (State.setGrp_regs _ _ _)
  have hf := State.f_congr hregs
  obtain ⟨w, e'⟩ := desatMarks_first (h := h) (t := reactGroup (h / 6) ((desatCause h high s).setGrp (h / 6) v)) high
    ((hf _).trans ((desatCause_dsat high s hh (.inl rfl)).trans hH)) ((hf _).trans ((desatCause_dsat high s hh (.inr rfl)).trans hL))
  refine ⟨_, w, hf, hregs, fun k => ?_, e.trans e'⟩
  obtain ⟨hgh, hgl⟩ := hedges.gates k
  rw [hgh, hgl, State.setGrp_hb, State.setGrp_hb, desatCause_hb]
  exact ⟨rfl, rfl⟩

/-! ### The commands -/

theorem blankingEnd_high {h : Nat} {s : State} (hen : s.on (SUP_DCFG_EN (h / 6)) = true) (hst : s.groupState (h / 6) = 3)
    (hgh : (s.hb h).gh = true) : blankingEnd h true s = s.setHb h { s.hb h with armH := true } := by
  simp [blankingEnd, hen, hst, hgh]

theorem blankingEnd_low {h : Nat} {s : State} (hen : s.on (SUP_DCFG_EN (h / 6)) = true) (hst : s.groupState (h / 6) = 3)
    (hgl : (s.hb h).gl = true) : blankingEnd h false s = s.setHb h { s.hb h with armL := true } := by
  simp [blankingEnd, hen, hst, hgl]

/-- A command that writes one half-bridge's record answers with that write. -/
theorem State.runIn_hb {s : State} {d h : Nat} {f : State → State} {b : HbSt} (hd : s.dom d = true) (hf : f s = s.setHb h b) :
    s.runIn d f = .next (s.setHb h b) :=
  State.runIn_to hd hf (State.setHb_pending _ _ _) (State.setHb_part _ _ _) (State.setHb_powered _ _ _)

/-- Settles O16: the latch of a first detection is `desaturation_first`; the other commands write one half-bridge's record. -/
theorem desaturationLatchesTheGroup : Obligations.DesaturationLatchesTheGroup := by
  refine ⟨fun h s hd hen hst => ⟨fun hgh => State.runIn_hb hd (blankingEnd_high hen hst hgh), fun hgl => State.runIn_hb hd (blankingEnd_low hen hst hgl)⟩,
    fun h high s hd hseen => State.runIn_to hd (if_pos (by simp [hseen])) rfl rfl rfl,
    fun h high s hd hseen hlat hst hH hL hsoft => ?first, fun h s hd hs => State.runIn_hb hd (if_pos hs),
    fun h s hd hs => State.runIn_hb hd (if_pos hs), fun h s hd hs => State.runIn_hb hd (if_neg hs), fun h s hd hs => State.runIn_hb hd (if_neg hs)⟩
  case first =>
    have hh : h.val / 6 < 8 := by omega
    obtain ⟨t, w, hf, hregs, hgates, e⟩ := desaturation_first hh hseen hlat hst hH hL
    obtain ⟨hcnt, hcl, hcb⟩ := supCnt_not_latched hh
    obtain ⟨hbl, _, _⟩ := latch_addresses (h / 6) (h / 6) hh hh |>.2
    generalize hr : ((t.setGrp (h / 6) w).showDesat (h / 6) (h % 6) high) = r at e
    have hrf : ∀ x : Fld, x.addr ≠ SUP_CNT_A → (desaturation h high s).f x = r.f x := fun x hx => by
      rw [e, State.raise_f, State.inc_eq, State.f_set_ne _ SUP_CNT_DESAT x _ hx, State.setHb_f]
    have hrt : ∀ x, (t.setGrp (h / 6) w).f x = (desatCause h high s).f x := fun x => by rw [State.setGrp_f, hf]
    have hshow : SameRegsBut [SUP_LATCH_A (h / 6)] (desatCause h high s) r := by
      rw [← hr]
      exact SameRegsBut.trans ((SameRegsBut.refl _ _).of_regs ((State.setGrp_regs _ _ _).trans hregs)) (State.showDesat_frame _ _ _ _)
    have hkeep : ∀ x : Fld, x.addr = SUP_LATCH_A (h / 6) → (SUP_LATCH_FIRST_HB (h / 6)).apart x = true →
        (SUP_LATCH_FIRST_GATE (h / 6)).apart x = true → (SUP_LATCH_CAUSES (h / 6)).apart x = true →
        (SUP_LATCH_DSAT_H (h / 6)).apart x = true → (SUP_LATCH_DSAT_L (h / 6)).apart x = true →
        (desaturation h high s).f x = (desatCause h high s).f x := fun x hx h1 h2 h3 h4 h5 => by
      rw [hrf x (by rw [hx]; exact hcl.symm), ← hr, State.showDesat_f _ _ _ _ x h1 h2 h3 h4 h5, hrt]
    have hlast : ∀ k, (desaturation h high s).hb k = if k = h.val then (t.hb h).softOff high else t.hb k := fun k => by
      rw [e, State.raise_hb, State.inc_eq, State.set_hb, State.setHb_hb, ← hr]
      simp only [State.showDesat, State.setBit_eq, State.setB_eq, State.set_hb, State.setGrp_hb]
    have hmem : h.val ∈ groupHbs (h / 6) := mem_groupHbs.mpr rfl
    have hon := desatGates_hb high hmem (hsoft h)
    obtain ⟨hsgh, hsgl, hsoft1⟩ := (t.hb h).softOff_gates high
    refine ⟨_, State.runIn_on s 6 _ hd, ?_, ?_, ?_, ?_, ?_, fun k hk hne => ?_, ?_, ?_, ?_, ?_, ?_⟩
    · rw [framed_groupState, State.groupState, hrf (BG_STAT_STATE (h / 6)) hcb,
        hshow.f (BG_STAT_STATE (h / 6)) (by simpa [BG_STAT_STATE] using hbl)]
      exact desatCause_state high s hh
    · rw [framed_on, State.on_of_f (hkeep (SUP_LATCH_LATCHED (h / 6)) rfl rfl rfl rfl rfl rfl), desatCause_latched]
    · rw [framed_f, hkeep (SUP_LATCH_FIRST (h / 6)) rfl rfl rfl rfl rfl rfl, desatCause_first]
    · rw [framed_f, hrf (SUP_LATCH_FIRST_HB (h / 6)) hcl.symm, ← hr, State.showDesat_hb_field _ _ _ _ (by omega)]
    · rw [framed_on, State.on_of_f (hrf (SUP_LATCH_FIRST_GATE (h / 6)) hcl.symm), ← hr, State.showDesat_gate]
    · obtain ⟨hgh, hgl⟩ := desatGates_hb high hk (hsoft k)
      rw [framed_hb, hlast, if_neg hne, (hgates k).1, (hgates k).2, hgh, hgl]
      simp [hne]
    · rw [framed_hb, hlast, if_pos rfl, hsgh, (hgates h).1, hon.1]
      simp
    · rw [framed_hb, hlast, if_pos rfl, hsgl, (hgates h).2, hon.2]
      simp
    · rw [framed_hb, hlast, if_pos rfl, hsoft1]
    · rw [framed_f, e, State.raise_f, State.f_inc_same _ _ (by decide), State.setHb_f,
        hshow.f SUP_CNT_DESAT (by simpa [SUP_CNT_DESAT] using hcl), (desatCause_frame h high s).f SUP_CNT_DESAT hcnt]
      rfl
    · have hall : SameRegsBut [BG_STAT_A (h / 6), OD_RES_A (h / 6), SUP_LATCH_A (h / 6), SUP_CNT_A] s r :=
        ((desatCause_frame h high s).mono (by simp [latchRegs])).trans (hshow.mono (by simp))
      refine SameRegsBut.of_regs (SameRegsBut.set (hall.of_regs (State.setHb_regs r h ((t.hb h).softOff high))) SUP_CNT_DESAT
        (satU 8 (((r.setHb h ((t.hb h).softOff high))).f SUP_CNT_DESAT + 1)) (by simp [SUP_CNT_DESAT])) ?_
      rw [framed_regs, e, State.raise_regs]
      rfl

end Sys2Proof.Machine
end

section
/-!
PROOFS. Safe stop (R246-R260): what the pin, the phases and the request write, and the commands that enter each phase.
-/
namespace Sys2Proof.Machine

/-! ### Configuration beside a register that is written -/

theorem State.e_set_ne (s : State) (x y : Fld) (v : Nat) (h : y.addr ≠ x.addr) : (s.set x v).e y = s.e y :=
  State.e_congr y rfl (s.word_set_ne x v y.addr h)

@[simp] theorem State.raiseU_e (s : State) (i : Nat) (x : Fld) : (s.raiseU i).e x = s.e x := rfl

theorem State.inc_e_ne (s : State) (x y : Fld) (h : y.addr ≠ x.addr) : (s.inc x).e y = s.e y := by
  rw [s.inc_eq, s.e_set_ne x y _ h]

theorem State.f_inc_ne (s : State) (x y : Fld) (h : y.addr ≠ x.addr) : (s.inc x).f y = s.f y := by
  rw [s.inc_eq, s.f_set_ne x y _ h]

/-! ### The pin (R246, R247) -/

/-- The pin recorded, with its bit of ACTIVE. -/
def State.pinShown (s : State) : State :=
  { (s.setBit SS_TRIG_ACTIVE 3 true) with ss := { s.ss with pin := true, freeTicks := 0 } }

theorem State.pinShown_ssLive (s : State) : s.pinShown.ssLive 4 = s.ssLive 4 := by
  have hstate : s.pinShown.f PWR_STAT_STATE = s.f PWR_STAT_STATE := s.f_set_ne SS_TRIG_ACTIVE PWR_STAT_STATE _ (by decide)
  have hlrst : s.pinShown.inLrst = s.inLrst := rfl
  simp [State.ssLive, State.quiet, hstate, hlrst]

theorem State.pinShown_active (s : State) : s.pinShown.fbit SS_TRIG_ACTIVE 3 = true :=
  fbit_after_setBit (s := s) (x := SS_TRIG_ACTIVE) (j := 3) (by decide) (by decide)

theorem State.pinShown_latched (s : State) : s.pinShown.f SS_TRIG_LATCHED = s.f SS_TRIG_LATCHED :=
  s.f_set_disjoint SS_TRIG_ACTIVE SS_TRIG_LATCHED _ (by decide)

theorem State.pinShown_frame (s : State) : SameRegsBut [SS_TRIG_A] s s.pinShown :=
  SameRegsBut.of_regs (SameRegsBut.set_one s SS_TRIG_ACTIVE (withBit (s.f SS_TRIG_ACTIVE) 3 true)) rfl

theorem pinAsserted_eq (s : State) : pinAsserted s = if s.ssLive 4 then
    { s.pinShown.setBit SS_TRIG_LATCHED 3 true with ss := { s.pinShown.ss with pinRec := true } } else s.pinShown := by
  rw [← s.pinShown_ssLive]
  rfl

theorem exec_safeStopPin (s : State) (hd : s.dom 2 = true) :
    ∃ t, exec .safeStopPin s = .next t ∧ t.ss.pin = true ∧ t.fbit SS_TRIG_ACTIVE 3 = true ∧
      t.fbit SS_TRIG_LATCHED 3 = (s.fbit SS_TRIG_LATCHED 3 || s.ssLive 4) ∧ SameRegsBut [SS_TRIG_A] s t := by
  cases hl : s.ssLive 4 with
  | false =>
    refine ⟨_, State.runIn_to hd ((pinAsserted_eq s).trans (if_neg (by rw [hl]; decide))) rfl rfl rfl, rfl, s.pinShown_active, ?_, s.pinShown_frame⟩
    rw [State.fbit_of_f s.pinShown_latched, Bool.or_false]
  | true =>
    refine ⟨_, State.runIn_to hd ((pinAsserted_eq s).trans (if_pos hl)) rfl rfl rfl, rfl, ?_, ?_, ?_⟩
    · exact (State.fbit_of_f (s.pinShown.f_set_disjoint SS_TRIG_LATCHED SS_TRIG_ACTIVE _ (by decide)) 3).trans s.pinShown_active
    · rw [Bool.or_true]
      exact fbit_after_setBit (s := s.pinShown) (x := SS_TRIG_LATCHED) (j := 3) (by decide) (by decide)
    · exact SameRegsBut.of_regs (s.pinShown_frame.set SS_TRIG_LATCHED (withBit (s.pinShown.f SS_TRIG_LATCHED) 3 true)
        (by simp [SS_TRIG_LATCHED])) rfl

theorem exec_safeStopNRelease (s : State) (hd : s.dom 2 = true) :
    ∃ t, exec .safeStopNRelease s = .next t ∧ t.ss.pin = false ∧ t.fbit SS_TRIG_ACTIVE 3 = false ∧
      t.f SS_TRIG_LATCHED = s.f SS_TRIG_LATCHED ∧ SameRegsBut [SS_TRIG_A] s t :=
  ⟨_, State.runIn_to hd rfl rfl rfl rfl, rfl, (s.fbit_setBit SS_TRIG_ACTIVE 3 3 false (by decide) (by decide)).trans (if_pos rfl),
    s.f_set_disjoint SS_TRIG_ACTIVE SS_TRIG_LATCHED _ (by decide),
    SameRegsBut.of_regs (SameRegsBut.set_one s SS_TRIG_ACTIVE (withBit (s.f SS_TRIG_ACTIVE) 3 false)) rfl⟩

theorem exec_ssExitRequest (s : State) (hd : s.dom 2 = true) : exec .ssExitRequest s =
    .next (if s.service then { s with ss := { s.ss with exitHost := true } } else s.inc (PG_LOCK_REFUSED 0x00F)) := by
  have hf : counted 0x00F (hostExit s) = if s.service then { s with ss := { s.ss with exitHost := true } }
      else s.inc (PG_LOCK_REFUSED 0x00F) := by
    unfold hostExit
    split <;> rfl
  refine State.runIn_to (f := fun s => counted 0x00F (hostExit s)) hd hf ?_ ?_ ?_ <;> split <;> rfl

/-! ### The request (R250, R253, R255) -/

theorem showReq_f (s : State) (x : Fld) (h : SS_STAT_A_REQ.apart x = true) : (showReq s).f x = s.f x :=
  s.f_set_disjoint SS_STAT_A_REQ x _ h

theorem showReq_frame (s : State) : SameRegsBut [SS_STAT_A] s (showReq s) := SameRegsBut.set_one s SS_STAT_A_REQ _

theorem showReq_escalated {s : State} (h : s.f SS_STAT_PHASE = 2) : (showReq s).f SS_STAT_A_REQ = s.e BLD_LIM_A_MAX % 2 ^ 16 := by
  rw [showReq, State.f_set_same _ _ _ (by decide), h]
  rfl

theorem showReq_held {s : State} (h : s.f SS_STAT_PHASE = 3) : (showReq s).f SS_STAT_A_REQ = s.ss.heldReq % 2 ^ 16 := by
  rw [showReq, State.f_set_same _ _ _ (by decide), h]
  rfl

/-! ### ESCALATE (R252, R253) -/

/-- The phase that escalates, before the request shows. -/
def State.escalated (s : State) : State := (((s.set SS_STAT_PHASE 2).setB SS_STAT_ESC true).inc SS_CNT_ESC).raiseU 0x3B1

theorem ssEscalate_due {s : State} (hph : s.f SS_STAT_PHASE = 1)
    (hdue : s.on SS_STAT_NO_MEAS = true ∨ s.e SS_MON_T_ESC * 1000000 ≤ s.ss.below * s.tNs) : ssEscalate s = showReq s.escalated := by
  rw [ssEscalate, if_pos ⟨hph, hdue⟩, escalate, if_pos hph]
  rfl

section Escalated
variable (s : State)

theorem State.escalated_f (x : Fld) (h1 : SS_STAT_PHASE.apart x = true) (h2 : SS_STAT_ESC.apart x = true)
    (h3 : x.addr ≠ SS_CNT_A) : s.escalated.f x = s.f x := by
  rw [State.escalated, State.raiseU_f, State.f_inc_ne _ SS_CNT_ESC x h3, State.setB_eq, State.f_set_disjoint _ SS_STAT_ESC x _ h2,
    State.f_set_disjoint _ SS_STAT_PHASE x _ h1]

theorem State.escalated_phase : s.escalated.f SS_STAT_PHASE = 2 := by
  simp (disch := decide) only [State.escalated, State.setB_eq, State.raiseU_f, State.f_inc_ne, State.f_set_disjoint, State.f_set_fits]

theorem State.escalated_esc : s.escalated.f SS_STAT_ESC = 1 := by
  simp (disch := decide) only [State.escalated, State.setB_eq, State.raiseU_f, State.f_inc_ne, State.f_set_fits]
  rfl

theorem State.escalated_count : s.escalated.f SS_CNT_ESC = satU 8 (s.f SS_CNT_ESC + 1) := by
  simp (disch := decide) only [State.escalated, State.setB_eq, State.raiseU_f, State.f_inc_same, State.f_set_ne]
  rfl

theorem State.escalated_max : s.escalated.e BLD_LIM_A_MAX = s.e BLD_LIM_A_MAX := by
  simp (disch := decide) only [State.escalated, State.setB_eq, State.raiseU_e, State.inc_e_ne, State.e_set_ne]

theorem State.escalated_frame : SameRegsBut [SS_STAT_A, SS_CNT_A] s s.escalated :=
  SameRegsBut.of_regs ((((SameRegsBut.refl _ s).set SS_STAT_PHASE 2 (by simp [SS_STAT_PHASE])).set SS_STAT_ESC 1
    (by simp [SS_STAT_ESC])).set SS_CNT_ESC _ (by simp [SS_CNT_ESC])) rfl

end Escalated

theorem exec_ssEscalate {s : State} (hd : s.dom 2 = true) (hq : s.quiet = false) (hph : s.f SS_STAT_PHASE = 1)
    (hdue : s.on SS_STAT_NO_MEAS = true ∨ s.e SS_MON_T_ESC * 1000000 ≤ s.ss.below * s.tNs) :
    exec .ssEscalate s = .next (showReq s.escalated) :=
  State.runIf_to hd (by rw [hq]; rfl) (ssEscalate_due hph hdue) rfl rfl rfl

/-! ### SECURE (R254, R255) -/

/-- The phase SECURE with its held request, before the request shows. -/
def State.holding (s : State) (held : Nat) : State :=
  { s.set SS_STAT_PHASE 3 with ss := { s.ss with heldReq := held, secure := 0 } }

theorem standstill_due {s : State} (hph : s.f SS_STAT_PHASE = 1 ∨ s.f SS_STAT_PHASE = 2)
    (hdue : s.e SS_STOP_T_HOLD * 1000000 ≤ s.ss.still * s.tNs) : standstill s = showReq (s.holding (s.f SS_STAT_A_REQ)) :=
  if_pos ⟨hph, hdue⟩

theorem State.holding_phase (s : State) (held : Nat) : (s.holding held).f SS_STAT_PHASE = 3 :=
  s.f_set_fits SS_STAT_PHASE 3 (by decide) (by decide)

theorem State.holding_frame (s : State) (held : Nat) : SameRegsBut [SS_STAT_A] s (s.holding held) :=
  SameRegsBut.of_regs (SameRegsBut.set_one s SS_STAT_PHASE 3) rfl

theorem exec_standstillConfirmed {s : State} (hd : s.dom 2 = true) (hq : s.quiet = false)
    (hph : s.f SS_STAT_PHASE = 1 ∨ s.f SS_STAT_PHASE = 2) (hdue : s.e SS_STOP_T_HOLD * 1000000 ≤ s.ss.still * s.tNs) :
    exec .standstillConfirmed s = .next (showReq (s.holding (s.f SS_STAT_A_REQ))) :=
  State.runIf_to hd (by rw [hq]; rfl) (standstill_due hph hdue) rfl rfl rfl

/-! ### SECURED (R256) -/

/-- The enables of the steering axes cleared. -/
def steerOff (s : State) : State :=
  s.each (List.range 4) (fun k t => if t.e (STR_AX_EN k) = 1 then t.setB (PG_CTL_EN (0x010 + t.e (STR_AX_AXIS k))) false else t)

/-- SECURED shown, the torque-off switches open. -/
def State.securedShown (s : State) : State :=
  let t := ((s.set SS_STAT_PHASE 4).setB SS_STAT_PARK_DONE true).setB SS_STAT_TQ_OPEN true
  openTq { t with ss := { t.ss with moveStill := 0, notBelow := false, moveSeen := false } }

theorem secured_eq (s : State) : secured s = showReq (steerOff s.securedShown) := rfl

theorem pgCtl_ne (pg : Nat) : SS_STAT_A ≠ PG_CTL_A pg ∧ AUX_STAT_A ≠ PG_CTL_A pg := by
  unfold SS_STAT_A AUX_STAT_A PG_CTL_A
  omega

/-- Neither the safe-stop status nor the auxiliary status is touched. -/
theorem steerOff_f (s : State) (x : Fld) (hx : x.addr = SS_STAT_A ∨ x.addr = AUX_STAT_A) : (steerOff s).f x = s.f x := by
  refine State.each_ind (fun t => t.f x = s.f x) s (fun k _ t ht => ?_) rfl
  split
  · rw [State.setB_eq]
    refine (State.f_set_ne _ (PG_CTL_EN _) x _ ?_).trans ht
    rcases hx with hx | hx <;> rw [hx]
    · exact (pgCtl_ne _).1
    · exact (pgCtl_ne _).2
  · exact ht

theorem steerOff_onlyRegs (s : State) : OnlyRegs s (steerOff s) := by
  refine State.each_ind (fun t => OnlyRegs s t) s (fun k _ t ht => ?_) (OnlyRegs.refl s)
  exact OnlyRegs.of_ite (ht.set _ _) ht

theorem secured_onlyRegs (s : State) : OnlyRegs { s with ss := { s.ss with moveStill := 0, notBelow := false, moveSeen := false } } (secured s) := by
  refine OnlyRegs.set (OnlyRegs.trans ?_ (steerOff_onlyRegs s.securedShown)) SS_STAT_A_REQ _
  rfl

section Secured
variable (s : State)

theorem securedShown_f :
    s.securedShown.f SS_STAT_PHASE = 4 ∧ s.securedShown.f SS_STAT_PARK_DONE = 1 ∧ s.securedShown.f SS_STAT_TQ_OPEN = 1 ∧
      s.securedShown.f AUX_STAT_TQ_CMD = 0 := by
  have hcongr : ∀ x, s.securedShown.f x = ((((((s.set SS_STAT_PHASE 4).setB SS_STAT_PARK_DONE true).setB SS_STAT_TQ_OPEN true).set
      AUX_STAT_TQ_CMD 0).set AUX_STAT_TQ_RB 0)).f x := fun x => rfl
  simp (disch := decide) only [hcongr, State.setB_eq, State.f_set_ne, State.f_set_disjoint, State.f_set_fits]
  decide

/-- What entering SECURED shows, and what it leaves. -/
theorem secured_shows : (secured s).f SS_STAT_PHASE = 4 ∧ (secured s).on SS_STAT_PARK_DONE = true ∧ (secured s).on SS_STAT_TQ_OPEN = true ∧
    (secured s).f AUX_STAT_TQ_CMD = 0 := by
  obtain ⟨hph, hpark, htq, haux⟩ := securedShown_f s
  rw [secured_eq, State.on_iff, State.on_iff]
  refine ⟨?_, ?_, ?_, ?_⟩
  · rw [showReq_f _ _ rfl, steerOff_f _ _ (.inl rfl), hph]
  · rw [showReq_f _ _ rfl, steerOff_f _ _ (.inl rfl), hpark]
  · rw [showReq_f _ _ rfl, steerOff_f _ _ (.inl rfl), htq]
  · rw [showReq_f _ _ (by decide), steerOff_f _ _ (.inr rfl), haux]

theorem secured_frame : (secured s).flt = s.flt ∧ (secured s).pending = s.pending ∧ (secured s).part = s.part ∧ (secured s).powered = s.powered := by
  obtain ⟨r, e⟩ := (secured_onlyRegs s).exists
  rw [e]
  exact ⟨rfl, rfl, rfl, rfl⟩

end Secured

/-- A command whose run is the entry to SECURED from a state that differs only in what it has raised. -/
theorem State.runIf_secured {s t : State} {f : State → State} (hd : s.dom 2 = true) (hq : s.quiet = false) (hf : f s = secured t)
    (hp : t.pending = s.pending) (hpart : t.part = s.part) (hpw : t.powered = s.powered) :
    ∃ u, s.runIf 2 (!s.quiet) f = .next u ∧ u.f SS_STAT_PHASE = 4 ∧ u.on SS_STAT_PARK_DONE = true ∧ u.on SS_STAT_TQ_OPEN = true ∧
      u.f AUX_STAT_TQ_CMD = 0 ∧ u.flt = t.flt := by
  obtain ⟨hph, hpark, htq, haux⟩ := secured_shows t
  obtain ⟨hflt, h1, h2, h3⟩ := secured_frame t
  exact ⟨_, State.runIf_to hd (by rw [hq]; rfl) hf (h1.trans hp) (h2.trans hpart) (h3.trans hpw), hph, hpark, htq, haux, hflt⟩

/-- Settles O18: the pin by whether triggers act; each phase by the state that its entry shows and the request that goes with it. -/
theorem safeStopRunsItsPhases : Obligations.SafeStopRunsItsPhases := by
  refine ⟨exec_safeStopPin, exec_safeStopNRelease, fun s hd => State.runIn_to hd rfl rfl rfl rfl, exec_ssExitRequest, ?escalate, ?standstill,
    ?park, ?timeout⟩
  case escalate =>
    intro s hd hq hph hdue
    refine ⟨_, exec_ssEscalate hd hq hph hdue, ?_, ?_, ?_, ?_, ?_, ?_⟩
    · rw [showReq_f _ _ rfl, s.escalated_phase]
    · rw [State.on_iff, showReq_f _ _ rfl, s.escalated_esc]
    · rw [showReq_f _ _ (by decide), s.escalated_count]
    · rw [showReq_escalated s.escalated_phase, s.escalated_max]
    · rw [showReq_f _ _ rfl, s.escalated_f _ rfl rfl (by decide)]
    · exact s.escalated_frame.trans ((showReq_frame _).mono (by simp))
  case standstill =>
    intro s hd hq hph hdue
    refine ⟨_, exec_standstillConfirmed hd hq hph hdue, ?_, ?_, rfl, ?_⟩
    · rw [showReq_f _ _ rfl, State.holding_phase]
    · rw [showReq_held (s.holding_phase _)]
      exact Nat.mod_eq_of_lt (s.f_lt SS_STAT_A_REQ)
    · exact (s.holding_frame _).trans (showReq_frame _)
  case park =>
    intro s hd hq hph happlied hdue
    exact State.runIf_secured hd hq (if_pos ⟨hph, happlied, hdue⟩) rfl rfl rfl
  case timeout =>
    intro s hd hq hph happlied hdue
    obtain ⟨t, e, hphase, hpark, _, haux, hflt⟩ := State.runIf_secured (f := parkTmo) (t := s.raiseU 0x3B2) hd hq
      (if_pos ⟨hph, by rw [happlied]; rfl, hdue⟩) rfl rfl rfl
    exact ⟨t, e, hphase, hpark, haux, hflt⟩

end Sys2Proof.Machine
end

section
/-!
PROOFS. Vehicle reports and lost axes (R50, R105, R116, R157, R161, R162, R172): what the edges of an axis leave alone, and what its
loss shows.
-/
namespace Sys2Proof.Machine

/-! ### The edges of an axis -/

/-- What the translation of set-points into edges leaves: the axes' records, and the registers outside the counters of the units. -/
structure EdgesShadowed (s t : State) : Prop where
  axes : t.axes = s.axes
  f : ∀ x : Fld, x.addr % 0x400 < 0x200 → t.f x = s.f x

section EdgesShadowed
variable {s t : State}

theorem EdgesShadowed.refl (s : State) : EdgesShadowed s s := ⟨rfl, fun _ _ => rfl⟩

theorem EdgesShadowed.trans {r : State} (h : EdgesShadowed s t) (k : EdgesShadowed t r) : EdgesShadowed s r :=
  ⟨k.axes.trans h.axes, fun x hx => (k.f x hx).trans (h.f x hx)⟩

theorem EdgesShadowed.setHb (h : EdgesShadowed s t) (k : Nat) (b : HbSt) : EdgesShadowed s (t.setHb k b) :=
  ⟨h.axes, fun x hx => (t.setHb_f k b x).trans (h.f x hx)⟩

theorem EdgesShadowed.setVdu (h : EdgesShadowed s t) (u : Nat) (v : VduSt) : EdgesShadowed s (t.setVdu u v) :=
  ⟨h.axes, fun x hx => (t.setVdu_f u v x).trans (h.f x hx)⟩

theorem EdgesShadowed.of_ite {c : Prop} [Decidable c] {r : State} (h : EdgesShadowed s t) (k : EdgesShadowed s r) :
    EdgesShadowed s (if c then t else r) := by
  split
  · exact h
  · exact k

theorem EdgesShadowed.countSat (h : EdgesShadowed s t) (u : Nat) : EdgesShadowed s (t.inc (VDU_CNT_B_EDGE_SAT u)) := by
  refine ⟨h.axes, fun x hx => (State.f_inc_ne t (VDU_CNT_B_EDGE_SAT u) x fun e => ?_).trans (h.f x hx)⟩
  change x.addr = VDU_CNT_B_A u at e
  unfold VDU_CNT_B_A at e
  omega

theorem edgeShadow_shadowed (h : Nat) (i : Int) (s : State) : EdgesShadowed s (edgeShadow h i s) :=
  EdgesShadowed.of_ite (((EdgesShadowed.refl s).setHb _ _).setVdu _ _) ((EdgesShadowed.refl s).setHb _ _)

theorem setEdges_shadowed (u fsI : Nat) (sp : List Int) (s : State) : EdgesShadowed s (setEdges u fsI sp s) := by
  have hlegs : EdgesShadowed s ((s.setVdu u { s.vdu u with deltaS := s.feedForward u fsI (s.eI (CH_GAIN_GAIN (3 * u))), satS := false }).each
      [0, 1, 2] (fun i t => edgeShadow (3 * u + i) (sp.getD i 0) t)) :=
    State.each_ind (EdgesShadowed s) _ (fun i _ t ht => ht.trans (edgeShadow_shadowed _ _ t)) ((EdgesShadowed.refl s).setVdu _ _)
  exact EdgesShadowed.of_ite (hlegs.countSat u) hlegs

theorem axisEdges_shadowed (n : Nat) (sp : List Int) (s : State) : EdgesShadowed s (axisEdges n sp s) := by
  have hset := setEdges_shadowed (s.e (AX_CFG_HB_BASE n) / 3) (s.e (AX_IMAX_FS_I n)) sp s
  exact EdgesShadowed.of_ite (hset.trans (setEdges_shadowed _ _ _ _)) hset

end EdgesShadowed

/-! ### A lost axis -/

/-- The registers of a loss: the state, the bit in AXIS_LOST, the age of the output. -/
def State.lossShown (s : State) (n : Nat) : State :=
  (((s.set (AX_STAT_STATE n) 4).setBit AXIS_LOST_LOST n true).set (ageF n) 2).setB (AX_STAT_SP_LIMITED n) false

theorem axisStat_apart_tick (n : Nat) : OUT_AGE_A ≠ AX_STAT_A n ∧ AXIS_LOST_A ≠ AX_STAT_A n := by
  unfold OUT_AGE_A AXIS_LOST_A AX_STAT_A
  omega

theorem axisStat_injective {m n : Nat} (e : AX_STAT_A m = AX_STAT_A n) : m = n := by
  unfold AX_STAT_A at e
  omega

section LossShown
variable (s : State) {n : Nat}

theorem State.lossShown_state (n : Nat) : (s.lossShown n).f (AX_STAT_STATE n) = 4 := by
  rw [State.lossShown, State.setB_eq, State.setBit_eq, State.f_set_disjoint _ (AX_STAT_SP_LIMITED n) (AX_STAT_STATE n) _ rfl,
    State.f_set_ne _ (ageF n) (AX_STAT_STATE n) _ (axisStat_apart_tick n).1.symm,
    State.f_set_ne _ AXIS_LOST_LOST (AX_STAT_STATE n) _ (axisStat_apart_tick n).2.symm, State.f_set_fits _ _ _ (Fld.fits rfl) (by
      show 4 < 2 ^ 3
      decide)]

theorem State.lossShown_state_ne {m : Nat} (h : m ≠ n) : (s.lossShown n).f (AX_STAT_STATE m) = s.f (AX_STAT_STATE m) := by
  have hne : AX_STAT_A m ≠ AX_STAT_A n := fun e => h (axisStat_injective e)
  rw [State.lossShown, State.setB_eq, State.setBit_eq, State.f_set_ne _ (AX_STAT_SP_LIMITED n) (AX_STAT_STATE m) _ hne,
    State.f_set_ne _ (ageF n) (AX_STAT_STATE m) _ (axisStat_apart_tick m).1.symm,
    State.f_set_ne _ AXIS_LOST_LOST (AX_STAT_STATE m) _ (axisStat_apart_tick m).2.symm, State.f_set_ne _ (AX_STAT_STATE n) (AX_STAT_STATE m) _ hne]

theorem State.lossShown_lost (hn : n < 16) (m : Nat) :
    (s.lossShown n).fbit AXIS_LOST_LOST m = if m = n then true else s.fbit AXIS_LOST_LOST m := by
  have hbefore : (s.set (AX_STAT_STATE n) 4).fbit AXIS_LOST_LOST m = s.fbit AXIS_LOST_LOST m :=
    State.fbit_of_f (State.f_set_ne _ (AX_STAT_STATE n) AXIS_LOST_LOST _ (axisStat_apart_tick n).2) m
  rw [← hbefore, ← State.fbit_setBit _ AXIS_LOST_LOST n m true (by decide) hn]
  refine State.fbit_of_f ?_ m
  rw [State.lossShown, State.setB_eq, State.f_set_ne _ (AX_STAT_SP_LIMITED n) AXIS_LOST_LOST _ (axisStat_apart_tick n).2,
    State.f_set_ne _ (ageF n) AXIS_LOST_LOST _ (show AXIS_LOST_A ≠ OUT_AGE_A by decide)]

theorem State.lossShown_age (hn : n < 16) : (s.lossShown n).f (ageF n) = 2 := by
  rw [State.lossShown, State.setB_eq, State.f_set_ne _ (AX_STAT_SP_LIMITED n) (ageF n) _ (axisStat_apart_tick n).1]
  refine State.f_set_fits _ _ _ ?_ (show 2 < 2 ^ 2 by decide)
  show 2 * n + 2 ≤ 32
  omega

end LossShown

/-- The state at the end of a loss, by what its edges left of the state that shows it. -/
theorem loseAxis_live {n : Nat} {s : State} (h0 : s.axState n ≠ 0) (h4 : s.axState n ≠ 4) : loseAxis n s =
    ((axisEdges n [0, 0, 0, 0, 0, 0] (s.lossShown n)).raiseU (0x010 + n)).setAxs n
      { ((axisEdges n [0, 0, 0, 0, 0, 0] (s.lossShown n)).raiseU (0x010 + n)).axs n with committed := false, shutTmo := s.axState n == 3 } :=
  if_neg (by simp [h0, h4])

section LoseAxis
variable {n : Nat} {s : State} (h0 : s.axState n ≠ 0) (h4 : s.axState n ≠ 4)
include h0 h4

theorem loseAxis_f {x : Fld} (hx : x.addr % 0x400 < 0x200) : (loseAxis n s).f x = (s.lossShown n).f x := by
  rw [loseAxis_live h0 h4, State.setAxs_f, State.raiseU_f, (axisEdges_shadowed n _ _).f x hx]

theorem loseAxis_axs_ne {m : Nat} (h : m ≠ n) : (loseAxis n s).axs m = s.axs m := by
  rw [loseAxis_live h0 h4, State.setAxs_axs_ne _ _ _ _ h]
  have haxes := (axisEdges_shadowed n [0, 0, 0, 0, 0, 0] (s.lossShown n)).axes
  show smGet _ (axisEdges n _ (s.lossShown n)).axes m = _
  rw [haxes]
  rfl

theorem loseAxis_axs : ((loseAxis n s).axs n).committed = false ∧ ((loseAxis n s).axs n).shutTmo = (s.axState n == 3) := by
  rw [loseAxis_live h0 h4, State.setAxs_axs_same]
  exact ⟨rfl, rfl⟩

/-- What a loss shows of its axis, and what it leaves of the others. -/
theorem loseAxis_shows (hn : n < 16) : (loseAxis n s).axState n = 4 ∧ (loseAxis n s).fbit AXIS_LOST_LOST n = true ∧
    (loseAxis n s).f (ageF n) = 2 ∧ ∀ m, m ≠ n → (loseAxis n s).axState m = s.axState m ∧ (loseAxis n s).axs m = s.axs m ∧
      (loseAxis n s).fbit AXIS_LOST_LOST m = s.fbit AXIS_LOST_LOST m := by
  have hstat : ∀ m, (loseAxis n s).axState m = (s.lossShown n).axState m := fun m =>
    loseAxis_f (x := AX_STAT_STATE m) h0 h4 (by simp [AX_STAT_STATE, AX_STAT_A])
  have hlost : ∀ m, (loseAxis n s).fbit AXIS_LOST_LOST m = if m = n then true else s.fbit AXIS_LOST_LOST m := fun m =>
    (State.fbit_of_f (loseAxis_f h0 h4 (by decide)) m).trans (s.lossShown_lost hn m)
  refine ⟨(hstat n).trans (s.lossShown_state n), (hlost n).trans (if_pos rfl), ?_, fun m hm => ⟨?_, ?_, (hlost m).trans (if_neg hm)⟩⟩
  · exact (loseAxis_f (x := ageF n) h0 h4 (by simp [ageF, OUT_AGE_A])).trans (s.lossShown_age hn)
  · exact (hstat m).trans (s.lossShown_state_ne hm)
  · exact loseAxis_axs_ne h0 h4 hm

end LoseAxis

theorem coastLost_due {n : Nat} {s : State} (hc : s.on (AX_STAT_COAST n) = true) (hd : s.msTicks 20 ≤ s.f (AX_COAST_TICKS n)) :
    coastLost n s = loseAxis n s := if_pos (by simp [hc, hd])

theorem shutdownTmo_due {n : Nat} {s : State} (hst : s.axState n = 3)
    (hd : 2 * s.e (AX_CFG_SHUT_MS n) * 1000000 ≤ (s.axs n).shutTicks * s.tNs) : shutdownTmo n s = loseAxis n s :=
  if_pos (by simp [State.shutLate, hst, hd])

/-- Settles O19: each report by its run time and episode; a lost axis by its registers, which the zero edges leave. -/
theorem vehicleAndAxisEpisodesEnd : Obligations.VehicleAndAxisEpisodesEnd := by
  refine ⟨fun s hd hrun hep => State.runIn_to hd (if_pos ⟨hrun, by simp [hep]⟩) rfl rfl rfl,
    fun s hd hep hrun => State.runIn_to hd (if_pos (by simp [hep, hrun])) rfl rfl rfl,
    fun s hd hrun hep => State.runIn_to hd (if_pos ⟨hrun, by simp [hep]⟩) rfl rfl rfl,
    fun k s hd hrun hpos hep => State.runIn_to hd (if_pos ⟨hrun, hpos, by simp [hep]⟩) rfl rfl rfl,
    fun s hd hep => State.runIn_to hd (if_neg (by simp [hep])) rfl rfl rfl, ?coast,
    fun n s hd hlate => State.runIn_to hd (if_neg (by simp [hlate])) rfl rfl rfl, ?shutdown,
    fun n s hd _ hc => State.runIn_to hd (if_neg (by simp [hc])) rfl rfl rfl⟩
  case coast =>
    intro n s hd hc hrun hst
    have h0 : s.axState n ≠ 0 := by omega
    have h4 : s.axState n ≠ 4 := by omega
    obtain ⟨hstate, hlost, hage, hothers⟩ := loseAxis_shows h0 h4 n.isLt
    obtain ⟨hcom, htmo⟩ := loseAxis_axs h0 h4
    refine ⟨framed s (coastLost n s), State.runIn_on s 2 _ hd, ?_⟩
    rw [coastLost_due hc hrun]
    exact ⟨hstate, hlost, hage, hcom, htmo.trans (by rw [hst]; rfl), fun m hm => hothers m (Fin.val_ne_of_ne hm)⟩
  case shutdown =>
    intro n s hd hst hrun
    have h0 : s.axState n ≠ 0 := by omega
    have h4 : s.axState n ≠ 4 := by omega
    obtain ⟨hstate, hlost, hage, hothers⟩ := loseAxis_shows h0 h4 n.isLt
    obtain ⟨_, htmo⟩ := loseAxis_axs h0 h4
    refine ⟨framed s (shutdownTmo n s), State.runIn_on s 2 _ hd, ?_⟩
    rw [shutdownTmo_due hst hrun]
    exact ⟨hstate, hlost, hage, htmo.trans (by rw [hst]; rfl), fun m hm => ⟨(hothers m (Fin.val_ne_of_ne hm)).1, (hothers m (Fin.val_ne_of_ne hm)).2.1⟩⟩

end Sys2Proof.Machine
end

section
/-!
PROOFS. Which states run programs and ticks (R42, R375, R413).
-/
namespace Sys2Proof.Machine

theorem engineOn_of_quiet {s : State} (h : s.quiet = true) : s.engineOn = false := by simp [State.engineOn, h]

/-- A command whose condition does not hold changes nothing. -/
theorem State.runIf_idle {s : State} {b : Bool} (d : Nat) (f : State → State) (hb : b = false) : s.runIf d b f = .next s := by
  rw [hb, State.runIf_not]

/-- Settles O20: the windows run under the condition that their commands name; a TICK by LRST and QUIET. -/
theorem programsRunByStateAndTick : Obligations.ProgramsRunByStateAndTick := by
  refine ⟨?windows, fun x s hd => ?tick⟩
  case windows =>
    rintro c s (⟨hoff, ⟨x, rfl⟩ | ⟨x, rfl⟩ | rfl | ⟨n, e, rfl⟩⟩ | ⟨hq, ⟨l, rfl⟩ | ⟨sl, p, rfl⟩ | ⟨i, m, l, rfl⟩ | ⟨p, r, rfl⟩⟩)
    · exact State.runIf_idle 2 (plainPass x) hoff
    · exact State.runIf_idle 2 (janusPass x) hoff
    · exact State.runIf_idle 2 arbReserve hoff
    · exact State.runIf_idle 2 (rerunComplete n e) hoff
    · exact State.runIf_idle 2 (voteCommit (l.map Fin.val)) (by rw [hq]; rfl)
    · exact State.runIf_idle 2 (sliceTest sl p) (by rw [hq]; rfl)
    · exact State.runIf_idle 2 (selfTestSlice i m l) (by rw [hq]; rfl)
    · exact State.runIf_idle 2 (marchComplete p r) (by rw [hq]; rfl)
  case tick =>
    cases hl : s.inLrst with
    | true => exact State.runIf_idle 2 (tickAll x) (by rw [hl]; rfl)
    | false => exact State.runIf_on s 2 (!s.inLrst) (tickAll x) hd (by rw [hl]; rfl)

end Sys2Proof.Machine
end

section
/-!
PROOFS. Links and spans of the cascade (R289-R292): what training and a fall of a link write.
-/
namespace Sys2Proof.Machine

/-! ### Bits that hardware sets, and a crossing whose side is reset (R442) -/

theorem bitOf_fieldGet (w : Word) (lo wd k : Nat) : bitOf (fieldGet w lo wd) k = (decide (k < wd) && w.toNat.testBit (lo + k)) := by
  rw [bitOf_testBit, fieldGet, Nat.testBit_mod_two_pow, Nat.testBit_div_two_pow, Nat.add_comm]

theorem fbit_hwSet (s : State) (x : Fld) (m : Word) (k : Nat) :
    (s.hwSet x.addr m).fbit x k = (s.fbit x k || bitOf (fieldGet m x.lo x.width) k) := by
  have hword : (s.hwSet x.addr m).word x.addr = s.word x.addr ||| m := s.word_setWord_same x.addr _
  rw [State.fbit, State.fbit, State.f, State.f, hword, bitOf_fieldGet, bitOf_fieldGet, bitOf_fieldGet, BitVec.toNat_or, Nat.testBit_or,
    Bool.and_or_distrib_left]

theorem f_hwSet_ne (s : State) (a : Nat) (m : Word) (x : Fld) (h : x.addr ≠ a) : (s.hwSet a m).f x = s.f x := by
  have hword : (s.hwSet a m).word x.addr = s.word x.addr := s.word_setWord_ne a x.addr _ h
  rw [State.f, State.f, hword]

theorem peerReset_shows {i : Nat} (hi : i < 18) (s : State) : (peerReset i s).fbit CDC_PEER_PEER_RESET i = true := by
  have hother : (peerReset i s).f CDC_PEER_PEER_RESET = (s.hwSet CDC_PEER_A (BitVec.ofNat 32 (2 ^ i))).f CDC_PEER_PEER_RESET := by
    have hne : CDC_PEER_A ≠ CDC_XST_A i := by
      unfold CDC_PEER_A CDC_XST_A
      omega
    rw [peerReset, State.raise_f, State.f_inc_ne _ (CDC_XST_RESETS i) CDC_PEER_PEER_RESET hne]
    rfl
  have hbit := fbit_hwSet s CDC_PEER_PEER_RESET (BitVec.ofNat 32 (2 ^ i)) i
  have hpow : 2 ^ i < 2 ^ 18 := Nat.pow_lt_pow_right (by omega) hi
  rw [State.fbit_of_f hother i]
  refine hbit.trans ?_
  rw [bitOf_fieldGet, BitVec.toNat_ofNat, Nat.mod_eq_of_lt (by omega), show (CDC_PEER_PEER_RESET).lo = 0 from rfl, Nat.zero_add,
    Nat.testBit_two_pow_self, decide_eq_true (show i < CDC_PEER_PEER_RESET.width from hi)]
  simp

/-! ### Training (R289, R290) -/

theorem State.setLink_link (s : State) (m : Nat) (v : LinkSt) : (s.setLink m v).link m = v := smGet_smPut_same _ _ _ _
@[simp] theorem State.setLink_regs (s : State) (m : Nat) (v : LinkSt) : (s.setLink m v).regs = s.regs := (rfl)
@[simp] theorem State.setLink_f (s : State) (m : Nat) (v : LinkSt) (x : Fld) : (s.setLink m v).f x = s.f x := (rfl)

@[simp] theorem State.setLink_pending (s : State) (m : Nat) (v : LinkSt) : (s.setLink m v).pending = s.pending := (rfl)
@[simp] theorem State.setLink_part (s : State) (m : Nat) (v : LinkSt) : (s.setLink m v).part = s.part := (rfl)
@[simp] theorem State.setLink_powered (s : State) (m : Nat) (v : LinkSt) : (s.setLink m v).powered = s.powered := (rfl)
@[simp] theorem State.setLink_flt (s : State) (m : Nat) (v : LinkSt) : (s.setLink m v).flt = s.flt := (rfl)
@[simp] theorem State.setLink_freeSeq (s : State) (m : Nat) (v : LinkSt) : (s.setLink m v).freeSeq = s.freeSeq := (rfl)
@[simp] theorem State.setLink_tb (s : State) (m : Nat) (v : LinkSt) : (s.setLink m v).tb = s.tb := (rfl)

/-- What a block raises depends on the events that wait, the free values used and the time. -/
theorem State.raiseU_flt_congr {s t : State} (i : Nat) (hf : t.flt = s.flt) (hn : t.freeSeq = s.freeSeq) (ht : t.tb = s.tb) :
    (t.raiseU i).flt = (s.raiseU i).flt := by simp only [State.raiseU, hf, hn, ht]

theorem State.raiseU_link (s : State) (i m : Nat) : (s.raiseU i).link m = s.link m := (rfl)

/-- The state with another record of the cascade. -/
def State.withMm (s : State) (v : MoamelSt) : State := { s with mm := v }

@[simp] theorem State.withMm_f (s : State) (v : MoamelSt) (x : Fld) : (s.withMm v).f x = s.f x := (rfl)
@[simp] theorem State.withMm_regs (s : State) (v : MoamelSt) : (s.withMm v).regs = s.regs := (rfl)
@[simp] theorem State.withMm_pending (s : State) (v : MoamelSt) : (s.withMm v).pending = s.pending := (rfl)
@[simp] theorem State.withMm_part (s : State) (v : MoamelSt) : (s.withMm v).part = s.part := (rfl)
@[simp] theorem State.withMm_powered (s : State) (v : MoamelSt) : (s.withMm v).powered = s.powered := (rfl)
@[simp] theorem State.withMm_flt (s : State) (v : MoamelSt) : (s.withMm v).flt = s.flt := (rfl)
@[simp] theorem State.withMm_freeSeq (s : State) (v : MoamelSt) : (s.withMm v).freeSeq = s.freeSeq := (rfl)
@[simp] theorem State.withMm_tb (s : State) (v : MoamelSt) : (s.withMm v).tb = s.tb := (rfl)

/-- The identity that the training words of a peer name, and the position noted with its lane system. -/
def State.peerShown (s : State) (m pos ringN lsys d : Nat) : State :=
  let t := (((s.set (LK_STAT_PEER_POS m) pos).set (LK_STAT_PEER_RING_N m) ringN).set (LK_STAT_PEER_LSYS m) lsys).set (LK_STAT_DELAY_NS m) d
  t.withMm { t.mm with lsysAt := smPut (fun _ => 8) t.mm.lsysAt pos lsys }

section PeerShown
variable (s : State) (m pos ringN lsys d : Nat)

theorem State.peerShown_f (x : Fld) : (s.peerShown m pos ringN lsys d).f x =
    ((((s.set (LK_STAT_PEER_POS m) pos).set (LK_STAT_PEER_RING_N m) ringN).set (LK_STAT_PEER_LSYS m) lsys).set (LK_STAT_DELAY_NS m) d).f x :=
  State.withMm_f _ _ x

theorem State.peerShown_shows (hpos : pos < 16) (hring : ringN < 32) (hlsys : lsys < 8) (hd : d < 2 ^ 16) :
    (s.peerShown m pos ringN lsys d).f (LK_STAT_PEER_POS m) = pos ∧ (s.peerShown m pos ringN lsys d).f (LK_STAT_PEER_RING_N m) = ringN ∧
      (s.peerShown m pos ringN lsys d).f (LK_STAT_PEER_LSYS m) = lsys ∧ (s.peerShown m pos ringN lsys d).f (LK_STAT_DELAY_NS m) = d := by
  refine ⟨?_, ?_, ?_, ?_⟩ <;> rw [State.peerShown_f]
  · rw [State.f_set_disjoint _ (LK_STAT_DELAY_NS m) (LK_STAT_PEER_POS m) _ rfl, State.f_set_disjoint _ (LK_STAT_PEER_LSYS m) (LK_STAT_PEER_POS m) _ rfl,
      State.f_set_disjoint _ (LK_STAT_PEER_RING_N m) (LK_STAT_PEER_POS m) _ rfl, State.f_set_fits _ _ _ (Fld.fits rfl) hpos]
  · rw [State.f_set_disjoint _ (LK_STAT_DELAY_NS m) (LK_STAT_PEER_RING_N m) _ rfl,
      State.f_set_disjoint _ (LK_STAT_PEER_LSYS m) (LK_STAT_PEER_RING_N m) _ rfl, State.f_set_fits _ _ _ (Fld.fits rfl) hring]
  · rw [State.f_set_disjoint _ (LK_STAT_DELAY_NS m) (LK_STAT_PEER_LSYS m) _ rfl, State.f_set_fits _ _ _ (Fld.fits rfl) hlsys]
  · rw [State.f_set_fits _ _ _ (Fld.fits rfl) hd]

theorem State.peerShown_frame : SameRegsBut [LK_STAT_A m] s (s.peerShown m pos ringN lsys d) :=
  SameRegsBut.of_regs (((((SameRegsBut.refl _ s).set (LK_STAT_PEER_POS m) pos (by simp [LK_STAT_PEER_POS])).set (LK_STAT_PEER_RING_N m) ringN
    (by simp [LK_STAT_PEER_RING_N])).set (LK_STAT_PEER_LSYS m) lsys (by simp [LK_STAT_PEER_LSYS])).set (LK_STAT_DELAY_NS m) d
    (by simp [LK_STAT_DELAY_NS])) (State.withMm_regs _ _)

end PeerShown

/-- A link that trains, with its peer shown: in state `c`, with a record of its own. -/
def State.linkAt (s : State) (m c : Nat) (v : LinkSt) : State := (s.set (LK_STAT_STATE m) c).setLink m v

section Trained
variable {m pos ringN lsys d : Nat} {s : State} (htr : s.f (LK_STAT_STATE m) = 1 ∨ s.f (LK_STAT_STATE m) = 3)
include htr

theorem linkTrained_expected (h : pos = s.neighbour m ∧ ringN = s.ringN) :
    linkTrained m pos ringN lsys d s = (s.peerShown m pos ringN lsys d).linkAt m 1 { pendUp := true } := by
  rw [linkTrained, if_neg (by omega)]
  exact if_pos h

theorem linkTrained_other (h : ¬ (pos = s.neighbour m ∧ ringN = s.ringN)) :
    linkTrained m pos ringN lsys d s = (if (s.link m).wiringEp then (s.peerShown m pos ringN lsys d).linkAt m 3 { wiringEp := true }
      else ((s.peerShown m pos ringN lsys d).linkAt m 3 { wiringEp := true }).raiseU 0x301) := by
  rw [linkTrained, if_neg (by omega)]
  exact if_neg h

end Trained

theorem State.linkAt_state (s : State) (m : Nat) {c : Nat} (v : LinkSt) (hc : c < 8) : (s.linkAt m c v).f (LK_STAT_STATE m) = c :=
  s.f_set_fits _ _ (Fld.fits rfl) hc

theorem State.linkAt_link (s : State) (m c : Nat) (v : LinkSt) : (s.linkAt m c v).link m = v := smGet_smPut_same _ _ _ _

theorem State.linkAt_apart (s : State) (m c : Nat) (v : LinkSt) (x : Fld) (h : (LK_STAT_STATE m).apart x = true) :
    (s.linkAt m c v).f x = s.f x := s.f_set_disjoint (LK_STAT_STATE m) x _ h

theorem State.linkAt_frame (s : State) (m c : Nat) (v : LinkSt) : SameRegsBut [LK_STAT_A m] s (s.linkAt m c v) :=
  SameRegsBut.of_regs (SameRegsBut.set_one s (LK_STAT_STATE m) c) rfl

/-- The peer's identity stays shown in the state that training ends in. -/
theorem State.linkAt_peer (s : State) (m c pos ringN lsys d : Nat) (v : LinkSt) (hpos : pos < 16) (hring : ringN < 32) (hlsys : lsys < 8)
    (hd : d < 2 ^ 16) : let t := (s.peerShown m pos ringN lsys d).linkAt m c v
    t.f (LK_STAT_PEER_POS m) = pos ∧ t.f (LK_STAT_PEER_RING_N m) = ringN ∧ t.f (LK_STAT_PEER_LSYS m) = lsys ∧
      t.f (LK_STAT_DELAY_NS m) = d ∧ SameRegsBut [LK_STAT_A m] s t := by
  obtain ⟨h1, h2, h3, h4⟩ := s.peerShown_shows m pos ringN lsys d hpos hring hlsys hd
  exact ⟨(State.linkAt_apart _ _ _ _ (LK_STAT_PEER_POS m) rfl).trans h1, (State.linkAt_apart _ _ _ _ (LK_STAT_PEER_RING_N m) rfl).trans h2,
    (State.linkAt_apart _ _ _ _ (LK_STAT_PEER_LSYS m) rfl).trans h3, (State.linkAt_apart _ _ _ _ (LK_STAT_DELAY_NS m) rfl).trans h4,
    (s.peerShown_frame m pos ringN lsys d).trans (State.linkAt_frame _ _ _ _)⟩

/-- A trained link takes only its register and its record, beside what it raises. -/
theorem linkTrained_outside {m pos ringN lsys d : Nat} {s : State} (htr : s.f (LK_STAT_STATE m) = 1 ∨ s.f (LK_STAT_STATE m) = 3) :
    (linkTrained m pos ringN lsys d s).pending = s.pending ∧ (linkTrained m pos ringN lsys d s).part = s.part ∧
      (linkTrained m pos ringN lsys d s).powered = s.powered := by
  by_cases h : pos = s.neighbour m ∧ ringN = s.ringN
  · rw [linkTrained_expected htr h]
    simp [State.linkAt, State.peerShown]
  · rw [linkTrained_other htr h]
    split <;> simp [State.linkAt, State.peerShown]

theorem State.linkAt_quiet (s : State) (m c pos ringN lsys d : Nat) (v : LinkSt) : let t := (s.peerShown m pos ringN lsys d).linkAt m c v
    t.flt = s.flt ∧ t.freeSeq = s.freeSeq ∧ t.tb = s.tb := by
  simp [State.linkAt, State.peerShown]

/-! ### A link that goes down (R291) -/

/-- A link that trains again, with the fall counted. -/
def State.fallen (s : State) (m : Nat) : State := (((s.set (LK_STAT_STATE m) 1).setLink m {}).inc (LK_CNT_DOWNS m)).raiseU (0x310 + 2 * m)

theorem linkDown_up {m : Nat} {s : State} (h : s.linkUp m = true) : linkDown m s = peerReset (6 + m) (s.fallen m) := if_pos h

@[simp] theorem State.hwSet_pending (s : State) (a : Nat) (w : Word) : (s.hwSet a w).pending = s.pending := (rfl)
@[simp] theorem State.hwSet_part (s : State) (a : Nat) (w : Word) : (s.hwSet a w).part = s.part := (rfl)
@[simp] theorem State.hwSet_powered (s : State) (a : Nat) (w : Word) : (s.hwSet a w).powered = s.powered := (rfl)

theorem peerReset_outside (i : Nat) (s : State) :
    (peerReset i s).pending = s.pending ∧ (peerReset i s).part = s.part ∧ (peerReset i s).powered = s.powered := by
  simp [peerReset, State.inc_eq, flushX]

theorem State.fallen_outside (s : State) (m : Nat) :
    (s.fallen m).pending = s.pending ∧ (s.fallen m).part = s.part ∧ (s.fallen m).powered = s.powered := by
  simp [State.fallen, State.inc_eq]

/-- Neither the queue nor part and supply are touched. -/
theorem linkDown_outside (m : Nat) (s : State) :
    (linkDown m s).pending = s.pending ∧ (linkDown m s).part = s.part ∧ (linkDown m s).powered = s.powered := by
  cases h : s.linkUp m with
  | true =>
    rw [linkDown_up h]
    obtain ⟨h1, h2, h3⟩ := peerReset_outside (6 + m) (s.fallen m)
    obtain ⟨k1, k2, k3⟩ := s.fallen_outside m
    exact ⟨h1.trans k1, h2.trans k2, h3.trans k3⟩
  | false =>
    rw [linkDown, if_neg (by simp [h])]
    exact ⟨rfl, rfl, rfl⟩

theorem linkRegs_ne (m i : Nat) (hm : m < 4) : LK_STAT_A m ≠ LK_CNT_A m ∧ LK_STAT_A m ∉ peerRegs i ∧ LK_CNT_A m ∉ peerRegs i ∨ 18 ≤ i := by
  by_cases hi : i < 18
  · refine .inl ⟨?_, ?_, ?_⟩
    · unfold LK_STAT_A LK_CNT_A
      omega
    · simp only [peerRegs, CDC_XST_RESETS, LK_STAT_A, CDC_PEER_A, CDC_XST_A, List.mem_cons, List.not_mem_nil, or_false, not_or]
      omega
    · simp only [peerRegs, CDC_XST_RESETS, LK_CNT_A, CDC_PEER_A, CDC_XST_A, List.mem_cons, List.not_mem_nil, or_false, not_or]
      omega
  · exact .inr (by omega)

theorem State.fallen_f (s : State) {m : Nat} (hne : LK_STAT_A m ≠ LK_CNT_A m) : (s.fallen m).f (LK_STAT_STATE m) = 1 ∧
    (s.fallen m).f (LK_CNT_DOWNS m) = satU 8 (s.f (LK_CNT_DOWNS m) + 1) := by
  constructor
  · rw [State.fallen, State.raiseU_f, State.f_inc_ne _ (LK_CNT_DOWNS m) (LK_STAT_STATE m) hne, State.setLink_f,
      State.f_set_fits _ _ _ (Fld.fits rfl) (show 1 < 2 ^ 3 by decide)]
  · rw [State.fallen, State.raiseU_f, State.f_inc_same _ _ (Fld.fits rfl), State.setLink_f,
      State.f_set_ne _ (LK_STAT_STATE m) (LK_CNT_DOWNS m) _ hne.symm]
    rfl

theorem State.fallen_frame (s : State) (m : Nat) : SameRegsBut [LK_STAT_A m, LK_CNT_A m] s (s.fallen m) := by
  have hst : SameRegsBut [LK_STAT_A m, LK_CNT_A m] s ((s.set (LK_STAT_STATE m) 1).setLink m {}) :=
    SameRegsBut.of_regs ((SameRegsBut.refl _ s).set (LK_STAT_STATE m) 1 (by simp [LK_STAT_STATE])) rfl
  exact SameRegsBut.of_regs (hst.set (LK_CNT_DOWNS m) _ (by simp [LK_CNT_DOWNS])) rfl

/-- What training shows of the peer, and where the link waits to go UP. -/
theorem linkTrained_shows {m : Nat} {pos : BitVec 4} {ringN : BitVec 5} {lsys : BitVec 3} {d : BitVec 16} {s t : State}
    (htr : s.f (LK_STAT_STATE m) = 1 ∨ s.f (LK_STAT_STATE m) = 3)
    (ht : linkTrained m pos.toNat ringN.toNat lsys.toNat d.toNat s = t) :
    t.f (LK_STAT_PEER_POS m) = pos.toNat ∧ t.f (LK_STAT_PEER_RING_N m) = ringN.toNat ∧ t.f (LK_STAT_PEER_LSYS m) = lsys.toNat ∧
      t.f (LK_STAT_DELAY_NS m) = d.toNat ∧ SameRegsBut [LK_STAT_A m] s t ∧
      (pos.toNat = s.neighbour m ∧ ringN.toNat = s.ringN → t.f (LK_STAT_STATE m) = 1 ∧ (t.link m).pendUp = true ∧ t.flt = s.flt) ∧
      (¬ (pos.toNat = s.neighbour m ∧ ringN.toNat = s.ringN) →
        t.f (LK_STAT_STATE m) = 3 ∧ (t.link m).pendUp = false ∧
          t.flt = (if (s.link m).wiringEp then s.flt else (s.raiseU 0x301).flt)) := by
  by_cases hexp : pos.toNat = s.neighbour m ∧ ringN.toNat = s.ringN
  · rw [linkTrained_expected htr hexp] at ht
    obtain ⟨h1, h2, h3, h4, hframe⟩ := s.linkAt_peer m 1 _ _ _ _ { pendUp := true } pos.isLt ringN.isLt lsys.isLt d.isLt
    obtain ⟨hflt, _, _⟩ := s.linkAt_quiet m 1 pos.toNat ringN.toNat lsys.toNat d.toNat { pendUp := true }
    have hstate := State.linkAt_state (s.peerShown m pos.toNat ringN.toNat lsys.toNat d.toNat) m (c := 1) { pendUp := true } (by decide)
    have hlink := State.linkAt_link (s.peerShown m pos.toNat ringN.toNat lsys.toNat d.toNat) m 1 { pendUp := true }
    simp only [ht] at *
    exact ⟨h1, h2, h3, h4, hframe, fun _ => ⟨hstate, congrArg LinkSt.pendUp hlink, hflt⟩, fun hn => absurd hexp hn⟩
  · have hother := linkTrained_other (lsys := lsys.toNat) (d := d.toNat) htr hexp
    obtain ⟨hflt, hseq, htb⟩ := s.linkAt_quiet m 3 pos.toNat ringN.toNat lsys.toNat d.toNat { wiringEp := true }
    obtain ⟨h1, h2, h3, h4, hframe⟩ := s.linkAt_peer m 3 _ _ _ _ { wiringEp := true } pos.isLt ringN.isLt lsys.isLt d.isLt
    have hstate := State.linkAt_state (s.peerShown m pos.toNat ringN.toNat lsys.toNat d.toNat) m (c := 3) { wiringEp := true } (by decide)
    have hlink := State.linkAt_link (s.peerShown m pos.toNat ringN.toNat lsys.toNat d.toNat) m 3 { wiringEp := true }
    generalize (s.peerShown m pos.toNat ringN.toNat lsys.toNat d.toNat).linkAt m 3 { wiringEp := true } = r at *
    rw [ht] at hother
    cases hep : (s.link m).wiringEp with
    | true =>
      rw [hother, if_pos hep, if_pos rfl]
      exact ⟨h1, h2, h3, h4, hframe, fun hy => absurd hy hexp, fun _ => ⟨hstate, congrArg LinkSt.pendUp hlink, hflt⟩⟩
    | false =>
      rw [hother, if_neg (by simp [hep]), if_neg Bool.false_ne_true]
      simp only [State.raiseU_f, State.raiseU_link]
      exact ⟨h1, h2, h3, h4, hframe.of_regs (r.raiseU_regs _), fun hy => absurd hy hexp,
        fun _ => ⟨hstate, congrArg LinkSt.pendUp hlink, State.raiseU_flt_congr _ hflt hseq htb⟩⟩

/-- What the fall of an UP link shows. -/
theorem linkDown_shows {m : Nat} {s : State} (hm : m < 4) (hup : s.linkUp m = true) :
    (linkDown m s).f (LK_STAT_STATE m) = 1 ∧ (linkDown m s).f (LK_CNT_DOWNS m) = satU 8 (s.f (LK_CNT_DOWNS m) + 1) ∧
      (linkDown m s).fbit CDC_PEER_PEER_RESET (6 + m) = true ∧
      SameRegsBut [LK_STAT_A m, LK_CNT_A m, CDC_PEER_PEER_RESET.addr, (CDC_XST_RESETS (6 + m)).addr] s (linkDown m s) := by
  obtain ⟨hne, hstat, hcnt⟩ := (linkRegs_ne m (6 + m) hm).resolve_right (by omega)
  obtain ⟨hst, hdowns⟩ := s.fallen_f hne
  have hpeer := (peerReset_keepsBut (6 + m) (s.fallen m)).regs
  rw [linkDown_up hup]
  refine ⟨(hpeer.f (LK_STAT_STATE m) hstat).trans hst, (hpeer.f (LK_CNT_DOWNS m) hcnt).trans hdowns, peerReset_shows (by omega) _, ?_⟩
  exact ((s.fallen_frame m).mono (by simp)).trans (hpeer.mono (by simp [peerRegs, CDC_PEER_PEER_RESET]))

theorem exec_spanBreakCleared (east : Bool) (s : State) (hd : s.dom 4 = true) : exec (.spanBreakCleared east) s =
    .next (if s.f (spanF east) = 1 ∧ 20000 ≤ (if east then s.mm.eastTicks else s.mm.westTicks) then s.set (spanF east) 2 else s) := by
  by_cases h : s.f (spanF east) = 1 ∧ 20000 ≤ (if east then s.mm.eastTicks else s.mm.westTicks)
  · rw [if_pos h]
    exact State.runIn_to hd (if_pos h) rfl rfl rfl
  · rw [if_neg h]
    exact State.runIn_to hd (if_neg h) rfl rfl rfl

/-- Settles O28: training by what its words name, a fall by the counters and the crossing of the link, a span by its time. -/
theorem linksTrainAndSpansHeal : Obligations.LinksTrainAndSpansHeal := by
  refine ⟨fun m pos ringN lsys d s hd htr => ?trained, fun m pos ringN lsys d s hd h => State.runIn_to hd (if_pos (by omega)) rfl rfl rfl,
    fun m s hd hup => ?down, fun m s hd hdown => State.runIn_to hd (if_neg (by simp [hdown])) rfl rfl rfl, exec_spanBreakCleared⟩
  case trained =>
    obtain ⟨hp, hpart, hpw⟩ := linkTrained_outside (pos := pos.toNat) (ringN := ringN.toNat) (lsys := lsys.toNat) (d := d.toNat) htr
    exact ⟨_, State.runIn_to (f := linkTrained m pos.toNat ringN.toNat lsys.toNat d.toNat) hd rfl hp hpart hpw, linkTrained_shows htr rfl⟩
  case down =>
    obtain ⟨hp, hpart, hpw⟩ := linkDown_outside m s
    exact ⟨_, State.runIn_to (f := linkDown m) hd rfl hp hpart hpw, linkDown_shows m.isLt hup⟩

end Sys2Proof.Machine
end

section
/-!
PROOFS. Exchange records and the take-back of a lane (R281, R293, R299, R301).
-/
namespace Sys2Proof.Machine

/-! ### What frames on the links leave -/

/-- Frames on links change the pages of the links and of the crossings, and the links' records; not the lane nor what the window notes. -/
structure LinksOnly (s t : State) : Prop where
  ln : t.ln = s.ln
  fwd : t.mm.fwd = s.mm.fwd
  dupNow : t.mm.dupNow = s.mm.dupNow
  f : ∀ x : Fld, x.addr / 0x400 = 0x050 ∨ x.addr / 0x400 = 0x004 → t.f x = s.f x

section LinksOnly
variable {s t : State}

theorem LinksOnly.refl (s : State) : LinksOnly s s := ⟨rfl, rfl, rfl, fun _ _ => rfl⟩

theorem LinksOnly.trans {r : State} (h : LinksOnly s t) (k : LinksOnly t r) : LinksOnly s r :=
  ⟨k.ln.trans h.ln, k.fwd.trans h.fwd, k.dupNow.trans h.dupNow, fun x hx => (k.f x hx).trans (h.f x hx)⟩

theorem LinksOnly.of_ite {c : Prop} [Decidable c] {r : State} (h : LinksOnly s t) (k : LinksOnly s r) :
    LinksOnly s (if c then t else r) := by
  split
  · exact h
  · exact k

/-- A register of a page above that of the cascade, or of the crossings, may change. -/
theorem LinksOnly.set (h : LinksOnly s t) (y : Fld) (v : Nat) (hy : 0x051 ≤ y.addr / 0x400 ∨ y.addr / 0x400 = 0x007) :
    LinksOnly s (t.set y v) := by
  refine ⟨(t.set_ln y v).trans h.ln, by rw [State.set_mm, h.fwd], by rw [State.set_mm, h.dupNow], fun x hx => ?_⟩
  refine (t.f_set_ne y x v fun e => ?_).trans (h.f x hx)
  rw [e] at hx
  omega

theorem LinksOnly.setLink (h : LinksOnly s t) (m : Nat) (v : LinkSt) : LinksOnly s (t.setLink m v) :=
  ⟨h.ln, h.fwd, h.dupNow, fun x hx => (t.setLink_f m v x).trans (h.f x hx)⟩

theorem LinksOnly.raiseU (h : LinksOnly s t) (i : Nat) : LinksOnly s (t.raiseU i) :=
  ⟨h.ln, h.fwd, h.dupNow, fun x hx => (t.raiseU_f i x).trans (h.f x hx)⟩

theorem LinksOnly.peerReset (h : LinksOnly s t) {i : Nat} (hi : i < 18) : LinksOnly s (peerReset i t) := by
  have hreg : ∀ x : Fld, x.addr / 0x400 = 0x050 ∨ x.addr / 0x400 = 0x004 → (Machine.peerReset i t).f x = t.f x := fun x hx => by
    refine (peerReset_keepsBut i t).regs.f x ?_
    simp only [peerRegs, CDC_XST_RESETS, CDC_PEER_A, CDC_XST_A, List.mem_cons, List.not_mem_nil, or_false, not_or]
    omega
  refine ⟨Eq.trans ?_ h.ln, Eq.trans ?_ h.fwd, Eq.trans ?_ h.dupNow, fun x hx => (hreg x hx).trans (h.f x hx)⟩ <;>
    simp [Machine.peerReset, State.inc_eq, flushX, State.hwSet]

theorem linkPage (m : Nat) : 0x051 ≤ LK_STAT_A m / 0x400 ∧ 0x051 ≤ LK_CNT_A m / 0x400 ∧ 0x051 ≤ LK_ERR_A m / 0x400 := by
  unfold LK_STAT_A LK_CNT_A LK_ERR_A
  omega

theorem linkDown_linksOnly {m : Nat} (hm : m < 4) (s : State) : LinksOnly s (linkDown m s) := by
  obtain ⟨hstat, hcnt, _⟩ := linkPage m
  refine LinksOnly.of_ite (LinksOnly.peerReset (LinksOnly.raiseU (LinksOnly.set (LinksOnly.setLink ?_ m {}) (LK_CNT_DOWNS m) _ (.inl hcnt)) _)
    (by omega)) (LinksOnly.refl s)
  exact (LinksOnly.refl s).set (LK_STAT_STATE m) 1 (.inl hstat)

theorem frameOn_linksOnly {m : Nat} (hm : m < 4) (c : XCopy) (used : Bool) (s : State) : LinksOnly s (frameOn m c used s) := by
  obtain ⟨_, hcnt, herr⟩ := linkPage m
  have hcode : LinksOnly s (s.addSat (LK_ERR_CODE m) c.code) := (LinksOnly.refl s).set (LK_ERR_CODE m) _ (.inl herr)
  unfold frameOn State.when
  split
  · exact LinksOnly.refl s
  · split
    · exact LinksOnly.of_ite ((hcode.setLink m _).set (LK_CNT_FRAMES m) _ (.inl hcnt)) (hcode.setLink m _)
    · have hbad := ((hcode.set (LK_ERR_CRC m) (satU 16 ((s.addSat (LK_ERR_CODE m) c.code).f (LK_ERR_CRC m) + 1)) (.inl herr)).raiseU
        (0x311 + 2 * m)).setLink m { s.link m with
          crcAt := (s.link m).crcAt.filter (fun x => decide (s.tickNo < x + 16)) ++ [s.tickNo] }
      exact LinksOnly.of_ite (hbad.trans (linkDown_linksOnly hm _)) hbad

theorem LinksOnly.tNs (h : LinksOnly s t) : t.tNs = s.tNs := congrArg lenNs (h.f TICK_STAT_LEN_ACT (.inr rfl))
theorem LinksOnly.pos (h : LinksOnly s t) : t.pos = s.pos := h.f MM_STAT_POS (.inl rfl)

end LinksOnly

/-! ### A record with a correct copy (R299, R301) -/

/-- The frames of both links of a span counted. -/
def State.framesOn (s : State) (east : Bool) (a b : XCopy) (idle : Bool) : State :=
  let m0 := (spanLinks east).getD 0 0
  let m1 := (spanLinks east).getD 1 0
  let takeB := (s.linkHears m1 && b.ok) && (!(s.linkHears m0 && a.ok) || (a.second && !b.second))
  frameOn m1 b (idle || takeB) (frameOn m0 a (idle || !takeB) s)

theorem State.framesOn_linksOnly (s : State) (east : Bool) (a b : XCopy) (i : Bool) : LinksOnly s (s.framesOn east a b i) := by
  cases east
  · exact (frameOn_linksOnly (by decide) _ _ _).trans (frameOn_linksOnly (by decide) _ _ _)
  · exact (frameOn_linksOnly (by decide) _ _ _).trans (frameOn_linksOnly (by decide) _ _ _)

/-- What is noted of a record that was received correctly: that it is forwarded, and the lane system of its position. -/
def State.hearing (s : State) (east : Bool) (r : XRec) : State :=
  let t := if s.forwards (!east) r && !s.xStopped 10 then { s with mm := { s.mm with fwd := s.mm.fwd ++ [(!east, r.pos)] } } else s
  { t with mm := { t.mm with lsysAt := smPut (fun _ => 8) t.mm.lsysAt r.pos r.lsys } }

theorem State.hearing_keeps (s : State) (east : Bool) (r : XRec) :
    (s.hearing east r).ln = s.ln ∧ (s.hearing east r).regs = s.regs := by
  unfold State.hearing
  split <;> exact ⟨rfl, rfl⟩

/-- The own position: a duplicate. -/
def State.duplicate (s : State) : State :=
  let t := { s with mm := { s.mm with dupNow := true, posDup := true } }
  if s.mm.posDup then t else t.raiseU 0x302

/-- The time of arrival of a record that came in time. -/
def State.timed (s : State) (atNs : Nat) : State :=
  let t := s.set MM_TIMING_LAST_NS (max (s.f MM_TIMING_LAST_NS) (satU 16 atNs))
  t.set MM_TIMING_MAX_NS (max (t.f MM_TIMING_MAX_NS) (satU 16 atNs))

/-- The record kept as that of its position. -/
def State.keepRec (s : State) (r : XRec) : State :=
  { s with ln := { s.ln with recs := smPut (fun _ => none) s.ln.recs r.pos (some r) } }

theorem State.keepRec_recAtPos (s : State) (r : XRec) (p : Nat) : (s.keepRec r).recAtPos p = if p = r.pos then some r else s.recAtPos p := by
  have hrecs : (s.keepRec r).ln.recs = smPut (fun _ => none) s.ln.recs r.pos (some r) := rfl
  rw [State.recAtPos, hrecs]
  split
  · next h => rw [h, smGet_smPut_same]
  · next h =>
    rw [smGet_smPut_ne _ _ _ _ _ h]
    rfl

/-- A correct record is judged: a duplicate of the own position, late, or the record of its position. -/
def takeRecord (r : XRec) (atNs : Nat) (s : State) : State :=
  if r.pos = s.pos then s.duplicate
  else if s.tNs * 6 / 100 < atNs then (s.inc MM_CNT_LATE).raise 0x304 r.pos
  else if ((s.timed atNs).recAtPos r.pos).isSome then s.timed atNs
  else (s.timed atNs).keepRec r

/-- One of the copies was heard and is correct. -/
def State.heardGood (s : State) (east : Bool) (a b : XCopy) : Bool :=
  (s.linkHears ((spanLinks east).getD 0 0) && a.ok) || (s.linkHears ((spanLinks east).getD 1 0) && b.ok)

theorem exchangeRecord_eq (east : Bool) (a b : XCopy) (r : XRec) (atNs : Nat) (s : State) : exchangeRecord east a b r atNs s =
    if !s.heardGood east a b || r.kind == .idle then s.framesOn east a b (r.kind == .idle)
    else takeRecord r atNs ((s.framesOn east a b (r.kind == .idle)).hearing east r) := rfl

section TakeRecord
variable {r : XRec} {atNs : Nat} {s : State}

theorem takeRecord_own (h : r.pos = s.pos) : (takeRecord r atNs s).ln = s.ln ∧ (takeRecord r atNs s).mm.dupNow = true := by
  rw [takeRecord, if_pos h, State.duplicate]
  dsimp only
  split <;> simp

theorem takeRecord_late (h : r.pos ≠ s.pos) (hlate : s.tNs * 6 / 100 < atNs) :
    (takeRecord r atNs s).ln = s.ln ∧ (takeRecord r atNs s).f MM_CNT_LATE = satU 8 (s.f MM_CNT_LATE + 1) := by
  rw [takeRecord, if_neg h, if_pos hlate]
  refine ⟨by simp [State.inc_eq], ?_⟩
  rw [State.raise_f, State.f_inc_same _ _ (by decide)]
  rfl

theorem State.timed_ln (s : State) (atNs : Nat) : (s.timed atNs).ln = s.ln := by simp [State.timed]

/-- In time, a position keeps the record that it has, or takes this one. -/
theorem takeRecord_recs (h : r.pos ≠ s.pos) (hin : atNs ≤ s.tNs * 6 / 100) : (takeRecord r atNs s).recAtPos r.pos = some ((s.recAtPos r.pos).getD r) ∧
    ∀ p, p ≠ r.pos → (takeRecord r atNs s).recAtPos p = s.recAtPos p := by
  have hrec : ∀ p, (s.timed atNs).recAtPos p = s.recAtPos p := fun p => by rw [State.recAtPos, State.timed_ln, State.recAtPos]
  rw [takeRecord, if_neg h, if_neg (by omega)]
  split
  · next hs =>
    rw [hrec] at hs
    refine ⟨?_, fun p _ => hrec p⟩
    rw [hrec]
    obtain ⟨x, hx⟩ := Option.isSome_iff_exists.mp hs
    rw [hx, Option.getD_some]
  · next hs =>
    rw [hrec, Option.not_isSome_iff_eq_none] at hs
    refine ⟨?_, fun p hp => ?_⟩
    · rw [hs, Option.getD_none, State.keepRec_recAtPos, if_pos rfl]
    · rw [State.keepRec_recAtPos, if_neg hp, hrec]

end TakeRecord

/-- What an exchange record does, by whether a copy was correct, by its position and its time. -/
theorem exchangeRecord_cases (east : Bool) (a b : XCopy) {r : XRec} (atNs : Nat) (s : State) (hk : r.kind ≠ .idle) :
    let t := exchangeRecord east a b r atNs s
    (s.heardGood east a b = false → t.ln = s.ln ∧ t.mm.fwd = s.mm.fwd ∧ t.mm.dupNow = s.mm.dupNow) ∧
      (s.heardGood east a b = true → r.pos = s.pos → t.ln = s.ln ∧ t.mm.dupNow = true) ∧
      (s.heardGood east a b = true → r.pos ≠ s.pos → s.tNs * 6 / 100 < atNs → t.ln = s.ln ∧ t.f MM_CNT_LATE = satU 8 (s.f MM_CNT_LATE + 1)) ∧
      (s.heardGood east a b = true → r.pos ≠ s.pos → atNs ≤ s.tNs * 6 / 100 →
        t.recAtPos r.pos = some ((s.recAtPos r.pos).getD r) ∧ ∀ p, p ≠ r.pos → t.recAtPos p = s.recAtPos p) := by
  have hidle : (r.kind == .idle) = false := beq_eq_false_iff_ne.mpr hk
  have hlinks := s.framesOn_linksOnly east a b false
  intro t
  have ht : t = if !s.heardGood east a b || r.kind == .idle then s.framesOn east a b (r.kind == .idle)
    else takeRecord r atNs ((s.framesOn east a b (r.kind == .idle)).hearing east r) := exchangeRecord_eq east a b r atNs s
  rw [hidle, Bool.or_false] at ht
  clear_value t
  generalize s.framesOn east a b false = u at *
  obtain ⟨hln, hregs⟩ := u.hearing_keeps east r
  generalize u.hearing east r = v at *
  have hf : ∀ x : Fld, x.addr / 0x400 = 0x050 ∨ x.addr / 0x400 = 0x004 → v.f x = s.f x := fun x hx => (State.f_congr hregs x).trans (hlinks.f x hx)
  have hpos : v.pos = s.pos := hf MM_STAT_POS (.inl rfl)
  have htNs : v.tNs = s.tNs := congrArg lenNs (hf TICK_STAT_LEN_ACT (.inr rfl))
  have hvln : v.ln = s.ln := hln.trans hlinks.ln
  have hrecs : ∀ p, v.recAtPos p = s.recAtPos p := fun p => by rw [State.recAtPos, hvln, State.recAtPos]
  cases hg : s.heardGood east a b with
  | false =>
    rw [hg] at ht
    subst ht
    exact ⟨fun _ => ⟨hlinks.ln, hlinks.fwd, hlinks.dupNow⟩, fun h => absurd h (by decide), fun h => absurd h (by decide),
      fun h => absurd h (by decide)⟩
  | true =>
    rw [hg] at ht
    replace ht : t = takeRecord r atNs v := ht
    subst ht
    refine ⟨fun h => absurd h (by decide), fun _ hp => ?_, fun _ hp hl => ?_, fun _ hp hl => ?_⟩
    · obtain ⟨h1, h2⟩ := takeRecord_own (atNs := atNs) (hp.trans hpos.symm)
      exact ⟨h1.trans hvln, h2⟩
    · obtain ⟨h1, h2⟩ := takeRecord_late (s := v) (hpos ▸ hp) (htNs ▸ hl)
      rw [hf MM_CNT_LATE (.inl rfl)] at h2
      exact ⟨h1.trans hvln, h2⟩
    · obtain ⟨h1, h2⟩ := takeRecord_recs (s := v) (hpos ▸ hp) (htNs ▸ hl)
      rw [hrecs] at h1
      exact ⟨h1, fun p hne => (h2 p hne).trans (hrecs p)⟩

/-! ### Take-back (R281) -/

/-- The marks of a lane that takes itself back. -/
def State.takenBack (s : State) : State := ((s.set LN_TB_LANE_RET (satU 2 (s.f LN_TB_LANE_RET + 1))).inc LN_CNT_TAKEBACK).raiseU 0x38A

theorem State.takenBack_f (s : State) : s.takenBack.f LN_CNT_TAKEBACK = satU 8 (s.f LN_CNT_TAKEBACK + 1) ∧
    s.takenBack.f LN_TB_LANE_RET = min 3 (s.f LN_TB_LANE_RET + 1) ∧ s.takenBack.f LN_STAT_STATE = s.f LN_STAT_STATE := by
  refine ⟨?_, ?_, ?_⟩
  · rw [State.takenBack, State.raiseU_f, State.f_inc_same _ _ (by decide), State.f_set_ne _ LN_TB_LANE_RET LN_CNT_TAKEBACK _ (by decide)]
    rfl
  · rw [State.takenBack, State.raiseU_f, State.f_inc_ne _ LN_CNT_TAKEBACK LN_TB_LANE_RET (by decide), satU_eq_min, Nat.min_comm,
      State.f_set_fits _ _ _ (by decide) (by
        show min 3 (s.f LN_TB_LANE_RET + 1) < 4
        omega)]
    rfl
  · simp (disch := decide) only [State.takenBack, State.raiseU_f, State.f_inc_ne, State.f_set_ne]

theorem takeBack_due {s : State} (hclean : 20000 ≤ s.f LN_TB_CLEAN) (hst : s.f LN_STAT_STATE = 2) (hen : s.on LN_CFG_TB_EN = true)
    (hnext : s.ln.next = none) (hgave : s.ln.gaveUp = 0) : takeBack s = { s.takenBack with ln := { s.takenBack.ln with next := some (1, 0) } } := by
  have hln : s.takenBack.ln = s.ln := by simp [State.takenBack, State.inc_eq]
  have hback : (s.f LN_STAT_STATE == 2 && s.on LN_CFG_TB_EN && s.ln.next.isNone) = true := by simp [hst, hen, hnext]
  unfold takeBack
  rw [if_neg (by omega)]
  simp only [hback, if_true]
  refine State.each_id fun r _ => if_neg ?_
  have hbit : bitOf 0 r = false := by rw [bitOf_testBit, Nat.zero_testBit]
  show ¬ ((bitOf s.takenBack.ln.gaveUp r && _) = true)
  rw [hln, hgave, hbit]
  exact Bool.false_ne_true

/-- Settles O29: an exchange record by its copies, position and time; the take-back by its marks, no role being given up. -/
theorem exchangeAndTakeBackKeepTheLane : Obligations.ExchangeAndTakeBackKeepTheLane := by
  refine ⟨fun east a b r atNs s hd hk => ?record, fun s hd hq hclean hst hen hnext hgave => ?back, fun s hd hclean => ?young⟩
  case record =>
    refine ⟨framed s (exchangeRecord east a b r atNs s), State.runIn_on s 4 _ hd, ?_⟩
    cases east
    · exact exchangeRecord_cases false a b atNs s hk
    · exact exchangeRecord_cases true a b atNs s hk
  case back =>
    refine ⟨framed s (takeBack s), State.runIf_on s 2 _ _ hd (by rw [hq]; rfl), ?_⟩
    obtain ⟨hcnt, hret, hstate⟩ := s.takenBack_f
    rw [takeBack_due hclean hst hen hnext hgave]
    have hflt : s.takenBack.flt = (s.raiseU 0x38A).flt := State.raiseU_flt_congr _ (by simp [State.inc_eq]) (by simp [State.inc_eq]) (by simp [State.inc_eq])
    exact ⟨rfl, hcnt, hret, hflt, hstate⟩
  case young =>
    cases hq : s.quiet with
    | true => exact State.runIf_idle 2 takeBack (by rw [hq]; rfl)
    | false => exact State.runIf_to (f := takeBack) hd (by rw [hq]; rfl) (if_pos hclean) rfl rfl rfl

end Sys2Proof.Machine
end

section
/-!
PROOFS. The lines SYNC_N and ALARM_N (R37, R38, R304-R307).
-/
namespace Sys2Proof.Machine

/-! ### An edge of SYNC_N (R37, R38, R304, R306) -/

theorem satSigned_bounds (wd : Nat) (x : Int) : -2 ^ (wd - 1) ≤ satSigned wd x ∧ satSigned wd x < 2 ^ (wd - 1) := by
  have hpos : (0 : Int) < 2 ^ (wd - 1) := by positivity
  unfold satSigned clampI
  split_ifs <;> omega

/-- The offset measured, and whether TICK is aligned by it. -/
def State.offsetShown (s : State) (o : Int) : State :=
  (s.setI TICK_ALIGN_OFFSET (satSigned 16 o)).setB TICK_STAT_ALIGNED (decide (o.natAbs ≤ 100))

/-- The phase that the guard corrects, where the ring master's tick is the reference. -/
def State.phaseTaken (s : State) (o : Int) : State :=
  if s.f TICK_STAT_SRC_ACT = 2 then { s with tk := { s.tk with phase := o } } else s

/-- An edge measured: offset, phase, and TICK_ALIGN once in the tick. -/
def State.measured (s : State) (o : Int) : State :=
  let t := (s.offsetShown o).phaseTaken o
  t.when (decide (100 < o.natAbs) && t.on SU_STAT_ADMITTED && !t.mm.alignSaid) alignRaise

/-- The ring master's tick shown present. -/
def State.syncPresent (s : State) : State :=
  { (s.setB MM_STAT_SYNC_OK true) with mm := { s.mm with syncEdge := true, syncMiss := 0, syncLossEp := false } }

/-- Without a conflict an edge is measured, and near the own TICK it shows the ring master's tick. -/
theorem syncEdge_eq {off : Int} {s : State} (h : -50 ≤ off) : syncEdge off s =
    if 2000 < off.natAbs then s.measured (-(off + (s.f MM_CFG_SYNC_DLY : Nat)))
    else (s.measured (-(off + (s.f MM_CFG_SYNC_DLY : Nat)))).syncPresent := by
  have hconf : ((s.on MM_STAT_SYNC_DRV || s.mm.conflictEp) && decide (off < -50)) = false := by
    rw [decide_eq_false (by omega), Bool.and_false]
  unfold syncEdge
  simp only [hconf, Bool.or_false, Bool.false_and, Bool.false_eq_true, if_false]
  rfl

section Measured
variable (s : State) (o : Int)

theorem State.offsetShown_fI : (s.offsetShown o).fI TICK_ALIGN_OFFSET = satSigned 16 o := by
  obtain ⟨hlo, hhi⟩ := satSigned_bounds 16 o
  refine Eq.trans (State.fI_of_f ?_) (s.fI_setI_same TICK_ALIGN_OFFSET _ (by decide) (by decide) hlo hhi)
  exact State.f_set_ne _ TICK_STAT_ALIGNED TICK_ALIGN_OFFSET _ (by decide)

theorem State.offsetShown_aligned : (s.offsetShown o).on TICK_STAT_ALIGNED = decide (o.natAbs ≤ 100) :=
  State.on_setB_same _ _ _ (by decide) rfl

theorem State.offsetShown_f (x : Fld) (h : x.addr ≠ TICK_ALIGN_A) (h' : TICK_STAT_ALIGNED.apart x = true) : (s.offsetShown o).f x = s.f x := by
  rw [State.offsetShown, State.setB_eq, State.f_set_disjoint _ TICK_STAT_ALIGNED x _ h', State.setI_eq, State.f_set_ne _ TICK_ALIGN_OFFSET x _ h]

theorem State.offsetShown_frame : SameRegsBut [TICK_ALIGN_A, TICK_STAT_A] s (s.offsetShown o) :=
  ((SameRegsBut.refl _ s).set TICK_ALIGN_OFFSET _ (by simp [TICK_ALIGN_OFFSET])).set TICK_STAT_ALIGNED _ (by simp [TICK_STAT_ALIGNED])

/-- Beside the registers of the offset, an edge changes the phase and the note that TICK_ALIGN was raised. -/
theorem State.measured_keeps : (s.measured o).regs = (s.offsetShown o).regs ∧
    (s.measured o).tk = (if s.f TICK_STAT_SRC_ACT = 2 then { s.tk with phase := o } else s.tk) ∧
    (s.measured o).mm.syncEdge = s.mm.syncEdge ∧ (s.measured o).mm.syncMiss = s.mm.syncMiss := by
  have hsrc := s.offsetShown_f o TICK_STAT_SRC_ACT (by decide) rfl
  have htk : (s.offsetShown o).tk = s.tk := rfl
  have hmm : (s.offsetShown o).mm = s.mm := rfl
  have halign : ∀ t : State, (alignRaise t).regs = t.regs ∧ (alignRaise t).tk = t.tk ∧ (alignRaise t).mm.syncEdge = t.mm.syncEdge ∧
      (alignRaise t).mm.syncMiss = t.mm.syncMiss := fun t => ⟨rfl, rfl, rfl, rfl⟩
  have hphase : ((s.offsetShown o).phaseTaken o).regs = (s.offsetShown o).regs ∧ ((s.offsetShown o).phaseTaken o).mm = s.mm ∧
      ((s.offsetShown o).phaseTaken o).tk = (if s.f TICK_STAT_SRC_ACT = 2 then { s.tk with phase := o } else s.tk) := by
    unfold State.phaseTaken
    rw [hsrc]
    split
    · exact ⟨rfl, hmm, by rw [← htk]⟩
    · exact ⟨rfl, hmm, htk⟩
  obtain ⟨hregs, hm, ht⟩ := hphase
  unfold State.measured State.when
  dsimp only
  generalize (s.offsetShown o).phaseTaken o = u at *
  split
  · obtain ⟨a1, a2, a3, a4⟩ := halign u
    rw [a1, a2, a3, a4, hregs, hm, ht]
    exact ⟨rfl, rfl, rfl, rfl⟩
  · rw [hregs, hm, ht]
    exact ⟨rfl, rfl, rfl, rfl⟩

theorem State.syncPresent_f (x : Fld) (h : MM_STAT_SYNC_OK.apart x = true) : s.syncPresent.f x = s.f x :=
  s.f_set_disjoint MM_STAT_SYNC_OK x _ h

theorem State.syncPresent_ok : s.syncPresent.on MM_STAT_SYNC_OK = true := State.on_setB_same _ _ _ (by decide) rfl

theorem State.syncPresent_frame : SameRegsBut [MM_STAT_A] s s.syncPresent :=
  SameRegsBut.of_regs (SameRegsBut.set_one s MM_STAT_SYNC_OK 1) rfl

end Measured

/-- What an edge without a conflict shows. -/
theorem syncEdge_shows {off : Int} {s t : State} (h : -50 ≤ off) (ht : syncEdge off s = t) : let o := -(off + (s.f MM_CFG_SYNC_DLY : Nat))
    t.fI TICK_ALIGN_OFFSET = satSigned 16 o ∧ t.on TICK_STAT_ALIGNED = decide (o.natAbs ≤ 100) ∧
      (off.natAbs ≤ 2000 → t.on MM_STAT_SYNC_OK = true ∧ t.mm.syncEdge = true ∧ t.mm.syncMiss = 0) ∧
      (2000 < off.natAbs → t.on MM_STAT_SYNC_OK = s.on MM_STAT_SYNC_OK ∧ t.mm.syncEdge = s.mm.syncEdge ∧ t.mm.syncMiss = s.mm.syncMiss) ∧
      (s.f TICK_STAT_SRC_ACT = 2 → t.tk.phase = o) ∧ (s.f TICK_STAT_SRC_ACT ≠ 2 → t.tk = s.tk) ∧
      SameRegsBut [MM_STAT_A, TICK_ALIGN_A, TICK_STAT_A] s t := by
  intro o
  obtain ⟨hregs, htk, hedge, hmiss⟩ := s.measured_keeps o
  have hoff : (s.measured o).fI TICK_ALIGN_OFFSET = satSigned 16 o := (State.fI_of_f (State.f_congr hregs _)).trans (s.offsetShown_fI o)
  have hal : (s.measured o).on TICK_STAT_ALIGNED = decide (o.natAbs ≤ 100) := (State.on_of_f (State.f_congr hregs _)).trans (s.offsetShown_aligned o)
  have hok : (s.measured o).on MM_STAT_SYNC_OK = s.on MM_STAT_SYNC_OK :=
    (State.on_of_f (State.f_congr hregs _)).trans (State.on_of_f (s.offsetShown_f o MM_STAT_SYNC_OK (by decide) (by decide)))
  have hframe : SameRegsBut [MM_STAT_A, TICK_ALIGN_A, TICK_STAT_A] s (s.measured o) :=
    SameRegsBut.of_regs ((s.offsetShown_frame o).mono (by simp)) hregs
  have hphase : s.f TICK_STAT_SRC_ACT = 2 → (s.measured o).tk.phase = o := fun h2 => by rw [htk, if_pos h2]
  have hkeep : s.f TICK_STAT_SRC_ACT ≠ 2 → (s.measured o).tk = s.tk := fun h2 => by rw [htk, if_neg h2]
  by_cases hfar : 2000 < off.natAbs
  · obtain rfl : s.measured o = t := by rw [← ht, syncEdge_eq h, if_pos hfar]
    exact ⟨hoff, hal, fun hn => absurd hn (by omega), fun _ => ⟨hok, hedge, hmiss⟩, hphase, hkeep, hframe⟩
  · obtain rfl : (s.measured o).syncPresent = t := by rw [← ht, syncEdge_eq h, if_neg hfar]
    refine ⟨(State.fI_of_f (State.syncPresent_f _ _ (by decide))).trans hoff, (State.on_of_f (State.syncPresent_f _ _ (by decide))).trans hal,
      fun _ => ⟨State.syncPresent_ok _, rfl, rfl⟩, fun hn => absurd hn hfar, hphase, hkeep, ?_⟩
    exact hframe.trans ((State.syncPresent_frame _).mono (by simp))

/-! ### Loss of SYNC_N, ALARM_N (R306, R307) -/

theorem syncLoss_first {s : State} (hmiss : 3 ≤ s.mm.syncMiss) (hep : s.mm.syncLossEp = false) : syncLoss s =
    ({ (s.setB MM_STAT_SYNC_OK false) with mm := { s.mm with syncLossEp := true } }).raiseU 0x305 := by
  unfold syncLoss
  rw [if_pos hmiss]
  simp only [hep, Bool.false_eq_true, if_false]
  rfl

/-- The pin of ALARM_N noted. -/
def State.alarmPin (s : State) (low : Bool) : State := { s with mm := { s.mm with alarmPin := low } }

theorem alarmSeen_low {s : State} (hout : s.on MM_STAT_ALARM_OUT = false) (hin : s.on MM_STAT_ALARM_IN = false) :
    alarmSeen (s.alarmPin true) = ((s.alarmPin true).setB MM_STAT_ALARM_IN true).raiseU 0x308 := by
  have hpin : ((s.alarmPin true).mm.alarmPin && !(s.alarmPin true).on MM_STAT_ALARM_OUT) = true := by
    rw [show (s.alarmPin true).on MM_STAT_ALARM_OUT = false from hout]
    rfl
  have hwas : (s.alarmPin true).on MM_STAT_ALARM_IN = false := hin
  unfold alarmSeen
  simp only [hpin, hwas]
  rfl

theorem alarmSeen_high (s : State) : alarmSeen (s.alarmPin false) = (s.alarmPin false).setB MM_STAT_ALARM_IN false := by
  have hpin : ((s.alarmPin false).mm.alarmPin && !(s.alarmPin false).on MM_STAT_ALARM_OUT) = false := rfl
  unfold alarmSeen
  simp only [hpin]
  rfl

/-- Settles O30: an edge by its distance from the own TICK; the lines by what they show and note. -/
theorem syncAndAlarmLinesAreFollowed : Obligations.SyncAndAlarmLinesAreFollowed := by
  refine ⟨fun off s hd h => ⟨framed s (syncEdge off s), State.runIn_on s 4 _ hd, ?edge⟩,
    fun s hd => State.runIn_to (f := fun s => { s with mm := { s.mm with pulse := false } }) hd rfl rfl rfl rfl,
    fun s hd hmiss hep => State.runIn_to hd (syncLoss_first hmiss hep) rfl rfl rfl,
    fun s hd hout hin => State.runIn_to (f := fun s => alarmSeen (s.alarmPin true)) hd (alarmSeen_low hout hin) rfl rfl rfl,
    fun s hd => State.runIn_to (f := fun s => alarmSeen (s.alarmPin false)) hd (alarmSeen_high s) rfl rfl rfl⟩
  case edge =>
    have hedge := syncEdge_shows (t := syncEdge off s) h rfl
    exact hedge

end Sys2Proof.Machine
end

section
/-!
PROOFS. Channels of the Sitil network (R327-R332, R357): what a step of network time and the channel states write, and the commands
that start and lose a channel.
-/
namespace Sys2Proof.Machine

/-! ### Registers outside a set of addresses -/

/-- Registers whose address is not in `Q` hold what they held. -/
def ChangesOnly (Q : Nat → Prop) (s t : State) : Prop := ∀ a, ¬ Q a → t.word a = s.word a

section ChangesOnly
variable {Q : Nat → Prop} {s t u : State}

theorem ChangesOnly.refl (Q : Nat → Prop) (s : State) : ChangesOnly Q s s := fun _ _ => rfl

theorem ChangesOnly.trans (h : ChangesOnly Q s t) (k : ChangesOnly Q t u) : ChangesOnly Q s u := fun a ha => (k a ha).trans (h a ha)

theorem ChangesOnly.mono {R : Nat → Prop} (h : ChangesOnly Q s t) (hQR : ∀ a, Q a → R a) : ChangesOnly R s t := fun a ha => h a fun hq => ha (hQR a hq)

theorem ChangesOnly.set (h : ChangesOnly Q s t) (x : Fld) (v : Nat) (hx : Q x.addr) : ChangesOnly Q s (t.set x v) := fun a ha =>
  (t.word_set_ne x v a fun e => ha (e ▸ hx)).trans (h a ha)

theorem ChangesOnly.setWord (h : ChangesOnly Q s t) (b : Nat) (w : Word) (hb : Q b) : ChangesOnly Q s (t.setWord b w) := fun a ha =>
  (t.word_setWord_ne b a w fun e => ha (e ▸ hb)).trans (h a ha)

theorem ChangesOnly.of_regs (h : ChangesOnly Q s t) (e : u.regs = t.regs) : ChangesOnly Q s u := fun a ha => (State.word_congr e a).trans (h a ha)

theorem ChangesOnly.of_ite {c : Prop} [Decidable c] (h : ChangesOnly Q s t) (k : ChangesOnly Q s u) : ChangesOnly Q s (if c then t else u) := by
  split
  · exact h
  · exact k

theorem ChangesOnly.f (h : ChangesOnly Q s t) (x : Fld) (hx : ¬ Q x.addr) : t.f x = s.f x := by rw [State.f, State.f, h _ hx]

theorem ChangesOnly.e (h : ChangesOnly Q s t) (x : Fld) (ho : t.engOld = s.engOld) (hx : ¬ Q x.addr) : t.e x = s.e x := State.e_congr x ho (h _ hx)

theorem SameRegsBut.changesOnly {l : List Nat} (h : SameRegsBut l s t) (hQ : ∀ a ∈ l, Q a) : ChangesOnly Q s t := fun a ha => h a fun hl => ha (hQ a hl)

end ChangesOnly

/-! ### Channels and ports -/

@[simp] theorem State.setChan_regs (s : State) (c : Nat) (v : ChanSt) : (s.setChan c v).regs = s.regs := (rfl)
@[simp] theorem State.setChan_f (s : State) (c : Nat) (v : ChanSt) (x : Fld) : (s.setChan c v).f x = s.f x := (rfl)
@[simp] theorem State.setChan_time (s : State) (c : Nat) (v : ChanSt) : (s.setChan c v).time = s.time := (rfl)
@[simp] theorem State.setChan_chan_same (s : State) (c : Nat) (v : ChanSt) : (s.setChan c v).chan c = v := smGet_smPut_same _ _ _ _
@[simp] theorem State.setTx_regs (s : State) (e : Nat) (v : TxSt) : (s.setTx e v).regs = s.regs := (rfl)
@[simp] theorem State.setTx_f (s : State) (e : Nat) (v : TxSt) (x : Fld) : (s.setTx e v).f x = s.f x := (rfl)
@[simp] theorem State.setTx_time (s : State) (e : Nat) (v : TxSt) : (s.setTx e v).time = s.time := (rfl)

theorem chStateF_place (c : Nat) : (chStateF c).addr = SIT_STAT_A ∧ (chStateF c).width = 3 ∧ (chStateF c).lo + (chStateF c).width ≤ 32 ∧
    SIT_STAT_BACKOFF.apart (chStateF c) = true ∧ SIT_STAT_CYCLE.apart (chStateF c) = true ∧ (chLostF c).apart (chStateF c) = true := by
  unfold chStateF chLostF
  split <;> decide

theorem State.set_chState (s : State) (c : Nat) {v : Nat} (hv : v < 8) : (s.set (chStateF c) v).f (chStateF c) = v := by
  obtain ⟨_, hw, hfit, _⟩ := chStateF_place c
  exact s.f_set_fits _ v hfit (by rw [hw]; exact hv)

theorem chStateF_other {c d : Nat} (hc : c < 2) (hd : d < 2) (h : d ≠ c) : (chStateF c).apart (chStateF d) = true := by
  obtain ⟨rfl, rfl⟩ | ⟨rfl, rfl⟩ : c = 0 ∧ d = 1 ∨ c = 1 ∧ d = 0 := by omega
  · rfl
  · rfl

@[simp] theorem freshChan_f (c : Nat) (s : State) (x : Fld) : (freshChan c s).f x = s.f x := s.setChan_f _ _ x
@[simp] theorem freshChan_regs (c : Nat) (s : State) : (freshChan c s).regs = s.regs := s.setChan_regs _ _
@[simp] theorem freshChan_time (c : Nat) (s : State) : (freshChan c s).time = s.time := s.setChan_time _ _

theorem showBackoff_f (s : State) (x : Fld) (h : SIT_STAT_BACKOFF.apart x = true) : (showBackoff s).f x = s.f x :=
  s.f_set_disjoint SIT_STAT_BACKOFF x _ h

/-! ### A step of network time (R357) -/

theorem restartConns_changes (s : State) : ChangesOnly (fun a => a / 0x400 = 0x047) s (restartConns s) := by
  refine ChangesOnly.of_regs (State.each_ind (ChangesOnly _ s) s (fun k hk t ht => ChangesOnly.of_ite ?_ ht) (ChangesOnly.refl _ s)) rfl
  have hk : k < 32 := List.mem_range.mp hk
  have hpage : SL_CST_A k / 0x400 = 0x047 := by
    unfold SL_CST_A
    omega
  exact ((ht.set (SL_CST_RUN k) _ hpage).set (SL_CST_SEQ k) _ hpage).set (SL_CST_AGE k) _ hpage

theorem restartConns_time (s : State) : (restartConns s).time = s.time := by
  refine State.each_ind (fun t => t.time = s.time) s (fun k _ t ht => ?_) rfl
  split
  · simpa [State.setB_eq] using ht
  · exact ht

theorem setNt_changes (st : Nat) (s : State) : ChangesOnly (· = NT_STAT_A) s (setNt st s) :=
  ((ChangesOnly.refl (· = NT_STAT_A) s).set NT_STAT_STATE st rfl).set NT_STAT_LOCKED _ rfl

theorem setNt_time (st : Nat) (s : State) : (setNt st s).time = s.time := by simp [setNt, State.setB_eq]

/-- The correction of network time held. -/
def State.ntHeld (s : State) : State := { s with nt := { s.nt with slew := 0, slewPer := 0, holdEp := true } }

theorem enterHoldover_eq (s : State) : enterHoldover s = if s.nt.holdEp then setNt 4 s.ntHeld else ((setNt 4 s.ntHeld).setWord NT_HOLD_A 0).raiseU 0x2E0 := rfl

theorem enterHoldover_changes (s : State) : ChangesOnly (fun a => a = NT_STAT_A ∨ a = NT_HOLD_A) s (enterHoldover s) := by
  have hst : ChangesOnly (fun a => a = NT_STAT_A ∨ a = NT_HOLD_A) s (setNt 4 s.ntHeld) := (setNt_changes 4 s.ntHeld).mono fun _ => .inl
  rw [enterHoldover_eq]
  exact ChangesOnly.of_ite hst ((hst.setWord NT_HOLD_A 0 (.inr rfl)).of_regs (State.raiseU_regs _ _))

theorem enterHoldover_time (s : State) : (enterHoldover s).time = s.time := by
  have hst : (setNt 4 s.ntHeld).time = s.time := setNt_time 4 s.ntHeld
  rw [enterHoldover_eq]
  split <;> simp [hst]

/-- A step of network time up to the channels: the new time with its tick, and the frames of the old grid forgotten. -/
def State.stepped (s : State) (new : Nat) (k : Nat × Int) : State :=
  let t := { s with tickNo := k.1, tk := { s.tk with phase := if s.f TICK_STAT_SRC_ACT = 0 then k.2 else s.tk.phase } }
  { t with
    time := new
    tk := { t.tk with at_ := ((new : Int) - ((s.time - s.tk.at_ : Nat) : Int)).toNat }
    nt := { t.nt with stepped := true }
    sit := { t.sit with tx := smMap (fun _ => {}) (fun _ x => { x with cycle := none }) t.sit.tx } }

theorem stepTime_eq (new : Nat) (s : State) : ∃ k, stepTime new s =
    restartConns (enterHoldover ((showCycle (showTick ((s.stepped new k).inc NT_CNT_STEPS))).raiseU 0x2E4)) := ⟨_, rfl⟩

theorem stepTime_time (new : Nat) (s : State) : (stepTime new s).time = new := by
  obtain ⟨k, e⟩ := stepTime_eq new s
  have hnew : (s.stepped new k).time = new := rfl
  rw [e, restartConns_time, enterHoldover_time]
  simp [showCycle, showTick, State.inc_eq, hnew]

/-- The states and the losses of the channels are as they were. -/
theorem stepTime_f (new : Nat) (s : State) (x : Fld) (ha : x.addr = SIT_STAT_A) (hc : SIT_STAT_CYCLE.apart x = true) :
    (stepTime new s).f x = s.f x := by
  obtain ⟨k, e⟩ := stepTime_eq new s
  have hregs : (s.stepped new k).f x = s.f x := rfl
  have hne : ∀ a, a ≠ SIT_STAT_A → x.addr ≠ a := fun a h h' => h (h'.symm.trans ha)
  rw [e, (restartConns_changes _).f x (by rw [ha]; decide), (enterHoldover_changes _).f x (by rw [ha]; decide), State.raiseU_f, showCycle, showTick,
    State.f_set_ne _ NT_CYC_HI_N_C x _ (hne _ (by decide)), State.f_set_ne _ NT_CYC_LO_N_C x _ (hne _ (by decide)),
    State.f_set_disjoint _ SIT_STAT_CYCLE x _ hc, State.f_set_ne _ TICK_POS_TICK_IN_CYCLE x _ (hne _ (by decide)),
    State.f_set_ne _ TICK_POS_CYCLE x _ (hne _ (by decide)), State.f_set_ne _ TICK_COUNT_N_LOW x _ (hne _ (by decide)),
    State.f_inc_ne _ NT_CNT_STEPS x (hne _ (by decide)), hregs]

/-! ### COLDSTART, BACKOFF, ACTIVE (R327, R329) -/

/-- The channel in COLDSTART, before network time is stepped. -/
def State.coldstart (s : State) (c : Nat) : State := showBackoff (freshChan c (s.set (chStateF c) 2))

theorem State.coldstart_state (s : State) (c : Nat) : (s.coldstart c).chState c = 2 := by
  obtain ⟨_, _, _, hb, _, _⟩ := chStateF_place c
  rw [State.chState, State.coldstart, showBackoff_f _ _ hb, freshChan_f, State.set_chState _ _ (by decide)]

theorem State.coldstart_other (s : State) {c d : Nat} (hc : c < 2) (hd : d < 2) (h : d ≠ c) : (s.coldstart c).chState d = s.chState d := by
  obtain ⟨_, _, _, hb, _, _⟩ := chStateF_place d
  rw [State.chState, State.coldstart, showBackoff_f _ _ hb, freshChan_f, State.f_set_disjoint _ (chStateF c) (chStateF d) _ (chStateF_other hc hd h)]
  rfl

theorem State.coldstart_phaseNs (s : State) (c : Nat) : (s.coldstart c).phaseNs = s.phaseNs := by
  have hreg : ChangesOnly (· = SIT_STAT_A) s (s.coldstart c) :=
    ChangesOnly.set (((ChangesOnly.refl _ s).set (chStateF c) 2 (chStateF_place c).1).of_regs (freshChan_regs c _)) SIT_STAT_BACKOFF _ rfl
  refine hreg.e TICK_PHASE_PHASE_NS ?_ (by decide)
  simp [State.coldstart, showBackoff, freshChan, State.setChan]

theorem State.coldstart_time (s : State) (c : Nat) : (s.coldstart c).time = s.time := by simp [State.coldstart, showBackoff]

/-- In COLDSTART only the other channel can be ACTIVE. -/
theorem State.coldstart_anyActive (s : State) {c : Nat} (hc : c < 2) : (s.coldstart c).anyActive = s.chActive (1 - c) := by
  have hown := s.coldstart_state c
  have hother := s.coldstart_other hc (d := 1 - c) (by omega) (by omega)
  unfold State.anyActive State.chActive
  obtain rfl | rfl : c = 0 ∨ c = 1 := by omega
  · rw [hown, hother]
    rfl
  · rw [hown, hother]
    simp

theorem toColdstart_eq (c : Nat) (s : State) : toColdstart c s =
    if (s.coldstart c).anyActive then s.coldstart c else stepTime ((s.coldstart c).phaseNs * 2 ^ 32) (s.coldstart c) := rfl

theorem toColdstart_shows {c : Nat} (hc : c < 2) (s : State) : (toColdstart c s).chState c = 2 ∧
    (s.chActive (1 - c) = false → (toColdstart c s).time = s.phaseNs * 2 ^ 32) ∧ (s.chActive (1 - c) = true → (toColdstart c s).time = s.time) := by
  obtain ⟨ha, _, _, _, hcyc, _⟩ := chStateF_place c
  rw [toColdstart_eq, s.coldstart_anyActive hc]
  split
  · next hact => exact ⟨s.coldstart_state c, fun h => absurd (h.symm.trans hact) (by decide), fun _ => s.coldstart_time c⟩
  · next hact =>
    refine ⟨(stepTime_f _ _ _ ha hcyc).trans (s.coldstart_state c), fun _ => ?_, fun h => absurd h hact⟩
    rw [stepTime_time, s.coldstart_phaseNs]

theorem chanActive_shows (c : Nat) (s : State) : (chanActive c s).chState c = 4 ∧ (chanActive c s).time = s.time := by
  refine State.each_ind (fun t => t.chState c = 4 ∧ t.time = s.time) _ (fun e _ t ht => ht) ⟨?_, ?_⟩
  · rw [State.chState, State.setChan_f, State.set_chState _ _ (by decide)]
  · rw [State.setChan_time, State.set_time]

theorem toBackoff_shows (c : Nat) (s : State) : (toBackoff c s).chState c = 5 ∧ ((toBackoff c s).chan c).back = 1 + s.csRank.getD 0 ∧
    (toBackoff c s).time = s.time := by
  obtain ⟨ha, _, _, hb, _, _⟩ := chStateF_place c
  have hreg : ChangesOnly (· = SIT_STAT_A) s (freshChan c (s.set (chStateF c) 5)) :=
    ((ChangesOnly.refl _ s).set (chStateF c) 5 ha).of_regs (freshChan_regs c _)
  have hrank : (freshChan c (s.set (chStateF c) 5)).csRank = s.csRank := by
    have hvalid := hreg.f SIT_CFG2_CS_VALID (by decide)
    have h01 := hreg.f SIT_CS_01_CS_0 (by decide)
    have h11 := hreg.f SIT_CS_01_CS_1 (by decide)
    have h23 := hreg.f SIT_CS_23_CS_2 (by decide)
    have h33 := hreg.f SIT_CS_23_CS_3 (by decide)
    have hid : (freshChan c (s.set (chStateF c) 5)).nodeId = s.nodeId := hreg.f SIT_ID_NODE_ID (by decide)
    unfold State.csRank State.fbit
    rw [hvalid, h01, h11, h23, h33, hid]
  have hback : ((toBackoff c s).chan c).back = 1 + (freshChan c (s.set (chStateF c) 5)).csRank.getD 0 :=
    congrArg ChanSt.back (State.setChan_chan_same _ c _)
  refine ⟨?_, hback.trans (by rw [hrank]), ?_⟩
  · rw [State.chState, toBackoff, showBackoff_f _ _ hb, State.setChan_f, freshChan_f, State.set_chState _ _ (by decide)]
  · simp [toBackoff, showBackoff]

/-- Settles O33: each timeout by its condition, and by the state that the channel enters. -/
theorem channelsStartAndAreLost : Obligations.ChannelsStartAndAreLost := by
  refine ⟨fun c s hd hst hrank hsil => ?listen, fun c s hd hst hsent hnext hlone => ?lone, fun c s hd hst hsent hnext hlone => ?back,
    fun c s hd hst hback => ?again, fun c s hd hrun hlost hpart => ?lost, fun c s hd hrun => State.runIn_to hd (if_pos (.inl hrun)) rfl rfl rfl⟩
  case listen =>
    refine ⟨framed s (listenTimeout c s), State.runIn_on s 3 _ hd, ?_⟩
    rw [listenTimeout, if_pos ⟨hst, hrank, decide_eq_true hsil⟩]
    exact toColdstart_shows c.isLt s
  case lone =>
    refine ⟨framed s (coldstartTimeout c s), State.runIn_on s 3 _ hd, ?_⟩
    rw [coldstartTimeout, if_pos ⟨hst, hsent, by rw [hnext]; rfl⟩, if_pos hlone]
    obtain ⟨hstate, htime⟩ := chanActive_shows c s
    exact ⟨hstate, congrArg ChanSt.sent (State.setChan_chan_same _ c _), htime⟩
  case back =>
    refine ⟨framed s (coldstartTimeout c s), State.runIn_on s 3 _ hd, ?_⟩
    rw [coldstartTimeout, if_pos ⟨hst, hsent, by rw [hnext]; rfl⟩, if_neg (by simp [hlone])]
    exact toBackoff_shows c s
  case again =>
    refine ⟨framed s (backoffEnd c s), State.runIn_on s 3 _ hd, ?_⟩
    rw [backoffEnd, if_pos ⟨hst, hback⟩]
    exact (toColdstart_shows c.isLt s).1
  case lost =>
    refine State.runIn_to hd ((if_pos hrun).trans (if_neg ?_)) rfl rfl rfl
    rintro (h | ⟨_, h⟩)
    · rw [hlost] at h
      exact absurd h (by decide)
    · rw [hpart] at h
      exact absurd h (by decide)

end Sys2Proof.Machine
end

section
/-!
PROOFS. Network time at the end of a cycle (R358-R361): the time master, holdover, and the correction of a locked node.
-/
namespace Sys2Proof.Machine

/-! ### The time master of the ended cycle (R358) -/

/-- The state with another record of network time. -/
def State.withNt (s : State) (v : NetSt) : State := { s with nt := v }

@[simp] theorem State.withNt_nt (s : State) (v : NetSt) : (s.withNt v).nt = v := (rfl)
@[simp] theorem State.withNt_regs (s : State) (v : NetSt) : (s.withNt v).regs = s.regs := (rfl)
@[simp] theorem State.withNt_f (s : State) (v : NetSt) (x : Fld) : (s.withNt v).f x = s.f x := (rfl)
@[simp] theorem State.withNt_on (s : State) (v : NetSt) (x : Fld) : (s.withNt v).on x = s.on x := (rfl)
@[simp] theorem State.withNt_e (s : State) (v : NetSt) (x : Fld) : (s.withNt v).e x = s.e x := (rfl)
@[simp] theorem State.withNt_time (s : State) (v : NetSt) : (s.withNt v).time = s.time := (rfl)
@[simp] theorem State.withNt_tickNo (s : State) (v : NetSt) : (s.withNt v).tickNo = s.tickNo := (rfl)
@[simp] theorem State.withNt_engOld (s : State) (v : NetSt) : (s.withNt v).engOld = s.engOld := (rfl)

/-- The master shown and noted. -/
def State.masterShown (s : State) (m : Nat) : State :=
  ((s.set NT_STAT_MASTER_ID m).setB NT_STAT_MASTER_VALID true).withNt { s.nt with lastMaster := some m }

theorem foldl_min_least {l : List Nat} {a : Nat} (h : ∀ m ∈ l, a ≤ m) : l.foldl min a = a := by
  induction l with
  | nil => rfl
  | cons b l ih =>
    rw [List.foldl_cons, min_eq_left (h b (List.mem_cons_self ..))]
    exact ih fun m hm => h m (List.mem_cons_of_mem _ hm)

/-- A node with TM = 1 that met no lower identity is the master, whoever was it before. -/
theorem electMaster_own {s : State} (htm : s.on NT_STAT_TM = true) (hlow : ∀ m ∈ s.nt.tms, s.f SIT_ID_NODE_ID ≤ m) :
    electMaster s = s.masterShown (s.f SIT_ID_NODE_ID) ∨
      electMaster s = ((s.masterShown (s.f SIT_ID_NODE_ID)).inc NT_CNT_MASTER_CHG).raiseU 0x2E1 := by
  unfold electMaster
  simp only [htm, if_true, List.cons_append, List.nil_append, foldl_min_least hlow]
  split
  · exact .inr rfl
  · exact .inl rfl

theorem electMaster_none {s : State} (htm : s.on NT_STAT_TM = false) (htms : s.nt.tms = []) : electMaster s = s := by
  simp [electMaster, htm, htms]

/-- What electing the own node leaves. -/
theorem electMaster_own_keeps {s : State} (htm : s.on NT_STAT_TM = true) (hlow : ∀ m ∈ s.nt.tms, s.f SIT_ID_NODE_ID ≤ m) :
    (electMaster s).nt = { s.nt with lastMaster := some (s.f SIT_ID_NODE_ID) } ∧ (electMaster s).on NT_STAT_TM = true ∧
      (electMaster s).f SIT_ID_NODE_ID = s.f SIT_ID_NODE_ID ∧ (electMaster s).time = s.time := by
  have hshown : (s.masterShown (s.f SIT_ID_NODE_ID)).on NT_STAT_TM = true := by
    rw [← htm]
    refine State.on_of_f ?_
    simp (disch := decide) only [State.masterShown, State.withNt_f, State.setB_eq, State.f_set_disjoint]
  have hid : (s.masterShown (s.f SIT_ID_NODE_ID)).f SIT_ID_NODE_ID = s.f SIT_ID_NODE_ID := by
    simp (disch := decide) only [State.masterShown, State.withNt_f, State.setB_eq, State.f_set_ne]
  rcases electMaster_own htm hlow with e | e <;> rw [e]
  · exact ⟨rfl, hshown, hid, by simp [State.masterShown, State.setB_eq]⟩
  · refine ⟨by simp [State.inc_eq, State.masterShown], ?_, ?_, by simp [State.masterShown, State.setB_eq, State.inc_eq]⟩
    · rw [← hshown]
      refine State.on_of_f ?_
      rw [State.raiseU_f, State.f_inc_ne _ NT_CNT_MASTER_CHG NT_STAT_TM (by decide)]
    · rw [State.raiseU_f, State.f_inc_ne _ NT_CNT_MASTER_CHG SIT_ID_NODE_ID (by decide), hid]

/-! ### The correction (R359, R361) -/

/-- The notes of the ended cycle dropped. -/
def State.cycleClosed (s : State) (outRun : Nat) : State := s.withNt { s.nt with devs := [], tms := [], masterOut := false, outRun := outRun }

/-- A node that is the time master corrects nothing. -/
theorem ntCorrection_master {s t : State} (ht : electMaster s = t) (htm : t.on NT_STAT_TM = true) (hm : t.nt.lastMaster = some (t.f SIT_ID_NODE_ID)) :
    ∃ n, ntCorrection s = (t.cycleClosed n).withNt { (t.cycleClosed n).nt with holdEp := false } := by
  subst ht
  unfold ntCorrection
  dsimp only
  rw [if_pos]
  · exact ⟨_, rfl⟩
  · rw [Bool.and_eq_true, hm]
    exact ⟨htm, beq_self_eq_true _⟩

/-- The offset shown, which ends an episode of holdover. -/
def State.offsetTaken (s : State) (ofs : Int) : State :=
  (s.setI NT_OFS_OFS (satSigned 32 ofs)).withNt { s.nt with holdEp := false, stepped := false }

/-- The node is locked at a new rate, which shows. -/
def State.rateTaken (s : State) (rate : Int) : State := showRate ((setNt 1 s).withNt { s.nt with rate := rate, stepped := false, holdEp := false })

/-- What a locked node does with the deviation `d`, its offset taken: the new rate, the limits of both, the slew. -/
def trackRate (d : Int) (u : State) : State :=
  let rate := u.nt.rate - (d * 2 ^ 32).fdiv (16 * u.cycleNs * 2 ^ u.e NT_CFG_KR : Nat)
  let v := u.rateTaken rate
  startSlew (-(d * 2 ^ 28)) (u.cycleNs / 10)
    (if 160 * u.e SIT_CFG_OFS_LIM < d.natAbs then syncLimit 1 v
      else if Nat.blt (v.e SIT_CFG_RATE_LIM * 4294967296) (rate.natAbs * 1000000) then syncLimit 2 v else v)

theorem trackRate_within {d rate : Int} {u : State} (hofs : d.natAbs ≤ 160 * u.e SIT_CFG_OFS_LIM)
    (hr : rate = u.nt.rate - (d * 2 ^ 32).fdiv (16 * u.cycleNs * 2 ^ u.e NT_CFG_KR : Nat))
    (hlim : rate.natAbs * 10 ^ 6 ≤ (u.rateTaken rate).e SIT_CFG_RATE_LIM * 2 ^ 32) :
    trackRate d u = startSlew (-(d * 2 ^ 28)) (u.cycleNs / 10) (u.rateTaken rate) := by
  have hslow : Nat.blt ((u.rateTaken rate).e SIT_CFG_RATE_LIM * 4294967296) (rate.natAbs * 1000000) = false := by
    rw [← Bool.not_eq_true]
    intro h
    have hlt := Nat.le_of_ble_eq_true h
    omega
  unfold trackRate
  simp only [← hr, hslow, Bool.false_eq_true, if_false]
  rw [if_neg (by omega)]

section Taken
variable (s : State)

theorem State.offsetTaken_e (ofs : Int) (x : Fld) (h : x.addr ≠ NT_OFS_A) : (s.offsetTaken ofs).e x = s.e x := by
  rw [State.offsetTaken, State.withNt_e, State.setI_eq, State.e_set_ne _ NT_OFS_OFS x _ h]

theorem State.offsetTaken_cycleNs (ofs : Int) : (s.offsetTaken ofs).cycleNs = s.cycleNs := by
  have hlen : (s.offsetTaken ofs).f TICK_STAT_LEN_ACT = s.f TICK_STAT_LEN_ACT := s.f_set_ne NT_OFS_OFS TICK_STAT_LEN_ACT _ (by decide)
  rw [State.cycleNs, State.cycleTicks, s.offsetTaken_e ofs TICK_CFG_CYCLE_TICKS (by decide), State.tNs, hlen]
  rfl

theorem State.rateTaken_e (rate : Int) (x : Fld) (h : x.addr ≠ NT_STAT_A) (h' : x.addr ≠ NT_RATE_A) : (s.rateTaken rate).e x = s.e x := by
  have hst : ChangesOnly (· = NT_STAT_A) s ((setNt 1 s).withNt { s.nt with rate := rate, stepped := false, holdEp := false }) :=
    (setNt_changes 1 s).of_regs (State.withNt_regs _ _)
  have ho : ((setNt 1 s).withNt { s.nt with rate := rate, stepped := false, holdEp := false }).engOld = s.engOld := by
    simp [setNt, State.setB_eq]
  rw [State.rateTaken, showRate, State.setI_eq, State.e_set_ne _ NT_RATE_RATE x _ h', hst.e x ho h]

end Taken

section Slave
variable {s : State} (htm : s.on NT_STAT_TM = false) (htms : s.nt.tms = []) (hout : s.nt.masterOut = false)
include htm htms hout

theorem ntCorrection_alone (hdevs : s.nt.devs = []) : ntCorrection s = holdover (s.cycleClosed 0) := by
  unfold ntCorrection
  simp only [electMaster_none htm htms, hout, hdevs, Bool.false_eq_true, if_false, List.filter_nil, List.map_nil]
  rw [if_neg, if_neg]
  · rfl
  · omega
  · intro h
    rw [Bool.and_eq_true] at h
    exact Bool.false_ne_true (htm.symm.trans h.1)

/-- A locked node whose offset and rate stay within their limits takes the deviation of its master. -/
theorem ntCorrection_locked {m : Nat} {d : Int} (hdevs : s.nt.devs = [(m, d)]) (hm : s.nt.lastMaster = some m) (hst : s.f NT_STAT_STATE = 1)
    (hofs : d.natAbs ≤ 160 * s.e SIT_CFG_OFS_LIM) {rate : Int}
    (hr : rate = s.nt.rate - (d * 2 ^ 32).fdiv (16 * s.cycleNs * 2 ^ s.e NT_CFG_KR : Nat)) (hlim : rate.natAbs * 10 ^ 6 ≤ s.e SIT_CFG_RATE_LIM * 2 ^ 32) :
    ntCorrection s = startSlew (-(d * 2 ^ 28)) (s.cycleNs / 10) (((s.cycleClosed 0).offsetTaken d).rateTaken rate) := by
  have hsel : (s.nt.devs.filter (fun p => some p.1 == s.nt.lastMaster)).map Prod.snd = [d] := by simp [hdevs, hm]
  have hcyc : ((s.cycleClosed 0).offsetTaken d).cycleNs = s.cycleNs := State.offsetTaken_cycleNs _ _
  have hkr : ((s.cycleClosed 0).offsetTaken d).e NT_CFG_KR = s.e NT_CFG_KR := State.offsetTaken_e _ _ _ (by decide)
  have hofs' : ((s.cycleClosed 0).offsetTaken d).e SIT_CFG_OFS_LIM = s.e SIT_CFG_OFS_LIM := State.offsetTaken_e _ _ _ (by decide)
  have hrate : (((s.cycleClosed 0).offsetTaken d).rateTaken rate).e SIT_CFG_RATE_LIM = s.e SIT_CFG_RATE_LIM :=
    (State.rateTaken_e _ _ _ (by decide) (by decide)).trans (State.offsetTaken_e _ _ _ (by decide))
  unfold ntCorrection
  simp only [electMaster_none htm htms, hout, hsel, Bool.false_eq_true, if_false, List.foldl_nil, List.length_nil, Nat.cast_zero, add_zero,
    Int.fdiv_one]
  rw [if_neg, if_neg]
  · refine (if_neg ?_).trans ?_
    · rintro (h | ⟨h, _⟩) <;> exact absurd (hst.symm.trans h) (by decide)
    · refine (trackRate_within (u := (s.cycleClosed 0).offsetTaken d) (by rw [hofs']; exact hofs) ?_ ?_).trans (by rw [hcyc])
      · rw [hcyc, hkr]
        exact hr
      · rw [hrate]
        exact hlim
  · omega
  · intro h
    rw [Bool.and_eq_true] at h
    exact Bool.false_ne_true (htm.symm.trans h.1)

end Slave

/-! ### What a correction shows -/

theorem holdover_shows {s : State} (hst : s.f NT_STAT_STATE ≠ 0) : (holdover s).f NT_STAT_STATE = 4 ∧ (holdover s).on NT_STAT_LOCKED = false ∧
    (holdover s).nt.holdEp = true ∧ (holdover s).f NT_HOLD_CYCLES = (if s.nt.holdEp then satU 32 (s.f NT_HOLD_CYCLES + 1) else 1) ∧
    (holdover s).nt.rate = s.nt.rate ∧ (holdover s).time = s.time := by
  have hnt : ∀ t : State, (setNt 4 t).f NT_STAT_STATE = 4 ∧ (setNt 4 t).f NT_STAT_LOCKED = 0 := fun t => by
    constructor
    · simp (disch := decide) only [setNt, State.setB_eq, State.f_set_disjoint, State.f_set_fits]
    · rw [setNt, State.setB_eq, State.f_set_fits _ _ _ (by decide) (by decide)]
      rfl
  have hkept : ChangesOnly (fun a => a = NT_STAT_A) s (setNt 4 s.ntHeld) := setNt_changes 4 s.ntHeld
  obtain ⟨hstate, hlocked⟩ := hnt s.ntHeld
  have hheld : (setNt 4 s.ntHeld).nt.holdEp = true ∧ (setNt 4 s.ntHeld).nt.rate = s.nt.rate := by
    simp [setNt, State.setB_eq, State.ntHeld]
  have htime : (enterHoldover s).time = s.time := enterHoldover_time s
  rw [holdover, if_neg hst, State.on_of_f (State.f_inc_ne _ NT_HOLD_CYCLES NT_STAT_LOCKED (by decide)),
    State.f_inc_ne _ NT_HOLD_CYCLES NT_STAT_STATE (by decide), State.f_inc_same _ _ (by decide), State.inc_eq, State.set_nt, State.set_time, htime]
  rw [enterHoldover_eq]
  split
  · refine ⟨hstate, ?_, hheld.1, ?_, hheld.2, rfl⟩
    · rw [State.on, hlocked]
      rfl
    · rw [hkept.f NT_HOLD_CYCLES (by decide)]
      rfl
  · have hword : ∀ x : Fld, x.addr ≠ NT_HOLD_A → (((setNt 4 s.ntHeld).setWord NT_HOLD_A 0).raiseU 0x2E0).f x = (setNt 4 s.ntHeld).f x := fun x hx => by
      rw [State.raiseU_f, State.f, State.word_setWord_ne _ _ _ _ hx]
      rfl
    refine ⟨(hword _ (by decide)).trans hstate, ?_, by simpa using hheld.1, ?_, by simpa using hheld.2, rfl⟩
    · rw [State.on, hword _ (by decide), hlocked]
      rfl
    · rw [State.raiseU_f, State.f, show NT_HOLD_CYCLES.addr = NT_HOLD_A from rfl, State.word_setWord_same]
      rfl

/-- The marks of a locked node: its state, its offset and its rate. -/
theorem locked_shows (s : State) (d rate : Int) : let t := (s.offsetTaken d).rateTaken rate
    t.f NT_STAT_STATE = 1 ∧ t.on NT_STAT_LOCKED = true ∧ t.fI NT_OFS_OFS = satSigned 32 d ∧ t.nt.rate = rate ∧ t.time = s.time := by
  obtain ⟨hlo, hhi⟩ := satSigned_bounds 32 d
  have hofs : (s.offsetTaken d).fI NT_OFS_OFS = satSigned 32 d := s.fI_setI_same NT_OFS_OFS _ (by decide) (by decide) hlo hhi
  have hshow : ∀ (u v : State) (x : Fld), u.f x = v.f x → x.addr ≠ NT_RATE_A → (showRate u).f x = v.f x := fun u v x h hx => by
    rw [showRate, State.setI_eq, State.f_set_ne _ NT_RATE_RATE x _ hx, h]
  have hrate : ∀ x : Fld, x.addr ≠ NT_RATE_A → ((s.offsetTaken d).rateTaken rate).f x = (setNt 1 (s.offsetTaken d)).f x := fun x hx =>
    hshow _ _ x (State.withNt_f _ _ x) hx
  have hstate : (setNt 1 (s.offsetTaken d)).f NT_STAT_STATE = 1 := by
    simp (disch := decide) only [setNt, State.setB_eq, State.f_set_disjoint, State.f_set_fits]
  have hlocked : (setNt 1 (s.offsetTaken d)).f NT_STAT_LOCKED = 1 := by
    rw [setNt, State.setB_eq, State.f_set_fits _ _ _ (by decide) (by decide)]
    rfl
  refine ⟨(hrate _ (by decide)).trans hstate, ?_, ?_, ?_, ?_⟩
  · rw [State.on, hrate _ (by decide), hlocked]
    rfl
  · refine (State.fI_of_f ?_).trans hofs
    exact (hrate _ (by decide)).trans ((setNt_changes 1 _).f NT_OFS_OFS (by decide))
  · simp [State.rateTaken, showRate, State.setI_eq]
  · simp [State.rateTaken, showRate, State.setI_eq, setNt, State.setB_eq, State.offsetTaken]

theorem startSlew_keeps (total : Int) (n : Nat) (s : State) : (startSlew total n s).regs = s.regs ∧ (startSlew total n s).time = s.time ∧
    (startSlew total n s).nt.rate = s.nt.rate ∧ (startSlew total n s).nt.slew = total := ⟨rfl, rfl, rfl, rfl⟩

/-- Settles O34: the three cases of a cycle's end, by what each leaves of rate, offset and time. -/
theorem networkTimeFollowsItsMaster : Obligations.NetworkTimeFollowsItsMaster := by
  refine ⟨fun s hd htm hlow => ?master, fun s hd htm htms hdevs hout hst => ?alone, fun m d s hd htm htms hdevs hm hout hst hofs => ?locked⟩
  case master =>
    obtain ⟨hnt, htm', hid, htime⟩ := electMaster_own_keeps htm hlow
    obtain ⟨n, e⟩ := ntCorrection_master rfl htm' (by rw [hnt, hid])
    refine ⟨framed s (ntCorrection s), State.runIn_on s 3 _ hd, ?_⟩
    simp only [framed_nt, framed_time, e, State.withNt_nt, State.withNt_time, State.cycleClosed, hnt, htime, and_self]
  case alone =>
    refine ⟨framed s (ntCorrection s), State.runIn_on s 3 _ hd, ?_⟩
    rw [ntCorrection_alone htm htms hout hdevs]
    exact holdover_shows (s := s.cycleClosed 0) hst
  case locked =>
    intro rate hlim
    obtain ⟨hstate, hlocked, hshown, hrate, htime⟩ := locked_shows (s.cycleClosed 0) d rate
    refine ⟨framed s (ntCorrection s), State.runIn_on s 3 _ hd, ?_⟩
    rw [ntCorrection_locked htm htms hout hdevs hm hst hofs rfl hlim]
    obtain ⟨hregs, htime', hrate', hslew⟩ := startSlew_keeps (-(d * 2 ^ 28)) (s.cycleNs / 10) (((s.cycleClosed 0).offsetTaken d).rateTaken rate)
    generalize startSlew (-(d * 2 ^ 28)) (s.cycleNs / 10) (((s.cycleClosed 0).offsetTaken d).rateTaken rate) = t at *
    exact ⟨(State.f_congr hregs _).trans hstate, (State.on_of_f (State.f_congr hregs _)).trans hlocked,
      (State.fI_of_f (State.f_congr hregs _)).trans hshown, hrate'.trans hrate, hslew, htime'.trans htime⟩

end Sys2Proof.Machine
end

section
/-!
PROOFS. Charon (R336-R339): what closing writes, its strobes, its windows and its causes.
-/
namespace Sys2Proof.Machine

/-! ### Fields that share no bit -/

/-- The fields share no bit. -/
def Fld.clearOf (x y : Fld) : Bool := x.addr != y.addr || x.apart y

theorem State.f_set_clear (s : State) (x y : Fld) (v : Nat) (h : x.clearOf y = true) : (s.set x v).f y = s.f y := by
  rw [Fld.clearOf, Bool.or_eq_true, bne_iff_ne] at h
  rcases h with h | h
  · exact s.f_set_ne x y v h.symm
  · exact s.f_set_disjoint x y v h

/-- A write shows the same in a register that held the same. -/
theorem State.f_set_congr {s t : State} (x y : Fld) (v : Nat) (h : t.word y.addr = s.word y.addr) : (t.set x v).f y = (s.set x v).f y := by
  rw [State.f, State.f, State.set, State.set]
  by_cases ha : y.addr = x.addr
  · rw [ha] at h ⊢
    rw [State.word_setWord_same, State.word_setWord_same, h]
  · rw [State.word_setWord_ne _ _ _ _ ha, State.word_setWord_ne _ _ _ _ ha, h]

/-! ### Closing (R337, R339) -/

/-- The state with another record of Charon. -/
def State.withCn (s : State) (v : CharonSt) : State := { s with cn := v }

@[simp] theorem State.withCn_cn (s : State) (v : CharonSt) : (s.withCn v).cn = v := (rfl)
@[simp] theorem State.withCn_regs (s : State) (v : CharonSt) : (s.withCn v).regs = s.regs := (rfl)
@[simp] theorem State.withCn_f (s : State) (v : CharonSt) (x : Fld) : (s.withCn v).f x = s.f x := (rfl)
@[simp] theorem State.withCn_on (s : State) (v : CharonSt) (x : Fld) : (s.withCn v).on x = s.on x := (rfl)
@[simp] theorem State.withCn_flt (s : State) (v : CharonSt) : (s.withCn v).flt = s.flt := (rfl)

/-- The drivers off: CLOSED, no window open, on no port, and not aligned. -/
def State.driversOff (s : State) : State :=
  (((s.setB CHN_STAT_CLOSED true).set CHN_STAT_OPEN 0).each [0, 1, 2, 3] (fun p t => t.setB (SP_STAT_OPEN p) false)).setB CHN_STAT_ALIGNED false

theorem charonClose_eq (s : State) : charonClose s =
    if s.on CHN_STAT_CLOSED then s.driversOff.withCn { s.driversOff.cn with pred := false, okRun := 0, rej := 0 }
    else (s.driversOff.withCn { s.driversOff.cn with pred := false, okRun := 0, rej := 0 }).inc CH_CNT_CLOSE := rfl

theorem spStat_ne_charon (p : Nat) : CHN_STAT_A ≠ SP_STAT_A p ∨ 5 ≤ p := by
  unfold CHN_STAT_A SP_STAT_A
  omega

section DriversOff
variable (s : State)

/-- Beside the ports' own registers only CHN_STAT changes. -/
theorem State.driversOff_f (x : Fld) (hx : x.addr = CHN_STAT_A ∨ x.addr / 0x400 = 0x046) : s.driversOff.f x =
    (((s.setB CHN_STAT_CLOSED true).set CHN_STAT_OPEN 0).setB CHN_STAT_ALIGNED false).f x := by
  have hports : ∀ r : State, ChangesOnly (fun a => a / 0x400 < 0x046) r (r.each [0, 1, 2, 3] (fun p t => t.setB (SP_STAT_OPEN p) false)) := fun r => by
    refine State.each_ind (ChangesOnly _ r) r (fun p hp u hu => hu.set (SP_STAT_OPEN p) _ ?_) (ChangesOnly.refl _ r)
    have hlt : p < 4 := by
      simp only [List.mem_cons, List.not_mem_nil, or_false] at hp
      omega
    show SP_STAT_A p / 0x400 < 0x046
    unfold SP_STAT_A
    omega
  have hpage : ¬ x.addr / 0x400 < 0x046 := by
    rcases hx with hx | hx
    · rw [hx]
      decide
    · omega
  exact State.f_set_congr CHN_STAT_ALIGNED x _ (hports _ x.addr hpage)

theorem State.driversOff_shows : s.driversOff.f CHN_STAT_CLOSED = 1 ∧ s.driversOff.f CHN_STAT_OPEN = 0 ∧ s.driversOff.f CHN_STAT_ALIGNED = 0 := by
  refine ⟨?_, ?_, ?_⟩ <;> rw [State.driversOff_f _ _ (.inl rfl)]
  · simp (disch := decide) only [State.setB_eq, State.f_set_disjoint, State.f_set_fits]
    rfl
  · simp (disch := decide) only [State.setB_eq, State.f_set_disjoint, State.f_set_fits]
  · simp (disch := decide) only [State.setB_eq, State.f_set_fits]
    rfl

theorem State.driversOff_keeps (x : Fld) (hx : x.addr / 0x400 = 0x046) (h1 : CHN_STAT_CLOSED.clearOf x = true) (h2 : CHN_STAT_OPEN.clearOf x = true)
    (h3 : CHN_STAT_ALIGNED.clearOf x = true) : s.driversOff.f x = s.f x := by
  rw [State.driversOff_f _ _ (.inr hx), State.setB_eq, State.setB_eq, State.f_set_clear _ CHN_STAT_ALIGNED x _ h3,
    State.f_set_clear _ CHN_STAT_OPEN x _ h2, State.f_set_clear _ CHN_STAT_CLOSED x _ h1]

theorem State.driversOff_onlyRegs : OnlyRegs s s.driversOff :=
  OnlyRegs.set (State.each_ind (OnlyRegs s) _ (fun p _ _ ht => ht.set (SP_STAT_OPEN p) _)
    (((OnlyRegs.refl s).set CHN_STAT_CLOSED _).set CHN_STAT_OPEN _)) CHN_STAT_ALIGNED _

end DriversOff

/-- What closing leaves of Charon's page. -/
theorem charonClose_keeps (s : State) (x : Fld) (hx : x.addr / 0x400 = 0x046) (h1 : CHN_STAT_CLOSED.clearOf x = true)
    (h2 : CHN_STAT_OPEN.clearOf x = true) (h3 : CHN_STAT_ALIGNED.clearOf x = true) (h4 : CH_CNT_CLOSE.clearOf x = true) : (charonClose s).f x = s.f x := by
  rw [charonClose_eq]
  split
  · rw [State.withCn_f, s.driversOff_keeps x hx h1 h2 h3]
  · rw [State.inc_eq, State.f_set_clear _ CH_CNT_CLOSE x _ h4, State.withCn_f, s.driversOff_keeps x hx h1 h2 h3]

theorem charonClose_shows (s : State) : (charonClose s).f CHN_STAT_CLOSED = 1 ∧ (charonClose s).f CHN_STAT_OPEN = 0 ∧
    (charonClose s).f CHN_STAT_ALIGNED = 0 := by
  obtain ⟨h1, h2, h3⟩ := s.driversOff_shows
  have hf : ∀ x : Fld, x.addr ≠ CH_CNT_A → (charonClose s).f x = s.driversOff.f x := fun x hx => by
    rw [charonClose_eq]
    split
    · rw [State.withCn_f]
    · rw [State.f_inc_ne _ CH_CNT_CLOSE x hx, State.withCn_f]
  exact ⟨(hf _ (by decide)).trans h1, (hf _ (by decide)).trans h2, (hf _ (by decide)).trans h3⟩

theorem charonClose_rest (s : State) : (charonClose s).cn = { s.cn with pred := false, okRun := 0, rej := 0 } ∧ (charonClose s).flt = s.flt ∧
    (charonClose s).freeSeq = s.freeSeq ∧ (charonClose s).tb = s.tb := by
  obtain ⟨r, e⟩ := s.driversOff_onlyRegs.exists
  rw [charonClose_eq, e]
  split
  · exact ⟨rfl, rfl, rfl, rfl⟩
  · exact ⟨rfl, rfl, rfl, rfl⟩

theorem charonClose_closed (s : State) : (charonClose s).on CHN_STAT_CLOSED = true := (State.on_iff _ _).mpr (charonClose_shows s).1

/-! ### Strobes (R337) -/

/-- A strobe within tolerance: aligned, one more in a row. -/
def State.strobeOk (s : State) : State :=
  (s.setB CHN_STAT_ALIGNED true).withCn { s.cn with pred := true, rej := 0, okRun := s.cn.okRun + 1 }

/-- A rejected strobe. -/
def State.strobeBad (s : State) : State :=
  ((s.inc CH_CNT_STROBE_REJ).setB CHN_STAT_ALIGNED false).withCn { s.cn with rej := s.cn.rej + 1, okRun := 0 }

section Strobe
variable {s : State} {dev : Int} (hact : s.anyActive = true) (hrail : s.cn.railBad = false)
include hact hrail

theorem strobe_within (h : s.cn.pred = false ∨ dev.natAbs ≤ 50 * s.e CHN_CFG_STROBE_TOL) : strobe dev s =
    if 2 ≤ s.cn.okRun + 1 ∧ !s.strobeOk.charonCause ∧ !s.strobeOk.xStopped 16 then s.strobeOk.setB CHN_STAT_CLOSED false else s.strobeOk := by
  rw [strobe, if_neg (by simp [hact, hrail]), if_pos (by rcases h with h | h <;> simp [h])]
  rfl

theorem strobe_outside (hpred : s.cn.pred = true) (h : 50 * s.e CHN_CFG_STROBE_TOL < dev.natAbs) : strobe dev s =
    if 2 ≤ s.cn.rej + 1 then (charonClose s.strobeBad).raiseU 0x2A7 else s.strobeBad := by
  rw [strobe, if_neg (by simp [hact, hrail]), if_neg (by simp [hpred, h])]
  rfl

end Strobe

theorem State.strobeOk_keeps (s : State) : s.strobeOk.charonCause = s.charonCause ∧ s.strobeOk.xStopped 16 = s.xStopped 16 ∧
    s.strobeOk.on CHN_STAT_ALIGNED = true ∧ s.strobeOk.on CHN_STAT_CLOSED = s.on CHN_STAT_CLOSED ∧ SameRegsBut [CHN_STAT_A] s s.strobeOk := by
  refine ⟨rfl, State.fbit_of_f (s.f_set_ne CHN_STAT_ALIGNED CDC_TMO_STOPPED _ (by decide)) 16, ?_, ?_, ?_⟩
  · rw [State.strobeOk, State.withCn_on, State.on_setB_same _ _ _ (by decide) rfl]
  · rw [State.strobeOk, State.withCn_on, State.setB_eq, State.on_set_apart _ CHN_STAT_ALIGNED CHN_STAT_CLOSED _ rfl (by decide)]
  exact SameRegsBut.of_regs (SameRegsBut.set_one s CHN_STAT_ALIGNED 1) (State.withCn_regs _ _)

theorem State.strobeBad_shows (s : State) : s.strobeBad.f CH_CNT_STROBE_REJ = satU 8 (s.f CH_CNT_STROBE_REJ + 1) ∧
    s.strobeBad.on CHN_STAT_ALIGNED = false ∧ s.strobeBad.on CHN_STAT_CLOSED = s.on CHN_STAT_CLOSED := by
  refine ⟨?count, ?aligned, State.on_of_f ?closed⟩
  case count =>
    rw [State.strobeBad, State.withCn_f, State.setB_eq, State.f_set_ne _ CHN_STAT_ALIGNED CH_CNT_STROBE_REJ _ (by decide),
      State.f_inc_same _ _ (by decide)]
    rfl
  case aligned => rw [State.strobeBad, State.withCn_on, State.on_setB_same _ _ _ (by decide) rfl]
  case closed =>
    rw [State.strobeBad, State.withCn_f, State.setB_eq, State.f_set_disjoint _ CHN_STAT_ALIGNED CHN_STAT_CLOSED _ (by decide),
      State.f_inc_ne _ CH_CNT_STROBE_REJ CHN_STAT_CLOSED (by decide)]

theorem strobe_within_shows {s : State} {dev : Int} (hact : s.anyActive = true) (hrail : s.cn.railBad = false)
    (h : s.cn.pred = false ∨ dev.natAbs ≤ 50 * s.e CHN_CFG_STROBE_TOL) : (strobe dev s).on CHN_STAT_ALIGNED = true ∧
      (strobe dev s).cn.okRun = s.cn.okRun + 1 ∧ (strobe dev s).cn.rej = 0 ∧
      (strobe dev s).on CHN_STAT_CLOSED = (s.on CHN_STAT_CLOSED && !(decide (1 ≤ s.cn.okRun) && !s.charonCause && !s.xStopped 16)) ∧
      SameRegsBut [CHN_STAT_A] s (strobe dev s) := by
  obtain ⟨hcause, hstop, hal, hcl, hframe⟩ := s.strobeOk_keeps
  rw [strobe_within hact hrail h, hcause, hstop]
  split
  · next hopen =>
    obtain ⟨hrun, hc, hx⟩ := hopen
    rw [Bool.not_eq_true'] at hc hx
    refine ⟨?_, by simp [State.setB_eq, State.strobeOk], by simp [State.setB_eq, State.strobeOk], ?_, ?_⟩
    · rw [← hal]
      exact State.on_of_f (State.f_set_disjoint _ CHN_STAT_CLOSED CHN_STAT_ALIGNED _ (by decide))
    · rw [State.on_setB_same _ _ _ (by decide) rfl, hc, hx, decide_eq_true (by omega)]
      simp
    · exact hframe.set CHN_STAT_CLOSED _ (by simp [CHN_STAT_CLOSED])
  · next hstay =>
    refine ⟨hal, rfl, rfl, ?_, hframe⟩
    have hnot : (decide (1 ≤ s.cn.okRun) && !s.charonCause && !s.xStopped 16) = false := by
      rw [← Bool.not_eq_true]
      intro hall
      simp only [Bool.and_eq_true, decide_eq_true_eq] at hall
      exact hstay ⟨by omega, hall.1.2, hall.2⟩
    rw [hcl, hnot, Bool.not_false, Bool.and_true]

theorem strobe_outside_shows {s : State} {dev : Int} (hact : s.anyActive = true) (hrail : s.cn.railBad = false) (hpred : s.cn.pred = true)
    (h : 50 * s.e CHN_CFG_STROBE_TOL < dev.natAbs) : (strobe dev s).on CHN_STAT_ALIGNED = false ∧ (strobe dev s).cn.okRun = 0 ∧
      (strobe dev s).f CH_CNT_STROBE_REJ = satU 8 (s.f CH_CNT_STROBE_REJ + 1) ∧
      (1 ≤ s.cn.rej → (strobe dev s).on CHN_STAT_CLOSED = true ∧ (strobe dev s).f CHN_STAT_OPEN = 0) ∧
      (s.cn.rej = 0 → (strobe dev s).on CHN_STAT_CLOSED = s.on CHN_STAT_CLOSED) := by
  obtain ⟨hrej, hal, hcl⟩ := s.strobeBad_shows
  rw [strobe_outside hact hrail hpred h]
  split
  · next hsecond =>
    obtain ⟨_, hopen, haligned⟩ := charonClose_shows s.strobeBad
    obtain ⟨hcn, _, _, _⟩ := charonClose_rest s.strobeBad
    have hkeep := charonClose_keeps s.strobeBad CH_CNT_STROBE_REJ (by decide) (by decide) (by decide) (by decide) (by decide)
    have hclosed := charonClose_closed s.strobeBad
    refine ⟨?_, ?_, ?_, fun _ => ⟨?_, ?_⟩, fun h0 => absurd hsecond (by omega)⟩
    · rw [State.raiseU_on, State.on, haligned]
      rfl
    · rw [State.raiseU_cn, hcn]
    · rw [State.raiseU_f, hkeep, hrej]
    · rw [State.raiseU_on, hclosed]
    · rw [State.raiseU_f, hopen]
  · next hfirst => exact ⟨hal, rfl, hrej, fun h1 => absurd h1 (by omega), fun _ => hcl⟩

/-! ### Windows (R336) -/

/-- A window edge shown on its ports. -/
def State.showOpen (s : State) (l : List Nat) (b : Bool) : State := s.each l (fun p t => (t.setBit CHN_STAT_OPEN p b).setB (SP_STAT_OPEN p) b)

theorem maskPorts_facts (s : State) (m : Nat) : (s.maskPorts m).Nodup ∧ ∀ p ∈ s.maskPorts m, p < 4 := by
  refine ⟨List.Nodup.filter _ (by decide), fun p hp => ?_⟩
  have hmem := (List.mem_filter.mp hp).1
  simp only [List.mem_cons, List.not_mem_nil, or_false] at hmem
  omega

section ShowOpen
variable (s : State) {l : List Nat} (b : Bool) (hl : ∀ p ∈ l, p < 4)
include hl

theorem State.showOpen_closed : (s.showOpen l b).on CHN_STAT_CLOSED = s.on CHN_STAT_CLOSED := by
  refine State.on_of_f (State.each_ind (fun t => t.f CHN_STAT_CLOSED = s.f CHN_STAT_CLOSED) s (fun p hp t ht => ?_) rfl)
  have hlt := hl p hp
  have hne := (spStat_ne_charon p).resolve_right (by omega)
  rw [State.setB_eq, State.setBit_eq, State.f_set_ne _ (SP_STAT_OPEN p) CHN_STAT_CLOSED _ hne,
    State.f_set_disjoint _ CHN_STAT_OPEN CHN_STAT_CLOSED _ (by decide), ht]

theorem State.showOpen_other {p : Nat} (hp : p ∉ l) : (s.showOpen l b).fbit CHN_STAT_OPEN p = s.fbit CHN_STAT_OPEN p := by
  refine State.each_ind (fun t => t.fbit CHN_STAT_OPEN p = s.fbit CHN_STAT_OPEN p) s (fun q hq t ht => ?_) rfl
  have hlt := hl q hq
  have hne := (spStat_ne_charon q).resolve_right (by omega)
  have hpq : p ≠ q := fun e => hp (e ▸ hq)
  rw [State.setB_eq, State.fbit_of_f (State.f_set_ne _ (SP_STAT_OPEN q) CHN_STAT_OPEN _ hne), State.fbit_setBit _ _ _ _ _ (by decide) hlt,
    if_neg hpq, ht]

theorem State.showOpen_port (hnd : l.Nodup) {p : Nat} (hp : p ∈ l) : (s.showOpen l b).fbit CHN_STAT_OPEN p = b ∧
    (s.showOpen l b).on (SP_STAT_OPEN p) = b := by
  refine State.each_once (fun _ => True) (fun t => t.fbit CHN_STAT_OPEN p = b ∧ t.on (SP_STAT_OPEN p) = b) s hp hnd (fun _ _ _ _ _ => trivial)
    (fun q hq hqp t ht => ?_) (fun t _ => ?_) trivial
  · have hlt := hl q hq
    have hltp := hl p hp
    have hne := (spStat_ne_charon q).resolve_right (by omega)
    have hnep := (spStat_ne_charon p).resolve_right (by omega)
    have hports : SP_STAT_A p ≠ SP_STAT_A q := by
      unfold SP_STAT_A
      omega
    obtain ⟨hbit, hon⟩ := ht
    constructor
    · rw [State.setB_eq, State.fbit_of_f (State.f_set_ne _ (SP_STAT_OPEN q) CHN_STAT_OPEN _ hne), State.fbit_setBit _ _ _ _ _ (by decide) hlt,
        if_neg (Ne.symm hqp), hbit]
    · rw [← hon]
      refine State.on_of_f ?_
      rw [State.setB_eq, State.setBit_eq, State.f_set_ne _ (SP_STAT_OPEN q) (SP_STAT_OPEN p) _ hports,
        State.f_set_ne _ CHN_STAT_OPEN (SP_STAT_OPEN p) _ hnep.symm]
  · have hlt := hl p hp
    have hne := (spStat_ne_charon p).resolve_right (by omega)
    refine ⟨?_, State.on_setB_same _ _ _ (Fld.fits rfl) rfl⟩
    rw [State.setB_eq, State.fbit_of_f (State.f_set_ne _ (SP_STAT_OPEN p) CHN_STAT_OPEN _ hne), State.fbit_setBit _ _ _ _ _ (by decide) hlt,
      if_pos rfl]

end ShowOpen

theorem State.showOpen_cn (s : State) (l : List Nat) (b : Bool) : (s.showOpen l b).cn = s.cn :=
  State.each_ind (fun t => t.cn = s.cn) s (fun p _ t ht => by rw [State.setB_eq, State.setBit_eq, State.set_cn, State.set_cn, ht]) rfl

/-- The windows of Charon but that of an entry, and with `w` at the end. -/
def State.withWin (s : State) (e : Nat) (w : List (Nat × Nat × Nat)) : State :=
  s.withCn { s.cn with win := s.cn.win.filter (fun w => w.1 != e) ++ w }

section Window
variable {e : Nat} {x : CharonE} {s : State} (hx : s.cn.table.find? (fun y => y.entry == e) = some x)
include hx

theorem window_closes : window e false s = (s.withWin e []).showOpen (s.maskPorts x.chmask) false := by
  unfold window
  rw [hx]
  show State.showOpen _ _ false = _
  rw [State.withWin, List.append_nil]
  rfl

theorem window_opens {n : Nat} (hn : s.charonCycle x = some n) : window e true s =
    (s.withWin e [(e, (s.charonSpan x n).1, (s.charonSpan x n).2)]).showOpen (s.maskPorts x.chmask) (!s.on CHN_STAT_CLOSED) := by
  unfold window
  rw [hx]
  simp only [hn]
  rfl

theorem window_idle (hn : s.charonCycle x = none) : window e true s = s := by
  unfold window
  rw [hx]
  simp only [hn]
  rfl

end Window

/-- What an edge of a window shows. -/
theorem window_shows (s : State) (e m : Nat) (w : List (Nat × Nat × Nat)) (b : Bool) : let t := (s.withWin e w).showOpen (s.maskPorts m) b
    t.cn.win = s.cn.win.filter (fun w => w.1 != e) ++ w ∧ (∀ p ∈ s.maskPorts m, t.fbit CHN_STAT_OPEN p = b ∧ t.on (SP_STAT_OPEN p) = b) ∧
      (∀ p, p < 4 → p ∉ s.maskPorts m → t.fbit CHN_STAT_OPEN p = s.fbit CHN_STAT_OPEN p) ∧ t.on CHN_STAT_CLOSED = s.on CHN_STAT_CLOSED := by
  obtain ⟨hnd, hlt⟩ := maskPorts_facts s m
  exact ⟨by rw [State.showOpen_cn]; rfl, fun p hp => (s.withWin e w).showOpen_port b hlt hnd hp, fun p _ hp => (s.withWin e w).showOpen_other b hlt hp,
    (s.withWin e w).showOpen_closed b hlt⟩

/-! ### Drives outside a window, and the causes that close (R336, R338, R339) -/

@[simp] theorem State.setPort_regs (s : State) (p : Nat) (v : PortSt) : (s.setPort p v).regs = s.regs := (rfl)
@[simp] theorem State.setPort_f (s : State) (p : Nat) (v : PortSt) (x : Fld) : (s.setPort p v).f x = s.f x := (rfl)
@[simp] theorem State.setPort_flt (s : State) (p : Nat) (v : PortSt) : (s.setPort p v).flt = s.flt := (rfl)
@[simp] theorem State.setPort_freeSeq (s : State) (p : Nat) (v : PortSt) : (s.setPort p v).freeSeq = s.freeSeq := (rfl)
@[simp] theorem State.setPort_tb (s : State) (p : Nat) (v : PortSt) : (s.setPort p v).tb = s.tb := (rfl)

theorem blkF_place (p : Nat) : (blkF p).lo + (blkF p).width ≤ 32 ∧ (blkF p).width = 16 ∧ (blkF p).addr ∈ [CH_BLK_01_A, CH_BLK_23_A] := by
  unfold blkF
  split_ifs <;> decide

/-- The drive counted, in its episode. -/
def State.blocked (s : State) (p : Nat) : State := (s.inc (blkF p)).setPort p { s.port p with blkEp := true, blkNow := true }

theorem chBlock_eq (p : Nat) (s : State) : chBlock p s = if (s.port p).blkEp then s.blocked p else (s.blocked p).raiseU (0x2A0 + p) := rfl

theorem chBlock_shows (p : Nat) (s : State) : (chBlock p s).f (blkF p) = satU 16 (s.f (blkF p) + 1) ∧
    (chBlock p s).flt = (if (s.port p).blkEp then s.flt else (s.raiseU (0x2A0 + p)).flt) ∧ SameRegsBut [CH_BLK_01_A, CH_BLK_23_A] s (chBlock p s) := by
  obtain ⟨hfit, hw, hmem⟩ := blkF_place p
  have hcnt : (s.blocked p).f (blkF p) = satU 16 (s.f (blkF p) + 1) := by rw [State.blocked, State.setPort_f, State.f_inc_same _ _ hfit, hw]
  have hflt : (s.blocked p).flt = s.flt := by simp [State.blocked, State.inc_eq]
  have hframe : SameRegsBut [CH_BLK_01_A, CH_BLK_23_A] s (s.blocked p) :=
    SameRegsBut.of_regs ((SameRegsBut.refl _ s).set (blkF p) _ hmem) (State.setPort_regs _ _ _)
  rw [chBlock_eq]
  split
  · exact ⟨hcnt, hflt, hframe⟩
  · refine ⟨hcnt, State.raiseU_flt_congr _ hflt ?_ ?_, hframe.of_regs (State.raiseU_regs _ _)⟩ <;> simp [State.blocked, State.inc_eq]

/-- The result of a check shown and noted; a failed one closes Charon, raising its source the first time. -/
theorem closeOn_shows (s : State) (src : Nat) (bad was : Bool) (t : State)
    (ht : t = if bad then (if was then charonClose s else (charonClose s).raiseU src) else s) :
    (bad = true → t.on CHN_STAT_CLOSED = true ∧ t.f CHN_STAT_OPEN = 0) ∧ (bad = false → t.on CHN_STAT_CLOSED = s.on CHN_STAT_CLOSED) ∧
      ∀ x : Fld, x.addr / 0x400 = 0x046 → CHN_STAT_CLOSED.clearOf x = true → CHN_STAT_OPEN.clearOf x = true → CHN_STAT_ALIGNED.clearOf x = true →
        CH_CNT_CLOSE.clearOf x = true → t.f x = s.f x := by
  subst ht
  cases bad with
  | false => exact ⟨fun h => absurd h (by decide), fun _ => rfl, fun _ _ _ _ _ _ => rfl⟩
  | true =>
    have hopen := (charonClose_shows s).2.1
    have hclosed := charonClose_closed s
    have hkeep := charonClose_keeps s
    rw [if_pos rfl]
    cases was with
    | true => exact ⟨fun _ => ⟨hclosed, hopen⟩, fun h => absurd h (by decide), hkeep⟩
    | false =>
      rw [if_neg Bool.false_ne_true]
      refine ⟨fun _ => ⟨?_, ?_⟩, fun h => absurd h (by decide), fun x h0 h1 h2 h3 h4 => ?_⟩
      · rw [State.raiseU_on, hclosed]
      · rw [State.raiseU_f, hopen]
      · rw [State.raiseU_f, hkeep x h0 h1 h2 h3 h4]

/-- The oscillator's deviation, shown and noted. -/
def State.clkShown (s : State) (ppm : Int) : State :=
  ((s.setI CH_FREQ_DEV_PPM (satSigned 16 ppm)).setB CHN_STAT_CLK_OK (!decide (200 < ppm.natAbs))).withCn { s.cn with clkBad := decide (200 < ppm.natAbs) }

theorem chClk_eq (ppm : Int) (s : State) : chClk ppm s =
    if decide (200 < ppm.natAbs) then (if s.cn.clkBad then charonClose (s.clkShown ppm) else (charonClose (s.clkShown ppm)).raiseU 0x2A4)
    else s.clkShown ppm := rfl

theorem State.clkShown_shows (s : State) (ppm : Int) : (s.clkShown ppm).on CHN_STAT_CLK_OK = decide (ppm.natAbs ≤ 200) ∧
    (s.clkShown ppm).fI CH_FREQ_DEV_PPM = satSigned 16 ppm ∧ (s.clkShown ppm).on CHN_STAT_CLOSED = s.on CHN_STAT_CLOSED := by
  obtain ⟨hlo, hhi⟩ := satSigned_bounds 16 ppm
  refine ⟨?_, (State.fI_of_f ?_).trans (s.fI_setI_same CH_FREQ_DEV_PPM _ (by decide) (by decide) hlo hhi), State.on_of_f ?_⟩
  · rw [State.clkShown, State.withCn_on, State.on_setB_same _ _ _ (by decide) rfl, ← decide_not, decide_eq_decide]
    omega
  · rw [State.clkShown, State.withCn_f, State.setB_eq, State.f_set_ne _ CHN_STAT_CLK_OK CH_FREQ_DEV_PPM _ (by decide)]
  · rw [State.clkShown, State.withCn_f, State.setB_eq, State.f_set_disjoint _ CHN_STAT_CLK_OK CHN_STAT_CLOSED _ (by decide), State.setI_eq,
      State.f_set_ne _ CH_FREQ_DEV_PPM CHN_STAT_CLOSED _ (by decide)]

/-- The result of the table check, shown and noted. -/
def State.tableShown (s : State) (same : Bool) : State := (s.setB CHN_STAT_TABLE_OK same).withCn { s.cn with tableBad := !same }

theorem chTable_eq (same : Bool) (s : State) : chTable same s =
    if !same then (if s.cn.tableBad then charonClose (s.tableShown same) else (charonClose (s.tableShown same)).raiseU 0x2A6) else s.tableShown same := by
  cases same
  · rfl
  · rfl

/-- Settles O35: strobes by their tolerance, windows by their entry and cycle, each cause by its check. -/
theorem charonGuardsTheDrivers : Obligations.CharonGuardsTheDrivers := by
  refine ⟨fun dev s hd hact hrail h => ⟨framed s (strobe dev s), State.runIn_on s 3 _ hd, strobe_within_shows hact hrail h⟩,
    fun dev s hd hact hrail hpred h => ⟨framed s (strobe dev s), State.runIn_on s 3 _ hd, strobe_outside_shows hact hrail hpred h⟩,
    fun e x opens n s hd hx hn => ⟨framed s (window e.toNat opens s), State.runIn_on s 3 _ hd, ?window⟩,
    fun e x s hd hx hn => State.runIn_to hd (window_idle hx hn) rfl rfl rfl,
    fun p s hd => ⟨framed s (chBlock p s), State.runIn_on s 3 _ hd, chBlock_shows p s⟩,
    fun p s hd hon hbr => ?cut, fun ppm s hd => ⟨framed s (chClk ppm s), State.runIn_on s 3 _ hd, ?clk⟩,
    fun s hd => ⟨framed s (chSupply s), State.runIn_on s 3 _ hd, ?supply⟩,
    fun s hd hbad => State.runIn_to hd (if_pos hbad) rfl rfl rfl,
    fun same s hd => ⟨framed s (chTable same s), State.runIn_on s 3 _ hd, ?table⟩⟩
  case window =>
    cases opens with
    | true =>
      rw [window_opens hx hn]
      exact window_shows s e.toNat x.chmask _ _
    | false =>
      rw [window_closes hx]
      exact window_shows s e.toNat x.chmask [] false
  case cut =>
    exact State.runIn_to (f := fun s => if s.portOn p && s.bridges (p / 2) then (s.inc CH_CNT_FWD_CUT).setPort p { s.port p with fwd := [], fwdLine := [] } else s)
      hd (if_pos (by simp [hon, hbr])) rfl rfl rfl
  case clk =>
    obtain ⟨hok, hfreq, hcl⟩ := s.clkShown_shows ppm
    obtain ⟨hbad, hgood, hkeep⟩ := closeOn_shows (s.clkShown ppm) 0x2A4 (decide (200 < ppm.natAbs)) s.cn.clkBad _ (chClk_eq ppm s)
    refine ⟨?_, ?_, fun h => hbad (decide_eq_true h), fun h => (hgood (decide_eq_false (by omega))).trans hcl⟩
    · exact (State.on_of_f (hkeep CHN_STAT_CLK_OK (by decide) (by decide) (by decide) (by decide) (by decide))).trans hok
    · exact (State.fI_of_f (hkeep CH_FREQ_DEV_PPM (by decide) (by decide) (by decide) (by decide) (by decide))).trans hfreq
  case supply =>
    obtain ⟨_, hopen, _⟩ := charonClose_shows (s.withCn { s.cn with railBad := true })
    obtain ⟨hcn, hflt, _, _⟩ := charonClose_rest (s.withCn { s.cn with railBad := true })
    have hrail : (charonClose (s.withCn { s.cn with railBad := true })).cn.railBad = true := by rw [hcn]; rfl
    exact ⟨hrail, charonClose_closed _, hopen, hflt⟩
  case table =>
    have hok : (s.tableShown same).on CHN_STAT_TABLE_OK = same := by
      rw [State.tableShown, State.withCn_on, State.on_setB_same _ _ _ (by decide) rfl]
    obtain ⟨hbad, _, hkeep⟩ := closeOn_shows (s.tableShown same) 0x2A6 (!same) s.cn.tableBad _ (chTable_eq same s)
    refine ⟨(State.on_of_f (hkeep CHN_STAT_TABLE_OK (by decide) (by decide) (by decide) (by decide) (by decide))).trans hok, ?_,
      fun h => hbad (by rw [h]; rfl)⟩
    rw [framed_cn, chTable_eq]
    cases same with
    | true => rfl
    | false =>
      obtain ⟨hcn, _, _, _⟩ := charonClose_rest (s.tableShown false)
      rw [if_pos (show (!false) = true from rfl)]
      split
      · rw [hcn]
        rfl
      · rw [State.raiseU_cn, hcn]
        rfl

end Sys2Proof.Machine
end

section
/-!
PROOFS. The safety layer (R344-R350): what a sealed PDU carries, and what sequence and freshness decide.
-/
namespace Sys2Proof.Machine

/-! ### The PDU as it is sealed (R344-R346) -/

theorem crc32c_lt (bs : List Nat) : crc32c bs < 2 ^ 32 := Nat.xor_lt_two_pow (crcLsb_lt (by decide) (by decide) bs (by decide)) (by decide)

theorem length_padTo (n : Nat) (l : List Nat) : (padTo n l).length = n := by simp [padTo]

/-- Header and data of a PDU, before its CRC. -/
def pduBody (node conn seq tSend dl : Nat) (data : List Nat) : List Nat :=
  bytesBE 2 node ++ bytesBE 2 conn ++ bytesBE 2 seq ++ bytesBE 4 tSend ++ bytesBE 2 dl ++ data

/-- A whole PDU. -/
def pduBytes (node conn seq tSend dl : Nat) (data : List Nat) : List Nat :=
  pduBody node conn seq tSend dl data ++ bytesBE 4 (crc32c (pduBody node conn seq tSend dl data))

section PduBytes
variable (node conn seq tSend dl : Nat) (data : List Nat)

theorem length_pduBody : (pduBody node conn seq tSend dl data).length = 12 + data.length := by
  simp only [pduBody, List.length_append, length_bytesBE]

theorem length_pduBytes : (pduBytes node conn seq tSend dl data).length = 16 + data.length := by
  rw [pduBytes, List.length_append, length_pduBody, length_bytesBE]
  omega

theorem pduBytes_fields : fieldAt (pduBytes node conn seq tSend dl data) 0 2 = node % 2 ^ 16 ∧
    fieldAt (pduBytes node conn seq tSend dl data) 2 2 = conn % 2 ^ 16 ∧ fieldAt (pduBytes node conn seq tSend dl data) 4 2 = seq % 2 ^ 16 := by
  refine ⟨fieldAt_of_split (a := []) (c := bytesBE 2 conn ++ bytesBE 2 seq ++ bytesBE 4 tSend ++ bytesBE 2 dl ++ data ++ bytesBE 4 (crc32c (pduBody node conn seq tSend dl data))) ?_ rfl,
    fieldAt_of_split (a := bytesBE 2 node) (c := bytesBE 2 seq ++ bytesBE 4 tSend ++ bytesBE 2 dl ++ data ++ bytesBE 4 (crc32c (pduBody node conn seq tSend dl data))) ?_ (length_bytesBE 2 node),
    fieldAt_of_split (a := bytesBE 2 node ++ bytesBE 2 conn) (c := bytesBE 4 tSend ++ bytesBE 2 dl ++ data ++ bytesBE 4 (crc32c (pduBody node conn seq tSend dl data))) ?_ (by simp)⟩ <;>
    simp [pduBytes, pduBody, List.append_assoc]

theorem pduBytes_crc : let p := pduBytes node conn seq tSend dl data
    crc32c (p.take (p.length - 4)) = fieldAt p (p.length - 4) 4 := by
  intro p
  have hlen : p.length - 4 = (pduBody node conn seq tSend dl data).length := by
    rw [length_pduBytes, length_pduBody]
    omega
  have hcrc : fieldAt p (p.length - 4) 4 = crc32c (pduBody node conn seq tSend dl data) % 2 ^ (8 * 4) :=
    fieldAt_of_split (a := pduBody node conn seq tSend dl data) (c := []) (by simp [p, pduBytes]) hlen.symm
  rw [hcrc, hlen, Nat.mod_eq_of_lt (crc32c_lt _)]
  exact congrArg crc32c (List.take_left' rfl)

theorem pduBytes_data : ((pduBytes node conn seq tSend dl data).drop 12).take ((pduBytes node conn seq tSend dl data).length - 16) = data := by
  have hhead : (bytesBE 2 node ++ bytesBE 2 conn ++ bytesBE 2 seq ++ bytesBE 4 tSend ++ bytesBE 2 dl).length = 12 := by simp
  rw [length_pduBytes, Nat.add_sub_cancel_left, pduBytes, pduBody, List.append_assoc _ data, List.drop_left' hhead, List.take_left' rfl]

end PduBytes

/-- A fresh buffer of an entry with a connection is sealed with the node, the connection and the next number. -/
theorem sealPdu_sealed {s : State} {e : SchE} {k : Nat} (hk : s.txConn e = some k) (hf : (s.tx e.idx).fresh = true) :
    ((sealPdu e s).tx e.idx).pdu = pduBytes s.nodeId (s.f (SL_CONN1_CONN k)) ((s.f (SL_CST_SEQ k) + 1) % 65536)
      ((s.tx e.idx).tickNs / 10 % 2 ^ 32) (s.f (SL_CONN2_DL k)) (padTo (e.pduLen - 16) ((s.tx e.idx).cur.getD [])) := by
  unfold sealPdu
  rw [if_neg (by simp [hf])]
  simp only [hk]
  exact congrArg TxSt.pdu (smGet_smPut_same _ _ _ _)

/-- A PDU passes the checks of a connection that names its node and its number. -/
theorem check24_pduBytes {r : State} {j node conn seq tSend dl : Nat} {data : List Nat} (hlen : dataLen (r.connType j) ≤ data.length)
    (hn : node < 2 ^ 16) (hc : conn < 2 ^ 16) (hsrc : r.f (SL_CONN1_SRC j) = node) (hconn : r.f (SL_CONN1_CONN j) = conn) :
    r.check24 j (pduBytes node conn seq tSend dl data) = none := by
  obtain ⟨h0, h2, _⟩ := pduBytes_fields node conn seq tSend dl data
  rw [State.check24, if_neg (by rw [length_pduBytes]; omega), if_neg (not_not.mpr (pduBytes_crc node conn seq tSend dl data)), if_neg]
  rw [h0, h2, Nat.mod_eq_of_lt hn, Nat.mod_eq_of_lt hc, hsrc, hconn]
  simp

/-- Settles O36: by the bytes of the sealed PDU. -/
theorem sealedPdusPassTheirChecks : Obligations.SealedPdusPassTheirChecks := by
  intro s r e k j hk hf hlen hsrc hconn
  simp only [sealPdu_sealed hk hf]
  have hpad := length_padTo (e.pduLen - 16) ((s.tx e.idx).cur.getD [])
  have hseq := (pduBytes_fields s.nodeId (s.f (SL_CONN1_CONN k)) ((s.f (SL_CST_SEQ k) + 1) % 65536) ((s.tx e.idx).tickNs / 10 % 2 ^ 32)
    (s.f (SL_CONN2_DL k)) (padTo (e.pduLen - 16) ((s.tx e.idx).cur.getD []))).2.2
  refine ⟨?_, check24_pduBytes (by rw [hpad]; omega) (s.f_lt SIT_ID_NODE_ID) (s.f_lt (SL_CONN1_CONN k)) hsrc hconn, ?_, pduBytes_data _ _ _ _ _ _⟩
  · rw [length_pduBytes, hpad]
    omega
  · rw [hseq]
    omega

/-! ### Sequence and freshness (R349, R350) -/

@[simp] theorem State.setConn_f (s : State) (k : Nat) (v : ConnSt) (x : Fld) : (s.setConn k v).f x = s.f x := (rfl)
@[simp] theorem State.setConn_on (s : State) (k : Nat) (v : ConnSt) (x : Fld) : (s.setConn k v).on x = s.on x := (rfl)

theorem State.withSl_regs (s : State) (v : SlSt) : ({ s with sl := v } : State).regs = s.regs := rfl

theorem present_regs (ty : Nat) (d : List Nat) (s : State) : (present ty d s).regs = s.regs := by
  unfold present
  split <;> rfl

/-- What accepted data does is seen by its consumers, not in the connections' registers. -/
theorem consume_changes (k cycle : Nat) (d : List Nat) (s : State) : ChangesOnly (fun a => a / 0x400 = 0x060 ∨ a / 0x400 = 0x061) s (consume k cycle d s) := by
  have hself := ChangesOnly.refl (fun a => a / 0x400 = 0x060 ∨ a / 0x400 = 0x061) s
  unfold consume State.when
  split
  · exact (hself.set BLD_STAT_CMD_CLIP _ (.inl rfl)).of_regs (State.withSl_regs _ _)
  · refine ChangesOnly.of_regs (ChangesOnly.set (ChangesOnly.of_ite ?_ hself) STR_CMD_ANGLE _ (.inr rfl)) (State.withSl_regs _ _)
    exact (hself.set STR_STAT_CLIPPED _ (.inr rfl)).of_regs rfl
  · exact hself.of_regs ((present_regs _ _ _).trans (State.withSl_regs _ _))
  · exact (hself.set BLD_STAT_CMD_CLIP _ (.inl rfl)).of_regs (present_regs _ _ _)
  · exact hself.of_regs (present_regs _ _ _)

/-- The number of a PDU taken, and whether the connection runs. -/
def State.numbered (s : State) (k seq : Nat) (run : Bool) : State := (s.set (SL_CST_SEQ k) seq).setB (SL_CST_RUN k) run

theorem State.numbered_shows (s : State) (k : Nat) {seq : Nat} (run : Bool) (hs : seq < 65536) :
    (s.numbered k seq run).on (SL_CST_RUN k) = run ∧ (s.numbered k seq run).f (SL_CST_SEQ k) = seq ∧ (s.numbered k seq run).sl = s.sl := by
  refine ⟨State.on_setB_same _ _ _ (Fld.fits rfl) rfl, ?_, by simp [State.numbered, State.setB_eq]⟩
  rw [State.numbered, State.setB_eq, State.f_set_disjoint _ (SL_CST_RUN k) (SL_CST_SEQ k) _ rfl, State.f_set_fits _ _ _ (Fld.fits rfl) hs]

section Accept
variable {k cycle : Nat} {p : List Nat} {s : State} (htime : -100 ≤ s.pduAge (fieldAt p 6 4))
include htime

theorem accept_first (hr : (s.conn k).hasRef = false) :
    accept k cycle p s = (s.setConn k { s.conn k with hasRef := true }).set (SL_CST_SEQ k) (fieldAt p 4 2) := by
  rw [accept, if_neg (by omega), if_pos (by rw [hr]; rfl)]

variable (hr : (s.conn k).hasRef = true)
include hr

theorem accept_repeat (hd : (fieldAt p 4 2 + 65536 - s.f (SL_CST_SEQ k)) % 65536 = 0) : accept k cycle p s = s.inc SL_CNT_B_DUP := by
  rw [accept, if_neg (by omega), if_neg (by simp [hr])]
  exact if_pos hd

theorem accept_jump (hd : 8 < (fieldAt p 4 2 + 65536 - s.f (SL_CST_SEQ k)) % 65536) : accept k cycle p s =
    if s.on (SL_CST_RUN k) then ((s.numbered k (fieldAt p 4 2) false).inc SL_CNT_B_SEQ).raise 0x2C2 k else s.numbered k (fieldAt p 4 2) false := by
  rw [accept, if_neg (by omega), if_neg (by simp [hr])]
  exact (if_neg (by omega)).trans (if_pos hd)

theorem accept_within (h1 : 1 ≤ (fieldAt p 4 2 + 65536 - s.f (SL_CST_SEQ k)) % 65536) (h8 : (fieldAt p 4 2 + 65536 - s.f (SL_CST_SEQ k)) % 65536 ≤ 8)
    (hfresh : s.fresh8 k (fieldAt p 6 4) (fieldAt p 10 2) = true) : ∃ v : ConnSt, v.acc = some ((p.drop 12).take (p.length - 16)) ∧
      accept k cycle p s = (consume k cycle ((p.drop 12).take (p.length - 16)) (s.numbered k (fieldAt p 4 2) true)).setConn k v := by
  rw [accept, if_neg (by omega), if_neg (by simp [hr])]
  exact ⟨_, rfl, (if_neg (by omega)).trans ((if_neg (by omega)).trans (if_neg (by rw [hfresh]; decide)))⟩

end Accept

theorem slCst_page {k : Nat} (hk : k < 32) : SL_CST_A k / 0x400 = 0x047 ∧ SL_CST_A k ≠ SL_CNT_B_A := by
  unfold SL_CST_A SL_CNT_B_A
  omega

/-- Settles O37: by the number against the reference, and by the age. -/
theorem sequenceDecidesAcceptance : Obligations.SequenceDecidesAcceptance := by
  intro k cycle p s hk htime hseq
  obtain ⟨hpage, hne⟩ := slCst_page hk
  refine ⟨accept_first htime, accept_repeat htime, fun hr hd => ?jump, fun hr h1 h8 hfresh => ?within⟩
  case jump =>
    obtain ⟨hrun, hs, hsl⟩ := s.numbered_shows k false hseq
    rw [accept_jump htime hr hd]
    split
    · rw [State.raise_on, State.raise_f, State.raise_sl, State.inc_eq, State.on_set_ne _ SL_CNT_B_SEQ (SL_CST_RUN k) _ hne,
        State.f_set_ne _ SL_CNT_B_SEQ (SL_CST_SEQ k) _ hne, State.set_sl]
      exact ⟨hrun, hs, hsl⟩
    · exact ⟨hrun, hs, hsl⟩
  case within =>
    obtain ⟨hrun, hs, _⟩ := s.numbered_shows k true hseq
    obtain ⟨v, hv, e⟩ := accept_within (cycle := cycle) htime hr h1 h8 hfresh
    have hcons := consume_changes k cycle ((p.drop 12).take (p.length - 16)) (s.numbered k (fieldAt p 4 2) true)
    rw [e, State.setConn_on, State.setConn_f]
    refine ⟨(State.on_of_f (hcons.f (SL_CST_RUN k) ?_)).trans hrun, (hcons.f (SL_CST_SEQ k) ?_).trans hs, ?_⟩
    · show ¬ (SL_CST_A k / 0x400 = 0x060 ∨ SL_CST_A k / 0x400 = 0x061)
      omega
    · show ¬ (SL_CST_A k / 0x400 = 0x060 ∨ SL_CST_A k / 0x400 = 0x061)
      omega
    · rw [← hv]
      exact congrArg ConnSt.acc (smGet_smPut_same _ _ _ _)

end Sys2Proof.Machine
end

section
/-!
PROOFS. Frames of the Sitil network (R311-R320, R324, R326, R336): what sending and hearing a frame write.
-/
namespace Sys2Proof.Machine

/-! ### The grid that frames stand in (R34, R320) -/

/-- The instants of cycles and entries depend on the tick number, the configuration's old words, and the TICK page. -/
structure SameGrid (s t : State) : Prop where
  tickNo : t.tickNo = s.tickNo
  engOld : t.engOld = s.engOld
  word : ∀ a, a / 0x400 = 0x004 → t.word a = s.word a

section SameGrid
variable {s t : State} (h : SameGrid s t)
include h

theorem SameGrid.cycNo : t.cycNo = s.cycNo := by
  rw [State.cycNo, State.cycNo, State.cycleTicks, State.cycleTicks, State.e_congr _ h.engOld (h.word _ (by decide)), h.tickNo]

theorem SameGrid.cycle : t.cycle = s.cycle := by rw [State.cycle, State.cycle, h.cycNo]

theorem SameGrid.tNs : t.tNs = s.tNs := by
  have hlen : t.f TICK_STAT_LEN_ACT = s.f TICK_STAT_LEN_ACT := by rw [State.f, State.f, h.word _ (by decide)]
  rw [State.tNs, State.tNs, hlen]

theorem SameGrid.sched16 (e : SchE) (n : Nat) : t.sched16 e n = s.sched16 e n := by
  rw [State.sched16, State.sched16, State.cycleStart16, State.cycleStart16, State.cycleNs, State.cycleNs, State.cycleTicks, State.cycleTicks,
    State.phaseNs, State.phaseNs, State.e_congr _ h.engOld (h.word TICK_CFG_CYCLE_TICKS.addr (by decide)),
    State.e_congr _ h.engOld (h.word TICK_PHASE_PHASE_NS.addr (by decide)), h.tNs]

end SameGrid

/-! ### The PDU of an own entry (R333, R344, R456) -/

/-- Sealing, or taking a reply, changes connection and host registers; grid, Charon and the ports are as they were. -/
structure PduOnly (s t : State) : Prop where
  regs : ChangesOnly (fun a => a / 0x400 = 0x047 ∨ a / 0x400 = 0x001) s t
  tickNo : t.tickNo = s.tickNo
  engOld : t.engOld = s.engOld
  cn : t.cn = s.cn

section PduOnly
variable {s t : State}

theorem PduOnly.refl (s : State) : PduOnly s s := ⟨ChangesOnly.refl _ s, rfl, rfl, rfl⟩

theorem PduOnly.setTx (h : PduOnly s t) (e : Nat) (v : TxSt) : PduOnly s (t.setTx e v) := ⟨h.regs.of_regs (t.setTx_regs e v), h.tickNo, h.engOld, h.cn⟩

theorem PduOnly.grid (h : PduOnly s t) : SameGrid s t := ⟨h.tickNo, h.engOld, fun a ha => h.regs a (by omega)⟩

theorem PduOnly.of_ite {c : Prop} [Decidable c] {r : State} (h : PduOnly s t) (k : PduOnly s r) : PduOnly s (if c then t else r) := by
  split
  · exact h
  · exact k

theorem txConn_lt {e : SchE} {k : Nat} (h : s.txConn e = some k) : k < 32 := List.mem_range.mp (List.mem_of_find?_eq_some h)

theorem sealPdu_pduOnly (e : SchE) (s : State) : PduOnly s (sealPdu e s) := by
  unfold sealPdu
  dsimp only
  split
  · exact PduOnly.refl s
  · split
    · exact (PduOnly.refl s).setTx _ _
    · next k hk =>
      have hpage := (slCst_page (txConn_lt hk)).1
      refine PduOnly.setTx ⟨(ChangesOnly.refl _ s).set (SL_CST_SEQ k) _ (.inl hpage), ?_, ?_, ?_⟩ _ _ <;> simp

theorem State.withHp_keeps (s : State) (v : HostSt) : ({ s with hp := v } : State).regs = s.regs ∧ ({ s with hp := v } : State).tickNo = s.tickNo ∧
    ({ s with hp := v } : State).engOld = s.engOld ∧ ({ s with hp := v } : State).cn = s.cn := ⟨rfl, rfl, rfl, rfl⟩

theorem remotePdu_pduOnly (e : SchE) (s : State) : PduOnly s (remotePdu e s) := by
  unfold remotePdu
  dsimp only
  split
  · exact (PduOnly.refl s).setTx _ _
  · split
    · exact (PduOnly.refl s).setTx _ _
    · next r rs _ _ =>
      obtain ⟨h1, h2, h3, h4⟩ := s.withHp_keeps { s.hp with replies := rs }
      refine PduOnly.setTx ⟨?_, ?_, ?_, ?_⟩ _ _
      · exact ((ChangesOnly.refl _ s).of_regs h1).set HP_STAT_REMOTE _ (.inr rfl)
      · simp
      · simp
      · simp

end PduOnly

/-! ### A frame on a port (R318, R320, R336) -/

/-- What sending on port p may change beside its own count: its other counters, and what Charon blocked. -/
def sendRegs (p : Nat) : List Nat := [SP_FWD_A p, SP_ERR2_A p, CH_BLK_01_A, CH_BLK_23_A]

theorem portRegs_ne (p q : Nat) : SP_TX_A p ∉ sendRegs q ∨ 4 ≤ p := by
  simp only [sendRegs, SP_TX_A, SP_FWD_A, SP_ERR2_A, CH_BLK_01_A, CH_BLK_23_A, List.mem_cons, List.not_mem_nil, or_false, not_or]
  omega

theorem chnStat_ne (q : Nat) : CHN_STAT_A ∉ SP_TX_A q :: sendRegs q ∨ 4 ≤ q := by
  simp only [sendRegs, SP_TX_A, SP_FWD_A, SP_ERR2_A, CH_BLK_01_A, CH_BLK_23_A, CHN_STAT_A, List.mem_cons, List.not_mem_nil, or_false, not_or]
  omega

theorem clash_changes (q : Nat) (s : State) : SameRegsBut [SP_ERR2_A q] s (clash q s) ∧ (clash q s).cn = s.cn := by
  have hset : SameRegsBut [SP_ERR2_A q] s (s.inc (SP_ERR2_CLASH q)) := SameRegsBut.set_one s (SP_ERR2_CLASH q) _
  unfold clash
  dsimp only
  split
  · exact ⟨hset.of_regs rfl, rfl⟩
  · exact ⟨hset.of_regs rfl, rfl⟩

theorem cutForward_changes (p t0 : Nat) (s : State) : SameRegsBut (sendRegs p) s (cutForward p t0 s) ∧ (cutForward p t0 s).cn = s.cn := by
  unfold cutForward
  dsimp only
  split
  · obtain ⟨hregs, hcn⟩ := clash_changes p ((s.set (SP_FWD_FRAMES p) ((s.f (SP_FWD_FRAMES p) + (2 ^ 32 - 1)) % 2 ^ 32)).setPort p
      { s.port p with fwd := [], fwdLine := [], fwdTo := t0 })
    refine ⟨SameRegsBut.trans ?_ (hregs.mono (by simp [sendRegs])), hcn.trans (by simp [State.setPort])⟩
    exact SameRegsBut.of_regs ((SameRegsBut.refl _ s).set (SP_FWD_FRAMES p) _ (by simp [sendRegs, SP_FWD_FRAMES])) (State.setPort_regs _ _ _)
  · exact ⟨SameRegsBut.refl _ s, rfl⟩

theorem chBlock_cn (p : Nat) (s : State) : (chBlock p s).cn = s.cn := by
  rw [chBlock_eq]
  split <;> simp [State.blocked, State.inc_eq, State.setPort]

/-- Where an own frame has cut what was forwarded, and a drive outside a window is blocked. -/
def State.cleared (s : State) (p t0 t1 : Nat) : State :=
  if (cutForward p t0 s).inWindow p t0 t1 then cutForward p t0 s else chBlock p (cutForward p t0 s)

theorem State.cleared_changes (s : State) (p t0 t1 : Nat) : SameRegsBut (sendRegs p) s (s.cleared p t0 t1) ∧ (s.cleared p t0 t1).cn = s.cn := by
  obtain ⟨hcut, hcn⟩ := cutForward_changes p t0 s
  unfold State.cleared
  split
  · exact ⟨hcut, hcn⟩
  · exact ⟨hcut.trans ((chBlock_shows p _).2.2.mono (by simp [sendRegs])), (chBlock_cn p _).trans hcn⟩

theorem State.drives_congr {s t : State} (p t0 t1 : Nat) (hcn : t.cn = s.cn) (ho : t.f CHN_STAT_OPEN = s.f CHN_STAT_OPEN) :
    t.drives p t0 t1 = s.drives p t0 t1 := by
  rw [State.drives, State.drives, State.inWindow, State.inWindow, hcn, State.fbit_of_f ho]

theorem cutForward_drives {p : Nat} (hp : p < 4) (t0 a b : Nat) (s : State) : (cutForward p t0 s).drives p a b = s.drives p a b := by
  obtain ⟨hcut, hcn⟩ := cutForward_changes p t0 s
  have hne := (chnStat_ne p).resolve_right (by omega)
  exact State.drives_congr _ _ _ hcn (hcut.f CHN_STAT_OPEN fun h => hne (List.mem_cons_of_mem _ h))

/-- A frame on a port, by whether it goes out and is read back. -/
theorem sendPort_eq (p st t0 t1 : Nat) (rb : Bool) (s : State) : sendPort p st t0 t1 rb s =
    let out := (cutForward p t0 s).drives p t0 t1
    let t := if out then (s.cleared p t0 t1).incWrap (SP_TX_FRAMES p) else s.cleared p t0 t1
    if out && rb then t else (if st = 4 then (t.inc (SP_ERR2_RB p)).raiseU (0x290 + 4 * p) else t.inc (SP_ERR2_RB p)) := rfl

section SendPort
variable {p : Nat} (hp : p < 4) (st t0 t1 : Nat) (rb : Bool) (s : State)

theorem sendPort_changes : SameRegsBut (SP_TX_A p :: sendRegs p) s (sendPort p st t0 t1 rb s) ∧ (sendPort p st t0 t1 rb s).cn = s.cn := by
  obtain ⟨hcl, hcn⟩ := s.cleared_changes p t0 t1
  have hout : ∀ b : Bool, SameRegsBut (SP_TX_A p :: sendRegs p) s (if b then (s.cleared p t0 t1).incWrap (SP_TX_FRAMES p) else s.cleared p t0 t1) ∧
      (if b then (s.cleared p t0 t1).incWrap (SP_TX_FRAMES p) else s.cleared p t0 t1).cn = s.cn := fun b => by
    have hcl' : SameRegsBut (SP_TX_A p :: sendRegs p) s (s.cleared p t0 t1) := hcl.mono (by simp)
    cases b
    · exact ⟨hcl', hcn⟩
    · refine ⟨hcl'.set (SP_TX_FRAMES p) _ (by simp [SP_TX_FRAMES]), ?_⟩
      rw [if_pos rfl, State.incWrap_eq, State.set_cn, hcn]
  rw [sendPort_eq]
  dsimp only
  generalize (cutForward p t0 s).drives p t0 t1 = out
  obtain ⟨h1, h2⟩ := hout out
  generalize (if out = true then (s.cleared p t0 t1).incWrap (SP_TX_FRAMES p) else s.cleared p t0 t1) = t at *
  split
  · exact ⟨h1, h2⟩
  · have herr := h1.set (SP_ERR2_RB p) (satU 8 (t.f (SP_ERR2_RB p) + 1)) (by simp [sendRegs, SP_ERR2_RB])
    split
    · exact ⟨herr.of_regs (State.raiseU_regs _ _), by rw [State.raiseU_cn, State.inc_eq, State.set_cn, h2]⟩
    · exact ⟨herr, by rw [State.inc_eq, State.set_cn, h2]⟩

include hp in
/-- The frame counts on its port where Charon lets it drive. -/
theorem sendPort_counts : (sendPort p st t0 t1 rb s).f (SP_TX_FRAMES p) =
    if s.drives p t0 t1 = true then (s.f (SP_TX_FRAMES p) + 1) % 2 ^ 32 else s.f (SP_TX_FRAMES p) := by
  have hne := (portRegs_ne p p).resolve_right (by omega)
  have hcl : (s.cleared p t0 t1).f (SP_TX_FRAMES p) = s.f (SP_TX_FRAMES p) := (s.cleared_changes p t0 t1).1.f (SP_TX_FRAMES p) hne
  have herr : SP_TX_A p ≠ SP_ERR2_A p := fun e => hne (e ▸ by simp [sendRegs])
  rw [sendPort_eq, cutForward_drives hp]
  dsimp only
  have hout : (if s.drives p t0 t1 = true then (s.cleared p t0 t1).incWrap (SP_TX_FRAMES p) else s.cleared p t0 t1).f (SP_TX_FRAMES p) =
      if s.drives p t0 t1 = true then (s.f (SP_TX_FRAMES p) + 1) % 2 ^ 32 else s.f (SP_TX_FRAMES p) := by
    split
    · rw [State.f_incWrap_same _ _ (Fld.fits rfl), hcl]
      rfl
    · exact hcl
  rw [← hout]
  generalize (if s.drives p t0 t1 = true then (s.cleared p t0 t1).incWrap (SP_TX_FRAMES p) else s.cleared p t0 t1) = t
  split
  · rfl
  · split
    · rw [State.raiseU_f, State.f_inc_ne _ (SP_ERR2_RB p) (SP_TX_FRAMES p) herr]
    · rw [State.f_inc_ne _ (SP_ERR2_RB p) (SP_TX_FRAMES p) herr]

end SendPort

/-! ### Sending (R320, R327) -/

/-- The frame goes out on every port; each counts it where it drives. -/
theorem sendPorts_counts {l : List Nat} (hnd : l.Nodup) (hl : ∀ p ∈ l, p < 4) (t0 t1 : Nat) (rb : Nat → Bool) (s : State) {p : Nat} (hp : p ∈ l) :
    (s.each l (fun p => sendPort p 4 t0 t1 (rb p))).f (SP_TX_FRAMES p) =
      if s.drives p t0 t1 = true then (s.f (SP_TX_FRAMES p) + 1) % 2 ^ 32 else s.f (SP_TX_FRAMES p) := by
  refine State.each_once (fun t => t.f (SP_TX_FRAMES p) = s.f (SP_TX_FRAMES p) ∧ t.drives p t0 t1 = s.drives p t0 t1)
    (fun t => t.f (SP_TX_FRAMES p) = if s.drives p t0 t1 = true then (s.f (SP_TX_FRAMES p) + 1) % 2 ^ 32 else s.f (SP_TX_FRAMES p)) s hp hnd
    (fun q hq hqp t ht => ?_) (fun q hq hqp t ht => ?_) (fun t ht => ?_) ⟨rfl, rfl⟩
  case refine_3 =>
    obtain ⟨hf, hdr⟩ := ht
    rw [sendPort_counts (hl p hp), hdr, hf]
  all_goals
    have hpl := hl p hp
    have hql := hl q hq
    have hne := (portRegs_ne p q).resolve_right (by omega)
    have hstat := (chnStat_ne q).resolve_right (by omega)
    obtain ⟨hregs, hcn⟩ := sendPort_changes (p := q) 4 t0 t1 (rb q) t
    have hkeep : (sendPort q 4 t0 t1 (rb q) t).f (SP_TX_FRAMES p) = t.f (SP_TX_FRAMES p) := by
      refine hregs.f (SP_TX_FRAMES p) fun h => ?_
      rcases List.mem_cons.mp h with h | h
      · change SP_TX_A p = SP_TX_A q at h
        unfold SP_TX_A at h
        omega
      · exact hne h
  · exact ⟨hkeep.trans ht.1, (State.drives_congr _ _ _ hcn (hregs.f CHN_STAT_OPEN hstat)).trans ht.2⟩
  · exact hkeep.trans ht

section OwnFrame
variable (s : State) (idx c : Nat) (x : SchE)

/-- The entry's PDU in place: sealed, or a reply taken, once in a cycle. -/
def State.pduReady : State :=
  if (s.tx idx).cycle == some s.cycNo then s else if x.kind = 4 then remotePdu x s else sealPdu x s

/-- The age that the entry's frame carries. -/
def State.ownAge : Nat :=
  if (s.tx idx).cycle == some s.cycNo then ((s.pduReady idx x).tx idx).age
  else if ((s.pduReady idx x).tx idx).fresh then 0 else min 15 (((s.pduReady idx x).tx idx).age + 2 ^ x.mux)

/-- No own data has been written since the channel became ACTIVE. -/
def State.ownNull : Bool := x.kind != 4 && !bitOf ((s.pduReady idx x).tx idx).ever c

/-- The frame of the entry. -/
def State.ownFrame : Frame :=
  { node := (s.pduReady idx x).nodeId, slot := idx, ver := 1, cycle := (s.pduReady idx x).cycle, age := s.ownAge idx x, bcast := false
    sync := s.chState c == 4 && x.sync, cstart := s.chState c == 2, null := s.ownNull idx c x, len := x.len
    payload := (if x.sync then bytesBE 4 ((s.pduReady idx x).f SIT_SCRC_SCHED_CRC) ++ bytesBE 4 (s.pduReady idx x).timeWord else []) ++
      (if s.ownNull idx c x then List.replicate x.pduLen 0 else padTo x.pduLen ((s.pduReady idx x).tx idx).pdu)
    corr := 0 }

/-- The state that the ports send from. -/
def State.sendReady : State :=
  (s.pduReady idx x).setTx idx { (s.pduReady idx x).tx idx with age := s.ownAge idx x, fresh := false, cycle := some (s.pduReady idx x).cycNo }

theorem State.sendReady_pduOnly : PduOnly s (s.sendReady idx x) :=
  PduOnly.setTx (PduOnly.of_ite (PduOnly.refl s) (PduOnly.of_ite (remotePdu_pduOnly x s) (sealPdu_pduOnly x s))) _ _

/-- The frame sent on every port of the channel. -/
def State.sentOn (rb0 rb1 : Bool) : State :=
  let u := s.sendReady idx x
  u.each (s.chPorts c) (fun p => sendPort p (s.chState c) (u.sched16 x u.cycNo) (u.sched16 x u.cycNo + 16 * frameNs x.len)
    (!u.fbit PWR_PAD_HELD 14 && (if p % 2 = 0 then rb0 else rb1)))

end OwnFrame

/-- An own entry that is due on an ACTIVE channel: its frame goes to the ports and stays as what the channel sent last. -/
theorem frameSend_due {idx c : Nat} {x : SchE} (rb0 rb1 : Bool) {s : State} (hx : s.ownEntries.find? (fun y => y.idx == idx) = some x)
    (hon : x.onCh c = true) (hact : x.activeIn s.cycNo = true) (hports : s.chPorts c ≠ []) (hst : s.chState c = 4) :
    frameSend idx c rb0 rb1 s = (s.sentOn idx c x rb0 rb1).setChan c { (s.sentOn idx c x rb0 rb1).chan c with
      out := (s.ownFrame idx c x).bytes true, line := lineOf ((s.ownFrame idx c x).bytes true)
      ownFrom := (s.sendReady idx x).sched16 x (s.sendReady idx x).cycNo
      ownTo := (s.sendReady idx x).sched16 x (s.sendReady idx x).cycNo + 16 * frameNs x.len } := by
  have hdue : (x.onCh c && x.activeIn s.cycNo && s.chPorts c != [] && (s.chState c == 4 || (s.chState c == 2 && x.kind == 3))) = true := by
    simp [hon, hact, hports, hst]
  unfold frameSend
  rw [hx]
  exact (if_neg (by rw [hdue]; decide)).trans (if_neg fun h => absurd (hst.symm.trans h.1) (by decide))

theorem chPorts_facts (s : State) {c : Nat} (hc : c < 2) : (s.chPorts c).Nodup ∧ ∀ p ∈ s.chPorts c, p < 4 := by
  refine ⟨List.Nodup.filter _ (by simp), fun p hp => ?_⟩
  have hmem := (List.mem_filter.mp hp).1
  simp only [List.mem_cons, List.not_mem_nil, or_false] at hmem
  omega

theorem frameSend_shows {idx c : Nat} (hc : c < 2) {x : SchE} (rb0 rb1 : Bool) {s : State} (hx : s.ownEntries.find? (fun y => y.idx == idx) = some x)
    (hon : x.onCh c = true) (hact : x.activeIn s.cycNo = true) (hports : s.chPorts c ≠ []) (hst : s.chState c = 4) :
    ∃ f : Frame, ((frameSend idx c rb0 rb1 s).chan c).out = f.bytes true ∧ ((frameSend idx c rb0 rb1 s).chan c).line = lineOf (f.bytes true) ∧
      f.node = s.nodeId ∧ f.slot = idx ∧ f.ver = 1 ∧ f.cycle = s.cycle ∧ f.len = x.len ∧ f.cstart = false ∧ f.bcast = false ∧ f.corr = 0 ∧
      f.sync = x.sync ∧ ∀ p ∈ s.chPorts c, (frameSend idx c rb0 rb1 s).f (SP_TX_FRAMES p) =
        if s.drives p (s.sched16 x s.cycNo) (s.sched16 x s.cycNo + 16 * frameNs x.len) = true
          then (s.f (SP_TX_FRAMES p) + 1) % 2 ^ 32 else s.f (SP_TX_FRAMES p) := by
  have hu := s.sendReady_pduOnly idx x
  have hready : PduOnly s (s.pduReady idx x) := PduOnly.of_ite (PduOnly.refl s) (PduOnly.of_ite (remotePdu_pduOnly x s) (sealPdu_pduOnly x s))
  obtain ⟨hnd, hlt⟩ := chPorts_facts s hc
  rw [frameSend_due rb0 rb1 hx hon hact hports hst, State.setChan_chan_same]
  refine ⟨s.ownFrame idx c x, rfl, rfl, hready.regs.f SIT_ID_NODE_ID (by decide), rfl, rfl, hready.grid.cycle, rfl, ?_, rfl, rfl, ?_, fun p hp => ?_⟩
  · rw [State.ownFrame, hst]
    rfl
  · rw [State.ownFrame, hst]
    exact Bool.true_and _
  · have hpl := hlt p hp
    have hpage : ¬ (SP_TX_A p / 0x400 = 0x047 ∨ SP_TX_A p / 0x400 = 0x001) := by
      unfold SP_TX_A
      omega
    have hgrid := hu.grid
    rw [State.setChan_f, State.sentOn, hst, sendPorts_counts hnd hlt _ _ _ _ hp, hgrid.cycNo, hgrid.sched16,
      State.drives_congr p _ _ hu.cn (hu.regs.f CHN_STAT_OPEN (by decide)), hu.regs.f (SP_TX_FRAMES p) hpage]

/-! ### Hearing a frame (R316, R318, R324) -/

@[simp] theorem heard_regs (c start : Nat) (s : State) : (heard c start s).regs = s.regs := s.setChan_regs _ _
@[simp] theorem heard_f (c start : Nat) (s : State) (x : Fld) : (heard c start s).f x = s.f x := s.setChan_f _ _ x

theorem fillBytes_regs (l : List (Option Nat)) (s : State) : (fillBytes l s).2.regs = s.regs := by
  induction l generalizing s with
  | nil => rfl
  | cons a l ih =>
    cases a with
    | some x => exact ih s
    | none => exact ih s.fresh.2

/-- Forwarding writes the counters of the channel's other port. -/
theorem forward_changes (p : Nat) (g : List Nat) (start res : Nat) (s : State) :
    SameRegsBut [SP_ERR2_A (if p % 2 = 0 then p + 1 else p - 1), SP_FWD_A (if p % 2 = 0 then p + 1 else p - 1)] s (forward p g start res s) := by
  unfold forward
  extract_lets c q x from_ till b out t
  show SameRegsBut [SP_ERR2_A q, SP_FWD_A q] s _
  clear_value q
  split
  · exact SameRegsBut.refl _ s
  · split
    · exact (clash_changes q s).1.mono (by simp)
    · have hfill : SameRegsBut [SP_ERR2_A q, SP_FWD_A q] s t := SameRegsBut.of_regs (SameRegsBut.refl _ s) (fillBytes_regs _ s)
      exact SameRegsBut.of_regs (hfill.set (SP_FWD_FRAMES q) _ (by simp [SP_FWD_FRAMES])) (State.setPort_regs _ _ _)

theorem heard_forward_changes (p : Nat) (g : List Nat) (start res : Nat) (s : State) :
    SameRegsBut [SP_ERR2_A (if p % 2 = 0 then p + 1 else p - 1), SP_FWD_A (if p % 2 = 0 then p + 1 else p - 1)] s
      (forward p g start res (heard (p / 2) start s)) :=
  SameRegsBut.trans ((SameRegsBut.refl _ s).of_regs (heard_regs _ _ _)) (forward_changes p g start res _)

theorem forward_alone {p : Nat} {s : State} (g : List Nat) (start res : Nat) (hb : s.bridges (p / 2) = false) : forward p g start res s = s := by
  unfold forward
  exact if_pos (by simp [hb])

theorem portFail_regs (p : Nat) (s : State) : (portFail p s).regs = s.regs := by
  unfold portFail
  dsimp only
  split
  · rw [State.raiseU_regs, State.setPort_regs]
  · rw [State.setPort_regs]

theorem portFail_sit (p : Nat) (s : State) : (portFail p s).sit.rx = s.sit.rx ∧ (portFail p s).sit.buf = s.sit.buf := by
  unfold portFail
  dsimp only
  split
  · rw [State.raiseU_sit]
    exact ⟨rfl, rfl⟩
  · exact ⟨rfl, rfl⟩

theorem toListen_changes (c : Nat) (s : State) : SameRegsBut [SIT_STAT_A, SIT_CNT2_A] s (toListen c s) := by
  have hset : SameRegsBut [SIT_STAT_A, SIT_CNT2_A] s
      ((s.set (chStateF c) 1).setChan c { (s.set (chStateF c) 1).chan c with heardTb := (s.set (chStateF c) 1).tb }) :=
    SameRegsBut.of_regs ((SameRegsBut.refl _ s).set (chStateF c) 1 (by rw [(chStateF_place c).1]; simp)) (State.setChan_regs _ _ _)
  unfold toListen
  refine SameRegsBut.of_ite (hset.set _ _ ?_) hset
  split <;> simp [SIT_CNT2_REINT_X, SIT_CNT2_REINT_Y]

theorem integrateBad_changes (c : Nat) (s : State) : SameRegsBut [SIT_STAT_A, SIT_CNT2_A] s (integrateBad c s) := by
  unfold integrateBad
  exact SameRegsBut.of_ite (SameRegsBut.of_regs (toListen_changes c s) (freshChan_regs _ _)) (SameRegsBut.refl _ s)

/-- The counters of a port lie neither with the channel states nor with what forwarding to the other port counts. -/
theorem portErr_apart (p : Nat) : SP_ERR_A p ∉ [SIT_STAT_A, SIT_CNT2_A] ∧ SP_RX_A p ∉ [SIT_STAT_A, SIT_CNT2_A] ∧
    SP_ERR_A p ∉ [SP_ERR2_A (if p % 2 = 0 then p + 1 else p - 1), SP_FWD_A (if p % 2 = 0 then p + 1 else p - 1)] ∧
    SP_RX_A p ∉ [SP_ERR2_A (if p % 2 = 0 then p + 1 else p - 1), SP_FWD_A (if p % 2 = 0 then p + 1 else p - 1)] ∧ SP_RX_A p ≠ SP_ERR_A p := by
  simp only [SP_ERR_A, SP_RX_A, SIT_STAT_A, SIT_CNT2_A, SP_ERR2_A, SP_FWD_A, List.mem_cons, List.not_mem_nil, or_false, not_or]
  split <;> omega

/-- A failed frame ends INTEGRATE where it lay in the place of a SYNC or CSTART entry. -/
def failedAt (c start : Nat) (s : State) : State := if s.syncPlace c start then integrateBad c s else s

/-- A frame that fails counts in `x` of its port; the count of valid frames is as it was. -/
theorem failed_counts {p : Nat} {x : Fld} (hx : x.addr = SP_ERR_A p) (hfit : x.lo + x.width ≤ 32) {s u : State}
    (hu : SameRegsBut [SP_ERR2_A (if p % 2 = 0 then p + 1 else p - 1), SP_FWD_A (if p % 2 = 0 then p + 1 else p - 1)] s u) (c start : Nat) :
    (failedAt c start (portFail p (u.inc x))).f x = satU x.width (s.f x + 1) ∧
      (failedAt c start (portFail p (u.inc x))).f (SP_RX_FRAMES p) = s.f (SP_RX_FRAMES p) := by
  obtain ⟨herr, hrx, herr', hrx', hne⟩ := portErr_apart p
  have hfail : (portFail p (u.inc x)).f x = satU x.width (s.f x + 1) := by
    rw [State.f_congr (portFail_regs p _), State.f_inc_same _ _ hfit, hu.f x (by rw [hx]; exact herr')]
  have hkeep : (portFail p (u.inc x)).f (SP_RX_FRAMES p) = s.f (SP_RX_FRAMES p) := by
    rw [State.f_congr (portFail_regs p _), State.f_inc_ne _ x (SP_RX_FRAMES p) (by rw [hx]; exact hne), hu.f (SP_RX_FRAMES p) hrx']
  have hint : SameRegsBut [SIT_STAT_A, SIT_CNT2_A] (portFail p (u.inc x)) (failedAt c start (portFail p (u.inc x))) :=
    SameRegsBut.of_ite (integrateBad_changes c _) (SameRegsBut.refl _ _)
  exact ⟨(hint.f x (by rw [hx]; exact herr)).trans hfail, (hint.f (SP_RX_FRAMES p) hrx).trans hkeep⟩

section Receive
variable {p : Nat} {g : List Nat} {start res : Nat} {s : State} (hon : s.portOn p = true) (hst : s.chState (p / 2) ≠ 0)
include hon hst

theorem frameReceive_stopped (hx : s.xStopped (2 + p) = true) : frameReceive p g start res s = badFrame p s := by
  rw [frameReceive, if_neg (by simp [hon, hst]), if_pos hx]

variable (hx : s.xStopped (2 + p) = false)
include hx

/-- A frame whose code groups or length fail. -/
theorem frameReceive_garbled (hb : (codedBytes g).bind Frame.parse = none) : frameReceive p g start res s =
    failedAt (p / 2) start (portFail p ((forward p g start res (heard (p / 2) start s)).inc (SP_ERR_CODE p))) := by
  rw [frameReceive, if_neg (by simp [hon, hst]), if_neg (by simp [hx])]
  cases hc : codedBytes g with
  | none => rfl
  | some b =>
    rw [hc] at hb
    replace hb : Frame.parse b = none := hb
    simp only [hb]
    rfl

variable {b : List Nat} {f : Frame} (hb : codedBytes g = some b) (hf : Frame.parse b = some f)
include hb hf

theorem frameReceive_failed (hcrc : frameCrcOk b = false) : frameReceive p g start res s =
    failedAt (p / 2) start (portFail p ((forward p g start res (heard (p / 2) start s)).inc (SP_ERR_CRC p))) := by
  rw [frameReceive, if_neg (by simp [hon, hst]), if_neg (by simp [hx])]
  simp only [hb, hf, hcrc]
  rfl

omit hst in
theorem frameReceive_sound (hcrc : frameCrcOk b = true) (hact : s.chState (p / 2) = 4) (hbr : s.bridges (p / 2) = false) :
    frameReceive p g start res s = hearTimed p start f (heard (p / 2) start s) := by
  have hact' : (heard (p / 2) start s).chState (p / 2) = 4 := hact
  have hbr' : (heard (p / 2) start s).bridges (p / 2) = false := hbr
  rw [frameReceive, if_neg (by simp [hon, hact]), if_neg (by simp [hx])]
  simp only [hb, hf, hcrc, forward_alone g start res hbr', hact']
  rfl

end Receive

/-! ### A received entry kept (R326, R334) -/

@[simp] theorem State.setRx_regs (s : State) (e : Nat) (v : RxSt) : (s.setRx e v).regs = s.regs := (rfl)
theorem State.setRx_rx_same (s : State) (e : Nat) (v : RxSt) : (s.setRx e v).rx e = v := smGet_smPut_same _ _ _ _

theorem State.rx_congr {s t : State} (h : t.sit.rx = s.sit.rx) (e : Nat) : t.rx e = s.rx e := by rw [State.rx, State.rx, h]

theorem State.setChan_rx (s : State) (c : Nat) (v : ChanSt) (e : Nat) : (s.setChan c v).rx e = s.rx e := (rfl)

/-- What is kept of a frame. -/
def keptRx (e : SchE) (c : Nat) (f : Frame) : RxSt :=
  { payload := f.payload, age := f.age, null := f.null, valid := decide (f.age ≤ e.maxAge) && !f.null, ch := c + 1, cycle := f.cycle, got := true }

theorem keepRx_kept {e : SchE} {s : State} (c : Nat) (f : Frame) (hrx : e.rx = true) (hgot : (s.rx e.idx).got = false) :
    (keepRx e c f s).rx e.idx = keptRx e c f ∧ (keepRx e c f s).regs = s.regs := by
  unfold keepRx
  rw [if_neg (by simp [hrx])]
  dsimp only
  rw [if_neg (by simp [hgot])]
  split
  · exact ⟨State.setRx_rx_same _ _ _, rfl⟩
  · exact ⟨State.setRx_rx_same _ _ _, rfl⟩

theorem validFrame_shows (p : Nat) (e : SchE) (s : State) : (validFrame p e s).f (SP_RX_FRAMES p) = (s.f (SP_RX_FRAMES p) + 1) % 2 ^ 32 ∧
    (validFrame p e s).sit.rx = s.sit.rx := by
  have hne : SP_RX_A p ≠ SP_STAT_A p := by
    unfold SP_RX_A SP_STAT_A
    omega
  constructor
  · rw [validFrame, State.setPort_f, State.f_set_ne _ (SP_STAT_LAST_SLOT p) (SP_RX_FRAMES p) _ hne, State.f_incWrap_same _ _ (Fld.fits rfl)]
    rfl
  · rfl

/-- A frame of a received entry in its window, in a channel that keeps the node's timing. -/
theorem hearTimed_kept {p start : Nat} {f : Frame} {e : SchE} {s : State} (he : s.headerEntry (p / 2) f s.cycNo = some e) (hnode : f.node = e.sender)
    (hsync : e.sync = false) (hrx : e.rx = true) (hgot : (s.rx e.idx).got = false)
    (hdev : ((start : Int) - (f.corr : Nat) - (16 * (if p / 2 = 0 then s.f SIT_PROP_PROP_X else s.f SIT_PROP_PROP_Y) : Nat)
      - (s.sched16 e s.cycNo : Nat)).natAbs ≤ 160 * s.f SIT_CFG_ACC_WIN) :
    (hearTimed p start f s).rx e.idx = keptRx e (p / 2) f ∧ (hearTimed p start f s).f (SP_RX_FRAMES p) = (s.f (SP_RX_FRAMES p) + 1) % 2 ^ 32 := by
  have hsel : (s.headerEntry (p / 2) f s.cycNo).filter (fun e => f.node == e.sender) = some e := by simp [he, hnode]
  obtain ⟨hcnt, hkeep⟩ := validFrame_shows p e s
  unfold hearTimed
  simp only [hsel, hsync, Bool.false_eq_true, if_false, hrx, Bool.or_true, if_true]
  rw [if_neg (by omega)]
  have hgot' : (((validFrame p e s).setChan (p / 2) { (validFrame p e s).chan (p / 2) with rxAny := true }).rx e.idx).got = false := by
    rw [State.setChan_rx, State.rx_congr hkeep e.idx, hgot]
  obtain ⟨hrx', hregs⟩ := keepRx_kept (p / 2) f hrx hgot'
  exact ⟨hrx', by rw [State.f_congr hregs, State.setChan_f, hcnt]⟩

/-- Settles O32: sending by the entry that is due, hearing by the checks in their order. -/
theorem framesAreSentAndJudged : Obligations.FramesAreSentAndJudged := by
  refine ⟨fun e ch x s hd hx hon hact hports hst => ?send, fun e ch rb0 rb1 s hd hx => ?other, fun p g0 g start res s hd hoff => ?off,
    fun p g0 g start res s hd hon hst hx => ?stopped, fun p g0 g start res s hd hon hst hx hb => ?garbled,
    fun p g0 g b f start res s hd hon hx hst hb hf hcrc => ?failed,
    fun p g0 g b f e start res s hd hon hx hst hb hf hcrc hbr he hnode hsync hrx hgot => ?kept⟩
  case send =>
    obtain ⟨f, h⟩ := frameSend_shows ch.isLt true true hx hon hact hports hst
    exact ⟨framed s (frameSend e.toNat ch true true s), f, State.runIn_on s 3 _ hd, h⟩
  case other =>
    refine State.runIn_to (f := frameSend e.toNat ch rb0 rb1) hd ?_ rfl rfl rfl
    unfold frameSend
    rw [hx]
  case off =>
    refine State.runIn_to (f := frameReceive p ((g0 :: g).map BitVec.toNat) start res) hd (if_pos ?_) rfl rfl rfl
    rcases hoff with h | h
    · exact .inl (by rw [h]; rfl)
    · exact .inr h
  case stopped =>
    refine ⟨framed s (frameReceive p ((g0 :: g).map BitVec.toNat) start res s), State.runIn_on s 3 _ hd, ?_⟩
    obtain ⟨hrx, hbuf⟩ := portFail_sit p (s.inc (SP_ERR_CODE p))
    rw [State.inc_eq, State.set_sit] at hrx hbuf
    rw [frameReceive_stopped hon hst hx, framed_f, framed_sit, badFrame, State.f_congr (portFail_regs p _), State.f_inc_same _ _ (Fld.fits rfl)]
    exact ⟨rfl, hrx, hbuf⟩
  case garbled =>
    refine ⟨framed s (frameReceive p ((g0 :: g).map BitVec.toNat) start res s), State.runIn_on s 3 _ hd, ?_⟩
    rw [frameReceive_garbled hon hst hx hb]
    rw [framed_f, framed_f]
    exact failed_counts (x := SP_ERR_CODE p) rfl (Fld.fits rfl) (heard_forward_changes p _ start res s) _ _
  case failed =>
    refine ⟨framed s (frameReceive p ((g0 :: g).map BitVec.toNat) start res s), State.runIn_on s 3 _ hd, ?_⟩
    rw [frameReceive_failed hon hst hx hb hf hcrc]
    rw [framed_f, framed_f]
    exact failed_counts (x := SP_ERR_CRC p) rfl (Fld.fits rfl) (heard_forward_changes p _ start res s) _ _
  case kept =>
    intro dev hdev
    have hside : (if p.val / 2 = 0 then s.f SIT_PROP_PROP_X else s.f SIT_PROP_PROP_Y) = if p.val < 2 then s.f SIT_PROP_PROP_X else s.f SIT_PROP_PROP_Y := by
      by_cases h : p.val < 2
      · rw [if_pos h, if_pos (by omega)]
      · rw [if_neg h, if_neg (by omega)]
    obtain ⟨hkept, hcnt⟩ := hearTimed_kept (s := heard (p / 2) start s) (start := start) he hnode hsync hrx hgot (by
      rw [heard_f, heard_f, hside]
      exact hdev)
    refine ⟨framed s (frameReceive p ((g0 :: g).map BitVec.toNat) start res s), State.runIn_on s 3 _ hd, ?_⟩
    rw [frameReceive_sound hon hx hb hf hcrc hst hbr, framed_f, hcnt]
    have hrx' : (framed s (hearTimed p start f (heard (p / 2) start s))).rx e.idx = keptRx e (p / 2) f := hkept
    rw [hrx']
    exact ⟨rfl, rfl, rfl, rfl, rfl⟩

end Sys2Proof.Machine
end

section
/-!
PROOFS. The plain pass and the Janus pass (R39, R86, R178, R184): what each leaves of the results of the axis slots.
-/
namespace Sys2Proof.Machine

/-! ### What a pass leaves of the slots -/

/-- No axis configuration stands at offset 0x40 but AX_CFG: a write at any other offset leaves the programs of the slots as they are. -/
abbrev offCfg (a : Nat) : Prop := a % 0x400 ≠ 0x40

/-- The pass has changed no axis configuration, nothing that arbitration notes, and of the results of a slot at most inputs and plain result,
and these only where `p` allows it. -/
structure PassKeeps (p : Nat → Prop) (s t : State) : Prop where
  old : t.engOld = s.engOld
  regs : ChangesOnly offCfg s t
  mism : t.jan.mism = s.jan.mism
  waiting : t.jan.waiting = s.jan.waiting
  passRan : t.jan.passRan = s.jan.passRan
  runIn : ∀ n, ¬ p n → (t.axs n).runIn = (s.axs n).runIn
  plain : ∀ n, ¬ p n → (t.axs n).plain = (s.axs n).plain
  coded : ∀ n, (t.axs n).coded = (s.axs n).coded
  rerun : ∀ n, (t.axs n).rerun = (s.axs n).rerun
  verdict : ∀ n, (t.axs n).verdict = (s.axs n).verdict

section PassKeeps
variable {p q : Nat → Prop} {s t u : State}

theorem PassKeeps.refl (p : Nat → Prop) (s : State) : PassKeeps p s s :=
  ⟨rfl, ChangesOnly.refl _ s, rfl, rfl, rfl, fun _ _ => rfl, fun _ _ => rfl, fun _ => rfl, fun _ => rfl, fun _ => rfl⟩

theorem PassKeeps.trans (h : PassKeeps p s t) (k : PassKeeps p t u) : PassKeeps p s u :=
  ⟨k.old.trans h.old, h.regs.trans k.regs, k.mism.trans h.mism, k.waiting.trans h.waiting, k.passRan.trans h.passRan,
    fun n hn => (k.runIn n hn).trans (h.runIn n hn), fun n hn => (k.plain n hn).trans (h.plain n hn),
    fun n => (k.coded n).trans (h.coded n), fun n => (k.rerun n).trans (h.rerun n), fun n => (k.verdict n).trans (h.verdict n)⟩

theorem PassKeeps.mono (h : PassKeeps p s t) (hpq : ∀ n, p n → q n) : PassKeeps q s t :=
  { h with runIn := fun n hn => h.runIn n fun hp => hn (hpq n hp), plain := fun n hn => h.plain n fun hp => hn (hpq n hp) }

/-- Only parts that hold neither slot nor configuration have changed. -/
theorem PassKeeps.of_eq (h : PassKeeps p s t) (he : u.engOld = t.engOld) (hr : u.regs = t.regs) (ha : u.axes = t.axes) (hj : u.jan = t.jan) :
    PassKeeps p s u :=
  h.trans ⟨he, (ChangesOnly.refl _ t).of_regs hr, by rw [hj], by rw [hj], by rw [hj], fun n _ => by rw [State.axs, ha, State.axs],
    fun n _ => by rw [State.axs, ha, State.axs], fun n => by rw [State.axs, ha, State.axs], fun n => by rw [State.axs, ha, State.axs],
    fun n => by rw [State.axs, ha, State.axs]⟩

theorem PassKeeps.setWord (h : PassKeeps p s t) (a : Nat) (w : Word) (ha : offCfg a) : PassKeeps p s (t.setWord a w) :=
  { h with regs := h.regs.setWord a w ha }

theorem PassKeeps.set (h : PassKeeps p s t) (x : Fld) (v : Nat) (hx : offCfg x.addr) : PassKeeps p s (t.set x v) := h.setWord _ _ hx

theorem PassKeeps.setB (h : PassKeeps p s t) (x : Fld) (b : Bool) (hx : offCfg x.addr) : PassKeeps p s (t.setB x b) := h.set x _ hx

theorem PassKeeps.setBit (h : PassKeeps p s t) (x : Fld) (k : Nat) (b : Bool) (hx : offCfg x.addr) : PassKeeps p s (t.setBit x k b) := h.set x _ hx

theorem PassKeeps.setI (h : PassKeeps p s t) (x : Fld) (v : Int) (hx : offCfg x.addr) : PassKeeps p s (t.setI x v) := h.set x _ hx

theorem PassKeeps.inc (h : PassKeeps p s t) (x : Fld) (hx : offCfg x.addr) : PassKeeps p s (t.inc x) := h.set x _ hx

theorem PassKeeps.raiseU (h : PassKeeps p s t) (i : Nat) : PassKeeps p s (t.raiseU i) := h.of_eq rfl rfl rfl rfl

theorem PassKeeps.of_ite {c : Prop} [Decidable c] (h : PassKeeps p s t) (k : PassKeeps p s u) : PassKeeps p s (if c then t else u) := by
  split
  · exact h
  · exact k

theorem PassKeeps.of_when {b : Bool} {f : State → State} (h : PassKeeps p s t) (k : PassKeeps p s (f t)) : PassKeeps p s (t.when b f) :=
  k.of_ite h

/-- A slot's record, share and set-point are no results. -/
theorem PassKeeps.setAxs (h : PassKeeps p s t) (n : Nat) (v : AxisSt) (hr : ¬ p n → v.runIn = (t.axs n).runIn) (hp : ¬ p n → v.plain = (t.axs n).plain)
    (hc : v.coded = (t.axs n).coded) (he : v.rerun = (t.axs n).rerun) (hv : v.verdict = (t.axs n).verdict) : PassKeeps p s (t.setAxs n v) := by
  have key : ∀ m, m = n ∨ (t.setAxs n v).axs m = t.axs m := fun m => (Classical.em (m = n)).imp_right (t.setAxs_axs_ne n m v)
  refine h.trans ⟨rfl, ChangesOnly.refl _ t, rfl, rfl, rfl, fun m hm => ?_, fun m hm => ?_, fun m => ?_, fun m => ?_, fun m => ?_⟩ <;>
    rcases key m with rfl | e
  · rw [t.setAxs_axs_same, hr hm]
  · rw [e]
  · rw [t.setAxs_axs_same, hp hm]
  · rw [e]
  · rw [t.setAxs_axs_same, hc]
  · rw [e]
  · rw [t.setAxs_axs_same, he]
  · rw [e]
  · rw [t.setAxs_axs_same, hv]
  · rw [e]

theorem PassKeeps.each {l : List Nat} {f : Nat → State → State} (h : PassKeeps p s t) (hf : ∀ i ∈ l, ∀ u, PassKeeps p s u → PassKeeps p s (f i u)) :
    PassKeeps p s (t.each l f) := State.each_ind (PassKeeps p s) t hf h

/-- The program of a slot is that of the beginning of the pass. -/
theorem PassKeeps.struct (h : PassKeeps p s t) (n : Nat) : t.e (AX_CFG_STRUCT n) = s.e (AX_CFG_STRUCT n) :=
  h.regs.e _ h.old (by simp only [offCfg, AX_CFG_STRUCT, AX_CFG_A]; omega)

end PassKeeps

section Parts
variable {p : Nat → Prop} {s t : State} (h : PassKeeps p s t)
include h

/-! ### The vehicle functions of a plain pass (R156-R172, R220) -/

theorem PassKeeps.episode (was bad : Bool) (i : Nat) : PassKeeps p s (episode was bad (fun u => u.raiseU i) t) := (h.raiseU i).of_ite h

theorem PassKeeps.vehInputs : PassKeeps p s (vehInputs t) := by
  have hv : ∀ {u : State}, PassKeeps p s u → ∀ v, PassKeeps p s { u with veh := v } := fun hu v => hu.of_eq rfl rfl rfl rfl
  unfold Machine.vehInputs
  dsimp only
  exact hv (((h.episode _ _ _).each fun i _ u hu => hu.episode _ _ _).each fun i _ u hu => hu.episode _ _ _) _

theorem PassKeeps.steerPass : PassKeeps p s (steerPass t) := by
  unfold Machine.steerPass
  have hv : ∀ {u : State}, PassKeeps p s u → ∀ v, PassKeeps p s { u with veh := v } := fun hu v => hu.of_eq rfl rfl rfl rfl
  have h1 := h.set STR_LIM_X_LIM (satU 16 t.steerLim) (by decide)
  dsimp only
  refine PassKeeps.each (hv ((h1.inc STR_STAT_CLIPPED (by decide)).of_ite h1) _) fun k _ u hu => hv ?_ _
  exact ((hu.setBit STR_STAT_ACT _ _ (by decide)).setBit STR_STAT_TRACK _ _ (by decide)).set STR_ERRMAX_ERR_MAX _ (by decide)

theorem PassKeeps.parkPass (k : Nat) (hk : k < 2) : PassKeeps p s (parkPass k t) := by
  unfold Machine.parkPass
  have hv : ∀ {u : State}, PassKeeps p s u → ∀ v, PassKeeps p s { u with aux := v } := fun hu v => hu.of_eq rfl rfl rfl rfl
  dsimp only
  exact h.of_ite (hv (h.set (PK_STAT_I_MEAS k) _ (by simp only [offCfg, PK_STAT_I_MEAS, PK_STAT_A]; omega)) _)

theorem PassKeeps.hostRun (ci : ChainIn) (o : ChainOut) : PassKeeps p s (hostRun ci o t) := by
  unfold Machine.hostRun
  have h1 := h.episode (decide (t.f BLD_FAV_CAP ≠ 0xFFFF)) (decide (o.capNow ≠ capInf)) 0x3A3
  have h2 := (h1.inc BLD_CNT_DERATE_TICKS (by simp only [offCfg, BLD_CNT_DERATE_TICKS]; decide)).of_ite
    (c := decide (o.capNow ≠ capInf) = true) h1
  have h3 := (h2.inc BLD_CNT_SLIP_TICKS (by simp only [offCfg, BLD_CNT_SLIP_TICKS]; decide)).of_ite
    (c := (List.range 12).any (fun w => ci.en.getD w false && decide (o.chain.k.getD w kOne < kOne)) = true) h2
  exact h3.of_eq rfl rfl rfl rfl

/-! ### One axis in the plain pass (R86-R105, R167, R180) -/

theorem PassKeeps.showRecord (n : Nat) : PassKeeps p s (showRecord n t) := by
  have h1 := h.setI (AX_XSP_X_SP n) (((t.axs n).record).getD 5 0) (by simp only [offCfg, AX_XSP_X_SP, AX_XSP_A]; omega)
  have h2 := h1.setI (AX_VSP_V_SP n) (((t.axs n).record).getD 7 0) (by simp only [offCfg, AX_VSP_V_SP, AX_VSP_A]; omega)
  have h3 := h2.setI (AX_XHAT_X_HAT n) (((t.axs n).record).getD 1 0) (by simp only [offCfg, AX_XHAT_X_HAT, AX_XHAT_A]; omega)
  have h4 := h3.setI (AX_VHAT_V_HAT n) (((t.axs n).record).getD 2 0) (by simp only [offCfg, AX_VHAT_V_HAT, AX_VHAT_A]; omega)
  have h5 := h4.setI (AX_U_U n) (((t.axs n).record).getD 11 0) (by simp only [offCfg, AX_U_U, AX_U_A]; omega)
  exact (h5.set (AX_STAT_MODE n) _ (by simp only [offCfg, AX_STAT_MODE, AX_STAT_A]; omega)).of_ite h5

theorem PassKeeps.beginRecord (n : Nat) (m : Int) : PassKeeps p s (beginRecord n m t) := by
  unfold Machine.beginRecord putRecord
  exact PassKeeps.showRecord (h.setAxs n _ (fun _ => by rfl) (fun _ => by rfl) (by rfl) (by rfl) (by rfl)) n

theorem PassKeeps.lateBegin (n : Nat) : PassKeeps p s (lateBegin n t) := by
  unfold Machine.lateBegin
  split
  · exact h.of_when (h.beginRecord n _)
  · exact h

theorem PassKeeps.shareStep (n : Nat) : PassKeeps p s (shareStep n t) := by
  have hx : offCfg (AX_STAT_SHARE n).addr := by simp only [offCfg, AX_STAT_SHARE, AX_STAT_A]; omega
  unfold Machine.shareStep
  split
  · exact PassKeeps.set (h.setAxs n _ (fun _ => by rfl) (fun _ => by rfl) (by rfl) (by rfl) (by rfl)) _ _ hx
  · refine (h.setAxs n _ ?_ ?_ ?_ ?_ ?_).set _ _ hx <;> dsimp only <;> split_ifs <;> simp

theorem PassKeeps.coastStep (n : Nat) : PassKeeps p s (coastStep n t) := by
  have hs : ∀ (u : State) (b : Bool), PassKeeps p s u → PassKeeps p s (u.setB (AX_STAT_COAST n) b) := fun u b hu =>
    hu.setB _ _ (by simp only [offCfg, AX_STAT_COAST, AX_STAT_A]; omega)
  have ht : offCfg (AX_COAST_TICKS n).addr := by simp only [offCfg, AX_COAST_TICKS, AX_COAST_A]; omega
  have he : offCfg (AX_COAST_EPISODES n).addr := by simp only [offCfg, AX_COAST_EPISODES, AX_COAST_A]; omega
  unfold Machine.coastStep
  exact (((((hs t true h).inc _ ht).inc _ he).raiseU _).of_ite ((hs t true h).inc _ ht)).of_ite ((hs t false h).set _ _ ht)

/-- The set-point may draw a free value, and changes nothing else. -/
theorem PassKeeps.spFor (n : Nat) : PassKeeps p s (spFor n t).2 := by
  unfold Machine.spFor
  dsimp only
  simp only [apply_ite Prod.snd]
  refine h.of_ite (h.of_ite (h.of_ite ?_))
  generalize (if t.e (AX_CFG_STRUCT n) = 1 then t.steerEntry n else none) = k
  cases k with
  | some k => exact h
  | none => exact h.of_eq rfl rfl rfl rfl

theorem PassKeeps.storeSet (n : Nat) (w : List Int) (errs : List BitErr) : PassKeeps p s (storeSet n w errs t) := by
  unfold Machine.storeSet
  refine h.of_ite ?_
  exact h.trans ⟨rfl, ChangesOnly.refl _ t, rfl, rfl, rfl, fun _ _ => rfl, fun _ _ => rfl, fun _ => rfl, fun _ => rfl, fun _ => rfl⟩

theorem PassKeeps.hwSet (a : Nat) (m : Word) (ha : offCfg a) : PassKeeps p s (t.hwSet a m) := (h.setWord a (t.word a ||| m) ha).of_eq rfl rfl rfl rfl

end Parts

/-- The slot is ready to run: share, coasting, set-point (R105, R108, R167). -/
def axisReady (n : Nat) (s : State) : State :=
  let sp := spFor n (coastStep n (shareStep n s))
  sp.2.setAxs n { sp.2.axs n with spRaw := sp.1 }

theorem PassKeeps.axisReady {p : Nat → Prop} {s t : State} (h : PassKeeps p s t) (n : Nat) : PassKeeps p s (axisReady n t) :=
  PassKeeps.setAxs (((h.shareStep n).coastStep n).spFor n) n _ (fun _ => by rfl) (fun _ => by rfl) (by rfl) (by rfl) (by rfl)

/-- The words with which the plain run of a slot begins, and the run itself (R88, R94). -/
def plainRec (x : PassEnv) (n : Nat) (s : State) : List Int := errInto 24 n x.record (s.axs n).record

def plainOut (x : PassEnv) (n : Nat) (s : State) : AxisOut := runPlain (s.progIn n) (s.chainIn n) (plainRec x n s)

/-- The run of the slot reaches its end in the window. -/
def runDone (x : PassEnv) (n : Nat) : Bool := !x.unfinished.any (fun m => m.val == n)

def plainRes (x : PassEnv) (n : Nat) (s : State) : RunRes :=
  ⟨errInto 24 n x.result (plainOut x n s).prog.res.words, (plainOut x n s).prog.res.flags⟩

/-- The slot keeps the inputs of its run, the words it began with, and its result (R178, R180). -/
def keepRun (x : PassEnv) (n : Nat) (s : State) : State :=
  s.setAxs n { s.axs n with
    record := plainRec x n s
    badParity := (s.axs n).badParity ++ (x.parity.filter (fun e => e.axis.val == n)).map (·.word)
    runIn := some (s.progIn n, s.chainIn n)
    plain := if runDone x n then some (plainRes x n s) else none }

/-- LIMITED and its count (R108). -/
def showLimited (n : Nat) (b : Bool) (s : State) : State :=
  (s.setB (AX_STAT_SP_LIMITED n) b).when b (fun t => t.inc (AX_CNT_LIM_TICKS n))

/-- The freeze check learns what the axis predicts for its input (R77). -/
def predictInput (n : Nat) (v : Int) (s : State) : State :=
  let k := s.e (AX_FB_SRC_X n)
  if k < 0x70 then
    let d := s.predicted n v
    s.setInp k { s.inp k with frz := (s.inp k).frz.map (fun p => (p.1, p.2.1, smPut (fun _ => 0) p.2.2 n (smGet (fun _ => 0) p.2.2 n + d))) }
  else s

/-- What the end of the run shows and stores, or that it has not come (R47, R94, R180). -/
def endRun (x : PassEnv) (n : Nat) (ci : ChainIn) (res : RunRes) (chain : Option ChainOut) (s : State) : State :=
  if !runDone x n then { s with tk := { s.tk with plainOver := s.tk.plainOver ++ [s.e (AX_CFG_SLICE n)] } }
  else
    let s := storeSet n res.words x.hold ((s.set (AX_SAT_LAST_PLAIN n) res.flags).hwSet (AX_SAT_A n) (BitVec.ofNat 32 res.flags))
    match chain with
    | some c => if s.retHost == some n then hostRun ci c s else s
    | none => s

/-- One run of the plain pass, from a slot that is ready. -/
def axisRun (x : PassEnv) (n : Nat) (s : State) : State :=
  endRun x n (s.chainIn n) (plainRes x n s) (plainOut x n s).chain
    (predictInput n ((plainRec x n s).getD 2 0) (showLimited n (plainOut x n s).prog.limited (keepRun x n s)))

theorem plainAxis_eq (x : PassEnv) (n : Nat) (s : State) :
    plainAxis x n s = if !(lateBegin n s).runs n then lateBegin n s else axisRun x n (axisReady n (lateBegin n s)) := rfl

theorem PassKeeps.axisRun {p : Nat → Prop} {s t : State} (h : PassKeeps p s t) (x : PassEnv) (n : Nat) (hn : p n) : PassKeeps p s (axisRun x n t) := by
  have h1 : PassKeeps p s (keepRun x n t) :=
    h.setAxs n _ (fun hp => absurd hn hp) (fun hp => absurd hn hp) (by rfl) (by rfl) (by rfl)
  have h2 : ∀ b, PassKeeps p s (showLimited n b (keepRun x n t)) := fun b => by
    have hb := h1.setB (AX_STAT_SP_LIMITED n) b (by simp only [offCfg, AX_STAT_SP_LIMITED, AX_STAT_A]; omega)
    exact hb.of_when (hb.inc _ (by simp only [offCfg, AX_CNT_LIM_TICKS, AX_CNT_A]; omega))
  have h3 : ∀ v u, PassKeeps p s u → PassKeeps p s (predictInput n v u) := fun v u hu => by
    unfold predictInput
    dsimp only
    exact PassKeeps.of_ite (hu.of_eq rfl rfl rfl rfl) hu
  have h4 : ∀ ci res c u, PassKeeps p s u → PassKeeps p s (endRun x n ci res c u) := fun ci res c u hu => by
    have hs : PassKeeps p s (Machine.storeSet n res.words x.hold ((u.set (AX_SAT_LAST_PLAIN n) res.flags).hwSet (AX_SAT_A n) (BitVec.ofNat 32 res.flags))) :=
      ((hu.set _ _ (by simp only [offCfg, AX_SAT_LAST_PLAIN, AX_SAT_A]; omega)).hwSet _ _ (by simp only [offCfg, AX_SAT_A]; omega)).storeSet n _ _
    unfold endRun
    refine PassKeeps.of_ite (hu.of_eq rfl rfl rfl rfl) ?_
    cases c with
    | some c => exact (hs.hostRun ci c).of_ite hs
    | none => exact hs
  exact h4 _ _ _ _ (h3 _ _ (h2 _))

/-- The plain run of slot `n` touches the results of no slot but its own, and of its own only where it has a program (R86). -/
theorem PassKeeps.plainAxis {p : Nat → Prop} {s t : State} (h : PassKeeps p s t) (x : PassEnv) (n : Nat) (hn : s.e (AX_CFG_STRUCT n) ≠ 0 → p n) :
    PassKeeps p s (plainAxis x n t) := by
  have hb := PassKeeps.lateBegin h n
  rw [plainAxis_eq]
  by_cases hr : (Machine.lateBegin n t).runs n = true
  · rw [if_neg (by simp [hr])]
    refine PassKeeps.axisRun (hb.axisReady n) x n (hn ?_)
    rw [← hb.struct n]
    simp only [State.runs, Bool.and_eq_true, bne_iff_ne] at hr
    exact hr.1
  · rw [if_pos (by simpa using hr)]
    exact hb

/-! ### The beginning of a tick's runs (R184) -/

/-- The slot has no result of a run, and no verdict. -/
def AxisSt.noRuns (a : AxisSt) : Prop := a.runIn = none ∧ a.plain = none ∧ a.coded = none ∧ a.rerun = none ∧ a.verdict = .none

/-- A slot begins the tick. -/
def clearSlot (n : Nat) (t : State) : State :=
  t.setAxs n { t.axs n with runIn := none, plain := none, coded := none, rerun := none, verdict := .none
                            sliceFail := (t.axs n).sliceFail && t.fbit JAN_PEND_PENDING n }

/-- The Janus unit begins the tick. -/
def State.withJan (s : State) (j : JanusSt) : State := { s with jan := j }

@[simp] theorem State.withJan_jan (s : State) (j : JanusSt) : (s.withJan j).jan = j := (rfl)
@[simp] theorem State.withJan_axs (s : State) (j : JanusSt) (n : Nat) : (s.withJan j).axs n = s.axs n := (rfl)
@[simp] theorem State.withJan_regs (s : State) (j : JanusSt) : (s.withJan j).regs = s.regs := (rfl)
@[simp] theorem State.withJan_engOld (s : State) (j : JanusSt) : (s.withJan j).engOld = s.engOld := (rfl)

theorem clearRuns_eq (s : State) : clearRuns s = (s.each (List.range 16) clearSlot).withJan
    { s.jan with mism := [], waiting := [], rerunAt := none, susp := [], failed := [], capNow := false } := rfl

theorem clearSlot_axs (n : Nat) (t : State) : ((clearSlot n t).axs n).noRuns := by
  rw [clearSlot, t.setAxs_axs_same]
  exact ⟨rfl, rfl, rfl, rfl, rfl⟩

theorem clearRuns_noRuns (s : State) (n : Nat) (hn : n < 16) : ((clearRuns s).axs n).noRuns := by
  rw [clearRuns_eq, State.withJan_axs]
  refine State.each_once (k := n) (fun _ => True) (fun t => (t.axs n).noRuns) s (List.mem_range.mpr hn) List.nodup_range (fun _ _ _ _ _ => trivial)
    (fun i _ hne t ht => ?_) (fun t _ => clearSlot_axs n t) trivial
  rw [clearSlot, t.setAxs_axs_ne i n _ (Ne.symm hne)]
  exact ht

theorem clearRuns_regs (s : State) : (clearRuns s).regs = s.regs ∧ (clearRuns s).engOld = s.engOld := by
  rw [clearRuns_eq, State.withJan_regs, State.withJan_engOld]
  exact State.each_ind (fun t => t.regs = s.regs ∧ t.engOld = s.engOld) s
    (fun n _ t ht => by rwa [clearSlot, t.setAxs_regs, t.setAxs_engOld]) ⟨rfl, rfl⟩

theorem clearRuns_jan (s : State) : (clearRuns s).jan.mism = [] ∧ (clearRuns s).jan.waiting = [] ∧ (clearRuns s).jan.passRan = s.jan.passRan := by
  rw [clearRuns_eq, State.withJan_jan]
  exact ⟨rfl, rfl, rfl⟩

theorem plainPass_keeps (x : PassEnv) (s : State) : PassKeeps (fun n => s.e (AX_CFG_STRUCT n) ≠ 0) (clearRuns s) (plainPass x s) := by
  obtain ⟨hr, ho⟩ := clearRuns_regs s
  have hst : ∀ n, (clearRuns s).e (AX_CFG_STRUCT n) = s.e (AX_CFG_STRUCT n) := fun n => State.e_congr _ ho (State.word_congr hr _)
  unfold plainPass
  refine PassKeeps.each ((((PassKeeps.refl _ _).vehInputs.steerPass).parkPass 0 (by decide)).parkPass 1 (by decide)) fun n _ t ht => ?_
  exact ht.plainAxis x n fun h => by rwa [hst] at h

/-! ### The Janus pass (R178) -/

@[simp] theorem State.raiseAt_axes (s : State) (tb i d : Nat) : (s.raiseAt tb i d).axes = s.axes := (rfl)
@[simp] theorem State.raiseAt_jan (s : State) (tb i d : Nat) : (s.raiseAt tb i d).jan = s.jan := (rfl)
@[simp] theorem State.fresh_axes (s : State) : s.fresh.2.axes = s.axes := (rfl)
@[simp] theorem State.fresh_jan (s : State) : s.fresh.2.jan = s.jan := (rfl)

/-- A window overrun touches no slot and nothing of arbitration. -/
theorem overrun_slots (win : Nat) (sl : Option Nat) (s : State) : (overrun win sl s).axes = s.axes ∧ (overrun win sl s).jan = s.jan := by
  unfold overrun
  cases sl <;> dsimp only <;> split <;> simp [State.inc_eq]

/-- The slot after its coded run (R178). -/
def codedSlot (x : PassEnv) (n : Nat) (a : AxisSt) : AxisSt :=
  match a.runIn with
  | none => a
  | some (i, ci) =>
    { a with
      recordC := errInto 30 n x.record a.recordC
      coded := if runDone x n then
          some ⟨errInto 30 n x.result (runCoded i ci (errInto 30 n x.record a.recordC)).words, (runCoded i ci (errInto 30 n x.record a.recordC)).flags⟩
        else none }

/-- What the end of a coded run shows, or that it has not come (R47, R94). -/
def codedEnd (x : PassEnv) (n fl : Nat) (s : State) : State :=
  if runDone x n then s.set (AX_SAT_LAST_CODED n) fl
  else { s with tk := { s.tk with janusOver := s.tk.janusOver ++ [(s.e (AX_CFG_SLICE n) + 3) % 8] } }

theorem codedEnd_slots (x : PassEnv) (n fl : Nat) (s : State) : (codedEnd x n fl s).axes = s.axes ∧ (codedEnd x n fl s).jan = s.jan := by
  unfold codedEnd
  split <;> exact ⟨rfl, rfl⟩

theorem codedAxis_idle (x : PassEnv) (n : Nat) (s : State) (h : (s.axs n).runIn = none) : codedAxis x n s = s := by
  unfold codedAxis
  simp only [h]

theorem codedAxis_run (x : PassEnv) (n : Nat) (s : State) (i : ProgIn) (ci : ChainIn) (h : (s.axs n).runIn = some (i, ci)) :
    codedAxis x n s = codedEnd x n (runCoded i ci (errInto 30 n x.record (s.axs n).recordC)).flags (s.setAxs n (codedSlot x n (s.axs n))) := by
  unfold codedAxis codedSlot
  simp only [h]
  rfl

/-- The coded run of slot `n` changes that slot and no other, and nothing of arbitration. -/
theorem codedAxis_slots (x : PassEnv) (n m : Nat) (s : State) :
    (codedAxis x n s).axs m = (if m = n then codedSlot x n (s.axs n) else s.axs m) ∧ (codedAxis x n s).jan = s.jan := by
  cases hr : (s.axs n).runIn with
  | none =>
    rw [codedAxis_idle x n s hr, codedSlot, hr]
    refine ⟨?_, rfl⟩
    split
    · next hm => rw [hm]
    · rfl
  | some r =>
    obtain ⟨ha, hj⟩ := codedEnd_slots x n (runCoded r.1 r.2 (errInto 30 n x.record (s.axs n).recordC)).flags (s.setAxs n (codedSlot x n (s.axs n)))
    rw [codedAxis_run x n s r.1 r.2 hr, hj, State.axs, ha]
    refine ⟨?_, rfl⟩
    split
    · next hm => rw [hm]; exact s.setAxs_axs_same n _
    · next hm => exact s.setAxs_axs_ne n m _ hm

/-- The state with which the coded runs begin. -/
def janusStart (s : State) : State :=
  let late := lowest s.tk.plainOver
  let s := if late.isSome then overrun 1 late s else s
  { s with tk := { s.tk with plainOver := [] }, jan := { s.jan with passRan := true } }

theorem janusPass_eq (x : PassEnv) (s : State) : janusPass x s = (janusStart s).each (List.range 16) (codedAxis x) := rfl

theorem janusStart_axs (s : State) (n : Nat) : (janusStart s).axs n = s.axs n := by
  have h : ∀ t : State, t.axes = s.axes → t.axs n = s.axs n := fun t ht => by rw [State.axs, ht, State.axs]
  unfold janusStart
  dsimp only
  split
  · exact h _ (overrun_slots 1 _ s).1
  · rfl

theorem janusPass_axs (x : PassEnv) (n : Nat) (hn : n < 16) (s : State) : (janusPass x s).axs n = codedSlot x n (s.axs n) := by
  rw [janusPass_eq, ← janusStart_axs s n]
  exact State.each_at (fun t => t.axs n) (codedSlot x n) _ (List.mem_range.mpr hn) List.nodup_range
    (fun i _ hne t => ((codedAxis_slots x i n t).1).trans (if_neg (Ne.symm hne))) (fun t => ((codedAxis_slots x n n t).1).trans (if_pos rfl))

theorem janusPass_ran (x : PassEnv) (s : State) : (janusPass x s).jan.passRan = true := by
  rw [janusPass_eq]
  exact State.each_ind (fun t => t.jan.passRan = true) _ (fun n _ t ht => by rwa [(codedAxis_slots x n n t).2]) rfl

theorem runDone_eq (x : PassEnv) (n : Fin 16) : runDone x n = !x.unfinished.contains n := by
  rw [runDone, List.contains_eq_any_beq]
  congr 2
  funext m
  rw [Bool.eq_iff_iff, beq_iff_eq, beq_iff_eq, Fin.ext_iff, eq_comm]

theorem codedSlot_eq (x : PassEnv) (n : Fin 16) (a : AxisSt) (i : ProgIn) (ci : ChainIn) (h : a.runIn = some (i, ci)) :
    codedSlot x n a = { a with
      recordC := errInto 30 n x.record a.recordC
      coded := if x.unfinished.contains n then none
        else some ⟨errInto 30 n x.result (runCoded i ci (errInto 30 n x.record a.recordC)).words,
          (runCoded i ci (errInto 30 n x.record a.recordC)).flags⟩ } := by
  simp only [codedSlot, h, runDone_eq x]
  cases x.unfinished.contains n <;> rfl

/-- Settles O22: the plain pass keeps the cleared results of every slot but its own runs; the coded run of a slot changes that slot only. -/
theorem passesRunOnOneSnapshot : Obligations.PassesRunOnOneSnapshot := by
  unfold Obligations.PassesRunOnOneSnapshot
  refine ⟨fun x s hd he => ⟨framed s (plainPass x s), State.runIf_on s 2 _ _ hd he, ?_⟩,
    fun x s hd he => ⟨framed s (janusPass x s), State.runIf_on s 2 _ _ hd he, by rw [framed_jan]; exact janusPass_ran x s, fun n => ?_⟩⟩
  · have hk := plainPass_keeps x s
    obtain ⟨hm, hw, hp⟩ := clearRuns_jan s
    refine ⟨hk.mism.trans hm, hk.waiting.trans hw, hk.passRan.trans hp, fun n hn => ?_, fun n => ?_⟩
    all_goals obtain ⟨hi, hp, hc, hr, hv⟩ := clearRuns_noRuns s n n.isLt
    · exact ⟨(hk.plain n (not_not_intro hn)).trans hp, (hk.runIn n (not_not_intro hn)).trans hi⟩
    · exact ⟨(hk.coded n).trans hc, (hk.rerun n).trans hr, (hk.verdict n).trans hv⟩
  · have ha : (framed s (janusPass x s)).axs n = codedSlot x n (s.axs n) := by
      rw [framed_axs]
      exact janusPass_axs x n n.isLt s
    rw [ha]
    split
    · next h => rw [codedSlot, h]
    · next i ci h => exact codedSlot_eq x n _ i ci h

end Sys2Proof.Machine
end

section
/-!
PROOFS. Comparison and commit (R47, R182, R183, R187, R269): what verdicts, votes and commits leave of each other's state.
-/
namespace Sys2Proof.Machine

/-! ### What the comparison of one axis leaves (R182-R184, R198) -/

/-- The slots, the hold store and the fences of its partitions are as they were. -/
structure ComparesFrom (s t : State) : Prop where
  axes : t.axes = s.axes
  hold : t.jan.hold = s.jan.hold
  fence : t.word JAN_FENCE_A = s.word JAN_FENCE_A

section ComparesFrom
variable {s t u : State}

theorem ComparesFrom.refl (s : State) : ComparesFrom s s := ⟨rfl, rfl, rfl⟩

theorem ComparesFrom.trans (h : ComparesFrom s t) (k : ComparesFrom t u) : ComparesFrom s u :=
  ⟨k.axes.trans h.axes, k.hold.trans h.hold, k.fence.trans h.fence⟩

theorem ComparesFrom.setWord (h : ComparesFrom s t) (a : Nat) (w : Word) (ha : JAN_FENCE_A ≠ a) : ComparesFrom s (t.setWord a w) :=
  { h with fence := (t.word_setWord_ne a JAN_FENCE_A w ha).trans h.fence }

theorem ComparesFrom.set (h : ComparesFrom s t) (x : Fld) (v : Nat) (hx : JAN_FENCE_A ≠ x.addr) : ComparesFrom s (t.set x v) := h.setWord _ _ hx
theorem ComparesFrom.inc (h : ComparesFrom s t) (x : Fld) (hx : JAN_FENCE_A ≠ x.addr) : ComparesFrom s (t.inc x) := h.set x _ hx
theorem ComparesFrom.setBit (h : ComparesFrom s t) (x : Fld) (k : Nat) (b : Bool) (hx : JAN_FENCE_A ≠ x.addr) : ComparesFrom s (t.setBit x k b) := h.set x _ hx

theorem ComparesFrom.raise (h : ComparesFrom s t) (i d : Nat) : ComparesFrom s (t.raise i d) := ⟨h.axes, h.hold, h.fence⟩
theorem ComparesFrom.raiseC (h : ComparesFrom s t) (i d c : Nat) : ComparesFrom s (t.raiseC i d c) := ⟨h.axes, h.hold, h.fence⟩
theorem ComparesFrom.fresh (h : ComparesFrom s t) : ComparesFrom s t.fresh.2 := ⟨h.axes, h.hold, h.fence⟩

theorem ComparesFrom.withJan (h : ComparesFrom s t) (j : JanusSt) (hj : j.hold = t.jan.hold) : ComparesFrom s (t.withJan j) :=
  ⟨h.axes, hj.trans h.hold, h.fence⟩

theorem ComparesFrom.of_ite {c : Prop} [Decidable c] (h : ComparesFrom s t) (k : ComparesFrom s u) : ComparesFrom s (if c then t else u) := by
  split
  · exact h
  · exact k

theorem ComparesFrom.capture (h : ComparesFrom s t) (n cause rails word plain coded fp fc : Nat) :
    ComparesFrom s (capture n cause rails word plain coded fp fc t) := by
  have h1 := (((h.setWord JAN_CAP_AX_A 0 (by decide)).set JAN_CAP_AX_CAUSE cause (by decide)).set JAN_CAP_AX_RAILS rails (by decide)).set JAN_CAP_AX_AXIS n
    (by decide)
  have h2 := fun k => ((h1.set JAN_CAP_AX_SLICE_P k (by decide)).set JAN_CAP_AX_SLICE_R 0xF (by decide)).set JAN_CAP_AX_WORD word (by decide)
  have h3 := fun k => (((h2 k).set JAN_CAP_PLAIN_PLAIN plain (by decide)).set JAN_CAP_CODED_CODED coded (by decide)).set JAN_CAP_RERUN_RERUN 0 (by decide)
  have h4 := fun k v => (((h3 k).set JAN_CAP_FLAGS_CODED fc (by decide)).set JAN_CAP_FLAGS_PLAIN fp (by decide)).set JAN_CAP_TIME_TIME v (by decide)
  exact h.of_ite ((h4 _ _).withJan _ rfl)

end ComparesFrom

/-! ### A mismatching axis (R183, R184) -/

/-- The cause that a mismatch records. -/
def misCause (found : Option (Nat × Option Nat)) : Nat := match found with
  | some (c, _) => c
  | none => 0

/-- Word and contents that a mismatch records; where no word is recorded they are free values. -/
def misWord (n : Nat) (found : Option (Nat × Option Nat)) (hold : List Nat) (coded : List Int) (s : State) : (Nat × Nat × Nat) × State :=
  match found with
  | some (_, some w) => ((w, if s.fbit JAN_FENCE_FENCED n then 0 else (hold.getD w 0) % 2 ^ 24, ofSigned 30 (coded.getD w 0)), s)
  | _ => ((s.fresh.1.toNat % 64, s.fresh.2.fresh.1.toNat % 2 ^ 24, s.fresh.2.fresh.2.fresh.1.toNat % 2 ^ 30), s.fresh.2.fresh.2.fresh.2)

/-- What a mismatch raises. -/
def misRaise (n cause fp fc : Nat) (w : Nat × Nat × Nat) (s : State) : State :=
  let data := cause * 2 ^ 30 + (if cause = 2 then fc % 64 * 64 + fp % 64 else w.2.2)
  let s := if s.eOn JAN_CFG_LOG_CONT then s.raiseC (0x040 + n) data (w.1 * 2 ^ 24 + w.2.1) else s.raise (0x040 + n) data
  if cause = 3 then (s.raise 0x053 (w.1 * 2 ^ 16 + n)).inc JAN_CNT_C_PARITY else s

/-- What a mismatch counts. -/
def misCount (n : Nat) (s : State) : State :=
  let s := (s.inc JAN_CNT_A_MISMATCH).setBit JAN_STAT_MIS_LAST n true
  if n % 2 = 0 then s.inc (JAN_AXCNT_EVEN (n / 2)) else s.inc (JAN_AXCNT_ODD (n / 2))

/-- What the capture registers take of a mismatch. -/
def misCapture (n cause rails fp fc : Nat) (w : Nat × Nat × Nat) (fenced : Bool) (s : State) : State :=
  let s := capture n cause rails w.1 w.2.1 w.2.2 fp fc s
  if fenced then capOf n (fun t => t.set JAN_CAP_AX_CLASS 3) s else s

/-- The axis waits for its arbitration. -/
def toWaiting (n cause : Nat) (s : State) : State :=
  (s.setAxs n { s.axs n with verdict := .waiting, cause := cause }).withJan { s.jan with mism := s.jan.mism ++ [n], waiting := s.jan.waiting ++ [n] }

theorem mismatch_eq (n : Nat) (found : Option (Nat × Option Nat)) (a b : Nat) (hold : List Nat) (coded : List Int) (fp fc : Nat) (s : State) :
    mismatch n found a b hold coded fp fc s =
      (let r := misWord n found hold coded s
      toWaiting n (misCause found) (misCapture n (misCause found) (b2n (a == 2) + 2 * b2n (b == 2)) fp fc r.1 (s.fbit JAN_FENCE_FENCED n)
        (misCount n (misRaise n (misCause found) fp fc r.1 r.2)))) := by
  rcases found with _ | ⟨c, _ | w⟩ <;> rfl

theorem misWord_from (n : Nat) (found : Option (Nat × Option Nat)) (hold : List Nat) (coded : List Int) (s : State) :
    ComparesFrom s (misWord n found hold coded s).2 := by
  unfold misWord
  split
  · exact ComparesFrom.refl s
  · exact (ComparesFrom.refl s).fresh.fresh.fresh

theorem ComparesFrom.misRaise {s t : State} (h : ComparesFrom s t) (n cause fp fc : Nat) (w : Nat × Nat × Nat) : ComparesFrom s (misRaise n cause fp fc w t) := by
  unfold Machine.misRaise
  dsimp only
  have h1 : ∀ d c, ComparesFrom s (if t.eOn JAN_CFG_LOG_CONT = true then t.raiseC (0x040 + n) d c else t.raise (0x040 + n) d) := fun d c =>
    (h.raiseC _ _ _).of_ite (h.raise _ _)
  exact (((h1 _ _).raise _ _).inc _ (by decide)).of_ite (h1 _ _)

theorem ComparesFrom.misCount {s t : State} (h : ComparesFrom s t) (n : Nat) : ComparesFrom s (misCount n t) := by
  have h1 := (h.inc JAN_CNT_A_MISMATCH (by decide)).setBit JAN_STAT_MIS_LAST n true (by decide)
  refine ComparesFrom.of_ite (h1.inc _ ?_) (h1.inc _ ?_)
  · simp only [JAN_FENCE_A, JAN_AXCNT_EVEN, JAN_AXCNT_A]; omega
  · simp only [JAN_FENCE_A, JAN_AXCNT_ODD, JAN_AXCNT_A]; omega

theorem ComparesFrom.misCapture {s t : State} (h : ComparesFrom s t) (n cause rails fp fc : Nat) (w : Nat × Nat × Nat) (fenced : Bool) :
    ComparesFrom s (misCapture n cause rails fp fc w fenced t) := by
  have h1 := h.capture n cause rails w.1 w.2.1 w.2.2 fp fc
  exact ComparesFrom.of_ite (ComparesFrom.of_ite (h1.set JAN_CAP_AX_CLASS 3 (by decide)) h1) h1

/-- A mismatch changes its own slot, which then waits, and neither the hold store nor a fence. -/
theorem mismatch_waits (n : Nat) (found : Option (Nat × Option Nat)) (a b : Nat) (hold : List Nat) (coded : List Int) (fp fc : Nat) (s : State) :
    let t := mismatch n found a b hold coded fp fc s
    (t.axs n).verdict = .waiting ∧ (∀ m, m ≠ n → t.axs m = s.axs m) ∧ t.jan.hold = s.jan.hold ∧ t.word JAN_FENCE_A = s.word JAN_FENCE_A := by
  obtain ⟨hax, hhold, hfence⟩ := (((misWord_from n found hold coded s).misRaise n (misCause found) fp fc (misWord n found hold coded s).1).misCount n).misCapture n
    (misCause found) (b2n (a == 2) + 2 * b2n (b == 2)) fp fc (misWord n found hold coded s).1 (s.fbit JAN_FENCE_FENCED n)
  dsimp only
  rw [mismatch_eq]
  dsimp only
  generalize misCapture n _ _ fp fc _ _ _ = u at hax hhold hfence
  refine ⟨?_, fun m hm => ?_, hhold, hfence⟩
  · rw [toWaiting, State.withJan_axs, State.setAxs_axs_same]
  · rw [toWaiting, State.withJan_axs, State.setAxs_axs_ne _ _ _ _ hm, State.axs, hax, State.axs]

/-! ### The verdict of one axis, rails sound (R182) -/

/-- What the comparison logic finds in slot `a`, the plain result set and the coded one. -/
def State.finds (s : State) (n : Nat) (p c : RunRes) : Option (Nat × Option Nat) :=
  if s.fbit JAN_FENCE_FENCED n then some (3, some 0) else railFinds (s.partition n p.words.length) c.words p.flags c.flags

/-- The slot with what the comparison has checked. -/
def State.checked (s : State) (n : Nat) (p c : RunRes) : State :=
  s.setAxs n { s.axs n with plainOk := !s.fbit JAN_FENCE_FENCED n && (s.partition n p.words.length).all parityOk
                            codedOk := c.words.all (fun w => w % 59 == 0) }

/-- A slot that ran both passes. -/
def compareBoth (rails : List RailOut) (n : Nat) (p c : RunRes) (s : State) : State :=
  let t := s.checked n p c
  let r : RailSays × RailSays := match rails.find? (fun r => r.axis.val == n) with
    | some x => (railOf x.rails.a, railOf x.rails.b)
    | none => (soundRail (s.finds n p c), soundRail (s.finds n p c))
  let bad := r.1.code != r.2.code || r.1.code == 0 || r.1.code == 3 || r.2.code == 0 || r.2.code == 3
  let t := if bad then (t.raise 0x054 (r.2.code * 2 ^ 10 + r.1.code * 2 ^ 8 + n)).inc JAN_CNT_B_RAIL else t
  if r.1.code == 1 && r.2.code == 1 then t.setAxs n { t.axs n with verdict := .match_ }
  else mismatch n (recorded r.1 r.2) r.1.code r.2.code (s.partition n p.words.length) c.words p.flags c.flags t

theorem compareAxis_eq (rails : List RailOut) (n : Nat) (s : State) :
    compareAxis rails n s = match (s.axs n).plain, (s.axs n).coded with
      | some p, some c => compareBoth rails n p c s
      | _, _ => s := rfl

theorem soundRail_none : soundRail none = ⟨1, none⟩ := rfl
theorem soundRail_some (f : Nat × Option Nat) : soundRail (some f) = ⟨2, some f⟩ := rfl

/-- Sound rails report what the comparison logic finds: the axis matches, or waits. -/
theorem compareAxis_sound (n : Nat) (s : State) (p c : RunRes) (hp : (s.axs n).plain = some p) (hc : (s.axs n).coded = some c) :
    compareAxis [] n s =
      (if s.finds n p c = none then (s.checked n p c).setAxs n { (s.checked n p c).axs n with verdict := .match_ }
      else mismatch n (s.finds n p c) 2 2 (s.partition n p.words.length) c.words p.flags c.flags (s.checked n p c)) := by
  rw [compareAxis_eq, hp, hc]
  dsimp only
  unfold compareBoth
  cases hf : s.finds n p c with
  | none =>
    rw [List.find?_nil]
    dsimp only
    rw [soundRail_none, if_pos rfl, if_pos (by decide), if_neg (by decide)]
  | some f =>
    rw [List.find?_nil]
    dsimp only
    rw [soundRail_some, if_neg (by simp), if_neg (by simp), if_neg (by simp)]
    rfl

theorem compareAxis_idle (rails : List RailOut) (n : Nat) (s : State) (h : (s.axs n).plain = none ∨ (s.axs n).coded = none) :
    compareAxis rails n s = s := by
  rw [compareAxis_eq]
  rcases h with h | h
  · rw [h]
  · rw [h]
    cases (s.axs n).plain <;> rfl

/-- The comparison of slot `n` leaves the other slots, the hold store and the fences. -/
theorem compareAxis_beside (n : Nat) (s : State) :
    (∀ m, m ≠ n → (compareAxis [] n s).axs m = s.axs m) ∧ (compareAxis [] n s).jan.hold = s.jan.hold ∧
      (compareAxis [] n s).word JAN_FENCE_A = s.word JAN_FENCE_A := by
  cases hp : (s.axs n).plain with
  | none =>
    rw [compareAxis_idle [] n s (.inl hp)]
    exact ⟨fun _ _ => rfl, rfl, rfl⟩
  | some p =>
    cases hc : (s.axs n).coded with
    | none =>
      rw [compareAxis_idle [] n s (.inr hc)]
      exact ⟨fun _ _ => rfl, rfl, rfl⟩
    | some c =>
      have hm : ∀ m, m ≠ n → (s.checked n p c).axs m = s.axs m := fun m h => s.setAxs_axs_ne n m _ h
      rw [compareAxis_sound n s p c hp hc]
      split
      · exact ⟨fun m h => ((s.checked n p c).setAxs_axs_ne n m _ h).trans (hm m h), rfl, rfl⟩
      · obtain ⟨_, ha, hh, hf⟩ := mismatch_waits n (s.finds n p c) 2 2 (s.partition n p.words.length) c.words p.flags c.flags (s.checked n p c)
        exact ⟨fun m h => (ha m h).trans (hm m h), hh, hf⟩

/-- The verdict of slot `n`. -/
theorem compareAxis_verdict (n : Nat) (s : State) (p c : RunRes) (hp : (s.axs n).plain = some p) (hc : (s.axs n).coded = some c) :
    ((compareAxis [] n s).axs n).verdict = if s.finds n p c = none then .match_ else .waiting := by
  rw [compareAxis_sound n s p c hp hc]
  split
  · rw [State.setAxs_axs_same]
  · exact (mismatch_waits n (s.finds n p c) 2 2 (s.partition n p.words.length) c.words p.flags c.flags (s.checked n p c)).1

/-- The state in which the comparison begins, after the overruns of the Janus pass. -/
def verdictStart (s : State) : State :=
  let late := lowest s.tk.janusOver
  let s := if late.isSome then overrun 2 late s else s
  ({ s with tk := { s.tk with janusOver := [] } }).set JAN_STAT_MIS_LAST 0

theorem janusVerdicts_eq (rails : List RailOut) (s : State) : janusVerdicts rails s = (verdictStart s).each (List.range 16) (compareAxis rails) := rfl

/-- The slice that an overrun names; without one it is a free value. -/
def overSlice (slice : Option Nat) (s : State) : Nat × State := match slice with
  | some k => (k, s)
  | none => (s.fresh.1.toNat % 16, s.fresh.2)

/-- An overrun is reported with its window, slice and tick. -/
def overShow (win : Nat) (r : Nat × State) (s : State) : State :=
  (((r.2.set OVR_LAST_WIN win).set OVR_LAST_SLICE r.1).set OVR_LAST_TICK (s.tickNo % 2 ^ 16)).raiseAt (s.windowEnd win) 0x000
    (win * 2 ^ 20 + r.1 * 2 ^ 16 + s.tickNo % 2 ^ 16)

/-- The overrun counter of a window. -/
def overF (win : Nat) : Fld := match win with
  | 1 => TICK_OVR_PLAIN
  | 2 => TICK_OVR_JANUS
  | 3 => TICK_OVR2_RESERVE
  | 4 => TICK_OVR_COMMIT
  | _ => TICK_OVR_BIST

theorem overrun_eq (win : Nat) (sl : Option Nat) (s : State) : overrun win sl s = (overShow win (overSlice sl s) s).inc (overF win) := by
  rcases win with _ | _ | _ | _ | _ | n <;> cases sl <;> rfl

/-- An overrun shows in the TICK page only. -/
theorem overrun_changes (win : Nat) (sl : Option Nat) (s : State) : ChangesOnly (fun a => a / 0x400 = 0x004) s (overrun win sl s) := by
  have h0 : (overSlice sl s).2.regs = s.regs := by cases sl <;> rfl
  have h1 := ((((ChangesOnly.refl (fun a => a / 0x400 = 0x004) s).of_regs h0).set OVR_LAST_WIN win (by decide)).set OVR_LAST_SLICE (overSlice sl s).1 (by decide)).set
    OVR_LAST_TICK (s.tickNo % 2 ^ 16) (by decide)
  have hF : (overF win).addr / 0x400 = 0x004 := by
    unfold overF
    split <;> decide
  rw [overrun_eq, State.inc_eq]
  exact (h1.of_regs (u := overShow win (overSlice sl s) s) rfl).set _ _ hF

theorem overrun_from (win : Nat) (sl : Option Nat) (s : State) : ComparesFrom s (overrun win sl s) :=
  ⟨(overrun_slots win sl s).1, by rw [(overrun_slots win sl s).2], overrun_changes win sl s _ (by decide)⟩

theorem ComparesFrom.withTk {s t : State} (h : ComparesFrom s t) (k : TickSt) : ComparesFrom s { t with tk := k } := ⟨h.axes, h.hold, h.fence⟩

theorem verdictStart_from (s : State) : ComparesFrom s (verdictStart s) := by
  have h1 : ComparesFrom s (if (lowest s.tk.janusOver).isSome then overrun 2 (lowest s.tk.janusOver) s else s) :=
    (overrun_from 2 _ s).of_ite (ComparesFrom.refl s)
  exact (h1.withTk _).set JAN_STAT_MIS_LAST 0 (by decide)

/-- The finding depends on the fences and the hold store alone. -/
theorem finds_congr {s t : State} (n : Nat) (p c : RunRes) (hh : t.jan.hold = s.jan.hold) (hf : t.word JAN_FENCE_A = s.word JAN_FENCE_A) :
    t.finds n p c = s.finds n p c := by
  have hb : t.fbit JAN_FENCE_FENCED n = s.fbit JAN_FENCE_FENCED n := by
    rw [State.fbit, State.fbit, State.f, State.f, show JAN_FENCE_FENCED.addr = JAN_FENCE_A from rfl, hf]
  rw [State.finds, State.finds, hb, State.partition, State.partition, hh]

/-- The verdict of slot `n` in the comparison of all slots. -/
def verdictOf (s : State) (n : Nat) : Verdict := match (s.axs n).plain, (s.axs n).coded with
  | some p, some c => if s.finds n p c = none then .match_ else .waiting
  | _, _ => (s.axs n).verdict

theorem compareAxis_verdictOf (n : Nat) (s : State) : ((compareAxis [] n s).axs n).verdict = verdictOf s n := by
  rw [verdictOf]
  cases hp : (s.axs n).plain with
  | none => rw [compareAxis_idle [] n s (.inl hp)]
  | some p =>
    cases hc : (s.axs n).coded with
    | none => rw [compareAxis_idle [] n s (.inr hc)]
    | some c => exact compareAxis_verdict n s p c hp hc

theorem verdictOf_congr {s t : State} (n : Nat) (ha : t.axs n = s.axs n) (hh : t.jan.hold = s.jan.hold) (hf : t.word JAN_FENCE_A = s.word JAN_FENCE_A) :
    verdictOf t n = verdictOf s n := by
  rw [verdictOf, verdictOf, ha]
  simp only [finds_congr n _ _ hh hf]

theorem janusVerdicts_verdict (s : State) (n : Nat) (hn : n < 16) : ((janusVerdicts [] s).axs n).verdict = verdictOf s n := by
  have h0 := verdictStart_from s
  rw [janusVerdicts_eq]
  refine State.each_once (k := n) (fun t => t.axs n = s.axs n ∧ t.jan.hold = s.jan.hold ∧ t.word JAN_FENCE_A = s.word JAN_FENCE_A)
    (fun t => (t.axs n).verdict = verdictOf s n) _ (List.mem_range.mpr hn) List.nodup_range (fun i _ hne t ⟨ha, hh, hf⟩ => ?_) (fun i _ hne t ht => ?_)
    (fun t ⟨ha, hh, hf⟩ => (compareAxis_verdictOf n t).trans (verdictOf_congr n ha hh hf)) ⟨by rw [State.axs, h0.axes, State.axs], h0.hold, h0.fence⟩
  · obtain ⟨hb, hbh, hbf⟩ := compareAxis_beside i t
    exact ⟨(hb n (Ne.symm hne)).trans ha, hbh.trans hh, hbf.trans hf⟩
  · rwa [(compareAxis_beside i t).1 n (Ne.symm hne)]

/-! ### The record goes out (R298) -/

theorem peerReset_axes (i : Nat) (s : State) : (peerReset i s).axes = s.axes := by
  have h0 : (s.hwSet CDC_PEER_A (BitVec.ofNat 32 (2 ^ i))).axes = s.axes := rfl
  rw [peerReset, State.raise_axes, State.inc_eq, State.set_axes, ← h0]
  rfl

theorem linkDown_axes (m : Nat) (s : State) : (linkDown m s).axes = s.axes := by
  unfold linkDown
  split
  · rw [peerReset_axes, State.raiseU_axes, State.inc_eq, State.set_axes]
    rfl
  · rfl

theorem linkWindow_axes (m : Nat) (s : State) : (linkWindow m s).axes = s.axes := by
  unfold linkWindow
  split
  · rfl
  · dsimp only [State.when]
    rw [apply_ite State.axes, linkDown_axes, ite_self]
    rfl

theorem giveUp_axes (r : Nat) (s : State) : (giveUp r s).axes = s.axes := by
  unfold giveUp
  dsimp only
  split
  · split <;> rfl
  · rfl

/-- The state whose record goes out. -/
def sendStart (s : State) : State := (s.each [0, 1, 2, 3] linkWindow).each [0, 1, 2, 3] giveUp

theorem sendStart_axes (s : State) : (sendStart s).axes = s.axes :=
  State.each_ind (fun t => t.axes = s.axes) _ (fun r _ t ht => (giveUp_axes r t).trans ht)
    (State.each_ind (fun t => t.axes = s.axes) s (fun m _ t ht => (linkWindow_axes m t).trans ht) rfl)

theorem sendRecord_shows (s : State) : (sendRecord s).ln.own.isSome = true ∧ (sendRecord s).ln.recs = [] ∧ (sendRecord s).axes = s.axes :=
  ⟨rfl, rfl, sendStart_axes s⟩

/-! ### Votes and commits leave arbitration and the sequencer alone -/

/-- Arbitration and the tick sequencer are as they were. -/
structure Aside (s t : State) : Prop where
  jan : t.jan = s.jan
  tk : t.tk = s.tk

section Aside
variable {s t u : State}

theorem Aside.refl (s : State) : Aside s s := ⟨rfl, rfl⟩
theorem Aside.trans (h : Aside s t) (k : Aside t u) : Aside s u := ⟨k.jan.trans h.jan, k.tk.trans h.tk⟩

theorem Aside.set (h : Aside s t) (x : Fld) (v : Nat) : Aside s (t.set x v) := h.trans ⟨rfl, rfl⟩
theorem Aside.setB (h : Aside s t) (x : Fld) (b : Bool) : Aside s (t.setB x b) := h.trans ⟨rfl, rfl⟩
theorem Aside.setI (h : Aside s t) (x : Fld) (v : Int) : Aside s (t.setI x v) := h.trans ⟨rfl, rfl⟩
theorem Aside.setBit (h : Aside s t) (x : Fld) (k : Nat) (b : Bool) : Aside s (t.setBit x k b) := h.trans ⟨rfl, rfl⟩
theorem Aside.inc (h : Aside s t) (x : Fld) : Aside s (t.inc x) := h.trans ⟨rfl, rfl⟩
theorem Aside.addSat (h : Aside s t) (x : Fld) (n : Nat) : Aside s (t.addSat x n) := h.trans ⟨rfl, rfl⟩
theorem Aside.raise (h : Aside s t) (i d : Nat) : Aside s (t.raise i d) := h.trans ⟨rfl, rfl⟩
theorem Aside.raiseU (h : Aside s t) (i : Nat) : Aside s (t.raiseU i) := h.trans ⟨rfl, rfl⟩
theorem Aside.setHb (h : Aside s t) (k : Nat) (v : HbSt) : Aside s (t.setHb k v) := h.trans ⟨rfl, rfl⟩
theorem Aside.setVdu (h : Aside s t) (k : Nat) (v : VduSt) : Aside s (t.setVdu k v) := h.trans ⟨rfl, rfl⟩
theorem Aside.setAxs (h : Aside s t) (k : Nat) (v : AxisSt) : Aside s (t.setAxs k v) := h.trans ⟨rfl, rfl⟩
theorem Aside.setInp (h : Aside s t) (k : Nat) (v : InpSt) : Aside s (t.setInp k v) := h.trans ⟨rfl, rfl⟩
theorem Aside.setTx (h : Aside s t) (k : Nat) (v : TxSt) : Aside s (t.setTx k v) := h.trans ⟨rfl, rfl⟩
theorem Aside.withLn (h : Aside s t) (l : LaneSt) : Aside s { t with ln := l } := h.trans ⟨rfl, rfl⟩
theorem Aside.withMm (h : Aside s t) (m : MoamelSt) : Aside s { t with mm := m } := h.trans ⟨rfl, rfl⟩
theorem Aside.withSs (h : Aside s t) (m : SafeSt) : Aside s { t with ss := m } := h.trans ⟨rfl, rfl⟩
theorem Aside.withVeh (h : Aside s t) (m : VehSt) : Aside s { t with veh := m } := h.trans ⟨rfl, rfl⟩
theorem Aside.withAux (h : Aside s t) (m : AuxSt) : Aside s { t with aux := m } := h.trans ⟨rfl, rfl⟩
theorem Aside.withAfe (h : Aside s t) (m : AfeSt) : Aside s { t with afe := m } := h.trans ⟨rfl, rfl⟩

theorem Aside.of_ite {c : Prop} [Decidable c] (h : Aside s t) (k : Aside s u) : Aside s (if c then t else u) := by
  split
  · exact h
  · exact k

theorem Aside.each {l : List Nat} {f : Nat → State → State} (h : Aside s t) (hf : ∀ i ∈ l, ∀ u, Aside s u → Aside s (f i u)) : Aside s (t.each l f) :=
  State.each_ind (Aside s) t hf h

theorem Aside.foldl {α : Type} {l : List α} {f : State → α → State} (h : Aside s t) (hf : ∀ u x, Aside s u → Aside s (f u x)) : Aside s (l.foldl f t) := by
  induction l generalizing t with
  | nil => exact h
  | cons x l ih => exact ih (hf t x h)

end Aside

section Votes
variable {s t : State} (h : Aside s t)
include h

/-! #### The lane vote (R265-R287, R302, R478, R479) -/

theorem Aside.outPeer (voted : Bool) (l : Nat) : Aside s (outPeer voted l t) :=
  h.of_ite ((((h.withLn _).inc _).of_ite (h.withLn _)).raise _ _)

theorem Aside.outOwn (cause : Nat) : Aside s (outOwn cause t) := h.of_ite ((h.withLn _).set _ _)

theorem Aside.presence (l : Nat) : Aside s (presence l t) := by
  unfold Machine.presence
  cases t.laneRec l with
  | some r => exact ((h.withLn _).setBit _ _ _).setBit _ _ _
  | none =>
    have h1 := ((h.withLn { t.ln with miss := smPut (fun _ => 0) t.ln.miss l (min 2 (t.missOf l + 1)) }).setBit LN_STAT_PRESENT l false)
    exact Aside.of_ite (Aside.outPeer (h1.setBit LN_STAT_UNREACH l _) true l) (h1.setBit LN_STAT_UNREACH l _)

theorem Aside.isolation : Aside s (isolation t) := by
  unfold Machine.isolation
  dsimp only
  exact (((h.setB _ _).withLn _).raiseU _).of_ite ((h.setB _ _).withLn _)

theorem Aside.sharedVote (k : Nat) : Aside s (sharedVote k t) := by
  unfold Machine.sharedVote
  dsimp only
  split
  · exact (h.withAfe _).inc _
  · exact ((h.withAfe _).set _ _).setInp _ _
  · exact h.withAfe _

theorem Aside.setDevCnt (l n v : Nat) : Aside s (t.setDevCnt l n v) := (h.set _ _).of_ite (h.withLn _)

end Votes

theorem Aside.deviate {s : State} {o : VoteOut} (h : Aside s o.st) (n : Nat) (m : Int) (p : Nat × Int) : Aside s (deviate n m o p).st := by
  unfold Machine.deviate
  dsimp only
  exact ((h.setDevCnt _ _ _).set _ _).of_ite (h.setDevCnt _ _ _)

theorem Aside.voteAxis {s : State} {o : VoteOut} (h : Aside s o.st) (n : Nat) : Aside s (voteAxis o n).st := by
  unfold Machine.voteAxis
  dsimp only
  split
  · exact h.set _ _
  · split
    · exact (((h.deviate _ _ _).deviate _ _ _).deviate _ _ _).set _ _
    · split
      · exact ((((h.set _ _).set _ _).set _ _)).of_ite ((h.set _ _).set _ _)
      · exact h.set _ _
    · exact h.set _ _

/-- The axes of the vote in turn. -/
theorem Aside.votes {s : State} (l : List Nat) {o : VoteOut} (h : Aside s o.st) : Aside s (l.foldl Machine.voteAxis o).st := by
  induction l generalizing o with
  | nil => exact h
  | cons n l ih => exact ih (h.voteAxis n)

section Votes
variable {s t : State} (h : Aside s t)
include h

/-- A lane that the double vote has found is put out. -/
theorem Aside.doubleOut (l : List Nat) : Aside s (l.foldl (fun t l =>
    let t := t.raiseU 0x387
    if l = t.letter then ((Machine.outOwn 6 t).inc LN_CNT_VOTE_OUT).raiseU 0x382 else Machine.outPeer true l t) t) :=
  h.foldl fun _ _ hu => ((((hu.raiseU 0x387).outOwn 6).inc LN_CNT_VOTE_OUT).raiseU 0x382).of_ite ((hu.raiseU 0x387).outPeer true _)

theorem Aside.outputVote : Aside s (outputVote t) := by
  have hv : Aside s (if t.on LN_STAT_ISOLATED then (⟨t, [], false, false⟩ : VoteOut) else (List.range 16).foldl Machine.voteAxis ⟨t, [], false, false⟩).st := by
    split
    · exact h
    · exact Aside.votes _ (o := ⟨t, [], false, false⟩) h
  unfold Machine.outputVote
  dsimp only
  generalize (if t.on LN_STAT_ISOLATED then (⟨t, [], false, false⟩ : VoteOut) else (List.range 16).foldl Machine.voteAxis ⟨t, [], false, false⟩) = o at hv
  have h1 := hv.withSs { o.st.ss with disagree := o.pair || decide (2 ≤ o.reached.length) }
  have h2 := (h1.raiseU 0x384).of_ite (c := (o.newPair || decide (2 ≤ o.reached.length) && !t.ss.disagree) = true) h1
  refine Aside.doubleOut (Aside.withLn ?_ _) _
  split
  · exact Aside.of_ite (((h2.outOwn 1).inc LN_CNT_VOTE_OUT).raiseU 0x382) (h2.outPeer true _)
  · exact h2

theorem Aside.admission : Aside s (admission t).2 := by
  have h1 : Aside s (dupId t) := by
    unfold dupId
    exact ((h.withLn _).raiseU _).of_ite (h.withLn _)
  have h2 : Aside s (layout (dupId t)) := by
    unfold layout
    exact ((h1.withMm _).raiseU _).of_ite (h1.withMm _)
  unfold Machine.admission
  extract_lets u w differs was _ _ u1 u2 ok _ u3 active go join join'
  split
  · exact h2
  · have h3 : Aside s u1 := (h2.set SU_WAIT_WAIT (withBit w 13 differs)).withLn _
    have h4 : Aside s u2 := (h3.raiseU 0x381).of_ite h3
    have h5 : Aside s u3 := h4.withLn _
    split
    · exact ((h5.setB _ _).set _ _).withLn _
    · exact h5

theorem Aside.roleVote (join : List Nat) (r : Nat) : Aside s (roleVote join r t) := by
  unfold Machine.roleVote
  dsimp only
  split
  · exact ((h.set _ _).withLn _).of_ite (((h.set _ _).withLn _).raiseU _)
  · exact (h.withLn _).of_ite (Aside.withLn ((((h.withLn _).set _ _).of_ite (((h.withLn _).set _ _).inc _))) _)

theorem Aside.rolesVote (join : List Nat) : Aside s (rolesVote join t) := by
  have h1 : Aside s (handoverVote { t with ln := { t.ln with onPark := t.consents 1, onTq := t.consents 2 } }) := by
    unfold handoverVote
    exact (Aside.of_ite (((h.withLn _).set _ _).inc _) (h.withLn _)).withLn _
  unfold Machine.rolesVote
  exact ((h1.of_ite (h1.each fun r _ u hu => hu.roleVote join r)).set _ _).set _ _

theorem Aside.faultVote (join : List Nat) : Aside s (faultVote join t) := by
  unfold Machine.faultVote
  split
  · exact h
  · extract_lets n ok lanes known recs sit nSit inp ax mm cats total codes was u1 u2 u3 u4 last
    have h1 : Aside s u1 := ((h.set _ _).set _ _).set _ _
    have h2 : Aside s u2 := (((h1.set _ _).set _ _).set _ _).setB _ _
    have h3 : Aside s u3 := ((h2.setB _ _).raiseU _).of_ite h2
    have h4 : Aside s u4 := (h3.raise _ _).of_ite h3
    exact (h4.setB _ _).withSs _

theorem Aside.masterVote (heir : Option Nat) (out : List Nat) : Aside s (masterVote heir out t) := by
  unfold Machine.masterVote
  dsimp only
  exact (((h.set _ _).withMm _).raiseU _).of_ite ((h.set _ _).withMm _)

end Votes

/-- The vote, from the records that the exchange has brought to the roles. -/
def voteStart (s : State) : State :=
  let s := showRecords s
  let s := isolation (s.each s.others presence)
  let s := outputVote (chainVote (s.each s.sharedInputs sharedVote))
  let s := if s.hold.present && s.ln.next.isNone then outOwn 5 s else s
  s.each s.others (fun l t => match t.laneRec l with
    | some r => if r.leaving && r.state == 1 then outPeer false l t else t
    | none => t)

/-- The vote, from admission on: `a` is what admission answers. -/
def voteEnd (a : List Nat × State) : State :=
  let o := a.2
  let s := cleanVote (faultVote a.1 (rolesVote a.1 o))
  let s := s.set LN_STAT_ACTIVE s.activeMask
  let heir := s.holder 0
  let heirPos := if o.holder 0 = 3 ∨ heir = 3 ∨ heir = o.holder 0 ∨ s.ln.handover.any (fun h => h.role == 0) then none
    else if heir = s.letter then some s.pos else (s.keptOf heir).map (·.pos)
  let outPos := s.others.filterMap (fun l => if s.excluded l then (s.keptOf l).map (·.pos) else none)
  masterVote heirPos (outPos ++ (if s.goesOn then [] else [s.pos])) s

theorem laneVote_eq (s : State) : laneVote s = voteEnd (admission (voteStart s)) := rfl

theorem Aside.voteStart {s t : State} (h : Aside s t) : Aside s (voteStart t) := by
  have h1 : Aside s (showRecords t) := (h.set _ _).set _ _
  unfold Machine.voteStart
  dsimp only
  generalize showRecords t = u at h1
  have h2 := Aside.isolation (h1.each (l := u.others) fun l _ v hv => Aside.presence hv l)
  generalize Machine.isolation (u.each u.others Machine.presence) = u at h2
  have h3 : Aside s (Machine.outputVote (Machine.chainVote (u.each u.sharedInputs Machine.sharedVote))) :=
    Aside.outputVote ((h2.each (l := u.sharedInputs) fun k _ v hv => Aside.sharedVote hv k).withVeh _)
  generalize Machine.outputVote (Machine.chainVote (u.each u.sharedInputs Machine.sharedVote)) = u at h3
  refine Aside.each (Aside.of_ite (h3.outOwn 5) h3) fun l _ v hv => ?_
  cases v.laneRec l with
  | some r => exact (hv.outPeer false l).of_ite hv
  | none => exact hv

theorem Aside.voteEnd {s : State} {a : List Nat × State} (h : Aside s a.2) : Aside s (voteEnd a) := by
  have h1 := Aside.faultVote (h.rolesVote a.1) a.1
  unfold Machine.voteEnd cleanVote
  dsimp only
  generalize Machine.faultVote a.1 (Machine.rolesVote a.1 a.2) = u at h1
  exact Aside.masterVote (((h1.set _ _).withLn _).set _ _) _ _

theorem laneVote_aside (s : State) : Aside s (laneVote s) := by
  rw [laneVote_eq]
  exact (Aside.refl s).voteStart.admission.voteEnd

/-! #### A commit (R48, R89, R173, R189, R333) -/

section Commits
variable {s t : State} (h : Aside s t)
include h

theorem Aside.setEdges (u fsI : Nat) (sp : List Int) : Aside s (setEdges u fsI sp t) := by
  have h1 := fun d => (h.setVdu u { t.vdu u with deltaS := d, satS := false }).each (l := [0, 1, 2]) (f := fun i t => edgeShadow (3 * u + i) (sp.getD i 0) t)
    fun i _ v hv => by
      unfold edgeShadow
      dsimp only
      exact Aside.of_ite ((hv.setHb _ _).setVdu _ _) (hv.setHb _ _)
  unfold Machine.setEdges
  dsimp only
  exact ((h1 _).inc _).of_ite (h1 _)

theorem Aside.axisEdges (n : Nat) (sp : List Int) : Aside s (axisEdges n sp t) :=
  ((h.setEdges _ _ _).setEdges _ _ _).of_ite (h.setEdges _ _ _)

theorem Aside.showRecord (n : Nat) : Aside s (showRecord n t) := by
  have h1 := fun a b c d e => ((((h.setI (AX_XSP_X_SP n) a).setI (AX_VSP_V_SP n) b).setI (AX_XHAT_X_HAT n) c).setI (AX_VHAT_V_HAT n) d).setI (AX_U_U n) e
  unfold Machine.showRecord
  dsimp only
  exact ((h1 _ _ _ _ _).set _ _).of_ite (h1 _ _ _ _ _)

theorem Aside.commitAxis (n : Nat) (r : RunRes) (coded : List Int) : Aside s (commitAxis n r coded t) := by
  have h1 := fun v => h.setAxs n v
  have h2 := fun v => Aside.showRecord (Aside.of_ite (c := (!t.reacted n && t.axState n != 4) = true)
    ((h1 v).axisEdges n ((r.words.drop 1).take (t.axPhases n))) (h1 v)) n
  unfold Machine.commitAxis
  dsimp only [State.when]
  exact ((((h2 _).inc _).of_ite (h2 _)).raise _ _).of_ite (((h2 _).inc _).of_ite (h2 _))

/-- BLEND's registers of a commit, its wheels and its duty. -/
theorem Aside.hostCommit : Aside s (hostCommit t) := by
  unfold Machine.hostCommit
  extract_lets g u16 s1 s2 s3 s4 s5 s6 n
  have h1 : Aside s s1 := ((h.set _ _).setI _ _).set _ _
  have h2 : Aside s s2 := ((h1.setI _ _).set _ _).set _ _
  have h3 : Aside s s3 := ((h2.set _ _).set _ _).set _ _
  have h4 : Aside s s4 := ((h3.set _ _).set _ _).set _ _
  have h5 : Aside s s5 := ((h4.setB _ _).setB _ _).setB _ _
  have h6 : Aside s s6 := h5.each fun w _ u hu => ((hu.set _ _).set _ _).set _ _
  exact h6.trans ⟨rfl, rfl⟩

theorem Aside.txClips (ty : Nat) : Aside s (txClips ty t) := by
  unfold Machine.txClips
  have hc : ∀ (b : Bool) u, Aside s u → Aside s (u.when b (fun t => { t.inc STR_STAT_CLIPPED with veh := { t.veh with strClip := true } })) := fun b u hu =>
    ((hu.inc STR_STAT_CLIPPED).withVeh { u.veh with strClip := true }).of_ite hu
  split
  · exact h.addSat _ _
  · exact hc _ _ (h.addSat _ _)
  · exact h

theorem Aside.publish : Aside s (publish t) := by
  unfold Machine.publish
  refine h.foldl fun u e hu => ?_
  dsimp only
  split
  · exact hu.of_ite ((hu.setTx _ _).txClips _)
  · exact hu

end Commits

/-- A commit of one axis leaves arbitration, and notes at most an axis reported as missed. -/
theorem commitOne_aside (missed : List Nat) (n : Nat) (s : State) :
    (commitOne missed n s).jan = s.jan ∧ ∀ k ∈ (commitOne missed n s).tk.missed, k ∈ s.tk.missed ∨ k ∈ missed := by
  unfold commitOne
  split
  · exact ⟨rfl, fun k hk => .inl hk⟩
  · next r coded _ =>
    split
    · next hm =>
      refine ⟨rfl, fun k hk => (List.mem_append.mp hk).imp_right fun hk => ?_⟩
      rw [List.mem_singleton.mp hk]
      exact List.contains_iff_mem.mp hm
    · have h1 : Aside s (commitAxis n r coded s) := (Aside.refl s).commitAxis n r coded
      obtain ⟨hj, ht⟩ := Aside.of_ite (c := ((commitAxis n r coded s).retHost == some n) = true) h1.hostCommit h1
      exact ⟨hj, fun k hk => .inl (by rwa [ht] at hk)⟩

/-! ### The end of arbitration (R187) -/

theorem settle_waiting (n : Nat) (v : Verdict) (s : State) : (settle n v s).jan.waiting = s.jan.waiting.filter (· != n) ∧ (settle n v s).tk = s.tk := by
  have hc : ∀ (f : State → State) (t : State), (f t).jan = t.jan ∧ (f t).tk = t.tk → (capOf n f t).jan = t.jan ∧ (capOf n f t).tk = t.tk := fun f t ht => by
    unfold capOf State.when
    split
    · exact ht
    · exact ⟨rfl, rfl⟩
  have hw : ∀ t u : State, (t.jan = u.jan ∧ t.tk = u.tk) → (u.jan.waiting = s.jan.waiting.filter (· != n) ∧ u.tk = s.tk) →
      t.jan.waiting = s.jan.waiting.filter (· != n) ∧ t.tk = s.tk := fun t u h k => ⟨by rw [h.1, k.1], h.2.trans k.2⟩
  cases v with
  | noVerdict => exact hw _ _ (hc _ _ ⟨rfl, rfl⟩) ⟨rfl, rfl⟩
  | rerun => exact hw _ _ (hc _ _ ⟨rfl, rfl⟩) ⟨rfl, rfl⟩
  | none => exact ⟨rfl, rfl⟩
  | match_ => exact ⟨rfl, rfl⟩
  | waiting => exact ⟨rfl, rfl⟩
  | plain => exact ⟨rfl, rfl⟩

theorem settleAll_waiting (l : List Nat) (v : Verdict) (s : State) :
    (∀ k ∈ (s.each l (settle · v)).jan.waiting, k ∈ s.jan.waiting ∧ k ∉ l) ∧ (s.each l (settle · v)).tk = s.tk := by
  induction l generalizing s with
  | nil => exact ⟨fun k hk => ⟨hk, List.not_mem_nil⟩, rfl⟩
  | cons n l ih =>
    obtain ⟨hw, ht⟩ := settle_waiting n v s
    obtain ⟨ihw, iht⟩ := ih (settle n v s)
    refine ⟨fun k hk => ?_, iht.trans ht⟩
    obtain ⟨hk, hl⟩ := ihw k hk
    rw [hw, List.mem_filter] at hk
    exact ⟨hk.1, fun hm => (List.mem_cons.mp hm).elim (fun e => by simp [e] at hk) hl⟩

theorem overrun_tk (win : Nat) (sl : Option Nat) (s : State) : (overrun win sl s).tk = s.tk := by
  rw [overrun_eq, State.inc_eq, State.set_tk]
  cases sl <;> rfl

theorem reserveEnd_ends (s : State) : (reserveEnd s).jan.rerunAt = none ∧ (reserveEnd s).jan.waiting = [] ∧ (reserveEnd s).tk = s.tk := by
  have h0 : ∀ t : State, t.tk = s.tk → ({ t.each t.jan.waiting (settle · .noVerdict) with
      jan := { (t.each t.jan.waiting (settle · .noVerdict)).jan with rerunAt := none } } : State).jan.waiting = [] ∧
      (t.each t.jan.waiting (settle · .noVerdict)).tk = s.tk := fun t ht => by
    obtain ⟨hw, hk⟩ := settleAll_waiting t.jan.waiting .noVerdict t
    exact ⟨List.eq_nil_iff_forall_not_mem.mpr fun k hk => (hw k hk).2 (hw k hk).1, hk.trans ht⟩
  unfold reserveEnd
  dsimp only
  refine ⟨rfl, h0 _ ?_⟩
  split
  · exact overrun_tk 3 _ s
  · rfl

/-- Settles O25: sound rails report the comparison's finding; the reserve's end settles what waits, votes and commits leave it so. -/
theorem compareAndCommitEndArbitration : Obligations.CompareAndCommitEndArbitration := by
  unfold Obligations.CompareAndCommitEndArbitration
  refine ⟨fun s hd he => ?_, fun missed s hd hq => ?_⟩
  · obtain ⟨ho, hr, ha⟩ := sendRecord_shows (janusVerdicts [] s)
    have hce : compareExchange [] s = sendRecord (janusVerdicts [] s) := by rw [compareExchange, if_pos he]
    refine ⟨framed s (compareExchange [] s), State.runIn_on s 2 _ hd, by rw [hce, framed_ln]; exact ho, by rw [hce, framed_ln]; exact hr, fun n => ?_⟩
    have hv : ((framed s (compareExchange [] s)).axs n).verdict = verdictOf s n := by
      rw [framed_axs, hce, State.axs, ha]
      exact janusVerdicts_verdict s n n.isLt
    rw [hv, verdictOf]
    cases (s.axs n).plain with
    | none => rfl
    | some p =>
      cases (s.axs n).coded with
      | none => rfl
      | some c =>
        dsimp only
        rw [State.finds]
        cases s.fbit JAN_FENCE_FENCED n <;> simp
  · obtain ⟨hr, hw, ht⟩ := reserveEnd_ends s
    obtain ⟨hvj, hvt⟩ := laneVote_aside (reserveEnd s)
    have hc := State.each_ind (l := List.range 16) (f := commitOne (missed.map Fin.val))
      (fun t => t.jan = (reserveEnd s).jan ∧ ∀ k ∈ t.tk.missed, k ∈ s.tk.missed ∨ k ∈ missed.map Fin.val) (laneVote (reserveEnd s))
      (fun n _ t ⟨hj, hm⟩ => ⟨(commitOne_aside _ n t).1.trans hj, fun k hk => ((commitOne_aside _ n t).2 k hk).elim (hm k) .inr⟩)
      ⟨hvj, fun k hk => .inl (by rwa [hvt, ht] at hk)⟩
    obtain ⟨hpj, hpt⟩ := (Aside.refl ((laneVote (reserveEnd s)).each (List.range 16) (commitOne (missed.map Fin.val)))).publish
    refine ⟨framed s (voteCommit (missed.map Fin.val) s), State.runIf_on s 2 _ _ hd (by rw [hq]; rfl), ?_, ?_, fun k hk => ?_⟩
    · rw [framed_jan, voteCommit, hpj, hc.1]; exact hr
    · rw [framed_jan, voteCommit, hpj, hc.1]; exact hw
    · rw [framed_tk, voteCommit, hpt] at hk
      exact hc.2 k hk

end Sys2Proof.Machine
end

section
/-!
PROOFS. Arbitration (R185-R187, R402): the reserve without a mismatch, and the verdict of a re-run.
-/
namespace Sys2Proof.Machine

/-! ### The reserve without a mismatch -/

/-- RERUN_SLICE shows the slice chosen, or keeps its value. -/
def showRerunSlice (slice : Option Nat) (s : State) : State := match slice with
  | some k => s.set JAN_STAT_RERUN_SLICE k
  | none => s

theorem showRerunSlice_same (slice : Option Nat) (s : State) :
    SameRegsBut [JAN_STAT_A] s (showRerunSlice slice s) ∧ (showRerunSlice slice s).axes = s.axes ∧ (showRerunSlice slice s).jan = s.jan := by
  cases slice with
  | some k => exact ⟨SameRegsBut.set_one s JAN_STAT_RERUN_SLICE k, rfl, rfl⟩
  | none => exact ⟨SameRegsBut.refl _ s, rfl, rfl⟩

/-- Only the slice in rotation is tested, and the next one is noted. -/
def State.reserved (s : State) (slice : Option Nat) : State :=
  let t := showRerunSlice slice (s.set BIST_SLC_NEXT ((s.rotation + 1) % 9))
  t.withJan { t.jan with susp := [], rot := some s.rotation, test := [s.rotation], failed := [], slice := slice
                         left := reserveCycles t.tNs t.engMhz, rerunAt := none }

theorem arbReserve_alone (s : State) (hm : s.jan.mism = []) (hw : s.jan.waiting = []) : ∃ slice, arbReserve s = s.reserved slice := by
  have hdup : [s.rotation].eraseDups = [s.rotation] := rfl
  have hmis : ((s.jan.mism.flatMap s.suspects).eraseDups) = [] := by rw [hm]; rfl
  have hlast : (s.rotation == 8 && s.on RP_SPARE_SLICE_FREE && s.jan.mism != []) = false := by rw [hm]; simp
  have hnext : ∀ sl, nextRerun (showRerunSlice sl (s.set BIST_SLC_NEXT ((s.rotation + 1) % 9))).jan.waiting (s.reserved sl) = s.reserved sl := fun sl => by
    rw [(showRerunSlice_same sl _).2.2, State.set_jan, hw]
    rfl
  unfold arbReserve
  simp only [hmis, hlast, Bool.false_eq_true, if_false, List.nil_append, Option.toList_some, hdup]
  exact ⟨_, hnext _⟩

/-- The reserve shows its slices and counts its cycles; tick length and engine clock are as they were. -/
theorem reserved_shows (s : State) (slice : Option Nat) :
    (s.reserved slice).f BIST_SLC_NEXT = (s.rotation + 1) % 9 ∧ (s.reserved slice).jan.left = reserveCycles s.tNs s.engMhz ∧
      (s.reserved slice).axes = s.axes ∧ SameRegsBut [BIST_SLC_A, JAN_STAT_A] s (s.reserved slice) := by
  obtain ⟨hs, ha, _⟩ := showRerunSlice_same slice (s.set BIST_SLC_NEXT ((s.rotation + 1) % 9))
  have hall : SameRegsBut [BIST_SLC_A, JAN_STAT_A] s (showRerunSlice slice (s.set BIST_SLC_NEXT ((s.rotation + 1) % 9))) :=
    ((SameRegsBut.set_one s BIST_SLC_NEXT _).mono (by decide)).trans (hs.mono (by decide))
  have hlen := hall.f TICK_STAT_LEN_ACT (by decide)
  have hmhz := hall.f PWR_DVFS_FPT (by decide)
  refine ⟨?_, ?_, ha, hall.of_regs rfl⟩
  · refine (hs.f BIST_SLC_NEXT (by decide)).trans ?_
    exact s.f_set_fits BIST_SLC_NEXT _ (Fld.fits rfl) (Nat.lt_trans (Nat.mod_lt _ (by decide)) (by decide))
  · show reserveCycles (State.tNs _) (State.engMhz _) = _
    rw [State.tNs, State.engMhz, hlen, hmhz, State.tNs, State.engMhz]

/-! ### The verdict of a re-run (R187) -/

section Verdict
variable {a d r : RunRes} {pOk cOk : Bool}

/-- A result takes part in the decision where it is eligible. -/
def eligible (ok : Bool) (r : RunRes) : Option RunRes := if ok then some r else none

theorem arbitrate_plain_of_rerun (hp : pOk = true) (h : a = r) : arbitrate (eligible pOk a) (eligible cOk d) r = .plain :=
  if_pos ⟨by rw [hp]; rfl, .inl (by rw [hp, h]; rfl)⟩

theorem arbitrate_plain_of_decoded (hp : pOk = true) (hc : cOk = true) (h : a = d) : arbitrate (eligible pOk a) (eligible cOk d) r = .plain :=
  if_pos ⟨by rw [hp]; rfl, .inr (by rw [hp, hc, h])⟩

/-- Where the plain result agrees with neither, it decides nothing. -/
theorem arbitrate_without_plain (har : a ≠ r) (had : a ≠ d) :
    arbitrate (eligible pOk a) (eligible cOk d) r = if eligible cOk d = some r then .rerun else .noVerdict := by
  refine if_neg fun ⟨hs, h⟩ => ?_
  cases pOk with
  | false => exact absurd hs (by simp [eligible])
  | true =>
    rcases h with h | h
    · exact har (Option.some.inj h)
    · cases cOk with
      | false => exact absurd h (by simp [eligible])
      | true => exact had (Option.some.inj h)

theorem arbitrate_rerun (hc : cOk = true) (har : a ≠ r) (had : a ≠ d) (h : d = r) : arbitrate (eligible pOk a) (eligible cOk d) r = .rerun := by
  rw [arbitrate_without_plain har had, hc, h]
  exact if_pos rfl

theorem arbitrate_none_eligible (hp : pOk = false) (hc : cOk = false) : arbitrate (eligible pOk a) (eligible cOk d) r = .noVerdict := by
  rw [hp, hc]
  rfl

theorem arbitrate_no_agreement (har : a ≠ r) (had : a ≠ d) (hdr : d ≠ r) : arbitrate (eligible pOk a) (eligible cOk d) r = .noVerdict := by
  rw [arbitrate_without_plain har had]
  refine if_neg fun h => ?_
  cases cOk with
  | false => exact absurd h (by simp [eligible])
  | true => exact hdr (Option.some.inj h)

end Verdict

/-! ### A re-run ends -/

/-- The result of a re-run, with the bit errors it met. -/
def rerunRes (n : Nat) (err : List BitErr) (i : ProgIn) (ci : ChainIn) (s : State) : RunRes :=
  ⟨errInto 24 n err (runPlain i ci (s.axs n).record).prog.res.words, (runPlain i ci (s.axs n).record).prog.res.flags⟩

/-- The slot keeps the re-run, which is counted and captured (R187, R198). -/
def keepRerun (n : Nat) (r : RunRes) (s : State) : State :=
  capOf n (fun t => t.set JAN_CAP_RERUN_RERUN (ofSigned 24 (r.words.getD (t.f JAN_CAP_AX_WORD) 0)))
    ((s.setAxs n { s.axs n with rerun := some r }).inc JAN_CNT_D_RERUN)

/-- The verdict of the re-run `r` of slot `n`. -/
def rerunVerdict (n : Nat) (p c r : RunRes) (s : State) : Verdict :=
  arbitrate (eligible (s.axs n).plainOk ⟨(s.partition n p.words.length).map holdPlain, p.flags⟩)
    (eligible (s.axs n).codedOk ⟨c.words.map (fun w => w.fdiv 59), c.flags⟩) r

/-- The re-run that is used is the one whose braking chain is published (R189). -/
def pubRerun (n : Nat) (v : Verdict) (ci : ChainIn) (chain : Option ChainOut) (t s : State) : State :=
  s.when (v == .rerun && t.retHost == some n) (fun u => match chain with
    | some k => hostPub ci k u
    | none => u)

/-- A re-run in progress ends. -/
def rerunEnds (n : Nat) (err : List BitErr) (i : ProgIn) (ci : ChainIn) (p c : RunRes) (s : State) : State :=
  let r := rerunRes n err i ci s
  let v := rerunVerdict n p c r s
  let t := keepRerun n r s
  let u := pubRerun n v ci (runPlain i ci (s.axs n).record).chain t (settle n v t)
  nextRerun u.jan.waiting (u.withJan { u.jan with rerunAt := none })

theorem rerunComplete_eq (n : Nat) (err : List BitErr) (s : State) :
    rerunComplete n err s = match (s.axs n).runIn, (s.axs n).plain, (s.axs n).coded with
      | some (i, ci), some p, some c => if s.jan.rerunAt ≠ some n then s else rerunEnds n err i ci p c s
      | _, _, _ => s := rfl

/-- A verdict stands in its slot; the counter of re-runs is not touched. -/
theorem settle_axs (n : Nat) (v : Verdict) (s : State) :
    (settle n v s).axs n = { s.axs n with verdict := v } ∧ (settle n v s).f JAN_CNT_D_RERUN = s.f JAN_CNT_D_RERUN := by
  have hc : ∀ (x : Nat) (t : State), (capOf n (fun t => t.set JAN_CAP_AX_VERDICT x) t).axs n = t.axs n ∧
      (capOf n (fun t => t.set JAN_CAP_AX_VERDICT x) t).f JAN_CNT_D_RERUN = t.f JAN_CNT_D_RERUN := fun x t => by
    unfold capOf State.when
    split
    · exact ⟨rfl, t.f_set_ne JAN_CAP_AX_VERDICT JAN_CNT_D_RERUN x (by decide)⟩
    · exact ⟨rfl, rfl⟩
  have hs := s.setAxs_axs_same n { s.axs n with verdict := v }
  have hb : ∀ t : State, t.axs n = { s.axs n with verdict := v } → t.f JAN_CNT_D_RERUN = s.f JAN_CNT_D_RERUN →
      ((t.raise 0x056 n).inc JAN_CNT_B_NO_VERDICT).axs n = { s.axs n with verdict := v } ∧
      ((t.raise 0x056 n).inc JAN_CNT_B_NO_VERDICT).f JAN_CNT_D_RERUN = s.f JAN_CNT_D_RERUN := fun t ha hf =>
    ⟨by rw [State.inc_eq, State.set_axs, State.raise_axs, ha],
      by rw [State.inc_eq, State.f_set_ne _ JAN_CNT_B_NO_VERDICT JAN_CNT_D_RERUN _ (by decide), State.raise_f, hf]⟩
  cases v with
  | noVerdict =>
    obtain ⟨ha, hf⟩ := hb (((s.setAxs n { s.axs n with verdict := .noVerdict }).withJan _)) hs rfl
    exact ⟨(hc 2 _).1.trans ha, (hc 2 _).2.trans hf⟩
  | rerun => exact ⟨(hc 1 _).1.trans hs, (hc 1 _).2⟩
  | none => exact ⟨hs, rfl⟩
  | match_ => exact ⟨hs, rfl⟩
  | waiting => exact ⟨hs, rfl⟩
  | plain => exact ⟨hs, rfl⟩

theorem keepRerun_shows (n : Nat) (r : RunRes) (s : State) :
    (keepRerun n r s).axs n = { s.axs n with rerun := some r } ∧ (keepRerun n r s).jan = s.jan ∧
      (keepRerun n r s).f JAN_CNT_D_RERUN = satU 16 (s.f JAN_CNT_D_RERUN + 1) := by
  have hf : ((s.setAxs n { s.axs n with rerun := some r }).inc JAN_CNT_D_RERUN).f JAN_CNT_D_RERUN = satU 16 (s.f JAN_CNT_D_RERUN + 1) :=
    State.f_inc_same _ JAN_CNT_D_RERUN (Fld.fits rfl)
  have ha : ((s.setAxs n { s.axs n with rerun := some r }).inc JAN_CNT_D_RERUN).axs n = { s.axs n with rerun := some r } := by
    rw [State.inc_eq, State.set_axs, State.setAxs_axs_same]
  unfold keepRerun capOf State.when
  split
  · exact ⟨ha, rfl, (State.f_set_ne _ JAN_CAP_RERUN_RERUN JAN_CNT_D_RERUN _ (by decide)).trans hf⟩
  · exact ⟨ha, rfl, hf⟩

/-- What publishing a chain leaves. -/
theorem pubRerun_same (n : Nat) (v : Verdict) (ci : ChainIn) (chain : Option ChainOut) (t s : State) :
    (pubRerun n v ci chain t s).axes = s.axes ∧ (pubRerun n v ci chain t s).jan = s.jan ∧ (pubRerun n v ci chain t s).regs = s.regs := by
  unfold pubRerun State.when
  split
  · cases chain with
    | some k => exact ⟨rfl, rfl, rfl⟩
    | none => exact ⟨rfl, rfl, rfl⟩
  · exact ⟨rfl, rfl, rfl⟩

theorem nextRerun_none {l : List Nat} (h : l = []) (s : State) : nextRerun l s = s := by
  rw [h]
  rfl

/-- The only waiting axis is re-run: its slot holds the re-run and the verdict, and no other re-run starts. -/
theorem rerunEnds_shows (n : Nat) (err : List BitErr) (i : ProgIn) (ci : ChainIn) (p c : RunRes) (s : State) (hw : s.jan.waiting = [n]) :
    let t := rerunEnds n err i ci p c s
    t.jan.rerunAt = none ∧ t.jan.waiting = [] ∧ (t.axs n).rerun = some (rerunRes n err i ci s) ∧
      t.f JAN_CNT_D_RERUN = satU 16 (s.f JAN_CNT_D_RERUN + 1) ∧ (t.axs n).verdict = rerunVerdict n p c (rerunRes n err i ci s) s := by
  unfold rerunEnds
  extract_lets r v t u _ t'
  obtain ⟨hta, htj, htf⟩ := keepRerun_shows n r s
  obtain ⟨hsa, hsf⟩ := settle_axs n v t
  obtain ⟨hua, huj, hur⟩ := pubRerun_same n v ci (runPlain i ci (s.axs n).record).chain t (settle n v t)
  have huw : u.jan.waiting = [] := by
    rw [show u.jan = (settle n v t).jan from huj, (settle_waiting n v t).1, show t.jan = s.jan from htj, hw]
    simp
  have hax : u.axs n = { (keepRerun n r s).axs n with verdict := v } := by
    rw [State.axs, show u.axes = (settle n v t).axes from hua]
    exact hsa
  have ht : t' = u.withJan { u.jan with rerunAt := none } := nextRerun_none huw _
  rw [ht]
  refine ⟨rfl, huw, ?_, ?_, ?_⟩
  · show (u.axs n).rerun = some r
    rw [hax, hta]
  · show u.f JAN_CNT_D_RERUN = _
    rw [State.f_congr hur, hsf, htf]
  · show (u.axs n).verdict = v
    rw [hax]

theorem rerunRes_clean (n : Nat) (i : ProgIn) (ci : ChainIn) (s : State) : rerunRes n [] i ci s = (runPlain i ci (s.axs n).record).prog.res := rfl

/-- Settles O26: without a mismatch the reserve only rotates; a re-run's verdict is that of the agreements. -/
theorem arbitrationDecidesByAgreement : Obligations.ArbitrationDecidesByAgreement := by
  unfold Obligations.ArbitrationDecidesByAgreement
  refine ⟨fun s hd he hm hw => ?_, fun n i ci p c s hd he hat hi hp hc hw => ?_⟩
  · obtain ⟨slice, h⟩ := arbReserve_alone s hm hw
    obtain ⟨hnext, hleft, hax, hregs⟩ := reserved_shows s slice
    have hf : s.runIf 2 s.engineOn arbReserve = .next (framed s (s.reserved slice)) := by rw [State.runIf_on s 2 _ _ hd he, h]
    exact ⟨framed s (s.reserved slice), hf, rfl, rfl, rfl, by rw [framed_f]; exact hnext, by rw [framed_jan]; exact hleft,
      by rw [framed_axes]; exact hax, hregs.of_regs rfl⟩
  · obtain ⟨hr, hwt, hrun, hcnt, hv⟩ := rerunEnds_shows n [] i ci p c s hw
    rw [rerunRes_clean] at hrun hv
    have hcomp : rerunComplete n [] s = rerunEnds n [] i ci p c s := by
      rw [rerunComplete_eq, hi, hp, hc]
      exact if_neg (not_not_intro hat)
    refine ⟨framed s (rerunComplete n [] s), State.runIf_on s 2 _ _ hd he, ?_⟩
    rw [hcomp, framed_jan, framed_f, framed_axs, hv]
    exact ⟨hr, hwt, hrun, hcnt, arbitrate_plain_of_rerun, arbitrate_plain_of_decoded, arbitrate_rerun, arbitrate_none_eligible, arbitrate_no_agreement⟩

end Sys2Proof.Machine
end

section
/-!
PROOFS. Slice and march tests, injections, and the triggers of the JANUS page (R190-R192, R196, R198).
-/
namespace Sys2Proof.Machine

/-! ### Words that read 0 after a clear -/

/-- The registers at the listed addresses read 0. -/
def zeroWords (l : List Nat) (s : State) : State := l.foldl (fun t a => t.setWord a 0) s

theorem zeroWords_outside (l : List Nat) (s : State) : SameRegsBut l s (zeroWords l s) := by
  induction l generalizing s with
  | nil => exact SameRegsBut.refl _ s
  | cons a l ih =>
    exact ((SameRegsBut.setWord a 0 s).mono (List.cons_subset.mpr ⟨List.mem_cons_self .., List.nil_subset _⟩)).trans
      ((ih (s.setWord a 0)).mono (List.subset_cons_self a l))

theorem zeroWords_word (l : List Nat) (s : State) (a : Nat) (ha : a ∈ l) : (zeroWords l s).word a = 0 := by
  induction l generalizing s with
  | nil => exact absurd ha List.not_mem_nil
  | cons b l ih =>
    rw [zeroWords, List.foldl_cons]
    by_cases hl : a ∈ l
    · exact ih (s.setWord b 0) hl
    · obtain rfl : a = b := (List.mem_cons.mp ha).resolve_right hl
      exact (zeroWords_outside l _ a hl).trans (s.word_setWord_same a 0)

@[simp] theorem zeroWords_jan (l : List Nat) (s : State) : (zeroWords l s).jan = s.jan := by
  induction l generalizing s with
  | nil => rfl
  | cons a l ih => exact ih (s.setWord a 0)

theorem each_setWord (l : List Nat) (g : Nat → Nat) (s : State) : s.each l (fun i t => t.setWord (g i) 0) = zeroWords (l.map g) s := by
  rw [zeroWords, List.foldl_map, State.each]

/-! ### Repair entries leave the JANUS page (R406) -/

/-- The Janus unit and its page are as they were. -/
structure JanusKept (s t : State) : Prop where
  jan : t.jan = s.jan
  page : ChangesOnly (fun a => a / 0x400 ≠ 0x00D) s t

section JanusKept
variable {s t u : State}

theorem JanusKept.refl (s : State) : JanusKept s s := ⟨rfl, ChangesOnly.refl _ s⟩
theorem JanusKept.trans (h : JanusKept s t) (k : JanusKept t u) : JanusKept s u := ⟨k.jan.trans h.jan, h.page.trans k.page⟩
theorem JanusKept.set (h : JanusKept s t) (x : Fld) (v : Nat) (hx : x.addr / 0x400 ≠ 0x00D) : JanusKept s (t.set x v) := ⟨h.jan, h.page.set x v hx⟩
theorem JanusKept.raise (h : JanusKept s t) (i d : Nat) : JanusKept s (t.raise i d) := ⟨h.jan, h.page.of_regs rfl⟩
theorem JanusKept.raiseU (h : JanusKept s t) (i : Nat) : JanusKept s (t.raiseU i) := ⟨h.jan, h.page.of_regs rfl⟩
theorem JanusKept.withRep (h : JanusKept s t) (r : RepairSt) : JanusKept s { t with rep := r } := ⟨h.jan, h.page.of_regs rfl⟩

theorem JanusKept.of_ite {c : Prop} [Decidable c] (h : JanusKept s t) (k : JanusKept s u) : JanusKept s (if c then t else u) := by
  split
  · exact h
  · exact k

theorem JanusKept.addEntry (h : JanusKept s t) (st kind res spare detail : Nat) : JanusKept s (addEntry st kind res spare detail t) := by
  unfold Machine.addEntry
  refine (h.raiseU _).of_ite (JanusKept.raise ?_ _ _)
  unfold mapCounts
  exact ((((((h.withRep _).set RP_STAT_NV_BUSY _ (by decide)).set RP_STAT_USED _ (by decide)).set RP_STAT_FULL _ (by decide)).set RP_STAT_FIELD _ (by decide)).set
    RP_PEND_PENDING _ (by decide))

theorem JanusKept.lose (h : JanusKept s t) (kind res detail : Nat) : JanusKept s (lose kind res detail t) := (h.addEntry 2 kind res 0xFFF detail).raise _ _

theorem JanusKept.rowRepair (h : JanusKept s t) (b row : Nat) : JanusKept s (rowRepair b row t) := by
  unfold Machine.rowRepair
  dsimp only
  split
  · exact ((h.addEntry _ _ _ _ _).withRep _).set RP_SPARE_ROW_FREE _ (by decide)
  · exact (h.lose _ _ _).withRep _

end JanusKept

/-! ### A march test ends (R190-R192) -/

/-- The partition has been tested: it waits no longer. -/
def marchDone (n : Nat) (s : State) : State :=
  (s.withJan { s.jan with marching := none, queue := s.jan.queue.filter (· != n) }).setBit JAN_PEND_PENDING n false

theorem marchDone_shows {n : Nat} (hn : n < 16) (s : State) :
    (marchDone n s).jan.marching = none ∧ (marchDone n s).jan.queue = s.jan.queue.filter (· != n) ∧ (marchDone n s).fbit JAN_PEND_PENDING n = false ∧
      (marchDone n s).axes = s.axes ∧ SameRegsBut [JAN_PEND_A] s (marchDone n s) :=
  ⟨rfl, rfl, ((s.withJan _).fbit_setBit JAN_PEND_PENDING n n false (Fld.fits rfl) hn).trans (if_pos rfl), rfl,
    ((SameRegsBut.refl _ s).of_regs (State.withJan_regs s _)).set JAN_PEND_PENDING _ (by decide)⟩

/-- A class in the capture is one field of it; what the march unit knows stays. -/
theorem capClass_keeps (n c : Nat) (s : State) :
    (capClass n c s).jan.marching = s.jan.marching ∧ (capClass n c s).jan.queue = s.jan.queue ∧
      SameRegsBut [JAN_CAP_AX_A] s (capClass n c s) ∧ (c = 0 → SameRegsBut [] s (capClass n c s)) := by
  have hset : SameRegsBut [JAN_CAP_AX_A] s (s.set JAN_CAP_AX_CLASS c) := SameRegsBut.set_one s JAN_CAP_AX_CLASS c
  have hrefl : ∀ l, SameRegsBut l s s := fun l => SameRegsBut.refl l s
  unfold capClass State.when
  dsimp only
  split
  · split
    · exact ⟨rfl, rfl, (hrefl _).of_regs rfl, fun _ => (hrefl _).of_regs rfl⟩
    · next hc => exact ⟨rfl, rfl, hset.of_regs rfl, fun h => absurd h hc⟩
  · exact ⟨rfl, rfl, hrefl _, fun _ => hrefl _⟩

theorem marchComplete_none {s : State} (pass : Bool) (row : Nat) (h : s.jan.marching = none) : marchComplete pass row s = s := by
  unfold marchComplete
  rw [h]

theorem marchComplete_pass {n : Nat} {s : State} (row : Nat) (hm : s.jan.marching = some n) (hs : (s.axs n).sliceFail = true) :
    marchComplete true row s = capClass n 0 (marchDone n s) := by
  unfold marchComplete
  rw [hm]
  exact if_pos hs

/-- The partition is fenced and the failure counted (R191, R192). -/
def marchFenced (n : Nat) (s : State) : State := ((s.raise 0x052 n).inc JAN_CNT_B_HOLD_FAIL).setBit JAN_FENCE_FENCED n true

theorem marchComplete_fail {n : Nat} {s : State} (row : Nat) (hm : s.jan.marching = some n) :
    marchComplete false row s = rowRepair 2 row (capClass n 3 (marchFenced n (marchDone n s))) := by
  unfold marchComplete
  rw [hm]
  rfl

theorem marchFenced_shows {n : Nat} (hn : n < 16) (s : State) :
    (marchFenced n s).fbit JAN_FENCE_FENCED n = true ∧ (marchFenced n s).f JAN_CNT_B_HOLD_FAIL = satU 8 (s.f JAN_CNT_B_HOLD_FAIL + 1) := by
  refine ⟨fbit_after_setBit (Fld.fits rfl) hn, ?_⟩
  rw [marchFenced, State.setBit_eq, State.f_set_ne _ JAN_FENCE_FENCED JAN_CNT_B_HOLD_FAIL _ (by decide),
    State.f_inc_same _ JAN_CNT_B_HOLD_FAIL (Fld.fits rfl), State.raise_f]
  rfl

/-- A failed march test: the partition is fenced, the failure counted. -/
theorem marchComplete_fail_shows {n : Nat} {s : State} (row : Nat) (hn : n < 16) (hm : s.jan.marching = some n) :
    (marchComplete false row s).jan.marching = none ∧ (marchComplete false row s).fbit JAN_FENCE_FENCED n = true ∧
      (marchComplete false row s).f JAN_CNT_B_HOLD_FAIL = satU 8 (s.f JAN_CNT_B_HOLD_FAIL + 1) := by
  obtain ⟨hd, _, _, _, hdr⟩ := marchDone_shows hn s
  obtain ⟨hfb, hfc⟩ := marchFenced_shows hn (marchDone n s)
  obtain ⟨hcm, _, hcr, _⟩ := capClass_keeps n 3 (marchFenced n (marchDone n s))
  have hk := (JanusKept.refl (capClass n 3 (marchFenced n (marchDone n s)))).rowRepair 2 row
  rw [marchComplete_fail row hm]
  refine ⟨by rw [hk.jan, hcm]; exact hd, ?_, ?_⟩
  · rw [State.fbit, hk.page.f JAN_FENCE_FENCED (by decide), hcr.f JAN_FENCE_FENCED (by decide)]
    exact hfb
  · rw [hk.page.f JAN_CNT_B_HOLD_FAIL (by decide), hcr.f JAN_CNT_B_HOLD_FAIL (by decide), hfc, hdr.f JAN_CNT_B_HOLD_FAIL (by decide)]

/-! ### The self-test slice reports the manual injection (R196) -/

theorem injections_manual {s : State} (inj man : Option RailPair) {k : Nat} (hn : s.tickNo % 1000 ≠ 0) (hk : s.jan.goIdx = some k) :
    injections inj man s = ((s.set JAN_INJ_STAT_NEXT ((s.tickNo / 1000 % 65 + 1) % 65)).set JAN_INJ_STAT_MAN_RESULT (if injFails k man = 0 then 1 else 2)).withJan
      { s.jan with goIdx := none } := by
  unfold injections
  dsimp only
  rw [if_neg (fun h => hn h.1)]
  rw [State.set_jan, hk]
  rfl

/-- A slice without missed commits and periodic injection reports the manual one. -/
theorem selfTestSlice_manual {s : State} (inj man : Option RailPair) (late : Bool) {k : Nat} (hm : s.tk.missed = []) (hn : s.tickNo % 1000 ≠ 0)
    (hk : s.jan.goIdx = some k) :
    (selfTestSlice inj man late s).f JAN_INJ_STAT_MAN_RESULT = (if injFails k man = 0 then 1 else 2) ∧ (selfTestSlice inj man late s).jan.goIdx = none ∧
      SameRegsBut [JAN_INJ_STAT_A] s (selfTestSlice inj man late s) := by
  have hce : commitEnd s = s := if_pos hm
  have hregs : SameRegsBut [JAN_INJ_STAT_A] s (injections inj man s) := by
    rw [injections_manual inj man hn hk]
    exact (((SameRegsBut.refl _ s).set JAN_INJ_STAT_NEXT _ (by decide)).set JAN_INJ_STAT_MAN_RESULT _ (by decide)).of_regs (State.withJan_regs _ _)
  have hf : (injections inj man s).f JAN_INJ_STAT_MAN_RESULT = (if injFails k man = 0 then 1 else 2) := by
    rw [injections_manual inj man hn hk, State.f_congr (State.withJan_regs _ _)]
    exact State.f_set_fits _ JAN_INJ_STAT_MAN_RESULT _ (Fld.fits rfl) (by split <;> decide)
  have hj : (injections inj man s).jan.goIdx = none := by rw [injections_manual inj man hn hk, State.withJan_jan]
  unfold selfTestSlice
  rw [hce]
  exact ⟨(State.f_congr (t := injections inj man s) rfl _).trans hf, hj, hregs.of_regs rfl⟩

/-! ### The triggers (R198) -/

theorem clearCap_eq (s : State) : clearCap s =
    (zeroWords [JAN_CAP_AX_A, JAN_CAP_PLAIN_A, JAN_CAP_CODED_A, JAN_CAP_RERUN_A, JAN_CAP_FLAGS_A, JAN_CAP_TIME_A] s).withJan
      { s.jan with capArmed := true, capAxis := none, capNow := false } := rfl

theorem janClrCnt_eq (s : State) : janClrCnt s = zeroWords ((List.range 8).map JAN_AXCNT_A)
    (zeroWords [JAN_CNT_A_A, JAN_CNT_B_A, JAN_CNT_C_A, JAN_CNT_D_A] (s.set JAN_INJ_STAT_FAIL 0)) := by
  rw [← each_setWord]
  rfl

/-- The counters of the axes stand apart from the others of the page. -/
theorem janClrCnt_shows (s : State) :
    (janClrCnt s).jan = s.jan ∧ (janClrCnt s).f JAN_INJ_STAT_FAIL = 0 ∧
      (∀ a ∈ [JAN_CNT_A_A, JAN_CNT_B_A, JAN_CNT_C_A, JAN_CNT_D_A], (janClrCnt s).word a = 0) ∧ (∀ i, i < 8 → (janClrCnt s).word (JAN_AXCNT_A i) = 0) := by
  rw [janClrCnt_eq]
  generalize hu : s.set JAN_INJ_STAT_FAIL 0 = u
  have hout := zeroWords_outside ((List.range 8).map JAN_AXCNT_A) (zeroWords [JAN_CNT_A_A, JAN_CNT_B_A, JAN_CNT_C_A, JAN_CNT_D_A] u)
  refine ⟨by rw [zeroWords_jan, zeroWords_jan, ← hu, State.set_jan], ?_, fun a ha => ?_,
    fun i hi => zeroWords_word _ _ _ (List.mem_map_of_mem (List.mem_range.mpr hi))⟩
  · rw [hout.f JAN_INJ_STAT_FAIL (by decide), (zeroWords_outside _ u).f JAN_INJ_STAT_FAIL (by decide), ← hu]
    exact s.f_set_fits JAN_INJ_STAT_FAIL 0 (Fld.fits rfl) (by decide)
  · have hap : ∀ a ∈ [JAN_CNT_A_A, JAN_CNT_B_A, JAN_CNT_C_A, JAN_CNT_D_A], a ∉ (List.range 8).map JAN_AXCNT_A := by decide
    exact (hout a (hap a ha)).trans (zeroWords_word _ u a ha)

/-- Settles O27, command by command. -/
theorem testsAndInjectionsEndWithTheirFinding : Obligations.TestsAndInjectionsEndWithTheirFinding := by
  unfold Obligations.TestsAndInjectionsEndWithTheirFinding
  refine ⟨fun sl s hd hq => ?_, fun row n s hd hq hn hm hs => ?_, fun row n s hd hq hn hm => ?_, fun pass row s hd hq hm => ?_, fun idx s hd => ?_,
    fun inj man late k s hd hq hm hn hk => ?_, fun s hd => ?_, fun s hd => ?_⟩
  · have hf : sliceTest sl true s = if s.jan.test.contains sl.val then s.withJan { s.jan with test := s.jan.test.filter (· != sl.val) } else s := by
      unfold sliceTest
      cases h : s.jan.test.contains sl.val
      · exact if_pos rfl
      · exact (if_neg (by decide)).trans (if_pos rfl)
    refine (State.runIf_on s 2 _ _ hd (by rw [hq]; rfl)).trans ?_
    rw [hf]
    split
    · rfl
    · exact congrArg _ (framed_self s s rfl rfl rfl)
  · obtain ⟨hd1, hd2, hd3, hd4, hd5⟩ := marchDone_shows hn s
    obtain ⟨hc1, hc2, _, hc4⟩ := capClass_keeps n 0 (marchDone n s)
    refine ⟨framed s (marchComplete true row s), State.runIf_on s 2 _ _ hd (by rw [hq]; rfl), ?_⟩
    rw [marchComplete_pass row hm hs, framed_jan, framed_fbit, hc1, hc2, State.fbit, (hc4 rfl).f JAN_PEND_PENDING List.not_mem_nil]
    exact ⟨hd1, hd3, hd2, (hd5.trans ((hc4 rfl).mono (List.nil_subset _))).of_regs rfl⟩
  · refine ⟨framed s (marchComplete false row s), State.runIf_on s 2 _ _ hd (by rw [hq]; rfl), ?_⟩
    rw [framed_jan, framed_fbit, framed_f]
    exact marchComplete_fail_shows row hn hm
  · refine (State.runIf_on s 2 _ _ hd (by rw [hq]; rfl)).trans ?_
    rw [marchComplete_none pass row hm, framed_self s s rfl rfl rfl]
  · refine (State.runIn_on s 2 (fun s => counted 0x00D (injGo idx.toNat s)) hd).trans ?_
    unfold injGo
    by_cases hs : s.service = true <;> by_cases hi : idx.toNat ≤ 64
    · rw [if_neg (by simp [hs, hi]), if_pos ⟨hs, hi⟩]
      rfl
    · rw [if_pos (by simp [Nat.lt_of_not_le hi]), if_neg (by simp [hi])]
      exact congrArg _ (framed_self s _ rfl rfl rfl)
    · rw [if_pos (by simp [hs]), if_neg (by simp [hs])]
      exact congrArg _ (framed_self s _ rfl rfl rfl)
    · rw [if_pos (by simp [hs]), if_neg (by simp [hs])]
      exact congrArg _ (framed_self s _ rfl rfl rfl)
  · obtain ⟨hf, hg, hr⟩ := selfTestSlice_manual inj man late hm hn hk
    refine ⟨framed s (selfTestSlice inj man late s), State.runIf_on s 2 _ _ hd (by rw [hq]; rfl), ?_⟩
    rw [framed_f, framed_jan]
    exact ⟨hf, hg, rfl, hr.of_regs rfl⟩
  · refine ⟨framed s (clearCap s), State.runIn_on s 2 _ hd, ?_⟩
    rw [clearCap_eq, framed_jan, framed_word, framed_word, State.withJan_jan, State.word_congr (State.withJan_regs _ _), State.word_congr (State.withJan_regs _ _)]
    exact ⟨rfl, zeroWords_word _ s _ (by decide), zeroWords_word _ s _ (by decide), (zeroWords_outside _ s).of_regs (framed_regs s _)⟩
  · refine ⟨framed s (janClrCnt s), State.runIn_on s 2 _ hd, ?_⟩
    simp only [framed_jan, framed_f, framed_word]
    exact janClrCnt_shows s

end Sys2Proof.Machine
end

section
/-!
PROOFS. The coded run (R92, R93, R175-R177): on words that are `c` times the plain ones every operation of a program gives `c` times
its plain result and the same flags.
-/
namespace Sys2Proof.Machine

/-! ### The value that a word stands for -/

/-- A result `c` times as large, with the same flags. -/
def Fl.mul (c : Int) (x : Fl Int) : Fl Int := ⟨c * x.val, x.fl⟩

@[simp] theorem Fl.mul_val (c : Int) (x : Fl Int) : (x.mul c).val = c * x.val := (rfl)
@[simp] theorem Fl.mul_fl (c : Int) (x : Fl Int) : (x.mul c).fl = x.fl := (rfl)

theorem wordVal_one (w : Int) : wordVal 1 w = w := Int.fdiv_one w
theorem wordRem_one (w : Int) : wordRem 1 w = 0 := Int.emod_one w

/-! ### Operations on words -/

section Words
variable {c : Int} (hc : 0 < c)
include hc

theorem wordVal_mul (w : Int) : wordVal c (c * w) = w := by
  rw [wordVal, Int.fdiv_eq_ediv_of_nonneg _ hc.le, Int.mul_ediv_cancel_left w hc.ne']

omit hc in
theorem wordRem_mul (w : Int) : wordRem c (c * w) = 0 := Int.mul_emod_right c w

theorem clampI_mul (lo hi x : Int) : clampI (c * lo) (c * hi) (c * x) = c * clampI lo hi x := by
  unfold clampI
  simp only [Int.mul_lt_mul_left hc]
  split_ifs <;> rfl

theorem magW_mul (w : Int) : magW (c * w) = c * magW w := by
  rw [magW, magW, Int.natAbs_mul, Int.natCast_mul, Int.natAbs_of_nonneg hc.le]

theorem sgn_mul (w : Int) : sgn (c * w) = sgn w := by
  have hneg : c * w < 0 ↔ w < 0 := ⟨fun h => neg_of_mul_neg_right h hc.le, fun h => mul_neg_of_pos_of_neg hc h⟩
  simp only [sgn, hneg, mul_pos_iff_of_pos_left hc]

theorem satFl_mul (k : Nat) (w : Int) : satFl c k (c * w) = (satFl 1 k w).mul c := by
  have h : clampI (-(c * puMax)) (c * puMax) (c * w) = c * clampI (-(1 * puMax)) (1 * puMax) w := by
    rw [← clampI_mul hc, Int.one_mul, Int.mul_neg]
  simp only [satFl, Fl.mul, h, Int.mul_eq_mul_left_iff hc.ne']

theorem satWide_mul (k : Nat) (w : Int) : satWide c k (c * w) = (satWide 1 k w).mul c := by
  have h : clampI (-(c * (puMax * 2 ^ 23))) (c * (puMax * 2 ^ 23)) (c * w) = c * clampI (-(1 * (puMax * 2 ^ 23))) (1 * (puMax * 2 ^ 23)) w := by
    rw [← clampI_mul hc, Int.one_mul, Int.mul_neg]
  simp only [satWide, Fl.mul, h, Int.mul_eq_mul_left_iff hc.ne']

theorem scaleW_mul (n d w : Int) : scaleW c n d (c * w) = c * scaleW 1 n d w := by
  simp only [scaleW, wordVal_mul hc, wordRem_mul, wordVal_one, wordRem_one, Int.mul_zero, Int.zero_emod, Int.add_zero, Int.one_mul]

theorem nlW_mul (f : Int → Int) (w : Int) : nlW c f (c * w) = c * nlW 1 f w := by
  simp only [nlW, wordVal_mul hc, wordRem_mul, wordVal_one, wordRem_one, Int.add_zero, Int.one_mul]

theorem nlW2_mul (f : Int → Int → Int) (a b : Int) : nlW2 c f (c * a) (c * b) = c * nlW2 1 f a b := by
  simp only [nlW2, wordVal_mul hc, wordRem_mul, wordVal_one, wordRem_one, ite_self, Int.add_zero, Int.one_mul]

theorem hiW_mul (w : Int) : hiW c (c * w) = c * hiW 1 w := nlW_mul hc _ w
theorem loW_mul (w : Int) : loW c (c * w) = c * loW 1 w := nlW_mul hc _ w

omit hc in
theorem joinW_mul (a b : Int) : joinW (c * a) (c * b) = c * joinW a b := by
  unfold joinW
  ring

theorem gain_mul (k g : Nat) (w : Int) : gain c k g (c * w) = (gain 1 k g w).mul c := by
  rw [gain, scaleW_mul hc, satFl_mul hc, gain]

theorem turnW_mul (w : Int) : turnW c (c * w) = c * turnW 1 w := nlW_mul hc _ w

/-- Terms added from left to right (R92). -/
theorem sumFl_mul (k : Nat) (x : Int) (l : List Int) : sumFl c k (c * x) (l.map (c * ·)) = (sumFl 1 k x l).mul c := by
  have h : ∀ (l : List Int) (s : Fl Int), (l.map (c * ·)).foldl (fun s y => let z := satFl c k (s.val + y); (⟨z.val, orFl s.fl z.fl⟩ : Fl Int)) (s.mul c) =
      (l.foldl (fun s y => let z := satFl 1 k (s.val + y); (⟨z.val, orFl s.fl z.fl⟩ : Fl Int)) s).mul c := fun l => by
    induction l with
    | nil => exact fun s => rfl
    | cons y l ih =>
      intro s
      rw [List.map_cons, List.foldl_cons, List.foldl_cons, ← ih]
      simp only [Fl.mul_val, Fl.mul_fl, ← Int.mul_add, satFl_mul hc]
      rfl
  exact h l ⟨x, 0⟩

/-! #### Comparisons and bounds -/

theorem clampW_mul (lo hi x : Int) : clampI (-(c * lo)) (c * hi) (c * x) = c * clampI (-lo) hi x := by
  rw [← Int.mul_neg, clampI_mul hc]

theorem clampW_zero_mul (hi x : Int) : clampI 0 (c * hi) (c * x) = c * clampI 0 hi x := by
  rw [← clampI_mul hc, Int.mul_zero]

theorem min_mul (a b : Int) : min (c * a) (c * b) = c * min a b := (mul_min_of_nonneg a b hc.le).symm
theorem max_mul (a b : Int) : max (c * a) (c * b) = c * max a b := (mul_max_of_nonneg a b hc.le).symm
theorem max_mul_zero (a : Int) : max (c * a) 0 = c * max a 0 := by rw [← max_mul hc, Int.mul_zero]
theorem max_zero_mul (a : Int) : max 0 (c * a) = c * max 0 a := by rw [← max_mul hc, Int.mul_zero]
theorem le_mul (a b : Int) : c * a ≤ c * b ↔ a ≤ b := Int.mul_le_mul_left hc
theorem lt_mul (a b : Int) : c * a < c * b ↔ a < b := Int.mul_lt_mul_left hc
theorem eq_mul (a b : Int) : c * a = c * b ↔ a = b := Int.mul_eq_mul_left_iff hc.ne'
theorem eq_zero_mul (a : Int) : c * a = 0 ↔ a = 0 := by rw [← eq_mul hc a 0, Int.mul_zero]
theorem beq_mul (a b : Int) : (c * a == c * b) = (a == b) := Bool.eq_iff_iff.mpr (by rw [beq_iff_eq, beq_iff_eq, eq_mul hc])
theorem bne_mul (a b : Int) : (c * a != c * b) = (a != b) := by rw [bne, bne, beq_mul hc]

omit hc in
theorem ite_mul_zero (p : Prop) [Decidable p] (a : Int) : (if p then 0 else c * a) = c * if p then 0 else a := by
  split
  · rw [Int.mul_zero]
  · rfl

omit hc in
theorem ite_zero_mul (p : Prop) [Decidable p] (a : Int) : (if p then c * a else 0) = c * if p then a else 0 := by
  split
  · rfl
  · rw [Int.mul_zero]

omit hc in
theorem ite_mul (p : Prop) [Decidable p] (a b : Int) : (if p then c * a else c * b) = c * if p then a else b := by
  split <;> rfl

omit hc in
theorem sgn_mul_left (a b : Int) : sgn a * (c * b) = c * (sgn a * b) := Int.mul_left_comm _ _ _

end Words

/-! ### The limiter (R107, R109) -/

/-- A limiter's state `c` times as large. -/
def Lim.mul (c : Int) (s : Lim) : Lim := ⟨c * s.x, c * s.v, c * s.a⟩

/-- The bound of the limiter's numbers, in units of the pass. -/
def limTop (g : LimCfg) : Int := puMax * (g.one / 2 ^ 23 : Nat)

/-- A number cut at that bound, with ARITH where its magnitude is beyond `top`. -/
def limPast (c : Int) (g : LimCfg) (top x : Int) : Fl Int := ⟨clampI (-(c * limTop g)) (c * limTop g) x, if magW x ≤ top then 0 else 2 ^ fArith⟩

/-- The steps of the limiter (R107): what is left to go, the speed sought for it, what that lacks, the acceleration sought for that. -/
def limErr (c : Int) (g : LimCfg) (r : Int) (s : Lim) : Fl Int := limPast c g (c * limTop g) (r - s.x)

def limSpeed (c : Int) (g : LimCfg) (e : Int) (s : Lim) : Fl Int :=
  limPast c g (c * g.one) (if s.v ≠ 0 ∧ sgn s.v ≠ sgn e then 0
    else sgn e * min (c * (g.vmax * g.one / g.fsV : Nat)) (nlW c (fun d => (vreach g d.toNat : Nat)) (magW e)))

def limLack (c : Int) (g : LimCfg) (vr : Int) (s : Lim) : Fl Int := limPast c g (c * limTop g) (vr - s.v)

def limAcc (c : Int) (g : LimCfg) (dv : Int) : Fl Int :=
  limPast c g (c * g.one) (sgn dv * min (c * (g.amax * g.one / g.fsV : Nat))
    (nlW c (fun d => (isqrt (2 * g.jmax * d.toNat * g.one / g.fsV) : Nat)) (magW dv)))

/-- Acceleration and speed of this tick, within their limits or approaching them (R109). -/
def limNextA (c : Int) (g : LimCfg) (at_ : Int) (s : Lim) : Int :=
  let top := min (c * limTop g) (max (c * (g.amax * g.one / g.fsV : Nat)) (magW s.a))
  let jd : Int := c * (g.jmax * g.one * g.tNs / (g.fsV * 10 ^ 9) : Nat)
  clampI (-top) top (s.a + clampI (-jd) jd (at_ - s.a))

def limNextV (c : Int) (g : LimCfg) (a : Int) (s : Lim) : Int :=
  let top := min (c * limTop g) (max (c * (g.vmax * g.one / g.fsV : Nat)) (magW s.v))
  clampI (-top) top (s.v + scaleW c g.tNs (10 ^ 9) a)

def limNextX (c : Int) (g : LimCfg) (v : Int) (s : Lim) : Fl Int :=
  limPast c g (c * limTop g) (s.x + scaleW c (g.fsV * g.tNs : Nat) (g.fsX * 10 ^ 9 : Nat) v)

/-- The steps in turn. -/
theorem limStep_eq (c : Int) (g : LimCfg) (r : Int) (s : Lim) :
    limStep c g r s = if g.fsV = 0 ∨ g.fsX = 0 then ⟨s, 0⟩
      else
        let e := limErr c g r s
        let vr := limSpeed c g e.val s
        let dv := limLack c g vr.val s
        let at_ := limAcc c g dv.val
        let a := limNextA c g at_.val s
        let v := limNextV c g a s
        let x := limNextX c g v s
        let fl := flAll [e.fl, vr.fl, dv.fl, at_.fl, x.fl]
        if sgn e.val ≠ 0 ∧ sgn (r - x.val) ≠ sgn e.val then ⟨⟨r, 0, 0⟩, fl⟩ else ⟨⟨x.val, v, a⟩, fl⟩ := rfl

section Limiter
variable {c : Int} (hc : 0 < c) (g : LimCfg)
include hc

theorem limPast_mul (top x : Int) : limPast c g (c * top) (c * x) = (limPast 1 g (1 * top) x).mul c := by
  simp only [limPast, Fl.mul, clampW_mul hc, magW_mul hc, le_mul hc, Int.one_mul]

theorem limErr_mul (r : Int) (s : Lim) : limErr c g (c * r) (s.mul c) = (limErr 1 g r s).mul c := by
  rw [limErr, Lim.mul, ← Int.mul_sub, limPast_mul hc, limErr]

theorem limSpeed_mul (e : Int) (s : Lim) : limSpeed c g (c * e) (s.mul c) = (limSpeed 1 g e s).mul c := by
  simp only [limSpeed, Lim.mul, ne_eq, eq_zero_mul hc, sgn_mul hc, magW_mul hc, nlW_mul hc, min_mul hc, sgn_mul_left, ite_mul_zero, limPast_mul hc, Int.one_mul]

theorem limLack_mul (vr : Int) (s : Lim) : limLack c g (c * vr) (s.mul c) = (limLack 1 g vr s).mul c := by
  rw [limLack, Lim.mul, ← Int.mul_sub, limPast_mul hc, limLack]

theorem limAcc_mul (dv : Int) : limAcc c g (c * dv) = (limAcc 1 g dv).mul c := by
  simp only [limAcc, sgn_mul hc, magW_mul hc, nlW_mul hc, min_mul hc, sgn_mul_left, limPast_mul hc, Int.one_mul]

theorem limNextA_mul (a : Int) (s : Lim) : limNextA c g (c * a) (s.mul c) = c * limNextA 1 g a s := by
  simp only [limNextA, Lim.mul, magW_mul hc, max_mul hc, min_mul hc, ← Int.mul_sub, clampW_mul hc, ← Int.mul_add, Int.one_mul]

theorem limNextV_mul (a : Int) (s : Lim) : limNextV c g (c * a) (s.mul c) = c * limNextV 1 g a s := by
  simp only [limNextV, Lim.mul, magW_mul hc, max_mul hc, min_mul hc, scaleW_mul hc, clampW_mul hc, ← Int.mul_add, Int.one_mul]

theorem limNextX_mul (v : Int) (s : Lim) : limNextX c g (c * v) (s.mul c) = (limNextX 1 g v s).mul c := by
  rw [limNextX, Lim.mul, scaleW_mul hc, ← Int.mul_add, limPast_mul hc, limNextX]

theorem limStep_mul (r : Int) (s : Lim) : limStep c g (c * r) (s.mul c) = ⟨(limStep 1 g r s).val.mul c, (limStep 1 g r s).fl⟩ := by
  rw [limStep_eq, limStep_eq]
  split
  · rfl
  · simp only [limErr_mul hc, Fl.mul_val, Fl.mul_fl, limSpeed_mul hc, limLack_mul hc, limAcc_mul hc, limNextA_mul hc, limNextV_mul hc, limNextX_mul hc, sgn_mul hc,
      ← Int.mul_sub]
    split
    · simp only [Lim.mul, Int.mul_zero]
    · rfl

end Limiter

/-! ### Records -/

/-- A state of record `c` times as large. -/
def Rec.mul (c : Int) (r : Rec) : Rec :=
  { integ := c * r.integ, xh := c * r.xh, vh := c * r.vh, dh := c * r.dh, xpPrev := c * r.xpPrev, lx := c * r.lx, lxf := c * r.lxf, lv := c * r.lv
    lvf := c * r.lvf, la := c * r.la, laf := c * r.laf, u := c * r.u, mode := c * r.mode, contact := c * r.contact, travel := c * r.travel, ang := c * r.ang
    angF := c * r.angF, spd := c * r.spd, hasContact := c * r.hasContact, start := c * r.start, clip := c * r.clip, travelF := c * r.travelF
    contactF := c * r.contactF, startF := c * r.startF, fePrev := c * r.fePrev, fePrevF := c * r.fePrevF, chain := r.chain.map (c * ·) }

@[simp] theorem Rec.mul_integ (c : Int) (r : Rec) : (r.mul c).integ = c * r.integ := (rfl)
@[simp] theorem Rec.mul_xh (c : Int) (r : Rec) : (r.mul c).xh = c * r.xh := (rfl)
@[simp] theorem Rec.mul_vh (c : Int) (r : Rec) : (r.mul c).vh = c * r.vh := (rfl)
@[simp] theorem Rec.mul_dh (c : Int) (r : Rec) : (r.mul c).dh = c * r.dh := (rfl)
@[simp] theorem Rec.mul_xpPrev (c : Int) (r : Rec) : (r.mul c).xpPrev = c * r.xpPrev := (rfl)
@[simp] theorem Rec.mul_lx (c : Int) (r : Rec) : (r.mul c).lx = c * r.lx := (rfl)
@[simp] theorem Rec.mul_lxf (c : Int) (r : Rec) : (r.mul c).lxf = c * r.lxf := (rfl)
@[simp] theorem Rec.mul_lv (c : Int) (r : Rec) : (r.mul c).lv = c * r.lv := (rfl)
@[simp] theorem Rec.mul_lvf (c : Int) (r : Rec) : (r.mul c).lvf = c * r.lvf := (rfl)
@[simp] theorem Rec.mul_la (c : Int) (r : Rec) : (r.mul c).la = c * r.la := (rfl)
@[simp] theorem Rec.mul_laf (c : Int) (r : Rec) : (r.mul c).laf = c * r.laf := (rfl)
@[simp] theorem Rec.mul_u (c : Int) (r : Rec) : (r.mul c).u = c * r.u := (rfl)
@[simp] theorem Rec.mul_mode (c : Int) (r : Rec) : (r.mul c).mode = c * r.mode := (rfl)
@[simp] theorem Rec.mul_contact (c : Int) (r : Rec) : (r.mul c).contact = c * r.contact := (rfl)
@[simp] theorem Rec.mul_travel (c : Int) (r : Rec) : (r.mul c).travel = c * r.travel := (rfl)
@[simp] theorem Rec.mul_ang (c : Int) (r : Rec) : (r.mul c).ang = c * r.ang := (rfl)
@[simp] theorem Rec.mul_angF (c : Int) (r : Rec) : (r.mul c).angF = c * r.angF := (rfl)
@[simp] theorem Rec.mul_spd (c : Int) (r : Rec) : (r.mul c).spd = c * r.spd := (rfl)
@[simp] theorem Rec.mul_hasContact (c : Int) (r : Rec) : (r.mul c).hasContact = c * r.hasContact := (rfl)
@[simp] theorem Rec.mul_start (c : Int) (r : Rec) : (r.mul c).start = c * r.start := (rfl)
@[simp] theorem Rec.mul_clip (c : Int) (r : Rec) : (r.mul c).clip = c * r.clip := (rfl)
@[simp] theorem Rec.mul_travelF (c : Int) (r : Rec) : (r.mul c).travelF = c * r.travelF := (rfl)
@[simp] theorem Rec.mul_contactF (c : Int) (r : Rec) : (r.mul c).contactF = c * r.contactF := (rfl)
@[simp] theorem Rec.mul_startF (c : Int) (r : Rec) : (r.mul c).startF = c * r.startF := (rfl)
@[simp] theorem Rec.mul_fePrev (c : Int) (r : Rec) : (r.mul c).fePrev = c * r.fePrev := (rfl)
@[simp] theorem Rec.mul_fePrevF (c : Int) (r : Rec) : (r.mul c).fePrevF = c * r.fePrevF := (rfl)
@[simp] theorem Rec.mul_chain (c : Int) (r : Rec) : (r.mul c).chain = r.chain.map (c * ·) := (rfl)

/-- A record and flags, the record `c` times as large. -/
def Fl.mulRec (c : Int) (x : Fl Rec) : Fl Rec := ⟨x.val.mul c, x.fl⟩

@[simp] theorem Fl.mulRec_val (c : Int) (x : Fl Rec) : (x.mulRec c).val = x.val.mul c := (rfl)
@[simp] theorem Fl.mulRec_fl (c : Int) (x : Fl Rec) : (x.mulRec c).fl = x.fl := (rfl)

theorem getD_map_mul (c : Int) (w : List Int) (k : Nat) : (w.map (c * ·)).getD k 0 = c * w.getD k 0 := by
  rw [List.getD_eq_getElem?_getD, List.getElem?_map, List.getD_eq_getElem?_getD]
  cases w[k]? with
  | some x => rfl
  | none => exact (Int.mul_zero c).symm

theorem Rec.ofWords_mul (c : Int) (w : List Int) : Rec.ofWords (w.map (c * ·)) = (Rec.ofWords w).mul c := by
  simp only [Rec.ofWords, Rec.mul, getD_map_mul, List.map_drop]

theorem Rec.words_mul (c : Int) (r : Rec) : (r.mul c).words = r.words.map (c * ·) := by
  simp only [Rec.words, Rec.mul, List.map_append, List.map_cons, List.map_nil]

end Sys2Proof.Machine
end

section
/-!
PROOFS. The axis programs on coded words (R99-R113, R175-R177).
-/
namespace Sys2Proof.Machine

section Program
variable {c : Int} (hc : 0 < c) (i : ProgIn)
include hc

/-! ### Observer and limiter (R102, R107) -/

theorem travelPu_mul (v : Int) (ns : Nat) : i.travelPu c (c * v) ns = c * i.travelPu 1 v ns := scaleW_mul hc _ _ v

theorem observe_mul (r : Rec) : observe c i (r.mul c) = (observe 1 i r).mulRec c := by
  unfold observe
  cases i.meas with
  | none =>
    simp only [Rec.mul_xh, Rec.mul_vh, Rec.mul_u, Rec.mul_dh, travelPu_mul hc, scaleW_mul hc, ← Int.mul_add, ← Int.mul_sub, satFl_mul hc, Fl.mul_val, Fl.mul_fl]
    rfl
  | some m =>
    simp only [Rec.mul_xh, Rec.mul_vh, Rec.mul_u, Rec.mul_dh, Rec.mul_xpPrev, travelPu_mul hc, scaleW_mul hc, ← Int.mul_add, ← Int.mul_sub, satFl_mul hc,
      Fl.mul_val, Fl.mul_fl, ite_mul, Int.one_mul]
    rfl

omit i in
theorem lt_zero_mul (a : Int) : c * a < 0 ↔ a < 0 := by rw [← lt_mul hc a 0, Int.mul_zero]

theorem clipSp_mul (sp : Int) : i.clipSp c (c * sp) = (c * (i.clipSp 1 sp).1, (i.clipSp 1 sp).2) := by
  unfold ProgIn.clipSp
  split
  · simp only [clampI_mul hc, Int.one_mul, bne_mul hc]
  · simp only [eq_zero_mul hc, ite_mul, Int.one_mul, bne_mul hc]
  · simp only [lt_zero_mul hc, ite_mul_zero, bne_mul hc]
  · simp only [bne_mul hc]

omit hc i in
theorem joinW_mul_zero (a : Int) : joinW (c * a) 0 = c * joinW a 0 := by
  unfold joinW
  ring

omit i in
/-- The words of a limiter that stands in a record. -/
theorem limRec_mul (g : LimCfg) (t : Int) (r : Rec) :
    limStep c g (c * t) ⟨joinW (r.mul c).lx (r.mul c).lxf, joinW (r.mul c).lv (r.mul c).lvf, joinW (r.mul c).la (r.mul c).laf⟩ =
      ⟨(limStep 1 g t ⟨joinW r.lx r.lxf, joinW r.lv r.lvf, joinW r.la r.laf⟩).val.mul c,
        (limStep 1 g t ⟨joinW r.lx r.lxf, joinW r.lv r.lvf, joinW r.la r.laf⟩).fl⟩ := by
  rw [← limStep_mul hc]
  simp only [Lim.mul, Rec.mul_lx, Rec.mul_lxf, Rec.mul_lv, Rec.mul_lvf, Rec.mul_la, Rec.mul_laf, joinW_mul]

theorem limit_mul (sp : Int) (r : Rec) : limit c i (c * sp) (r.mul c) = ((limit 1 i sp r).1.mulRec c, (limit 1 i sp r).2) := by
  unfold limit
  rw [clipSp_mul hc]
  dsimp only
  rw [joinW_mul_zero, limRec_mul hc]
  simp only [Lim.mul, hiW_mul hc, loW_mul hc, bne_mul hc]
  rfl

/-! ### Control laws (R99-R101) -/

theorem speedOf_mul (g : Nat) (w : Int) : i.speedOf c g (c * w) = (i.speedOf 1 g w).mul c := by
  rw [ProgIn.speedOf, scaleW_mul hc, satFl_mul hc, ProgIn.speedOf]

theorem integrate_mul (ki : Nat) (err : Int) (r : Rec) : integrate c i ki (c * err) (r.mul c) = (integrate 1 i ki err r).mulRec c := by
  unfold integrate
  simp only [Rec.mul_clip, Rec.mul_integ, scaleW_mul hc, satFl_mul hc, Fl.mul_val, Fl.mul_fl, wordVal_mul hc, wordVal_one, sgn_mul hc, ← Int.mul_add, magW_mul hc,
    le_mul hc, Int.one_mul]
  split <;> rfl

theorem omega_mul (spd : Int) : i.omega c (c * spd) = (i.omega 1 spd).mul c := by
  rw [ProgIn.omega, scaleW_mul hc, satFl_mul hc, ProgIn.omega]

theorem sumFl_mul_one (k : Nat) (x a : Int) : sumFl c k (c * x) [c * a] = (sumFl 1 k x [a]).mul c := sumFl_mul hc k x [a]
theorem sumFl_mul_two (k : Nat) (x a b : Int) : sumFl c k (c * x) [c * a, c * b] = (sumFl 1 k x [a, b]).mul c := sumFl_mul hc k x [a, b]
theorem sumFl_mul_three (k : Nat) (x a b d : Int) : sumFl c k (c * x) [c * a, c * b, c * d] = (sumFl 1 k x [a, b, d]).mul c := sumFl_mul hc k x [a, b, d]

/-- The position error lies in the dead zone of STEER (R99). -/
def inZone (c : Int) (i : ProgIn) (e : Int) : Bool := decide (magW e * i.fsX < c * (i.p 5 * 2 ^ 23 : Nat))

theorem inZone_mul (e : Int) : inZone c i (c * e) = inZone 1 i e := by
  rw [inZone, inZone, magW_mul hc, Int.mul_assoc, Int.one_mul, decide_eq_decide]
  exact lt_mul hc _ _

/-- The position error that STEER acts on. -/
def deadZone (c : Int) (i : ProgIn) (e : Int) : Int := if inZone c i e then 0 else e

theorem deadZone_mul (e : Int) : deadZone c i (c * e) = c * deadZone 1 i e := by
  rw [deadZone, inZone_mul hc, ite_mul_zero, deadZone]

/-- The record with a new demand. -/
def Rec.withU (r : Rec) (u : Int) : Rec := { r with u := u }

omit hc i in
theorem Rec.withU_mul (r : Rec) (u : Int) : (r.mul c).withU (c * u) = (r.withU u).mul c := rfl

omit hc in
theorem steerLaw_eq (r : Rec) : steerLaw c i r =
    (let e := satFl c fArith (r.lx - r.xh)
    let vref := i.speedOf c (i.p 0) (deadZone c i e.val)
    let ev := sumFl c fArith vref.val [r.lv, -r.vh]
    let r1 := integrate c i (i.p 2) ev.val r
    let f1 := gain c fFf (i.p 3) r.lv
    let f2 := gain c fFf (i.p 4) r.la
    let pr := gain c fArith (i.p 1) ev.val
    let u := sumFl c fArith pr.val [r1.val.integ, f1.val, f2.val]
    ⟨r1.val.withU u.val, flAll [e.fl, vref.fl, ev.fl, r1.fl, f1.fl, f2.fl, pr.fl, u.fl]⟩) := rfl

theorem steerLaw_mul (r : Rec) : steerLaw c i (r.mul c) = (steerLaw 1 i r).mulRec c := by
  rw [steerLaw_eq, steerLaw_eq]
  simp only [Rec.mul_lx, Rec.mul_xh, Rec.mul_lv, Rec.mul_vh, Rec.mul_la, Rec.mul_integ, ← Int.mul_sub, ← Int.mul_neg, satFl_mul hc, Fl.mul_val, Fl.mul_fl,
    deadZone_mul hc, speedOf_mul hc, sumFl_mul_two hc, integrate_mul hc, Fl.mulRec_val, Fl.mulRec_fl, gain_mul hc, sumFl_mul_three hc]
  exact congrArg₂ Fl.mk (Rec.withU_mul _ _) rfl

theorem forceLaw_mul (kp ki kf : Nat) (r : Rec) : forceLaw c i kp ki kf (r.mul c) = (forceLaw 1 i kp ki kf r).mulRec c := by
  unfold forceLaw
  simp only [Rec.mul_lx, Rec.mul_xh, Rec.mul_lv, Rec.mul_integ, ← Int.mul_sub, satFl_mul hc, Fl.mul_val, Fl.mul_fl, integrate_mul hc, Fl.mulRec_val, Fl.mulRec_fl,
    gain_mul hc, sumFl_mul_two hc]
  rfl

/-- The force that the mode table looks at: measured, or the observer's. -/
def clampForce (c : Int) (i : ProgIn) (r : Rec) : Int := match i.meas with
  | some m => c * m
  | none => r.xh

omit hc in
theorem clampForce_mul (r : Rec) : clampForce c i (r.mul c) = c * clampForce 1 i r := by
  unfold clampForce
  cases i.meas with
  | some m => exact congrArg (c * ·) (Int.one_mul m).symm
  | none => rfl

omit hc in
theorem clampMode_eq (r : Rec) : clampMode c i r =
    (let fc := c * i.xPu (i.p 2)
    if wordVal c r.mode = 0 then if fc < 2 * r.lx then { r with mode := c } else r
    else if wordVal c r.mode = 1 then
      if fc < clampForce c i r then { r with mode := 2 * c, contact := r.travel, contactF := r.travelF, hasContact := c } else r
    else if 2 * r.lx < fc ∧ 2 * clampForce c i r < fc then { r with mode := 0 }
    else r) := rfl

/-- The mode table (R100). -/
theorem clampMode_mul (r : Rec) : clampMode c i (r.mul c) = (clampMode 1 i r).mul c := by
  rw [clampMode_eq, clampMode_eq]
  simp only [clampForce_mul, Rec.mul_mode, Rec.mul_lx, wordVal_mul hc, wordVal_one, Int.one_mul, Int.mul_left_comm 2 c, lt_mul hc]
  split_ifs <;> simp only [Rec.mul, Int.mul_one, Int.mul_zero, Int.mul_comm 2 c]

/-- The speed towards the contact or the start, of CLAMP in POSITION (R100). -/
def clampTarget (c : Int) (i : ProgIn) (r : Rec) : Fl Int :=
  satWide c fArith (if wordVal c r.hasContact = 0 then joinW r.start r.startF else joinW r.contact r.contactF - c * (i.p 3 * 65536 : Int).fdiv 1000)

theorem clampTarget_mul (r : Rec) : clampTarget c i (r.mul c) = (clampTarget 1 i r).mul c := by
  simp only [clampTarget, Rec.mul_hasContact, Rec.mul_start, Rec.mul_startF, Rec.mul_contact, Rec.mul_contactF, wordVal_mul hc, wordVal_one, joinW_mul,
    ← Int.mul_sub, ite_mul, satWide_mul hc, Int.one_mul]

/-- CLAMP before the contact: a speed loop (R100). -/
def clampSpeed (c : Int) (i : ProgIn) (r : Rec) : Fl Rec :=
  let m := wordVal c r.mode
  let va := c * satPu ((i.p 5 * 2 ^ 23 : Int).fdiv 30000)
  let tgt := clampTarget c i r
  let err := satWide c fArith (tgt.val - joinW r.travel r.travelF)
  let pos := satFl c fArith (scaleW c (i.p 4 * 60 : Nat) (2 ^ 9 * 30000) err.val)
  let om := i.omega c r.spd
  let wsp := if m = 1 then va else clampI (-va) va pos.val
  let e := satFl c fArith (wsp - om.val)
  let u := gain c fArith (i.p 7) e.val
  ⟨{ r with u := u.val }, flAll [if m = 1 then 0 else flAll [tgt.fl, err.fl, pos.fl], om.fl, e.fl, u.fl]⟩

theorem clampSpeed_mul (r : Rec) : clampSpeed c i (r.mul c) = (clampSpeed 1 i r).mulRec c := by
  simp only [clampSpeed, clampTarget_mul hc, Rec.mul_mode, Rec.mul_travel, Rec.mul_travelF, Rec.mul_spd, wordVal_mul hc, wordVal_one, joinW_mul, ← Int.mul_sub,
    satWide_mul hc, Fl.mul_val, Fl.mul_fl, scaleW_mul hc, satFl_mul hc, omega_mul hc, clampW_mul hc, ite_mul, gain_mul hc, Int.one_mul]
  rfl

omit hc in
theorem clampLaw_eq (r : Rec) : clampLaw c i r =
    (let q := clampMode c i r
    if wordVal c q.mode ≠ 0 ∧ wordVal c q.mode ≠ 1 then forceLaw c i (i.p 0) (i.p 1) (i.p 6) q else clampSpeed c i q) := rfl

theorem clampLaw_mul (r : Rec) : clampLaw c i (r.mul c) = (clampLaw 1 i r).mulRec c := by
  rw [clampLaw_eq, clampLaw_eq]
  simp only [clampMode_mul hc, Rec.mul_mode, wordVal_mul hc, wordVal_one, forceLaw_mul hc, clampSpeed_mul hc]
  split <;> rfl

/-- PARK has come within `pct` percent of its travel to the target (R101). -/
def parkNear (c : Int) (i : ProgIn) (tgt xh pct : Int) : Bool :=
  decide (magW (tgt - xh) * 100 ≤ c * (magW (i.xPu (i.pS 0) - i.xPu (i.pS 1)) * pct))

theorem parkNear_mul (tgt xh pct : Int) : parkNear c i (c * tgt) (c * xh) pct = parkNear 1 i tgt xh pct := by
  rw [parkNear, parkNear, ← Int.mul_sub, magW_mul hc, Int.mul_assoc, Int.one_mul, decide_eq_decide]
  exact le_mul hc _ _

omit hc in
theorem parkLaw_eq (sp : Int) (r : Rec) : parkLaw c i sp r =
    (let apply := sp != 0
    let tgt := c * (if apply then i.xPu (i.pS 0) else i.xPu (i.pS 1))
    if parkNear c i tgt r.xh 1 then ⟨{ r with u := 0, mode := if apply then 2 * c else 0 }, 0⟩
    else
      let e := satFl c fArith (r.lx - r.xh)
      let vref := i.speedOf c (i.p 3) e.val
      let ev := satFl c fArith (vref.val - r.vh)
      let u := gain c fArith (i.p 4) ev.val
      let ia := c * i.iPu (i.p 2)
      let uv := if apply && parkNear c i tgt r.xh 10 then clampI (-ia) ia u.val else u.val
      ⟨{ r with u := uv, mode := c }, flAll [e.fl, vref.fl, ev.fl, u.fl]⟩) := rfl

/-- PARK: the target is reached, or approached through the speed (R101). -/
theorem parkLaw_mul (sp : Int) (r : Rec) : parkLaw c i (c * sp) (r.mul c) = (parkLaw 1 i sp r).mulRec c := by
  have hsp : (c * sp != 0) = (sp != 0) := by rw [← bne_mul hc sp 0, Int.mul_zero]
  rw [parkLaw_eq, parkLaw_eq]
  simp only [hsp, Rec.mul_xh, Rec.mul_lx, Rec.mul_vh, parkNear_mul hc, Int.one_mul, ← Int.mul_sub, satFl_mul hc, Fl.mul_val, Fl.mul_fl, speedOf_mul hc, gain_mul hc,
    clampW_mul hc, ite_mul]
  generalize parkNear 1 i _ r.xh 1 = near
  cases near with
  | true =>
    cases sp != 0
    · simp only [Fl.mulRec, Rec.mul, Int.mul_zero, if_true, Bool.false_eq_true, if_false]
    · simp only [Fl.mulRec, Rec.mul, Int.mul_zero, Int.mul_one, Int.mul_comm 2 c, if_true]
  | false => simp only [Fl.mulRec, Rec.mul, Int.mul_one, Bool.false_eq_true, if_false]

theorem chopLaw_mul (r : Rec) : chopLaw c i (r.mul c) = (chopLaw 1 i r).mulRec c := by
  unfold chopLaw
  simp only [Rec.mul_xh, Rec.mul_lx, Rec.mul_integ, ← Int.mul_sub, ← Int.mul_add, satFl_mul hc, Fl.mul_val, Fl.mul_fl, integrate_mul hc, Fl.mulRec_val, Fl.mulRec_fl,
    gain_mul hc]
  rfl

theorem controlLaw_mul (sp : Int) (r : Rec) : controlLaw c i (c * sp) (r.mul c) = (controlLaw 1 i sp r).mulRec c := by
  unfold controlLaw
  cases i.force with
  | some u => simp only [Fl.mulRec, Rec.mul, Int.one_mul]
  | none =>
    dsimp only
    split
    · exact steerLaw_mul hc i r
    · exact clampLaw_mul hc i r
    · exact parkLaw_mul hc i sp r
    · exact forceLaw_mul hc i _ _ _ r
    · exact chopLaw_mul hc i r
    · simp only [Fl.mulRec, Rec.mul, Int.mul_zero]

/-! ### Commutation and share (R106, R111-R113) -/

theorem commutate_mul (r : Rec) : commutate c i (r.mul c) = (commutate 1 i r).mulRec c := by
  unfold commutate
  cases i.angle with
  | some a =>
    simp only [Rec.mul_ang, Rec.mul_travel, Rec.mul_travelF, ← Int.mul_sub, ← Int.mul_add, turnW_mul hc, joinW_mul, satWide_mul hc, Fl.mul_val, Fl.mul_fl,
      hiW_mul hc, loW_mul hc, Int.one_mul]
    simp only [Fl.mulRec, Rec.mul, Int.mul_zero]
  | none =>
    simp only [Rec.mul_ang, Rec.mul_angF, Rec.mul_spd, Rec.mul_travel, Rec.mul_travelF, ← Int.mul_add, nlW_mul hc, turnW_mul hc, joinW_mul, satWide_mul hc,
      Fl.mul_val, Fl.mul_fl, hiW_mul hc, loW_mul hc]
    rfl

theorem perSet_mul (u : Int) : perSet c i (c * u) = (c * (perSet 1 i u).1, c * (perSet 1 i u).2) := by
  have hlo : ∀ m : Int, (if i.struct = 5 then 0 else -(c * m)) = c * (if i.struct = 5 then 0 else -m) := fun m => by
    rw [← Int.mul_neg, ite_mul_zero]
  simp only [perSet, scaleW_mul hc, hlo, clampI_mul hc, ← Int.mul_sub, sgn_mul hc, Int.one_mul]

theorem phaseAt_mul (iset θ : Int) : phaseAt c (c * iset) (c * θ) = (phaseAt 1 iset θ).mul c := by
  rw [phaseAt, nlW2_mul hc, satFl_mul hc, phaseAt]

/-- The phases of one set at its angle. -/
def phaseSet (c iset θ o : Int) : List (Fl Int) := [phaseAt c iset (θ + c * o), phaseAt c iset (θ + c * (o - 65536)), phaseAt c iset (θ + c * (o + 65536))]

omit i in
theorem phaseSet_mul (iset θ o : Int) : phaseSet c (c * iset) (c * θ) o = (phaseSet 1 iset θ o).map (Fl.mul c) := by
  simp only [phaseSet, ← Int.mul_add, phaseAt_mul hc, Int.one_mul, List.map_cons, List.map_nil]

/-- The angle of the middle of the next tick, of 196,608 units per turn (R112). -/
def phaseAngle (c : Int) (i : ProgIn) (r : Rec) : Int :=
  3 * i.polePairs * r.ang + scaleW c (9 * i.polePairs : Nat) 512 r.spd + c * (3 * i.offset : Nat)

theorem phaseAngle_mul (r : Rec) : phaseAngle c i (r.mul c) = c * phaseAngle 1 i r := by
  simp only [phaseAngle, Rec.mul_ang, Rec.mul_spd, scaleW_mul hc, Int.one_mul]
  ring

omit hc in
theorem phases_eq (r : Rec) (iset : Int) : phases c i r iset =
    if i.struct = 5 then ⟨[0, 1, 2].map (fun k => if bitOf (i.p 2) k then scaleW c 1 (popCount 3 (i.p 2)) iset else 0), 0⟩
    else
      let l := phaseSet c iset (phaseAngle c i r) 0 ++ (if i.six then phaseSet c iset (phaseAngle c i r) (if i.shift2 then -16384 else 0) else [])
      ⟨l.map (·.val), flAll (l.map (·.fl))⟩ := rfl

theorem phases_mul (r : Rec) (iset : Int) : phases c i (r.mul c) (c * iset) = ⟨(phases 1 i r iset).val.map (c * ·), (phases 1 i r iset).fl⟩ := by
  rw [phases_eq, phases_eq]
  split
  · simp only [scaleW_mul hc, ite_zero_mul, List.map_map, Function.comp_def]
  · have hl : ∀ l : List (Fl Int), (l.map (Fl.mul c)).map (·.val) = (l.map (·.val)).map (c * ·) ∧ (l.map (Fl.mul c)).map (·.fl) = l.map (·.fl) := fun l => by
      simp only [List.map_map, Function.comp_def, Fl.mul_val, Fl.mul_fl, and_self]
    have happ : phaseSet c (c * iset) (phaseAngle c i (r.mul c)) 0 ++
        (if i.six then phaseSet c (c * iset) (phaseAngle c i (r.mul c)) (if i.shift2 then -16384 else 0) else []) =
        (phaseSet 1 iset (phaseAngle 1 i r) 0 ++ (if i.six then phaseSet 1 iset (phaseAngle 1 i r) (if i.shift2 then -16384 else 0) else [])).map (Fl.mul c) := by
      rw [phaseAngle_mul hc, phaseSet_mul hc, phaseSet_mul hc, List.map_append]
      cases i.six <;> rfl
    dsimp only
    rw [happ, (hl _).1, (hl _).2]

/-! ### A whole program (R86, R99, R181) -/

/-- The record that the program leaves, and the words of its result set. -/
def endRec (c : Int) (i : ProgIn) (r : Rec) : Rec := { r with clip := (perSet c i r.u).2, u := if i.struct = 5 then (perSet c i r.u).1 else r.u }

omit hc in
theorem runProgram_res (sp : Int) (r : Rec) : (runProgram c i sp r).res =
    (let m := commutate c i r
    let o := observe c i m.val
    let l := limit c i sp o.val
    let k := controlLaw c i sp l.1.val
    let ps := perSet c i k.val.u
    let r' := endRec c i k.val
    let ph := phases c i r' ps.1
    ⟨r'.u :: ph.val ++ [r'.u] ++ r'.words, flAll [m.fl, o.fl, l.1.fl, k.fl, if ps.2 = 0 then 0 else 2 ^ fDemand, ph.fl, if i.inSat then 2 ^ fArith else 0]⟩) := rfl

theorem endRec_mul (r : Rec) : endRec c i (r.mul c) = (endRec 1 i r).mul c := by
  simp only [endRec, Rec.mul_u, perSet_mul hc, ite_mul]
  rfl

theorem runProgram_mul (sp : Int) (r : Rec) :
    (runProgram c i (c * sp) (r.mul c)).res = ⟨(runProgram 1 i sp r).res.words.map (c * ·), (runProgram 1 i sp r).res.flags⟩ := by
  rw [runProgram_res, runProgram_res]
  simp only [commutate_mul hc, Fl.mulRec_val, Fl.mulRec_fl, observe_mul hc, limit_mul hc, controlLaw_mul hc, Rec.mul_u, perSet_mul hc, endRec_mul hc, phases_mul hc,
    Rec.words_mul, eq_zero_mul hc, List.map_cons, List.map_append, List.map_nil]

end Program

end Sys2Proof.Machine
end

section
/-!
PROOFS. The braking chain on coded words (R155-R166), and a whole coded run (R92, R175, R177).
-/
namespace Sys2Proof.Machine

/-! ### The chain state in its words -/

/-- A chain state `c` times as large. -/
def Chain.mul (c : Int) (s : Chain) : Chain :=
  ⟨c * s.x, c * s.v, c * s.a, c * s.trim, c * s.vref, c * s.filt, c * s.cap, c * s.integ, s.k.map (c * ·)⟩

@[simp] theorem Chain.mul_x (c : Int) (s : Chain) : (s.mul c).x = c * s.x := (rfl)
@[simp] theorem Chain.mul_v (c : Int) (s : Chain) : (s.mul c).v = c * s.v := (rfl)
@[simp] theorem Chain.mul_a (c : Int) (s : Chain) : (s.mul c).a = c * s.a := (rfl)
@[simp] theorem Chain.mul_trim (c : Int) (s : Chain) : (s.mul c).trim = c * s.trim := (rfl)
@[simp] theorem Chain.mul_vref (c : Int) (s : Chain) : (s.mul c).vref = c * s.vref := (rfl)
@[simp] theorem Chain.mul_filt (c : Int) (s : Chain) : (s.mul c).filt = c * s.filt := (rfl)
@[simp] theorem Chain.mul_cap (c : Int) (s : Chain) : (s.mul c).cap = c * s.cap := (rfl)
@[simp] theorem Chain.mul_integ (c : Int) (s : Chain) : (s.mul c).integ = c * s.integ := (rfl)
@[simp] theorem Chain.mul_k (c : Int) (s : Chain) : (s.mul c).k = s.k.map (c * ·) := (rfl)

/-- A chain state and flags, the state `c` times as large. -/
def Fl.mulChain (c : Int) (x : Fl Chain) : Fl Chain := ⟨x.val.mul c, x.fl⟩

@[simp] theorem Fl.mulChain_val (c : Int) (x : Fl Chain) : (x.mulChain c).val = x.val.mul c := (rfl)
@[simp] theorem Fl.mulChain_fl (c : Int) (x : Fl Chain) : (x.mulChain c).fl = x.fl := (rfl)

theorem Chain.ofWords_mul (c : Int) (w : List Int) : Chain.ofWords (w.map (c * ·)) = (Chain.ofWords w).mul c := by
  simp only [Chain.ofWords, Chain.mul, getD_map_mul, joinW_mul, List.map_map, Function.comp_def]

theorem wideC_eq (c x : Int) : wideC c x = c * wideC 1 x := by
  rw [wideC, wideC, Int.one_mul]

section Chain
variable {c : Int} (hc : 0 < c) (i : ChainIn)
include hc

omit i in
theorem Chain.words_mul (s : Chain) : (s.mul c).words c = (s.words 1).map (c * ·) := by
  have hw : (s.mul c).wide = s.wide.map (c * ·) := rfl
  have hhi : (hiW c) ∘ (c * ·) = (c * ·) ∘ (hiW 1) := funext fun w => hiW_mul hc w
  have hlo : (loW c) ∘ (c * ·) = (c * ·) ∘ (loW 1) := funext fun w => loW_mul hc w
  rw [Chain.words, hw, List.map_map, List.map_map, hhi, hlo, Chain.words, List.map_append, List.map_append, List.map_map, List.map_map]
  rfl

/-! ### Request and reference speed (R155, R157, R158) -/

theorem shape_mul (s : Chain) : shape c i (s.mul c) = (shape 1 i s).mulChain c := by
  have hl := limStep_mul hc ⟨2 ^ 46, 2 ^ 14, 2 ^ 17, i.rate, i.jerk, if i.tjMs = 0 then 0 else i.jerk * 1000 / i.tjMs, i.tNs⟩ (wideC 1 (satPu i.aReq)) ⟨s.x, s.v, s.a⟩
  rw [← wideC_eq] at hl
  unfold shape
  rw [show (⟨(s.mul c).x, (s.mul c).v, (s.mul c).a⟩ : Lim) = (⟨s.x, s.v, s.a⟩ : Lim).mul c from rfl, hl]
  rfl

theorem refSpeed_mul (s : Chain) : refSpeed c i (s.mul c) = (refSpeed 1 i s).mulChain c := by
  unfold refSpeed
  simp only [wideC_eq c, Chain.mul_vref, Chain.mul_filt, ← Int.mul_sub, ← Int.mul_add, satWide_mul hc, Fl.mul_val, Fl.mul_fl, max_mul hc, min_mul hc, max_mul_zero hc,
    scaleW_mul hc, Int.one_mul]
  rfl

/-! ### Slips and slip factors (R165, R166) -/

theorem slipOf_mul (vref v : Int) : slipOf c i (c * vref) v = (slipOf 1 i vref v).mul c := by
  rw [slipOf, nlW_mul hc, satFl_mul hc, slipOf]

/-- What a slip factor may gain in a tick. -/
def slipUp (i : ChainIn) : Int := (i.recov * 2 ^ 22 * i.tNs : Int).fdiv (10 ^ 10)

/-- A slip factor beside its target (R165). -/
def slipCut (c : Int) (i : ChainIn) (lam k : Int) (fl : Nat) : Fl Int :=
  let excess := satFl c fArith (lam - c * i.lamTgt)
  let cut := satFl c fArith (scaleW c (i.ks * 2 ^ 22 * i.tNs : Nat) (65536 * 10 ^ 9) excess.val)
  let low := satFl c fArith (k - cut.val)
  ⟨max low.val (c * i.kMin), flAll [fl, excess.fl, cut.fl, low.fl]⟩

theorem slipCut_mul (lam k : Int) (fl : Nat) : slipCut c i (c * lam) (c * k) fl = (slipCut 1 i lam k fl).mul c := by
  simp only [slipCut, ← Int.mul_sub, satFl_mul hc, Fl.mul_val, Fl.mul_fl, scaleW_mul hc, max_mul hc, Int.one_mul]
  rfl

/-- A slip factor with a measured speed. -/
def slipBy (c : Int) (i : ChainIn) (vref v k : Int) : Fl Int :=
  let lam := slipOf c i vref v
  if vref < wideC c i.vMin then ⟨min (k + c * slipUp i) (c * kOne), 0⟩
  else if c * i.lamTgt < lam.val then slipCut c i lam.val k lam.fl
  else if lam.val < c * (i.lamTgt - i.hyst) then ⟨min (k + c * slipUp i) (c * kOne), lam.fl⟩
  else ⟨k, lam.fl⟩

theorem slipBy_mul (vref v k : Int) : slipBy c i (c * vref) v (c * k) = (slipBy 1 i vref v k).mul c := by
  unfold slipBy
  rw [slipOf_mul hc, wideC_eq c, ← Int.mul_add, min_mul hc]
  simp only [Fl.mul_val, Fl.mul_fl, lt_mul hc, slipCut_mul hc, Int.one_mul]
  split_ifs <;> rfl

omit hc in
theorem slipStep_eq (vref : Int) (w : Nat) (k : Int) : slipStep c i vref w k =
    if !i.en.getD w false then ⟨k, 0⟩
    else match i.wheels.getD w none with
      | none => ⟨if k < c * i.kBlind then min (k + c * slipUp i) (c * i.kBlind) else max (k - c * slipUp i) (c * i.kBlind), 0⟩
      | some v => slipBy c i vref v k := rfl

theorem slipStep_mul (vref : Int) (w : Nat) (k : Int) : slipStep c i (c * vref) w (c * k) = (slipStep 1 i vref w k).mul c := by
  rw [slipStep_eq, slipStep_eq]
  split
  · rfl
  · cases i.wheels.getD w none with
    | none =>
      dsimp only
      rw [← Int.mul_add, ← Int.mul_sub, min_mul hc, max_mul hc]
      simp only [lt_mul hc, ite_mul, Fl.mul, Int.one_mul]
    | some v => exact slipBy_mul hc i vref v k

/-! ### Trim (R157) -/

/-- Every enabled wheel-end has a slip factor of 1. -/
def allOne (c : Int) (i : ChainIn) (k : List Int) : Bool := (List.range 12).all (fun w => !i.en.getD w false || k.getD w 0 == c * kOne)

theorem allOne_mul (k : List Int) : allOne c i (k.map (c * ·)) = allOne 1 i k := by
  simp only [allOne, getD_map_mul, beq_mul hc, Int.one_mul]

/-- The trim moves with the deviation. -/
def trimMove (c : Int) (i : ChainIn) (s : Chain) : Fl Int :=
  let e := satWide c fArith (s.x - 2 * s.filt)
  let d := satWide c fArith (nlW2 c (fun x e => (i.kiTrim * 2 ^ 46 * e * i.tNs).fdiv (256 * x * 10 ^ 9)) s.x e.val)
  ⟨clampI (-(wideC c i.trimLo)) (wideC c i.trimHi) (s.trim + d.val), flAll [e.fl, d.fl]⟩

theorem trimMove_mul (s : Chain) : trimMove c i (s.mul c) = (trimMove 1 i s).mul c := by
  simp only [trimMove, Chain.mul_x, Chain.mul_filt, Chain.mul_trim, wideC_eq c, Int.mul_left_comm 2 c, ← Int.mul_sub, ← Int.mul_add, satWide_mul hc, Fl.mul_val,
    Fl.mul_fl, nlW2_mul hc, clampW_mul hc]
  rfl

omit hc in
theorem trimStep_eq (s : Chain) : trimStep c i s =
    if !i.trimEn then ⟨0, 0⟩
    else if wideC c (500 * 512) ≤ s.x ∧ wideC c i.vMin ≤ s.vref ∧ allOne c i s.k then trimMove c i s
    else ⟨s.trim, 0⟩ := rfl

theorem trimStep_mul (s : Chain) : trimStep c i (s.mul c) = (trimStep 1 i s).mul c := by
  rw [trimStep_eq, trimStep_eq]
  simp only [wideC_eq c, Chain.mul_x, Chain.mul_vref, Chain.mul_k, Chain.mul_trim, le_mul hc, allOne_mul hc, trimMove_mul hc]
  split_ifs
  · exact congrArg₂ Fl.mk (Int.mul_zero c).symm rfl
  · rfl
  · rfl

/-! ### Regulator and cap (R161-R163) -/

/-- The retarder regulator where it runs. -/
def regulateOn (c : Int) (i : ChainIn) (integ : Int) : Fl (Int × Int) :=
  let top := wideC c (i.nSt * 2 ^ 20)
  let e := satFl 1 fArith (i.uLink - i.uRef)
  let step := satWide c fArith (c * (i.ki * e.val * i.tNs * 2 ^ 23).fdiv (64 * 10 ^ 9))
  let integ := if (i.nSt * 2 ^ 20 ≤ i.dLast ∧ 0 < e.val) ∨ (i.dLast ≤ 0 ∧ e.val < 0) then integ else clampI 0 top (integ + step.val)
  let prop := satWide c fArith (c * (i.kp * e.val * 2 ^ 23).fdiv 64)
  ⟨(clampI 0 top (prop.val + integ), integ), flAll [e.fl, step.fl, prop.fl]⟩

omit hc in
theorem regulate_eq (integ : Int) : regulate c i integ =
    if i.nSt = 0 ∨ !i.retEn then ⟨(0, integ), 0⟩
    else if !i.linkOk then ⟨(wideC c (if i.holdOver then 0 else i.dLast), integ), 0⟩
    else regulateOn c i integ := rfl

/-- Duty and integrator `c` times as large. -/
def Fl.mulPair (c : Int) (x : Fl (Int × Int)) : Fl (Int × Int) := ⟨(c * x.val.1, c * x.val.2), x.fl⟩

theorem regulateOn_mul (integ : Int) : regulateOn c i (c * integ) = (regulateOn 1 i integ).mulPair c := by
  simp only [regulateOn, wideC_eq c, satWide_mul hc, Fl.mul_val, Fl.mul_fl, ← Int.mul_add, clampW_zero_mul hc, ite_mul, Int.one_mul]
  rfl

theorem regulate_mul (integ : Int) : regulate c i (c * integ) = (regulate 1 i integ).mulPair c := by
  rw [regulate_eq, regulate_eq]
  split
  · exact congrArg₂ Fl.mk (congrArg₂ Prod.mk (Int.mul_zero c).symm rfl) rfl
  · split
    · rw [wideC_eq c]
      rfl
    · exact regulateOn_mul hc i integ

/-- The cap's step in a tick (R161). -/
def capRate (i : ChainIn) : Int := (i.derate * 1000 * i.tNs * newton).fdiv (10 ^ 9)

/-- The cap while the link gives a value. -/
def capLinked (c : Int) (i : ChainIn) (cap fe d fReq : Int) : Int :=
  if i.uHi < i.uLink then max (min cap fe - c * capRate i) 0
  else if cap ≠ c * capInf ∧ i.uLink < i.uRef ∧ 10 * d < 9 * wideC c (i.nSt * 2 ^ 20) then
    if fReq ≤ cap + c * capRate i then c * capInf else cap + c * capRate i
  else cap

omit hc in
theorem capStep_eq (cap fe d fReq : Int) : capStep c i cap fe d fReq = if !i.linkOk then -magW cap else capLinked c i (max cap 0) fe d fReq := rfl

theorem capLinked_mul (cap fe d fReq : Int) : capLinked c i (c * cap) (c * fe) (c * d) (c * fReq) = c * capLinked 1 i cap fe d fReq := by
  simp only [capLinked, wideC_eq c, min_mul hc, ← Int.mul_sub, max_mul_zero hc, ne_eq, eq_mul hc, Int.mul_left_comm _ c, lt_mul hc, ← Int.mul_add, le_mul hc, ite_mul,
    Int.one_mul]

theorem capStep_mul (cap fe d fReq : Int) : capStep c i (c * cap) (c * fe) (c * d) (c * fReq) = c * capStep 1 i cap fe d fReq := by
  rw [capStep_eq, capStep_eq, max_mul_zero hc, capLinked_mul hc, magW_mul hc, ← Int.mul_neg, ite_mul]

/-! ### Allocation and slips (R160, R165) -/

theorem allocate_mul (k : List Int) (fF : Int) : allocate c i (k.map (c * ·)) (c * fF) = (allocate 1 i k fF).map (c * ·) := by
  simp only [allocate, getD_map_mul, nlW2_mul hc, ite_mul_zero, List.map_map, Function.comp_def]

theorem slips_mul (vref : Int) : slips c i (c * vref) = (slips 1 i vref).map (Fl.mul c) := by
  unfold slips
  rw [List.map_map]
  refine List.map_congr_left fun w _ => ?_
  dsimp only [Function.comp_apply]
  cases i.wheels.getD w none with
  | none => exact congrArg₂ Fl.mk (Int.mul_zero c).symm rfl
  | some v =>
    dsimp only
    split
    · exact slipOf_mul hc i vref v
    · exact congrArg₂ Fl.mk (Int.mul_zero c).symm rfl

/-! ### A whole run of the chain (R155-R166) -/

/-- Shaping, reference speed and slip factors of the tick. -/
structure ChainBegin where
  chain : Chain
  fl1 : Nat
  fl2 : Nat
  ks : List Nat

def chainBegin (c : Int) (i : ChainIn) (words : List Int) : ChainBegin :=
  let sh := shape c i (Chain.ofWords words)
  let rs := refSpeed c i sh.val
  let ks := (List.range 12).map (fun w => slipStep c i rs.val.vref w (rs.val.k.getD w 0))
  ⟨{ rs.val with k := ks.map (·.val) }, sh.fl, rs.fl, ks.map (·.fl)⟩

theorem chainBegin_mul (words : List Int) :
    chainBegin c i (words.map (c * ·)) = { chainBegin 1 i words with chain := (chainBegin 1 i words).chain.mul c } := by
  simp only [chainBegin, Chain.ofWords_mul, shape_mul hc, Fl.mulChain_val, Fl.mulChain_fl, refSpeed_mul hc, Chain.mul_vref, Chain.mul_k, getD_map_mul, slipStep_mul hc,
    List.map_map, Function.comp_def, Fl.mul_val, Fl.mul_fl]
  simp only [Chain.mul, List.map_map, Function.comp_def]

/-- The requested force (R160). -/
def chainReq (c : Int) (i : ChainIn) (x tr : Int) : Fl Int :=
  satWide c fArith (if i.on then nlW2 c (fun x t => (i.mass * x * (2 ^ 46 + t) * 100).fdiv (256 * 512 * 1000 * 2 ^ 50)) x tr else 0)

theorem chainReq_mul (x tr : Int) : chainReq c i (c * x) (c * tr) = (chainReq 1 i x tr).mul c := by
  rw [chainReq, nlW2_mul hc, ite_zero_mul, satWide_mul hc, chainReq]

/-- The available force (R161). -/
def chainAvail (c : Int) (i : ChainIn) : Fl Int := satWide c fArith (c * (if i.rDyn = 0 then 0 else (i.tAvail * 1000 * newton).fdiv i.rDyn))

theorem chainAvail_mul : chainAvail c i = (chainAvail 1 i).mul c := by
  rw [chainAvail, satWide_mul hc, chainAvail, Int.one_mul]

/-- The electric force (R161). -/
def chainElec (c : Int) (i : ChainIn) (cap fReq fAv : Int) : Int :=
  if !i.on || !i.linkOk || i.noElec then 0
  else max 0 (min fAv (min (scaleW c i.elecCap (2 ^ 15) fReq) (if cap = c * capInf then fReq else cap)))

theorem chainElec_mul (cap fReq fAv : Int) : chainElec c i (c * cap) (c * fReq) (c * fAv) = c * chainElec 1 i cap fReq fAv := by
  simp only [chainElec, eq_mul hc, scaleW_mul hc, ite_mul, min_mul hc, max_zero_mul hc, ite_mul_zero, Int.one_mul]

/-- The set-point of the wheel-end's own axis (R160). -/
def chainSp (c : Int) (i : ChainIn) (fW : List Int) : Fl Int := satWide c fArith (match i.own with
  | some w => scaleW c i.cw 256 (fW.getD w 0)
  | none => 0)

theorem chainSp_mul (fW : List Int) : chainSp c i (fW.map (c * ·)) = (chainSp 1 i fW).mul c := by
  unfold chainSp
  cases i.own with
  | some w =>
    dsimp only
    rw [getD_map_mul, scaleW_mul hc, satWide_mul hc]
  | none => exact (congrArg (satWide c fArith) (Int.mul_zero c).symm).trans (satWide_mul hc _ _)

omit hc in
theorem chainStep_eq (words : List Int) (fe : Int) : chainStep c i words fe =
    (let b := chainBegin c i words
    let s := b.chain
    let tr := trimStep c i s
    let fReq := chainReq c i s.x tr.val
    let r := regulate c i s.integ
    let cap := capStep c i s.cap fe r.val.1 fReq.val
    let s := { s with trim := tr.val, integ := r.val.2, cap := cap }
    let fAv := chainAvail c i
    let fE := chainElec c i cap fReq.val fAv.val
    let fF := satWide c fArith (fReq.val - fE)
    let fW := allocate c i s.k fF.val
    let lam := slips c i s.vref
    let sp := chainSp c i fW
    { chain := s, fReq := fReq.val, fAv := fAv.val, fE := fE, tReq := scaleW c i.rDyn (1000 * newton) fE
      duty := if i.on then hiW c r.val.1 else 0, lam := lam.map (·.val), fW := fW, sp := sp.val
      trimLim := i.trimEn && (s.trim == wideC c i.trimHi || s.trim == -(wideC c i.trimLo))
      fl := flAll ([b.fl1, b.fl2, tr.fl, fReq.fl, r.fl, fAv.fl, fF.fl, sp.fl] ++ b.ks ++ lam.map (·.fl)) }) := rfl

/-- The chain state, the electric force and the set-point are `c` times as large, the flags are the same. -/
theorem chainStep_mul (words : List Int) (fe : Int) :
    let o := chainStep c i (words.map (c * ·)) (c * fe)
    let p := chainStep 1 i words fe
    o.chain = p.chain.mul c ∧ o.fE = c * p.fE ∧ o.sp = c * p.sp ∧ o.fl = p.fl := by
  intro o p
  have hp : (∀ x : Fl (Int × Int), (x.mulPair c).val.1 = c * x.val.1) ∧ (∀ x : Fl (Int × Int), (x.mulPair c).val.2 = c * x.val.2) ∧
    (∀ x : Fl (Int × Int), (x.mulPair c).fl = x.fl) := ⟨fun _ => rfl, fun _ => rfl, fun _ => rfl⟩
  have hlam : ∀ l : List (Fl Int), (l.map (Fl.mul c)).map (·.fl) = l.map (·.fl) := fun l => by
    simp only [List.map_map, Function.comp_def, Fl.mul_fl]
  simp only [o, p, chainStep_eq, chainBegin_mul hc, trimStep_mul hc, Chain.mul_x, Chain.mul_integ, Chain.mul_cap, Chain.mul_k, Chain.mul_vref, Fl.mul_val, Fl.mul_fl,
    chainReq_mul hc, regulate_mul hc, hp, capStep_mul hc, chainAvail_mul hc, chainElec_mul hc, ← Int.mul_sub, satWide_mul hc, allocate_mul hc, slips_mul hc, chainSp_mul hc,
    hlam]
  exact ⟨rfl, trivial, trivial, trivial⟩

end Chain

/-! ### A coded run (R92, R175, R177) -/

/-- The record with the words that the chain has left. -/
def chainRec (c : Int) (o : ChainOut) (r : Rec) : Rec := { r with chain := o.chain.words c, fePrev := hiW c o.fE, fePrevF := loW c o.fE }

/-- The set-point that a CLAMP program takes. -/
def clampSp (c : Int) (i : ProgIn) (o : ChainOut) : Fl Int :=
  if i.fromChain then satFl c fArith (nlW c (fun x => puOf x newton i.fsX) o.sp) else ⟨c * i.sp, 0⟩

theorem runAxis_res (c : Int) (i : ProgIn) (ci : ChainIn) (r : Rec) : (runAxis c i ci r).prog.res =
    if i.struct = 2 then
      (let o := chainStep c ci r.chain (joinW r.fePrev r.fePrevF)
      let p := (runProgram c i (clampSp c i o).val (chainRec c o r)).res
      ⟨p.words, orFl p.flags (orFl o.fl (clampSp c i o).fl)⟩)
    else (runProgram c i (c * i.sp) r).res := by
  unfold runAxis
  split <;> rfl

section Coded
variable {c : Int} (hc : 0 < c)
include hc

theorem chainRec_mul {o p : ChainOut} (hch : o.chain = p.chain.mul c) (hfe : o.fE = c * p.fE) (r : Rec) : chainRec c o (r.mul c) = (chainRec 1 p r).mul c := by
  simp only [chainRec, hch, hfe, Chain.words_mul hc, hiW_mul hc, loW_mul hc]
  rfl

theorem clampSp_mul {o p : ChainOut} (hsp : o.sp = c * p.sp) (i : ProgIn) : clampSp c i o = (clampSp 1 i p).mul c := by
  unfold clampSp
  rw [hsp, nlW_mul hc, satFl_mul hc]
  split
  · rfl
  · exact congrArg₂ Fl.mk (by rw [Int.one_mul]) rfl

/-- A run on words `c` times as large gives `c` times the words and the same flags. -/
theorem runAxis_mul (i : ProgIn) (ci : ChainIn) (r : Rec) :
    (runAxis c i ci (r.mul c)).prog.res = ⟨(runAxis 1 i ci r).prog.res.words.map (c * ·), (runAxis 1 i ci r).prog.res.flags⟩ := by
  rw [runAxis_res, runAxis_res]
  split
  · obtain ⟨hch, hfe, hsp, hfl⟩ := chainStep_mul hc ci r.chain (joinW r.fePrev r.fePrevF)
    rw [← joinW_mul] at hch hfe hsp hfl
    dsimp only
    rw [Rec.mul_chain, Rec.mul_fePrev, Rec.mul_fePrevF, chainRec_mul hc hch hfe, clampSp_mul hc hsp, Fl.mul_val, Fl.mul_fl, runProgram_mul hc, hfl]
  · rw [Int.one_mul]
    exact runProgram_mul hc i i.sp r

end Coded

/-- Settles O23: every operation of a run on words 59 times as large gives 59 times its result. -/
theorem codedRunIsFiftyNineTimesPlain : Obligations.CodedRunIsFiftyNineTimesPlain := by
  unfold Obligations.CodedRunIsFiftyNineTimesPlain
  intro i ci w
  have h := runAxis_mul (c := 59) (by decide) i ci (Rec.ofWords w)
  rw [← Rec.ofWords_mul] at h
  exact h

end Sys2Proof.Machine
end

section
/-!
PROOFS. The checks of a request frame in their order (R448-R450, R453, R454): what a request that fails one leaves.
-/
namespace Sys2Proof.Machine

/-- A request that brings the words of its LEN is not cut short. -/
theorem not_short {cmd : Nat} {q : HostReq} (s : State) (h : carriesData cmd = true → q.len.toNat ≤ q.data.length) :
    ¬ (carriesData cmd && decide (q.data.length < (hostCmd cmd q s).len)) = true := by
  rw [Bool.and_eq_true, decide_eq_true_eq]
  exact fun hc => Nat.not_lt.mpr (h hc.1) hc.2

/-- A request that passes every check of its frame is a STATUS, or is taken up (R453, R454). -/
theorem hostRequest_ok {cmd : Nat} {q : HostReq} {s : State} (h : HostReqOk cmd q s) : hostRequest cmd q s =
    if cmd = cStatus then hostStatus (hostCmd cmd q s) s else acceptHost (hostCmd cmd q s) s := by
  obtain ⟨hlen, hdata, hcrc, haddr⟩ := h
  unfold hostRequest
  rw [if_neg (by simp [hostCmd, hlen]), if_neg (not_short s hdata), if_neg (by simp [hcrc]), if_neg (by simp [hostCmd, haddr])]

theorem hostRequest_badLen {cmd : Nat} {q : HostReq} (s : State) (h : lenOk cmd q.len.toNat = false) :
    hostRequest cmd q s = ackHost q.tag.toNat 0x03 ((s.inc HP_CNT_FORMAT).raiseU 0x3C8) := by
  unfold hostRequest
  rw [if_pos (by simp [hostCmd, h])]
  rfl

theorem hostRequest_short {cmd : Nat} {q : HostReq} (s : State) (hl : lenOk cmd q.len.toNat = true) (hc : carriesData cmd = true)
    (h : q.data.length < q.len.toNat) : hostRequest cmd q s = s.inc HP_CNT2_ABORT := by
  unfold hostRequest
  rw [if_neg (by simp [hostCmd, hl]), if_pos (by simp [hostCmd, hc, h])]

theorem hostRequest_badCrc {cmd : Nat} {q : HostReq} {s : State} (hl : lenOk cmd q.len.toNat = true)
    (hd : carriesData cmd = true → q.len.toNat ≤ q.data.length) (h : crc16 (requestBytes (hostCmd cmd q s)) ≠ q.crc.toNat) :
    hostRequest cmd q s = ackHost q.tag.toNat 0x02 ((s.inc HP_CNT_CRC).raiseU 0x3C8) := by
  unfold hostRequest
  rw [if_neg (by simp [hostCmd, hl]), if_neg (not_short s hd), if_pos h]
  rfl

theorem hostRequest_badAddr {cmd : Nat} {q : HostReq} {s : State} (hl : lenOk cmd q.len.toNat = true)
    (hd : carriesData cmd = true → q.len.toNat ≤ q.data.length) (hc : crc16 (requestBytes (hostCmd cmd q s)) = q.crc.toNat)
    (h : addrOk cmd q.addr.toNat q.len.toNat = false) :
    hostRequest cmd q s = ackHost q.tag.toNat 0x03 ((s.inc HP_CNT_FORMAT).raiseU 0x3C8) := by
  unfold hostRequest
  rw [if_neg (by simp [hostCmd, hl]), if_neg (not_short s hd), if_neg (by simp [hc]), if_pos (by simp [hostCmd, h])]
  rfl

/-- A command that is in no row of the table has no length that passes (R450). -/
theorem lenOk_unknown {cmd : Nat} (len : Nat) (h : ∀ p ∈ hostRows, p.1 ≠ cmd) : lenOk cmd len = false := by
  simp only [hostRows, List.forall_mem_cons, List.not_mem_nil, false_implies, implies_true, and_true] at h
  obtain ⟨hr, hw, hm, ht, hn, hu, hc, hs, hl⟩ := h
  unfold lenOk
  rw [if_neg (by simp [Ne.symm hr, Ne.symm hw]), if_neg hm.symm, if_neg (by simp [Ne.symm ht, Ne.symm hs]), if_neg hn.symm,
    if_neg hu.symm, if_neg hc.symm, if_neg hl.symm]

/-! ### Tags and the bound (R453, R454) -/

theorem acceptHost_repeated {c : HCmd} {s : State} {e : HCache} (h : s.hp.cache.find? (fun e => e.req.tag == c.tag) = some e)
    (hs : sameReq e.req c = true) : acceptHost c s = ackHost c.tag 0x04 (s.inc HP_CNT_DUP) := by
  unfold acceptHost
  simp only [h, hs, if_true]

theorem acceptHost_conflict {c : HCmd} {s : State} {e : HCache} (h : s.hp.cache.find? (fun e => e.req.tag == c.tag) = some e)
    (hs : sameReq e.req c = false) (hn : e.status = none) : acceptHost c s = ackHost c.tag 0x05 (s.inc HP_CNT2_CONFLICT) := by
  unfold acceptHost
  simp only [h, hs, hn, Option.isNone_none, if_true, if_false, Bool.false_eq_true]

theorem acceptHost_busy {c : HCmd} {s : State} (h : s.hp.cache.find? (fun e => e.req.tag == c.tag) = none)
    (hb : 16 ≤ s.hp.slots.length) : acceptHost c s = ackHost c.tag 0x01 (s.inc HP_CNT_BUSY) := by
  unfold acceptHost
  simp only [h, hb, if_true]

/-! ### The rows -/

theorem exec_hostRow {p : Nat × (HostReq → Instr)} (hp : p ∈ hostRows) (q : HostReq) (s : State) :
    exec (p.2 q) s = s.runIn 7 (hostRequest p.1 q) := by
  simp only [hostRows, List.mem_cons, List.not_mem_nil, or_false] at hp
  rcases hp with rfl | rfl | rfl | rfl | rfl | rfl | rfl | rfl | rfl <;> rfl

theorem ackHost_inc_raised_keeps (tag code id : Nat) (x : Fld) (s : State) :
    framed s (ackHost tag code ((s.inc x).raiseU id)) = ackHost tag code ((s.inc x).raiseU id) :=
  framed_self s _ rfl rfl rfl

theorem ackHost_inc_keeps (tag code : Nat) (x : Fld) (s : State) : framed s (ackHost tag code (s.inc x)) = ackHost tag code (s.inc x) :=
  framed_self s _ rfl rfl rfl

/-- Settles O38: the checks of a frame, one after the other. -/
theorem hostRequestsAreChecked : Obligations.HostRequestsAreChecked := by
  unfold Obligations.HostRequestsAreChecked
  refine ⟨fun p hp q s hd => ?_, fun cmd q s hd hun => ?_, fun s hd => ?_⟩
  · rw [exec_hostRow hp, s.runIn_on 7 _ hd]
    refine ⟨fun hl => ?_, fun hl hc hs => ?_, fun hl hdat hcrc => ?_, fun hl hdat hcrc ha => ?_, fun hok hst e he => ⟨fun hs => ?_,
      fun hs hn => ?_⟩, fun hok hst hf hb => ?_⟩
    · rw [hostRequest_badLen s hl, ackHost_inc_raised_keeps]
      rfl
    · rw [hostRequest_short s hl hc hs]
      exact congrArg _ (framed_self s _ rfl rfl rfl)
    · rw [hostRequest_badCrc hl hdat hcrc, ackHost_inc_raised_keeps]
      rfl
    · rw [hostRequest_badAddr hl hdat hcrc ha, ackHost_inc_raised_keeps]
      rfl
    · rw [hostRequest_ok hok, if_neg hst, acceptHost_repeated he hs, ackHost_inc_keeps]
    · rw [hostRequest_ok hok, if_neg hst, acceptHost_conflict he hs hn, ackHost_inc_keeps]
    · rw [hostRequest_ok hok, if_neg hst, acceptHost_busy hf hb, ackHost_inc_keeps]
  · refine (s.runIn_on 7 (hostRequest cmd.toNat q) hd).trans ?_
    rw [hostRequest_badLen s (lenOk_unknown _ hun), ackHost_inc_raised_keeps]
  · exact (s.runIn_on 7 (fun s => s.inc HP_CNT2_ABORT) hd).trans (congrArg _ (framed_self s _ rfl rfl rfl))

end Sys2Proof.Machine
end

section
/-!
PROOFS. Reads and writes of registers leave the host port (R452, R454): of its state only the reset that HP_CTL asks for can change.
-/
namespace Sys2Proof.Machine

/-- The host port is as it was. -/
def SamePort (s t : State) : Prop := t.hp = s.hp

section SamePort
variable {s t u : State}

theorem SamePort.refl (s : State) : SamePort s s := rfl

theorem SamePort.trans (h : SamePort s t) (k : SamePort t u) : SamePort s u := Eq.trans k h

theorem SamePort.set (h : SamePort s t) (x : Fld) (v : Nat) : SamePort s (t.set x v) := h

theorem SamePort.setB (h : SamePort s t) (x : Fld) (b : Bool) : SamePort s (t.setB x b) := h

theorem SamePort.setWord (h : SamePort s t) (a : Nat) (w : Word) : SamePort s (t.setWord a w) := h

theorem SamePort.inc (h : SamePort s t) (x : Fld) : SamePort s (t.inc x) := h

theorem SamePort.of_hp (h : SamePort s t) (hu : u.hp = t.hp) : SamePort s u := hu.trans h

theorem SamePort.of_ite {c : Prop} [Decidable c] (ht : SamePort s t) (hu : SamePort s u) : SamePort s (if c then t else u) := by
  split
  · exact ht
  · exact hu

theorem SamePort.each (h : SamePort s t) (l : List Nat) {f : Nat → State → State} (hf : ∀ i u, SamePort u (f i u)) :
    SamePort s (t.each l f) :=
  State.each_ind (SamePort s) t (fun i _ u hu => hu.trans (hf i u)) h

theorem SamePort.foldl {α : Type} (h : SamePort s t) (l : List α) {f : State → α → State} (hf : ∀ u i, SamePort u (f u i)) :
    SamePort s (l.foldl f t) :=
  List.foldlRecOn (motive := SamePort s) l f h fun u hu i _ => hu.trans (hf u i)

end SamePort

theorem counted_samePort (pg : Nat) (r : Bool × State) : SamePort r.2 (counted pg r) := by
  unfold counted
  exact .of_ite rfl rfl

/-- Registers written with 0. -/
theorem zeroed_samePort (l : List Nat) (s : State) : SamePort s (l.foldl (fun t a => t.setWord a 0) s) :=
  (SamePort.refl s).foldl l fun _ _ => rfl

theorem zero_samePort (l : List Nat) (s : State) : SamePort s (zero l s) := zeroed_samePort l s

/-! ### Crossings, power and time -/

theorem peerReset_samePort (i : Nat) (s : State) : SamePort s (peerReset i s) := rfl

theorem portFail_samePort (p : Nat) (s : State) : SamePort s (portFail p s) := by
  unfold portFail
  exact .of_ite rfl rfl

/-- What the flush of a port's crossing brings about. -/
theorem xConsequence_port {i : Nat} (h : 2 ≤ i) (h' : i < 6) (s : State) :
    xConsequence i s = portFail (i - 2) (s.inc (SP_ERR_CODE (i - 2))) := by
  unfold xConsequence
  rw [if_neg (by omega), if_neg (by omega), if_pos h', if_neg (by omega)]

/-- The flush of a link's crossing brings about nothing else. -/
theorem xConsequence_link {i : Nat} (h : 6 ≤ i) (h' : i ≤ 9) (s : State) : xConsequence i s = s := by
  have hn : ∀ n : Nat, 9 < n → ¬i = n := fun n hn => by omega
  unfold xConsequence
  rw [if_neg (by omega), if_neg (by omega), if_neg (by omega), if_neg (hn 11 (by decide)), if_neg (hn 12 (by decide)),
    if_neg (hn 14 (by decide)), if_neg (hn 15 (by decide)), if_neg (hn 16 (by decide)), if_neg (hn 17 (by decide))]

/-- The crossings of ports and links carry nothing of the host port. -/
theorem peerFlush_samePort {i : Nat} (h : 2 ≤ i) (h' : i ≤ 9) (s : State) : SamePort s (peerFlush i s) := by
  have hpeer := peerReset_samePort i s
  have hcons : SamePort (peerReset i s) (xConsequence i (peerReset i s)) := by
    by_cases h6 : i < 6
    · rw [xConsequence_port h h6]
      exact ((SamePort.refl _).inc _).trans (portFail_samePort _ _)
    · rw [xConsequence_link (by omega) h']
      exact SamePort.refl _
  unfold peerFlush
  extract_lets t
  rw [if_neg (by omega : ¬i = 12)]
  exact .of_ite (hpeer.trans hcons) hpeer

theorem startDvfs_samePort (p : Nat) (s : State) : SamePort s (startDvfs p s) := by
  unfold startDvfs
  exact .of_ite rfl rfl

theorem pwrOutcome_samePort (out tgt ap : Nat) (codes : List Nat) (s : State) : SamePort s (pwrOutcome out tgt ap codes s) := by
  unfold pwrOutcome
  have hcount : SamePort s (if s.feature 1 then codes.foldl (fun t c => t.inc (refF c)) s else s) :=
    .of_ite ((SamePort.refl s).foldl codes fun _ _ => rfl) (.refl s)
  exact (((((hcount.setWord PWR_LAST_A 0).set PWR_LAST_OUTCOME out).set PWR_LAST_TGT tgt).set PWR_LAST_AP ap).set PWR_LAST_REFUSER _).set
    PWR_LAST_REF_MASK _

theorem dvfsJudge_samePort (p : Nat) (s : State) : SamePort s (dvfsJudge p s).2 := by
  unfold dvfsJudge
  split
  · exact .of_ite (((SamePort.refl s).set PWR_DVFS_POINT p).trans (startDvfs_samePort p _)) ((SamePort.refl s).set PWR_DVFS_POINT p)
  · exact pwrOutcome_samePort _ _ _ _ s

theorem dvfsRequest_samePort (p : Nat) (s : State) : SamePort s (dvfsRequest p s).2 := by
  unfold dvfsRequest
  split
  · exact rfl
  · exact dvfsJudge_samePort p s

theorem dvfsSettle_samePort (s : State) : SamePort s (dvfsSettle s) := by
  unfold dvfsSettle
  split
  · exact .of_ite (.refl s) (.of_ite rfl (.of_ite rfl rfl))
  · exact .refl s

theorem padRel_samePort (v : Nat) (s : State) : SamePort s (padRel v s).2 := by
  unfold padRel
  extract_lets asked ok t
  have ht : SamePort s t := (SamePort.refl s).each (f := fun g t => t.setBit PWR_PAD_HELD g false) ok fun _ _ => rfl
  split <;> exact ht

/-! ### Reads -/

theorem showX_samePort (i : Nat) (s : State) : SamePort s (showX i s) := by
  unfold showX
  exact .of_ite rfl rfl

theorem supLatchRead_samePort (g : Nat) (s : State) : SamePort s (supLatchRead g s) := by
  unfold supLatchRead
  exact .of_ite rfl (.refl s)

theorem readReg_samePort (a : Nat) (s : State) : SamePort s (readReg a s).2 := by
  unfold readReg
  extract_lets pg off g t u
  split_ifs
  · exact rfl
  · exact dvfsSettle_samePort s
  · exact rfl
  · exact supLatchRead_samePort g s
  · exact supLatchRead_samePort g s
  · exact supLatchRead_samePort g s
  · exact showX_samePort _ s
  · exact rfl
  · exact .refl s

theorem readRegs_samePort (n : Nat) : ∀ (a : Nat) (s : State), SamePort s (readRegs a n s).2 := by
  induction n with
  | zero => exact fun _ s => .refl s
  | succ n ih => exact fun a s => (readReg_samePort a s).trans (ih _ _)

/-! ### Triggers -/

theorem janClrCnt_samePort (s : State) : SamePort s (janClrCnt s) := by
  unfold janClrCnt
  have hcnt := ((SamePort.refl s).set JAN_INJ_STAT_FAIL 0).trans (zeroed_samePort [JAN_CNT_A_A, JAN_CNT_B_A, JAN_CNT_C_A, JAN_CNT_D_A] _)
  exact hcnt.each (f := fun i t => t.setWord (JAN_AXCNT_A i) 0) (List.range 8) fun _ _ => rfl

theorem clearCap_samePort (s : State) : SamePort s (clearCap s) := by
  unfold clearCap
  exact (zeroed_samePort _ s).of_hp rfl

theorem clearCnt_samePort (pg a : Nat) (s : State) : SamePort s (clearCnt pg a s) := by
  unfold clearCnt
  by_cases hg : 0x020 ≤ pg ∧ pg < 0x028
  · rw [if_pos hg]
    exact .of_ite (zero_samePort _ s) (zero_samePort _ s)
  rw [if_neg hg]
  by_cases hp : 0x041 ≤ pg ∧ pg < 0x045
  · rw [if_pos hp]
    exact zero_samePort _ s
  rw [if_neg hp]
  by_cases hl : 0x051 ≤ pg ∧ pg < 0x055
  · rw [if_pos hl]
    exact zero_samePort _ s
  rw [if_neg hl]
  clear hg hp hl
  split
  case h_5 =>
    exact (SamePort.refl s).each (f := fun i t =>
      let t := ((t.set (CDC_XST_TIMEOUTS i) 0).set (CDC_XST_RESETS i) 0).set (CDC_XST_MAXLAT i) 0
      { t with ck := { t.ck with clrTb := t.tb } }) (List.range 18) fun _ _ => rfl
  case h_9 => exact janClrCnt_samePort s
  case h_19 => exact ((SamePort.refl s).set MM_TIMING_MAX_NS 0).trans (zero_samePort _ _)
  case h_20 => exact ((SamePort.refl s).set BLD_STAT_CMD_CLIP 0).trans (zero_samePort _ _)
  case h_21 => exact ((SamePort.refl s).set STR_STAT_CLIPPED 0).trans (zero_samePort _ _)
  case h_22 => exact .refl s
  all_goals exact zero_samePort _ s

theorem fsForce_samePort (s : State) : SamePort s (fsForce s).2 := by
  unfold fsForce
  split
  · exact .refl s
  · exact .of_ite rfl (.refl s)

theorem trigger0_samePort (a : Nat) (s : State) : SamePort s (trigger0 a s).2 := by
  unfold trigger0
  split_ifs
  · exact rfl
  · exact fsForce_samePort s
  · exact clearCnt_samePort _ _ s

/-- The state of the host port is what it was, but for the reset that HP_CTL asks for. -/
def PortKept (s t : State) : Prop := t.hp = { s.hp with lrstDue := t.hp.lrstDue }

section PortKept
variable {s t u : State}

theorem SamePort.kept (h : SamePort s t) : PortKept s t := by
  unfold SamePort PortKept at *
  rw [h]

theorem PortKept.trans (h : PortKept s t) (k : PortKept t u) : PortKept s u := by
  unfold PortKept at *
  rw [k, h]

theorem PortKept.of_ite {c : Prop} [Decidable c] {p q : Bool × State} (hp : PortKept s p.2) (hq : PortKept s q.2) :
    PortKept s (if c then p else q).2 := by
  split
  · exact hp
  · exact hq

theorem PortKept.thenDo {r : Bool × State} {f : State → Bool × State} (h : PortKept s r.2) (b : Bool) (hf : ∀ t, PortKept t (f t).2) :
    PortKept s (Machine.thenDo b f r).2 := by
  cases b with
  | false => exact h
  | true => exact h.trans (hf r.2)

end PortKept

theorem SamePort.thenDo {s : State} {r : Bool × State} {f : State → Bool × State} (h : SamePort s r.2) (b : Bool)
    (hf : ∀ t, SamePort t (f t).2) : SamePort s (Machine.thenDo b f r).2 := by
  cases b with
  | false => exact h
  | true => exact h.trans (hf r.2)

theorem unfreeze_samePort (s : State) : SamePort s (unfreeze s) := by
  unfold unfreeze
  exact .of_ite rfl (.refl s)

theorem hostLrst_portKept (s : State) : PortKept s (hostLrst s).2 := by
  unfold hostLrst
  split
  · exact (SamePort.refl s).kept
  · exact rfl

theorem serviceReq_samePort (s : State) : SamePort s (serviceReq s).2 := by
  unfold serviceReq
  split
  · exact .refl s
  · exact rfl

theorem hostExit_samePort (s : State) : SamePort s (hostExit s).2 := by
  unfold hostExit
  split
  · exact rfl
  · exact .refl s

theorem clrMaintReq_samePort (s : State) : SamePort s (clrMaintReq s).2 := by
  unfold clrMaintReq
  split
  · exact rfl
  · exact .refl s

theorem clrFirst_samePort (s : State) : SamePort s (clrFirst s).2 := by
  unfold clrFirst
  split
  · exact .refl s
  · exact rfl

theorem trigger1_portKept (a : Nat) (s : State) : PortKept s (trigger1 a s).2 := by
  unfold trigger1
  split_ifs
  · exact (zero_samePort _ s).kept
  · exact (clearCap_samePort s).kept
  · exact (hostExit_samePort s).kept
  · exact (clrMaintReq_samePort s).kept
  · exact (clrFirst_samePort s).kept
  · exact (unfreeze_samePort s).kept
  · exact hostLrst_portKept s
  · exact (SamePort.refl s).kept

theorem confCtl_samePort (v : Nat) (s : State) : SamePort s (confCtl v s).2 := by
  unfold confCtl
  refine SamePort.thenDo (SamePort.thenDo (SamePort.thenDo (SamePort.thenDo (r := (false, s)) (.refl s) _ serviceReq_samePort) _ ?_) _ ?_) _ ?_
  · exact fun t => SamePort.of_hp (u := serviceExit t) (.refl t) rfl
  · exact fun t => SamePort.of_hp (u := relock t) (.refl t) rfl
  · exact fun t => SamePort.of_hp (u := discard t) (.refl t) rfl

theorem injGo_samePort (i : Nat) (s : State) : SamePort s (injGo i s).2 := by
  unfold injGo
  split
  · exact .refl s
  · exact rfl

theorem ackLog_samePort (v : Nat) (s : State) : SamePort s (ackLog v s).2 := by
  unfold ackLog
  split
  · exact rfl
  · exact .refl s

theorem trigReg_portKept (a v : Nat) (s : State) : PortKept s (trigReg a v s).2 := by
  unfold trigReg
  split_ifs
  · exact (SamePort.refl s).kept
  · exact (injGo_samePort _ s).kept
  · exact (SamePort.refl s).kept
  · exact (padRel_samePort v s).kept
  · exact (confCtl_samePort v s).kept
  · exact (ackLog_samePort v s).kept
  · exact ((SamePort.refl s).kept.thenDo (r := (false, s)) _ (trigger1_portKept a)).thenDo _ fun t => (trigger0_samePort a t).kept

/-! ### Page control, windows, ordinary registers -/

/-- Inputs that begin anew. -/
theorem inputsAnew_samePort (n k : Nat) (s : State) : SamePort s (s.each (List.range n) fun i t => t.setInp (k + i) {}) :=
  (SamePort.refl s).each (List.range n) fun i t => t.setInp_hp (k + i) {}

/-- Half-bridges that begin anew. -/
theorem bridgesAnew_samePort (n k : Nat) (s : State) : SamePort s ((List.range n).foldl (fun t i => t.setHb (k + i) {}) s) :=
  (SamePort.refl s).foldl (List.range n) fun t i => t.setHb_hp (k + i) {}

theorem softLogic_samePort (pg : Nat) (s : State) : SamePort s (softLogic pg s) := by
  unfold softLogic
  split_ifs
  · exact s.setAxs_hp _ _
  · have hgrp : SamePort s (s.setGrp (pg - 0x020) {}) := s.setGrp_hp _ _
    exact ((hgrp.trans (bridgesAnew_samePort 6 (6 * (pg - 0x020)) _)).of_hp (State.setVdu_hp _ _ _)).of_hp (State.setVdu_hp _ _ _)
  · exact inputsAnew_samePort 16 _ s
  · exact inputsAnew_samePort 8 _ s
  · exact inputsAnew_samePort 8 _ s
  · exact inputsAnew_samePort 12 _ s
  · have hport : SamePort s (s.setPort (pg - 0x041) {}) := rfl
    exact hport.trans (peerFlush_samePort (by omega) (by omega) _)
  · have hlink : SamePort s (s.setLink (pg - 0x051) {}) := rfl
    exact hlink.trans (peerFlush_samePort (by omega) (by omega) _)
  · exact .refl s

theorem softStart_samePort (pg : Nat) (s : State) : SamePort s (softStart pg s).2 := by
  unfold softStart
  split
  · exact .refl s
  · exact (softLogic_samePort pg s).of_hp rfl

theorem writeEn_samePort (pg : Nat) (en : Bool) (s : State) : SamePort s (writeEn pg en s) := by
  unfold writeEn
  have hpend : SamePort s (if s.pageShut pg then s.setB (PG_STAT_PENDING_EN pg) en
      else if en then s else s.setB (PG_STAT_PENDING_EN pg) false) := .of_ite rfl (.of_ite (.refl s) rfl)
  exact .of_ite (.refl s) (.of_ite (hpend.of_hp rfl) (hpend.of_hp rfl))

theorem writeMode_samePort (pg mode : Nat) (s : State) : SamePort s (writeMode pg mode s) := by
  unfold writeMode
  exact .of_ite rfl (.refl s)

theorem writeCtl_samePort (pg : Nat) (v : Word) (s : State) : SamePort s (writeCtl pg v s).2 := by
  unfold writeCtl
  split
  · exact softStart_samePort pg s
  · exact (writeEn_samePort _ _ s).trans (writeMode_samePort _ _ _)

theorem pgForce_samePort (pg k : Nat) (s : State) : SamePort s (pgForce pg k s).2 := by
  unfold pgForce
  split_ifs
  · exact .refl s
  · exact .refl s
  · exact rfl
  · exact .refl s

theorem writeForce_samePort (pg : Nat) (v : Word) (s : State) : SamePort s (writeForce pg v s).2 :=
  List.foldlRecOn (motive := fun r : Bool × State => SamePort s r.2) _ _ (SamePort.refl s) fun _ hr k _ =>
    hr.thenDo true (pgForce_samePort pg k)

theorem writeSchIdx_samePort (v : Nat) (s : State) : SamePort s (writeSchIdx v s).2 := by
  unfold writeSchIdx
  extract_lets i
  split
  · exact .refl s
  · exact rfl

/-- An optional word waits for a COMMIT. -/
theorem putSome_samePort (a : Nat) (w : Option Word) (s : State) : SamePort s (match w with
    | some w => putPend a w s
    | none => s) := by
  cases w <;> exact rfl

theorem writeSchWord_samePort (lock : Bool) (k : Nat) (v : Word) (s : State) : SamePort s (writeSchWord lock k v s).2 := by
  unfold writeSchWord
  split
  · exact .of_ite rfl (.refl s)
  · extract_lets e _ put u _ u'
    split
    · exact rfl
    · exact rfl
    · have hput : ∀ k w t, SamePort t (put k w t) := fun k w t => putSome_samePort _ w t
      have h0 := hput 0 s.sit.w0 s
      have h1 := hput 1 s.sit.w1 (put 0 s.sit.w0 s)
      have hu : SamePort s u := (h0.trans h1).trans (hput 2 (some (v &&& 0xFFFFF001)) _)
      exact .of_ite ((hu.of_hp (u := u') rfl).set _ _) (hu.of_hp rfl)

theorem writeSrcWord_samePort (lock : Bool) (k : Nat) (v : Word) (s : State) : SamePort s (writeSrcWord lock k v s).2 := by
  unfold writeSrcWord
  split
  · exact .refl s
  · extract_lets id a t
    have ht : SamePort s t := .of_ite rfl (.refl s)
    exact .of_ite (ht.set _ _) ht

theorem writeRptr_samePort (v : Nat) (s : State) : SamePort s (writeRptr v s) := by
  unfold writeRptr setUnread
  exact .of_ite rfl rfl

theorem writePlain_samePort (lock : Bool) (a : Nat) (v : Word) (s : State) : SamePort s (writePlain lock a v s).2 := by
  unfold writePlain
  extract_lets fs m rw w1c rwn com tick v' s1 s2 shut s3 ref s4
  have h1 : SamePort s s1 := .of_ite (.refl s) ((SamePort.refl s).setWord _ _)
  have h2 : SamePort s s2 := .of_ite h1 (h1.setWord _ _)
  have h3 : SamePort s s3 := .of_ite h2 (h2.setWord _ _)
  have h4 : SamePort s s4 := .of_ite h3 (h3.of_hp rfl)
  split
  · exact h3
  · exact .of_ite h4 (h4.of_hp rfl)

theorem writeCore_portKept (remote : Bool) (a : Nat) (v : Word) (s : State) : PortKept s (writeCore remote a v s).2 := by
  unfold writeCore
  extract_lets pg off lock s1
  have h1 : SamePort s s1 := .of_ite rfl (.refl s)
  refine .of_ite ?_ ?_
  · exact (SamePort.refl s).kept
  · refine h1.kept.trans (.of_ite ?_ <| .of_ite ?_ <| .of_ite (.of_ite ?_ ?_) <| .of_ite ?_ <| .of_ite ?_ <| .of_ite ?_ <| .of_ite ?_ <|
      .of_ite ?_ <| .of_ite ?_ <| .of_ite ?_ <| .of_ite ?_ ?_)
    · clear_value off
      split
      · exact (writeCtl_samePort pg v s1).kept
      · exact ((SamePort.refl s1).setWord _ _).kept
      · exact (writeForce_samePort pg v s1).kept
      · exact (SamePort.refl s1).kept
    · exact trigReg_portKept a _ s1
    · exact (SamePort.refl s1).kept
    · exact (SamePort.of_hp (u := putPend a v s1) (SamePort.refl s1) rfl).kept
    · exact (writeSchIdx_samePort _ s1).kept
    · exact (writeSchWord_samePort lock 0 v s1).kept
    · exact (writeSchWord_samePort lock 1 v s1).kept
    · exact (writeSchWord_samePort lock 2 v s1).kept
    · exact (writeSrcWord_samePort lock 0 v s1).kept
    · exact (writeSrcWord_samePort lock 1 v s1).kept
    · exact (writeRptr_samePort _ s1).kept
    · exact (dvfsRequest_samePort _ s1).kept
    · exact (writePlain_samePort lock a v s1).kept

theorem writeReg_portKept (remote : Bool) (a : Nat) (v : Word) (s : State) : PortKept s (writeReg remote a v s).2 :=
  (writeCore_portKept remote a v s).trans (counted_samePort _ _).kept

theorem writeRegs_portKept (remote : Bool) (vs : List Word) : ∀ (a : Nat) (s : State), PortKept s (writeRegs remote a vs s).2 := by
  induction vs with
  | nil => exact fun _ s => (SamePort.refl s).kept
  | cons v vs ih => exact fun a s => (writeReg_portKept remote a v s).trans (ih _ _)

theorem rmwReg_portKept (remote : Bool) (a : Nat) (mask value : Word) (s : State) : PortKept s (rmwReg remote a mask value s).2.2 :=
  (readReg_samePort a s).kept.trans (writeReg_portKept remote a _ _)

end Sys2Proof.Machine
end

section
/-!
PROOFS. Accepted commands of the host port (R451, R452, R454): acceptance, the slot that a command closes, and what each command leaves.
-/
namespace Sys2Proof.Machine

/-! ### Acceptance (R453, R454) -/

/-- A port that is idle takes the command up and runs it. -/
theorem acceptHost_idle {c : HCmd} {s : State} (h : s.HostIdle c.tag) : acceptHost c s = drained (runHost c (accepted c s)) := by
  obtain ⟨hslots, hbusy, hqueue, hcache, _⟩ := h
  have hnew : s.hp.cache.find? (fun e => e.req.tag == c.tag) = none := List.find?_eq_none.mpr fun e he => by simpa using hcache e he
  have hkeep : s.hp.cache.filter (fun e => e.req.tag != c.tag) = s.hp.cache :=
    List.filter_eq_self.mpr fun e he => by simpa using hcache e he
  unfold acceptHost
  simp only [hnew]
  rw [if_neg (Nat.not_le.mpr hslots), hkeep]
  unfold startHost
  rw [if_pos]
  · rfl
  · exact Bool.or_eq_true_iff.mpr (Or.inl (Bool.and_eq_true_iff.mpr
      ⟨(congrArg Option.isNone hbusy).trans rfl, (congrArg (· == []) hqueue).trans rfl⟩))

theorem accepted_slots (c : HCmd) (s : State) : (accepted c s).hp.slots = s.hp.slots ++ [{ tag := c.tag }] := rfl
theorem accepted_ack (c : HCmd) (s : State) : (accepted c s).hp.ack = some ⟨c.tag, 0, s.f HP_STAT_READY⟩ := rfl
theorem accepted_busy (c : HCmd) (s : State) : (accepted c s).hp.busy = s.hp.busy := rfl
theorem accepted_queue (c : HCmd) (s : State) : (accepted c s).hp.queue = s.hp.queue := rfl
theorem accepted_pw (c : HCmd) (s : State) : (accepted c s).pw = s.pw := rfl
theorem accepted_cf (c : HCmd) (s : State) : (accepted c s).cf = s.cf := rfl
theorem accepted_nv (c : HCmd) (s : State) : (accepted c s).nv = s.nv := rfl

theorem accepted_regs (c : HCmd) (s : State) : SameRegsBut [HP_STAT_A] s (accepted c s) :=
  fun a ha => (showHost_keepsBut (ackHost c.tag 0 { s with hp := { s.hp with
    slots := s.hp.slots ++ [{ tag := c.tag }], cache := s.hp.cache ++ [{ req := c }] } })).regs a ha

/-! ### The slot of the command (R454) -/

/-- Among slots of other tags the one that follows is the only open one of its tag. -/
theorem open_of_new {l : List HSlot} {tag : Nat} (h : ∀ x ∈ l, x.tag ≠ tag) :
    (l ++ [({ tag := tag } : HSlot)]).filter (HSlot.isOpen tag) = [{ tag := tag }] ∧ dropOpen tag 0 (l ++ [{ tag := tag }]) = l := by
  induction l with
  | nil => exact ⟨by simp [HSlot.isOpen], by simp [dropOpen, HSlot.isOpen]⟩
  | cons x l ih =>
    obtain ⟨hf, hd⟩ := ih fun y hy => h y (List.mem_cons_of_mem _ hy)
    have hx : x.isOpen tag = false := by simp [HSlot.isOpen, h x List.mem_cons_self]
    exact ⟨by rw [List.cons_append, List.filter_cons_of_neg (by simp [hx]), hf], by
      rw [List.cons_append, dropOpen, if_neg (by simp [hx]), hd]⟩

/-- Slots, acknowledge and waiting commands are as they were. -/
structure SlotsKept (s t : State) : Prop where
  slots : t.hp.slots = s.hp.slots
  ack : t.hp.ack = s.hp.ack
  queue : t.hp.queue = s.hp.queue

theorem PortKept.slots {s t : State} (h : PortKept s t) : SlotsKept s t := by
  have hs := congrArg HostSt.slots h
  have ha := congrArg HostSt.ack h
  have hq := congrArg HostSt.queue h
  exact ⟨hs, ha, hq⟩

theorem SamePort.slots {s t : State} (h : SamePort s t) : SlotsKept s t := h.kept.slots

section closing
variable {c : HCmd} {s r : State} (hidle : s.HostIdle c.tag) (hr : SlotsKept (accepted c s) r)
include hidle hr

/-- Only the command's own slot is open under its tag. -/
theorem open_own : r.hp.slots.filter (HSlot.isOpen c.tag) = [{ tag := c.tag }] := by
  obtain ⟨_, _, _, _, hnew⟩ := hidle
  have hs : r.hp.slots = s.hp.slots ++ [{ tag := c.tag }] := hr.slots
  rw [hs]
  exact (open_of_new hnew).1

theorem completeLast_own (st : Nat) (data : List Word) : completeLast c.tag st data r = closeSlot 0 c.tag st data r := by
  unfold completeLast
  rw [open_own hidle hr]
  rfl

/-- The command that has just been accepted completes: its result waits in the newest slot. -/
theorem closeSlot_own (st : Nat) (data : List Word) :
    (closeSlot 0 c.tag st data r).hp.slots = s.hp.slots ++ [⟨c.tag, some (st, data)⟩] ∧
      (closeSlot 0 c.tag st data r).hp.ack = some ⟨c.tag, 0, s.f HP_STAT_READY⟩ ∧ (closeSlot 0 c.tag st data r).hp.queue = [] := by
  have hopen := open_own hidle hr
  obtain ⟨_, _, hqueue, _, hnew⟩ := hidle
  have hs : r.hp.slots = s.hp.slots ++ [{ tag := c.tag }] := hr.slots
  have ha : r.hp.ack = some ⟨c.tag, 0, s.f HP_STAT_READY⟩ := hr.ack
  have hq : r.hp.queue = [] := hr.queue.trans hqueue
  unfold closeSlot
  simp only [hopen]
  rw [if_pos (by simp)]
  refine ⟨?_, ha, hq⟩
  have hd : dropOpen c.tag 0 r.hp.slots = s.hp.slots := by
    rw [hs]
    exact (open_of_new hnew).2
  exact congrArg (· ++ [(⟨c.tag, some (st, data)⟩ : HSlot)]) hd

end closing

/-! ### Commands that complete at once -/

theorem exec_accepted {cmd : Nat} {row : HostReq → Instr} {q : HostReq} {s : State} (hrow : (cmd, row) ∈ hostRows) (hd : s.dom 7 = true)
    (hok : HostReqOk cmd q s) (hne : cmd ≠ cStatus) (hidle : s.HostIdle q.tag.toNat) :
    exec (row q) s = .next (framed s (drained (runHost (hostCmd cmd q s) (accepted (hostCmd cmd q s) s)))) := by
  have hrun : hostRequest cmd q s = drained (runHost (hostCmd cmd q s) (accepted (hostCmd cmd q s) s)) := by
    rw [hostRequest_ok hok, if_neg hne]
    exact acceptHost_idle hidle
  rw [exec_hostRow hrow, s.runIn_on 7 _ hd, hrun]

/-- A command that completes as it runs leaves no other to run. -/
theorem exec_closes {cmd : Nat} {row : HostReq → Instr} {q : HostReq} {s r : State} {st : Nat} {data : List Word}
    (hrow : (cmd, row) ∈ hostRows) (hd : s.dom 7 = true) (hok : HostReqOk cmd q s) (hne : cmd ≠ cStatus) (hidle : s.HostIdle q.tag.toNat)
    (hr : SlotsKept (accepted (hostCmd cmd q s) s) r)
    (hrun : runHost (hostCmd cmd q s) (accepted (hostCmd cmd q s) s) = closeSlot 0 q.tag.toNat st data r) :
    exec (row q) s = .next (framed s (closeSlot 0 q.tag.toNat st data r)) := by
  obtain ⟨_, _, hqueue⟩ := closeSlot_own (c := hostCmd cmd q s) hidle hr st data
  rw [exec_accepted hrow hd hok hne hidle, hrun, drained_of_queue_nil (s := closeSlot 0 q.tag.toNat st data r) hqueue]

/-- A command that completes as it runs: acknowledged, its result in the newest slot. -/
theorem exec_completes {cmd : Nat} {row : HostReq → Instr} {q : HostReq} {s r : State} {st : Nat} {data : List Word}
    (hrow : (cmd, row) ∈ hostRows) (hd : s.dom 7 = true) (hok : HostReqOk cmd q s) (hne : cmd ≠ cStatus) (hidle : s.HostIdle q.tag.toNat)
    (hr : SlotsKept (accepted (hostCmd cmd q s) s) r)
    (hrun : runHost (hostCmd cmd q s) (accepted (hostCmd cmd q s) s) = closeSlot 0 q.tag.toNat st data r) :
    ∃ t, exec (row q) s = .next t ∧ t.hp.ack = some ⟨q.tag.toNat, 0, s.f HP_STAT_READY⟩ ∧
      t.hp.slots = s.hp.slots ++ [⟨q.tag.toNat, some (st, data)⟩] ∧ SameRegsBut [HP_STAT_A] r t := by
  obtain ⟨hslots, hack, _⟩ := closeSlot_own (c := hostCmd cmd q s) hidle hr st data
  exact ⟨_, exec_closes hrow hd hok hne hidle hr hrun, hack, hslots, (closeSlot_keepsBut 0 _ st data r).regs.of_regs rfl⟩

/-- An RMW brings its mask and its value (R451). -/
theorem rmw_words {q : HostReq} {s : State} (h : HostReqOk cRmw q s) :
    (hostCmd cRmw q s).data.getD 0 0 = q.data.getD 0 0 ∧ (hostCmd cRmw q s).data.getD 1 0 = q.data.getD 1 0 := by
  have hlen : q.len.toNat = 2 := by simpa [lenOk, cRmw, cRead, cWrite] using h.1
  have hdata : (hostCmd cRmw q s).data = q.data.take 2 := by rw [← hlen]; rfl
  rw [hdata]
  exact ⟨by simp [List.getD_eq_getElem?_getD], by simp [List.getD_eq_getElem?_getD]⟩

theorem runHost_read {c : HCmd} {s : State} (h : c.cmd = cRead) :
    runHost c s = completeLast c.tag 0 (readRegs c.addr c.len s).1 (readRegs c.addr c.len s).2 := by
  unfold runHost
  rw [if_pos h]

theorem runHost_write {c : HCmd} {s : State} (h : c.cmd = cWrite) : runHost c s =
    completeLast c.tag (if (writeRegs false c.addr c.data s).1 then 0x06 else 0) [] (writeRegs false c.addr c.data s).2 := by
  unfold runHost
  rw [if_neg (by simp [h, cWrite, cRead]), if_pos h]

theorem runHost_rmw {c : HCmd} {s : State} (h : c.cmd = cRmw) :
    let r := rmwReg false c.addr (c.data.getD 0 0) (c.data.getD 1 0) s
    runHost c s = completeLast c.tag (if r.2.1 then 0x06 else 0) [r.1] r.2.2 := by
  unfold runHost
  rw [if_neg (by simp [h, cRmw, cRead]), if_neg (by simp [h, cRmw, cWrite]), if_pos h]

/-- Settles O39: each command reads or writes its registers on the state that has accepted it, and then closes its slot. -/
theorem registerCommandsComplete : Obligations.RegisterCommandsComplete := by
  unfold Obligations.RegisterCommandsComplete
  refine fun q s hd hidle => ⟨fun hok => ?_, fun hok => ?_, fun hok => ?_⟩
  · have hr := (readRegs_samePort q.len.toNat q.addr.toNat (accepted (hostCmd cRead q s) s)).slots
    exact exec_completes (by simp [hostRows]) hd hok (by decide) hidle hr ((runHost_read rfl).trans
      (completeLast_own (c := hostCmd cRead q s) hidle hr _ _))
  · have hr := (writeRegs_portKept false (q.data.take q.len.toNat) q.addr.toNat (accepted (hostCmd cWrite q s) s)).slots
    exact exec_completes (by simp [hostRows]) hd hok (by decide) hidle hr ((runHost_write rfl).trans
      (completeLast_own (c := hostCmd cWrite q s) hidle hr _ _))
  · obtain ⟨hmask, hval⟩ := rmw_words hok
    have hr := (rmwReg_portKept false q.addr.toNat (q.data.getD 0 0) (q.data.getD 1 0) (accepted (hostCmd cRmw q s) s)).slots
    have hrun := runHost_rmw (c := hostCmd cRmw q s) (s := accepted (hostCmd cRmw q s) s) rfl
    rw [hmask, hval] at hrun
    exact exec_completes (by simp [hostRows]) hd hok (by decide) hidle hr (hrun.trans
      (completeLast_own (c := hostCmd cRmw q s) hidle hr _ _))

end Sys2Proof.Machine
end

section
/-!
PROOFS. NEGOTIATE, UNLOCK, LOGPULL, WAIT and COMMIT as the host port runs them (R385, R414, R454, R458, R461, R466).
-/
namespace Sys2Proof.Machine

/-! ### What the commands leave of the host port -/

theorem judgeConflict_samePort (s : State) : SamePort s (judgeConflict s) := rfl

theorem closeWindow_samePort (by_ : Nat) (s : State) : SamePort s (closeWindow by_ s) := by
  unfold closeWindow
  split
  · exact .refl s
  · extract_lets t u w
    have ht : SamePort s t := (((SamePort.refl s).setB _ _).set _ _).set _ _
    have hw : SamePort s w := ((ht.set _ _).setWord _ _).trans (judgeConflict_samePort _)
    split
    · exact hw.of_hp (w.raise_hp _ _)
    · exact hw

theorem doNegotiate_samePort (data : List Word) (s : State) : SamePort s (doNegotiate data s).2.2 := by
  unfold doNegotiate
  extract_lets shown t u
  have ht : SamePort s t := by
    show SamePort s (match data with
      | [lo, hi] => (s.setWord FEAT_ACCEPT_LO_A lo).setWord FEAT_ACCEPT_HI_A hi
      | _ => s)
    split
    · exact rfl
    · exact .refl s
  split
  · exact .refl s
  · exact ht.trans (closeWindow_samePort 1 t)

theorem doUnlock_samePort (data : List Word) (s : State) : SamePort s (doUnlock data s).2 := by
  unfold doUnlock
  split
  · exact .refl s
  · split
    · exact rfl
    · extract_lets t n u
      split <;> exact rfl

theorem pullLog_samePort (n : Nat) (s : State) : SamePort s (pullLog n s).2 := by
  unfold pullLog setUnread
  exact .of_ite rfl rfl

theorem pullWords_length (s : State) (n : Nat) : ∀ i, (pullWords s i n).length = 4 * n := by
  induction n with
  | zero => exact fun _ => rfl
  | succ n ih => exact fun i => by simp only [pullWords, List.length_cons, ih]; omega

theorem showSched_samePort (r : Option (Nat × Option Nat)) (s : State) : SamePort s (showSched r s) := by
  unfold showSched
  split
  · exact rfl
  · split <;> exact rfl

theorem budgetCheck_samePort (t s : State) : SamePort s (budgetCheck t s).2 := by
  unfold budgetCheck
  extract_lets point terms bad slack s1 s2 s3 s4
  have h1 : SamePort s s1 := (SamePort.refl s).each (f := fun l u =>
    (u.set (SLICE_LOAD_PLAIN l) (t.loadOf l).1).set (SLICE_LOAD_CODED l) (t.loadOf l).2) (List.range 8) fun _ _ => rfl
  have h2 : SamePort s s2 := (h1.set _ _).setWord _ _
  have h3 : SamePort s s3 := by
    unfold s3
    generalize bad = b
    split
    · exact (h2.set _ _).set _ _
    · exact h2.set _ _
  show SamePort s s4
  unfold s4
  split
  · exact h3.set _ _
  · exact (h3.set _ _).setB _ _

theorem exchangeCheck_samePort (t s : State) : SamePort s (exchangeCheck t s).2 := by
  unfold exchangeCheck
  extract_lets ring l nr tx ok ns x q
  have hq : SamePort s q.2 := by
    unfold q
    split <;> exact rfl
  exact ((hq.setB _ _).set _ _).set _ _

theorem commitChecks_samePort (set : List (Nat × Word)) (s : State) : SamePort s (commitChecks set s).2 := by
  unfold commitChecks
  extract_lets t feats sched u b x
  have hu : SamePort s u := showSched_samePort sched s
  split
  · exact rfl
  split
  · exact .refl s
  split
  · exact hu
  split
  · exact hu
  · exact (hu.trans (budgetCheck_samePort t u)).trans (exchangeCheck_samePort t b.2)

theorem commitJudge_samePort (store : Bool) (live : List (Nat × Word)) (s : State) : SamePort s (commitJudge store live s).2 := by
  unfold commitJudge
  extract_lets set
  split
  · exact .refl s
  split
  · exact (budgetCheck_samePort s s).trans (exchangeCheck_samePort s _)
  · exact commitChecks_samePort set s

/-! ### The set that a COMMIT takes -/

/-- HP_STAT has no field that awaits a COMMIT. -/
theorem commitMask_hpStat : commitMask HP_STAT_A = 0 := by decide

/-- At such an address any two words agree. -/
theorem sameConf_of_mask {a : Nat} (h : commitMask a = 0) (w x : Word) : sameConf a w x = true := by
  unfold sameConf
  rw [h]
  exact beq_iff_eq.mpr BitVec.and_zero

/-- Acceptance changes nothing of what a COMMIT takes. -/
theorem setOf_accepted (c : HCmd) (s : State) (live : List (Nat × Word)) (store : Bool) :
    (accepted c s).setOf live store = s.setOf live store := by
  unfold State.setOf
  refine List.filter_congr fun p _ => ?_
  have hsame : sameConf p.1 p.2 ((accepted c s).inForce p.1) = sameConf p.1 p.2 (s.inForce p.1) := by
    by_cases hp : p.1 = HP_STAT_A
    · rw [hp, sameConf_of_mask commitMask_hpStat, sameConf_of_mask commitMask_hpStat]
    · unfold State.inForce
      rw [accepted_nv, accepted_regs c s p.1 (by simpa using hp)]
  rw [hsame]

theorem accepted_locked (c : HCmd) (s : State) : (accepted c s).locked = s.locked := (accepted_regs c s).on _ (by decide)

/-! ### The runs -/

theorem runHost_negotiate {c : HCmd} {s : State} (h : c.cmd = cNegotiate) :
    runHost c s = closeSlot 0 c.tag (doNegotiate c.data s).1 (doNegotiate c.data s).2.1 (doNegotiate c.data s).2.2 := by
  unfold runHost
  rw [if_neg (by rw [h]; decide), if_neg (by rw [h]; decide), if_neg (by rw [h]; decide), if_neg (by rw [h]; decide), if_pos h]
  rfl

theorem runHost_unlock {c : HCmd} {s : State} (h : c.cmd = cUnlock) :
    runHost c s = closeSlot 0 c.tag (doUnlock c.data s).1 [(doUnlock c.data s).2.view CS_STAT_A] (doUnlock c.data s).2 := by
  unfold runHost
  rw [if_neg (by rw [h]; decide), if_neg (by rw [h]; decide), if_neg (by rw [h]; decide), if_neg (by rw [h]; decide),
    if_neg (by rw [h]; decide), if_pos h]
  rfl

theorem runHost_wait {c : HCmd} {s : State} (h : c.cmd = cWait) : runHost c s = runWait c s := by
  unfold runHost
  rw [if_neg (by rw [h]; decide), if_neg (by rw [h]; decide), if_neg (by rw [h]; decide), if_pos h]

theorem runHost_commit {c : HCmd} {s : State} (h : c.cmd = cCommit) : runHost c s = runCommit c s := by
  unfold runHost
  rw [if_neg (by rw [h]; decide), if_neg (by rw [h]; decide), if_neg (by rw [h]; decide), if_neg (by rw [h]; decide),
    if_neg (by rw [h]; decide), if_neg (by rw [h]; decide), if_pos h]

theorem runHost_logpull {c : HCmd} {s : State} (h : c.cmd = cLogpull) :
    runHost c s = completeLast c.tag 0 (pullLog c.len s).1 (pullLog c.len s).2 := by
  unfold runHost
  rw [if_neg (by rw [h]; decide), if_neg (by rw [h]; decide), if_neg (by rw [h]; decide), if_neg (by rw [h]; decide),
    if_neg (by rw [h]; decide), if_neg (by rw [h]; decide), if_neg (by rw [h]; decide)]

/-! ### WAIT (R414) -/

/-- The request of a WAIT is taken up, and the WAIT is in progress. -/
def State.waitBegun (s : State) (c : HCmd) : State :=
  { s with pw := { s.pw with req := some ⟨c.tgt, .host c.tag, false⟩ }, hp := { s.hp with busy := some c } }

theorem State.waitBegun_regs (s : State) (c : HCmd) : (s.waitBegun c).regs = s.regs := rfl
theorem State.waitBegun_hp (s : State) (c : HCmd) : (s.waitBegun c).hp = { s.hp with busy := some c } := rfl
theorem State.waitBegun_req (s : State) (c : HCmd) : (s.waitBegun c).pw.req = some ⟨c.tgt, .host c.tag, false⟩ := rfl

/-- A WAIT that finds the power manager free has its request taken up and is in progress. -/
theorem runWait_free {c : HCmd} {s : State} (he : s.pw.entry = none) (hr : s.pw.req = none) (hb : s.hp.busy = none) :
    runWait c s = s.waitBegun c := by
  have hreq : pwrRequest c.tgt (.host c.tag) s = { s with pw := { s.pw with req := some ⟨c.tgt, .host c.tag, false⟩ } } := by
    unfold pwrRequest
    rw [if_neg (by simp [he, hr])]
  unfold runWait
  simp only [hreq, hb, Option.isNone_none, if_true, State.waitBegun]

theorem exec_wait {q : HostReq} {s : State} (hd : s.dom 7 = true) (hidle : s.HostIdle q.tag.toNat) (hok : HostReqOk cWait q s)
    (he : s.pw.entry = none) (hr : s.pw.req = none) :
    ∃ t, exec (.waitCmd q) s = .next t ∧ t.hp.ack = some ⟨q.tag.toNat, 0, s.f HP_STAT_READY⟩ ∧
      t.pw.req = some ⟨s.f PWR_MODE_TARGET, .host q.tag.toNat, false⟩ ∧ t.hp.busy = some (hostCmd cWait q s) ∧
      t.hp.slots = s.hp.slots ++ [⟨q.tag.toNat, none⟩] ∧ SameRegsBut [HP_STAT_A] s t := by
  obtain ⟨_, hbusy, hqueue, _, _⟩ := id hidle
  refine ⟨_, exec_accepted (row := .waitCmd) (by simp [hostRows]) hd hok (by decide) hidle, ?_⟩
  rw [runHost_wait rfl, runWait_free (s := accepted (hostCmd cWait q s) s) he hr hbusy,
    drained_of_queue_nil (s := (accepted (hostCmd cWait q s) s).waitBegun _) (by rw [State.waitBegun_hp]; exact hqueue), framed_hp,
    framed_pw, State.waitBegun_hp, State.waitBegun_req]
  exact ⟨accepted_ack _ s, rfl, rfl, accepted_slots _ s, ((accepted_regs _ s).of_regs (State.waitBegun_regs _ _)).of_regs (framed_regs _ _)⟩

/-! ### COMMIT (R466) -/

theorem closeSlot_cf (i tag st : Nat) (data : List Word) (s : State) : (closeSlot i tag st data s).cf = s.cf := by
  unfold closeSlot
  simp only
  split <;> rfl

theorem commitRefused_cf (tag st : Nat) (s : State) : (commitRefused tag st s).cf = s.cf := by
  unfold commitRefused
  simp only
  split
  · rw [completeLast, closeSlot_cf]
    rfl
  · rw [completeFirst, closeSlot_cf]
    rfl

/-- A COMMIT that its checks refuse completes with their status. -/
theorem runCommit_refused {c : HCmd} {s : State} (hc : s.cf.commit = none) (hv : c.verdict = none)
    (hj : (commitJudge c.store c.pend s).1 ≠ 0) (hcf : (commitJudge c.store c.pend s).2.cf = s.cf) :
    runCommit c s = commitRefused c.tag (commitJudge c.store c.pend s).1 { (commitJudge c.store c.pend s).2 with
      hp := { (commitJudge c.store c.pend s).2.hp with commitHold := (commitJudge c.store c.pend s).2.queueHolds } } := by
  have hstart : commitStart c.tag c.store c.pend c.verdict s = commitRefused c.tag (commitJudge c.store c.pend s).1
      { (commitJudge c.store c.pend s).2 with
        hp := { (commitJudge c.store c.pend s).2.hp with commitHold := (commitJudge c.store c.pend s).2.queueHolds } } := by
    unfold commitStart
    rw [if_neg (by simp [hc]), hv]
    exact if_pos hj
  unfold runCommit
  rw [hstart]
  exact if_neg (by rw [commitRefused_cf, hcf, hc]; decide)

/-- A COMMIT is in progress: `r` is the state that its checks left, `p` what still waits. -/
def commitBegun (c : HCmd) (set : List (Nat × Word)) (p : List (Nat × Option Word)) (hold : Bool) (r : State) : State :=
  { r.setB CS_STAT_NV_BUSY true with
    cf := { r.cf with pend := p, commit := some { tag := c.tag, store := c.store, set := set } }
    hp := { r.hp with commitHold := hold, busy := some c } }

/-- A COMMIT whose checks pass is in progress with the set that it took. -/
theorem runCommit_begins {c : HCmd} {s : State} (hc : s.cf.commit = none) (hv : c.verdict = none)
    (hj : (commitJudge c.store c.pend s).1 = 0) :
    ∃ p hold, runCommit c s = commitBegun c (s.setOf c.pend c.store) p hold (commitJudge c.store c.pend s).2 := by
  have hstart : ∃ p hold, commitStart c.tag c.store c.pend c.verdict s =
      { (commitJudge c.store c.pend s).2.setB CS_STAT_NV_BUSY true with
        cf := { (commitJudge c.store c.pend s).2.cf with
          pend := p, commit := some { tag := c.tag, store := c.store, set := s.setOf c.pend c.store } }
        hp := { (commitJudge c.store c.pend s).2.hp with commitHold := hold } } := by
    unfold commitStart
    rw [if_neg (by simp [hc]), hv]
    exact ⟨_, _, if_neg (not_not.mpr hj)⟩
  obtain ⟨p, hold, hstart⟩ := hstart
  refine ⟨p, hold, ?_⟩
  unfold runCommit
  rw [hstart]
  exact if_pos (by rw [hc]; rfl)

/-- An empty set with STORE = 0 meets no check; any other passes where its checks do. -/
theorem commitJudge_passes {store : Bool} {live : List (Nat × Word)} {s : State} (hl : s.locked = false)
    (h : (s.setOf live store = [] ∧ store = false) ∨ (commitChecks (s.setOf live store) s).1 = 0) :
    (commitJudge store live s).1 = 0 := by
  unfold commitJudge
  rw [if_neg (by simp [hl])]
  by_cases he : s.setOf live store = [] ∧ store = false
  · exact congrArg Prod.fst (if_pos (by simpa using he))
  · have hchk : (commitChecks (s.setOf live store) s).1 = 0 := h.resolve_left he
    exact (congrArg Prod.fst (if_neg (by simpa using he))).trans hchk

theorem commitJudge_locked {s : State} (store : Bool) (live : List (Nat × Word)) (hl : s.locked = true) :
    commitJudge store live s = (0x07, s) := if_pos hl

/-- Enables that a COMMIT held back are held by those that wait alone. -/
def State.holdLeft (s : State) : State := { s with hp := { s.hp with commitHold := s.queueHolds } }

theorem State.holdLeft_regs (s : State) : s.holdLeft.regs = s.regs := rfl

theorem State.holdLeft_slots (s : State) : SlotsKept s s.holdLeft := ⟨rfl, rfl, rfl⟩

/-- A COMMIT that is refused counts, and holds no enable back. -/
def State.commitTurned (s : State) : State := s.holdLeft.inc CS_CNT_COMMIT_REF

theorem State.commitTurned_slots (s : State) : SlotsKept s s.commitTurned := by
  have h := s.holdLeft_slots
  exact ⟨h.slots, h.ack, h.queue⟩

theorem State.commitTurned_regs (s : State) : SameRegsBut [CS_CNT_COMMIT_REF.addr] s s.commitTurned := by
  have h : SameRegsBut [CS_CNT_COMMIT_REF.addr] s s.holdLeft := (SameRegsBut.refl _ s).of_regs s.holdLeft_regs
  unfold State.commitTurned
  rw [State.inc_eq]
  exact h.set _ _ (List.mem_singleton_self _)

theorem State.commitTurned_cf (s : State) : s.commitTurned.cf = s.cf := rfl

theorem commitRefused_first {st : Nat} (tag : Nat) (s : State) (h : st ≠ 0x0C) : commitRefused tag st s =
    closeSlot 0 tag st ((s.inc CS_CNT_COMMIT_REF).commitData ((s.inc CS_CNT_COMMIT_REF).f CL_NEXT_SEQ) 0) (s.inc CS_CNT_COMMIT_REF) :=
  if_neg h

theorem runCommit_locked {c : HCmd} {s : State} (hc : s.cf.commit = none) (hv : c.verdict = none) (hl : s.locked = true) :
    runCommit c s = closeSlot 0 c.tag 0x07 (s.commitTurned.commitData (s.commitTurned.f CL_NEXT_SEQ) 0) s.commitTurned := by
  have hjudge := commitJudge_locked c.store c.pend hl
  rw [runCommit_refused hc hv (by rw [hjudge]; exact (by decide : (0x07 : Nat) ≠ 0)) (by rw [hjudge]), hjudge]
  exact commitRefused_first c.tag s.holdLeft (by decide : (0x07 : Nat) ≠ 0x0C)

theorem exec_commit_locked {q : HostReq} {s : State} (hd : s.dom 7 = true) (hidle : s.HostIdle q.tag.toNat) (hok : HostReqOk cCommit q s)
    (hc : s.cf.commit = none) (hl : s.locked = true) :
    ∃ t, exec (.commit q) s = .next t ∧ t.hp.ack = some ⟨q.tag.toNat, 0, s.f HP_STAT_READY⟩ ∧
      t.hp.slots = s.hp.slots ++ [⟨q.tag.toNat, some (0x07, [s.word CS_CRC_A, BitVec.ofNat 32 (s.f CL_NEXT_SEQ), 0])⟩] ∧
      t.cf = s.cf ∧ SameRegsBut [HP_STAT_A, CS_CNT_COMMIT_REF.addr] s t := by
  have hkept : SlotsKept (accepted (hostCmd cCommit q s) s) (accepted (hostCmd cCommit q s) s).commitTurned := State.commitTurned_slots _
  have hrun := (runHost_commit (c := hostCmd cCommit q s) rfl).trans
    (runCommit_locked (s := accepted (hostCmd cCommit q s) s) hc rfl ((accepted_locked _ s).trans hl))
  have hregs : SameRegsBut [HP_STAT_A, CS_CNT_COMMIT_REF.addr] s (accepted (hostCmd cCommit q s) s).commitTurned :=
    ((accepted_regs _ s).mono (by simp)).trans ((State.commitTurned_regs _).mono (by simp))
  have hdata : (accepted (hostCmd cCommit q s) s).commitTurned.commitData ((accepted (hostCmd cCommit q s) s).commitTurned.f CL_NEXT_SEQ) 0 =
      [s.word CS_CRC_A, BitVec.ofNat 32 (s.f CL_NEXT_SEQ), 0] := by
    unfold State.commitData
    rw [hregs CS_CRC_A (by decide), hregs.f CL_NEXT_SEQ (by decide)]
    rfl
  rw [hdata] at hrun
  obtain ⟨hslots, hack, _⟩ := closeSlot_own (c := hostCmd cCommit q s) hidle hkept 0x07
    [s.word CS_CRC_A, BitVec.ofNat 32 (s.f CL_NEXT_SEQ), 0]
  refine ⟨_, exec_closes (row := .commit) (by simp [hostRows]) hd hok (by decide) hidle hkept hrun, hack, hslots, ?_, ?_⟩
  · rw [framed_cf, closeSlot_cf, State.commitTurned_cf, accepted_cf]
  · exact (hregs.trans ((closeSlot_keepsBut 0 _ _ _ _).regs.mono (by simp))).of_regs (framed_regs _ _)

theorem exec_commit_begins {q : HostReq} {s : State} (hd : s.dom 7 = true) (hidle : s.HostIdle q.tag.toNat) (hok : HostReqOk cCommit q s)
    (hc : s.cf.commit = none) (hl : s.locked = false)
    (hpass : (s.pendSet (hostCmd cCommit q s).store = [] ∧ (hostCmd cCommit q s).store = false) ∨
      (commitChecks (s.pendSet (hostCmd cCommit q s).store) (accepted (hostCmd cCommit q s) s)).1 = 0) :
    ∃ t, exec (.commit q) s = .next t ∧ t.hp.ack = some ⟨q.tag.toNat, 0, s.f HP_STAT_READY⟩ ∧
      t.hp.slots = s.hp.slots ++ [⟨q.tag.toNat, none⟩] ∧
      t.cf.commit = some { tag := q.tag.toNat, store := (hostCmd cCommit q s).store, set := s.pendSet (hostCmd cCommit q s).store } ∧
      t.hp.busy = some (hostCmd cCommit q s) ∧ t.on CS_STAT_NV_BUSY = true := by
  obtain ⟨_, _, hqueue, _, _⟩ := id hidle
  have hset := setOf_accepted (hostCmd cCommit q s) s (hostCmd cCommit q s).pend (hostCmd cCommit q s).store
  have hj := commitJudge_passes (s := accepted (hostCmd cCommit q s) s) (live := (hostCmd cCommit q s).pend)
    ((accepted_locked _ s).trans hl) (by rw [hset]; exact hpass)
  obtain ⟨p, hold, hrun⟩ := runCommit_begins (s := accepted (hostCmd cCommit q s) s) hc rfl hj
  have hport := (commitJudge_samePort (hostCmd cCommit q s).store (hostCmd cCommit q s).pend (accepted (hostCmd cCommit q s) s)).slots
  rw [hset] at hrun
  refine ⟨_, exec_accepted (row := .commit) (by simp [hostRows]) hd hok (by decide) hidle, ?_⟩
  rw [runHost_commit rfl, hrun, drained_of_queue_nil (s := commitBegun _ _ _ _ _) (hport.queue.trans hqueue)]
  exact ⟨hport.ack, hport.slots, rfl, rfl, State.on_setB_same _ CS_STAT_NV_BUSY true (by decide) rfl⟩

/-- Settles O40: each command runs on the state that has accepted it; WAIT and COMMIT stay in progress. -/
theorem otherHostCommandsComplete : Obligations.OtherHostCommandsComplete := by
  unfold Obligations.OtherHostCommandsComplete
  refine fun q s hd hidle => ⟨fun hok => ?_, fun hok => ?_, fun hok => ?_, fun hok he hr => exec_wait hd hidle hok he hr,
    fun hok hc hl => exec_commit_locked hd hidle hok hc hl, fun hok hc hl hpass => exec_commit_begins hd hidle hok hc hl hpass⟩
  · exact exec_completes (by simp [hostRows]) hd hok (by decide) hidle
      (doNegotiate_samePort _ (accepted (hostCmd cNegotiate q s) s)).slots (runHost_negotiate rfl)
  · exact exec_completes (by simp [hostRows]) hd hok (by decide) hidle
      (doUnlock_samePort _ (accepted (hostCmd cUnlock q s) s)).slots (runHost_unlock rfl)
  · have hkept := (pullLog_samePort q.len.toNat (accepted (hostCmd cLogpull q s) s)).slots
    obtain ⟨t, hexec, hack, hslots, hregs⟩ := exec_completes (row := .logpull) (by simp [hostRows]) hd hok (by decide) hidle hkept
      ((runHost_logpull rfl).trans (completeLast_own (c := hostCmd cLogpull q s) hidle hkept _ _))
    refine ⟨t, hexec, hack, hslots, ?_, hregs⟩
    have hunread := (accepted_regs (hostCmd cLogpull q s) s).f LOG_STAT_UNREAD (by decide)
    exact (pullWords_length _ _ _).trans (by rw [hunread])

end Sys2Proof.Machine
end

section
/-!
PROOFS. STATUS, results that expire, tags that are forgotten (R451, R453, R454), and remote requests (R455-R457).
-/
namespace Sys2Proof.Machine

/-! ### STATUS (R451) -/

theorem fetch_eq {x : HSlot} {st : Nat} {data : List Word} {s : State} (h : x.res = some (st, data)) :
    (fetch x s).hp.out = some ⟨x.tag, st, data⟩ ∧ (fetch x s).hp.slots = s.hp.slots.erase x ∧ (fetch x s).hp.ack = s.hp.ack ∧
      SameRegsBut [HP_STAT_A] s (fetch x s) := by
  unfold fetch
  simp only [h]
  exact ⟨rfl, rfl, rfl, fun a ha => (showHost_keepsBut _).regs a ha⟩

theorem ackHost_regs (tag code : Nat) (s : State) : (ackHost tag code s).regs = s.regs := rfl
theorem ackHost_slots (tag code : Nat) (s : State) : (ackHost tag code s).hp.slots = s.hp.slots := rfl
theorem ackHost_ack (tag code : Nat) (s : State) : (ackHost tag code s).hp.ack = some ⟨tag, code, s.f HP_STAT_READY⟩ := rfl

theorem hostStatus_ready {c : HCmd} {s : State} {x : HSlot}
    (h : s.hp.slots.find? (fun x => x.res.isSome && (c.addr / 2 ^ 23 % 2 == 1 || x.tag == c.addr % 256)) = some x) :
    hostStatus c s = fetch x (ackHost c.tag 0 s) := by
  unfold hostStatus
  simp only [h]

/-- No result waits, and the cache knows of none that was fetched. -/
theorem hostStatus_none {c : HCmd} {s : State}
    (h : s.hp.slots.find? (fun x => x.res.isSome && (c.addr / 2 ^ 23 % 2 == 1 || x.tag == c.addr % 256)) = none)
    (hc : (c.addr / 2 ^ 23 % 2 == 1) = true ∨ ∀ e ∈ s.hp.cache, e.req.tag = c.addr % 256 → e.fetched = false) :
    (hostStatus c s).hp.out = some ⟨c.addr % 256, 0, []⟩ ∧
      (hostStatus c s).hp.ack = some ⟨c.tag, 0x03, s.f HP_STAT_READY⟩ ∧ (hostStatus c s).regs = s.regs ∧
      (hostStatus c s).hp.slots = s.hp.slots := by
  have hlapsed : (if (c.addr / 2 ^ 23 % 2 == 1) = true then none
      else s.hp.cache.find? (fun e => e.req.tag == c.addr % 256 && e.fetched)) = none := by
    split
    · rfl
    · next ho =>
      have hf := hc.resolve_left ho
      exact List.find?_eq_none.mpr fun e he => by
        rw [Bool.and_eq_true, beq_iff_eq]
        exact fun ⟨ht, hfe⟩ => absurd (hf e he ht) (by simp [hfe])
  unfold hostStatus
  simp only [h, hlapsed, Option.bind_none]
  exact ⟨trivial, ackHost_ack _ _ s, ackHost_regs _ _ s, ackHost_slots _ _ s⟩

theorem exec_status {q : HostReq} {s : State} (hd : s.dom 7 = true) (hok : HostReqOk cStatus q s) :
    exec (.status q) s = .next (framed s (hostStatus (hostCmd cStatus q s) s)) := by
  rw [exec_hostRow (p := (cStatus, Instr.status)) (by simp [hostRows]), s.runIn_on 7 _ hd, hostRequest_ok hok, if_pos rfl]

/-! ### Results not fetched (R454) -/

theorem resultExpiry_due {tag : Nat} {s : State} (h : ∃ x ∈ s.hp.slots, x.tag = tag ∧ x.res.isSome = true) :
    (resultExpiry tag s).hp.slots = s.hp.slots.eraseP (fun x => x.tag == tag && x.res.isSome) ∧
      (resultExpiry tag s).f HP_CNT2_EXPIRED = satU HP_CNT2_EXPIRED.width (s.f HP_CNT2_EXPIRED + 1) ∧
      SameRegsBut [HP_STAT_A, HP_CNT2_A] s (resultExpiry tag s) := by
  obtain ⟨x, hx, ht, hr⟩ := h
  have hany : s.hp.slots.any (fun x => x.tag == tag && x.res.isSome) = true := List.any_eq_true.mpr ⟨x, hx, by simp [ht, hr]⟩
  unfold resultExpiry
  simp only [hany, if_true]
  have hshow := (showHost_port (s.inc HP_CNT2_EXPIRED)
    { s.hp with slots := s.hp.slots.eraseP (fun x => x.tag == tag && x.res.isSome) } rfl).regs
  have hinc : SameRegsBut [HP_STAT_A, HP_CNT2_A] s (s.inc HP_CNT2_EXPIRED) := by
    rw [State.inc_eq]
    exact SameRegsBut.set (SameRegsBut.refl _ s) _ _ (by decide)
  exact ⟨rfl, (hshow.f HP_CNT2_EXPIRED (by decide)).trans (s.f_inc_same HP_CNT2_EXPIRED (by decide)), hinc.trans (hshow.mono (by simp))⟩

theorem resultExpiry_none {tag : Nat} {s : State} (h : ∀ x ∈ s.hp.slots, x.tag = tag → x.res = none) : resultExpiry tag s = s := by
  have hany : s.hp.slots.any (fun x => x.tag == tag && x.res.isSome) = false := List.any_eq_false.mpr fun x hx => by
    rw [Bool.and_eq_true, beq_iff_eq]
    exact fun ⟨ht, hs⟩ => by simp [h x hx ht] at hs
  unfold resultExpiry
  simp only [hany, Bool.false_eq_true, if_false]

/-! ### The pointer of R455 is nothing that a register shows -/

theorem State.view_moveRr (p : Nat) (s : State) (a : Nat) : (moveRr p s).view a = s.view a := rfl

theorem State.pageDark_moveRr (p : Nat) (s : State) (a : Nat) : (moveRr p s).pageDark a = s.pageDark a := rfl

theorem moveRr_regs (p : Nat) (s : State) : (moveRr p s).regs = s.regs := rfl

/-- The voltage of D2 stands at its point (R426). -/
def State.rampOver (q : Nat) (s : State) : State := { s.set PWR_DVFS_VPT q with pw := { s.pw with rampEnd := none } }

/-- The transition of a clock that fell first is over. -/
def State.dvfsOver (s : State) : State := { s.setB PWR_DVFS_BUSY false with pw := { s.pw with dvfs := none, fell := false } }

/-- The voltage of D2 has settled (R426). -/
def State.settledAt (q : Nat) (s : State) : State := if s.pw.fell then (s.rampOver q).dvfsOver else s.rampOver q

theorem dvfsSettle_ramp {q e : Nat} {s : State} (hq : s.pw.dvfs = some q) (he : s.pw.rampEnd = some e) :
    dvfsSettle s = if s.tb < e then s else if !s.fresh.1.getLsbD 0 then s.fresh.2 else s.fresh.2.settledAt q := by
  unfold dvfsSettle
  rw [hq, he]
  rfl

theorem dvfsSettle_still {s : State} (h : s.pw.dvfs = none ∨ s.pw.rampEnd = none) : dvfsSettle s = s := by
  unfold dvfsSettle
  rcases h with h | h
  · rw [h]
  · rw [h]
    cases s.pw.dvfs <;> rfl

theorem settledAt_moveRr (p q : Nat) (s : State) : (moveRr p s).settledAt q = moveRr p (s.settledAt q) := by
  unfold State.settledAt
  rw [apply_ite (moveRr p)]
  rfl

theorem dvfsSettle_moveRr (p : Nat) (s : State) : dvfsSettle (moveRr p s) = moveRr p (dvfsSettle s) := by
  cases hq : s.pw.dvfs with
  | none => rw [dvfsSettle_still (s := moveRr p s) (Or.inl hq), dvfsSettle_still (Or.inl hq)]
  | some q =>
    cases he : s.pw.rampEnd with
    | none => rw [dvfsSettle_still (s := moveRr p s) (Or.inr he), dvfsSettle_still (Or.inr he)]
    | some e =>
      rw [dvfsSettle_ramp (s := moveRr p s) hq he, dvfsSettle_ramp hq he, apply_ite (moveRr p), apply_ite (moveRr p),
        ← settledAt_moveRr]
      rfl

theorem supLatchRead_moveRr (p g : Nat) (s : State) : supLatchRead g (moveRr p s) = moveRr p (supLatchRead g s) := by
  unfold supLatchRead
  rw [apply_ite (moveRr p)]
  rfl

/-- The level of a crossing's queue shows. -/
def showLevel (i : Nat) (s : State) : State :=
  s.fresh.2.fresh.2.set (CDC_XST_LEVEL i) (if s.xFilled i then s.fresh.1.toNat % (xDepth i + 1) else 0)

/-- The largest latency of a crossing shows. -/
def showLatency (i : Nat) (w : Word) (s : State) : State := s.set (CDC_XST_MAXLAT i) (max (s.f (CDC_XST_MAXLAT i)) (w.toNat % 256))

theorem showX_eq (i : Nat) (s : State) :
    showX i s = if s.tb ≤ s.ck.clrTb then showLevel i s else showLatency i s.fresh.2.fresh.1 (showLevel i s) := (rfl)

theorem showLevel_moveRr (p i : Nat) (s : State) : showLevel i (moveRr p s) = moveRr p (showLevel i s) := (rfl)

theorem showLatency_moveRr (p i : Nat) (w : Word) (s : State) : showLatency i w (moveRr p s) = moveRr p (showLatency i w s) := (rfl)

theorem showX_moveRr (p i : Nat) (s : State) : showX i (moveRr p s) = moveRr p (showX i s) := by
  rw [showX_eq, showX_eq, apply_ite (moveRr p), showLevel_moveRr, showLatency_moveRr]
  rfl

/-- What a read of a supply latch register shows, and does (R237). -/
def readLatch (a : Nat) (s : State) : Word × State :=
  let g := (a - SUP_LATCH_A 0) / 4
  let t := supLatchRead g s
  if s.justLatched g then ((s.grp g).latchWas, t)
  else (if t.on (SUP_LATCH_ARMED g) then t.view a ||| fieldMask 23 1 else t.view a, t)

theorem readLatch_moveRr (p a : Nat) (s : State) : readLatch a (moveRr p s) = ((readLatch a s).1, moveRr p (readLatch a s).2) := by
  unfold readLatch
  simp only [supLatchRead_moveRr]
  show (if s.justLatched _ then _ else _) = _
  split <;> rfl

theorem readReg_moveRr (p a : Nat) (s : State) : readReg a (moveRr p s) = ((readReg a s).1, moveRr p (readReg a s).2) := by
  unfold readReg
  extract_lets pg off g t' u' t u
  by_cases h1 : a = NT_TIME_LO_A
  · rw [if_pos h1, if_pos h1]
    rfl
  rw [if_neg h1, if_neg h1]
  by_cases h2 : a = PWR_DVFS_A
  · rw [if_pos h2, if_pos h2, dvfsSettle_moveRr]
    rfl
  rw [if_neg h2, if_neg h2]
  by_cases h3 : a = NT_TICK_LO_A
  · rw [if_pos h3, if_pos h3]
    rfl
  rw [if_neg h3, if_neg h3, State.pageDark_moveRr]
  by_cases h4 : SUP_LATCH_A 0 ≤ a ∧ a ≤ SUP_LATCH_A 7 ∧ a % 4 = 0 ∧ (!s.pageDark pg) = true
  · rw [if_pos h4, if_pos h4]
    exact readLatch_moveRr p a s
  rw [if_neg h4, if_neg h4]
  by_cases h5 : CDC_XST_A 0 ≤ a ∧ a ≤ CDC_XST_A 17 ∧ a % 4 = 0
  · rw [if_pos h5, if_pos h5]
    have hx : u' = moveRr p u := showX_moveRr p _ s
    rw [hx]
    rfl
  rw [if_neg h5, if_neg h5]
  by_cases h6 : 0x041 ≤ pg ∧ pg < 0x045 ∧ off = 0x40 ∧ s.portOn (pg - 0x041) = true ∧ s.lineCode (pg - 0x041) = 0
  · refine (if_pos h6).trans ?_
    rw [if_pos h6]
    rfl
  · refine (if_neg h6).trans ?_
    rw [if_neg h6]
    rfl

theorem readRegs_moveRr (p n : Nat) : ∀ (a : Nat) (s : State),
    readRegs a n (moveRr p s) = ((readRegs a n s).1, moveRr p (readRegs a n s).2) := by
  induction n with
  | zero => exact fun _ _ => rfl
  | succ n ih =>
    intro a s
    simp only [readRegs, readReg_moveRr, ih]

/-! ### Remote requests (R456, R457) -/

theorem remoteRequest_ignored {r : RemoteReq} {s : State}
    (h : r.reply = true ∨ r.empty = true ∨ (r.bcast = false ∧ r.dest.toNat ≠ s.f SIT_ID_NODE_ID)) : remoteRequest r s = s := by
  unfold remoteRequest
  rcases h with h | h | ⟨hb, hd⟩
  · exact if_pos (by simp [h])
  · exact if_pos (by simp [h])
  · simp only
    split
    · rfl
    · exact if_pos (by simp [hb, hd])

theorem remoteRequest_refused {r : RemoteReq} {s : State} (hr : r.reply = false) (he : r.empty = false)
    (hd : r.bcast = true ∨ r.dest.toNat = s.f SIT_ID_NODE_ID) (ho : s.ownRemote = []) :
    remoteRequest r s = s.inc HP_CNT2_REMOTE_REF := by
  unfold remoteRequest
  simp only
  rw [if_neg (by simp [hr, he]), if_neg (by rcases hd with hd | hd <;> simp [hd]), if_pos ho]

/-- A request that is new goes on to its checks. -/
theorem remoteRequest_open {r : RemoteReq} {s : State} (h : s.RemoteOpen r) : remoteRequest r s =
    remoteRequest.go r r.node.toNat r.cmd.toNat ((s.ownRemote.map (fun e => e.len)).foldl min 240) (remoteCmd r s) s := by
  obtain ⟨hr, he, hd, ho, hnew, _, _⟩ := h
  have hfind : s.hp.remotes.find? (fun e => e.node == r.node.toNat && e.req.tag == (remoteCmd r s).tag &&
      decide (s.tb < e.at_ + 20000000)) = none := List.find?_eq_none.mpr fun e hm hp => by
    simp only [Bool.and_eq_true, beq_iff_eq] at hp
    exact hnew e hm hp.1
  unfold remoteRequest
  simp only
  rw [if_neg (by simp [hr, he]), if_neg (by rcases hd with hd | hd <;> simp [hd]), if_neg ho, hfind]

/-- Every REMOTE entry and the bound of a payload leave room for what fits in each. -/
theorem le_room {l : List SchE} {n m : Nat} (h : ∀ e ∈ l, n ≤ e.len) (hm : n ≤ m) : n ≤ (l.map (fun e => e.len)).foldl min m := by
  induction l generalizing m with
  | nil => exact hm
  | cons e l ih => exact ih (fun x hx => h x (List.mem_cons_of_mem _ hx)) (Nat.le_min.mpr ⟨hm, h e List.mem_cons_self⟩)

theorem answerNow_shows (node tag st : Nat) (data : List Word) (s : State) :
    (answerNow node tag st data s).hp.replies = s.hp.replies ++ [⟨node, tag, replyBytes node tag st data, true⟩] ∧
      SameRegsBut [HP_STAT_A] s (answerNow node tag st data s) :=
  ⟨rfl, fun a ha => (showHost_keepsBut _).regs a ha⟩

/-- A broadcast may not write (R457). -/
theorem go_broadcastWrite {r : RemoteReq} {s : State} (h : s.RemoteOpen r) (hb : r.bcast = true) (hc : r.cmd = 0x02 ∨ r.cmd = 0x03)
    (room : Nat) : remoteRequest.go r r.node.toNat r.cmd.toNat room (remoteCmd r s) s =
      answerNow r.node.toNat r.tag.toNat 0x0F [] (moveRr r.port s) := by
  obtain ⟨_, _, _, _, _, hmine, hout⟩ := h
  unfold remoteRequest.go
  extract_lets t permitted mine
  have hper : permitted = false := by
    unfold permitted
    rcases hc with hc | hc <;> simp [hc, hb, cRead, cWait]
  have hbound : ¬(4 ≤ mine ∨ 32 ≤ t.remoteOut) := not_or.mpr ⟨Nat.not_le.mpr hmine, Nat.not_le.mpr hout⟩
  rw [if_neg hbound, hper]
  rfl

/-- An accepted READ is answered with the words of its registers (R457). -/
theorem go_read {r : RemoteReq} {s : State} {room : Nat} (h : s.RemoteOpen r) (hc : r.cmd = 0x01) (hl : lenOk cRead r.len.toNat = true)
    (ha : addrOk cRead r.addr.toNat r.len.toNat = true) (hroom : 8 + 4 * r.len.toNat ≤ room) :
    remoteRequest.go r r.node.toNat r.cmd.toNat room (remoteCmd r s) s =
      runRemote r.node.toNat (remoteCmd r s) (cacheRemote r.node.toNat (remoteCmd r s) (moveRr r.port s)) := by
  obtain ⟨_, _, _, _, _, hmine, hout⟩ := h
  have hcmd : r.cmd.toNat = cRead := by rw [hc]; rfl
  have hwords : replyWords (remoteCmd r s) = r.len.toNat := if_pos hcmd
  unfold remoteRequest.go
  extract_lets t permitted mine
  have hper : permitted = true := by
    unfold permitted
    rw [hcmd]
    rfl
  have hbound : ¬(4 ≤ mine ∨ 32 ≤ t.remoteOut) := not_or.mpr ⟨Nat.not_le.mpr hmine, Nat.not_le.mpr hout⟩
  rw [if_neg hbound, hper, if_neg (by decide), hwords, hcmd]
  refine if_neg ?_
  have hl' : lenOk cRead (remoteCmd r s).len = true := hl
  have ha' : addrOk cRead (remoteCmd r s).addr (remoteCmd r s).len = true := ha
  simp [hl', ha', Nat.not_lt.mpr hroom, carriesData]

theorem runRemote_read {node : Nat} {c : HCmd} {s : State} (h : c.cmd = cRead) :
    runRemote node c s = answerNow node c.tag 0 (readRegs c.addr c.len s).1 (readRegs c.addr c.len s).2 := by
  unfold runRemote
  rw [if_pos h]

theorem cacheRemote_moveRr (node p : Nat) (c : HCmd) (s : State) :
    cacheRemote node c (moveRr p s) = moveRr p (cacheRemote node c s) := (rfl)

theorem exec_broadcastWrite {r : RemoteReq} {s : State} (hd : s.dom 7 = true) (h : s.RemoteOpen r) (hb : r.bcast = true)
    (hc : r.cmd = 0x02 ∨ r.cmd = 0x03) :
    ∃ t, exec (.remoteRequest r) s = .next t ∧
      t.hp.replies = s.hp.replies ++ [⟨r.node.toNat, r.tag.toNat, replyBytes r.node.toNat r.tag.toNat 0x0F [], true⟩] ∧
      SameRegsBut [HP_STAT_A] s t := by
  have hrun : remoteRequest r s = answerNow r.node.toNat r.tag.toNat 0x0F [] (moveRr r.port s) := by
    rw [remoteRequest_open h, go_broadcastWrite h hb hc]
  obtain ⟨hrep, hregs⟩ := answerNow_shows r.node.toNat r.tag.toNat 0x0F [] (moveRr r.port s)
  refine ⟨_, s.runIn_on 7 (remoteRequest r) hd, ?_⟩
  rw [framed_hp, hrun]
  exact ⟨hrep, (((SameRegsBut.refl _ s).of_regs (moveRr_regs _ s)).trans hregs).of_regs (framed_regs _ _)⟩

theorem exec_remoteRead {r : RemoteReq} {s : State} (hd : s.dom 7 = true) (h : s.RemoteOpen r) (hc : r.cmd = 0x01)
    (hl : lenOk cRead r.len.toNat = true) (ha : addrOk cRead r.addr.toNat r.len.toNat = true)
    (hfit : ∀ e ∈ s.ownRemote, 8 + 4 * r.len.toNat ≤ e.len) (hmax : 8 + 4 * r.len.toNat ≤ 240) :
    ∃ t, exec (.remoteRequest r) s = .next t ∧ t.hp.replies = s.hp.replies ++ [⟨r.node.toNat, r.tag.toNat, replyBytes r.node.toNat r.tag.toNat 0
        (readRegs r.addr.toNat r.len.toNat (cacheRemote r.node.toNat (remoteCmd r s) s)).1, true⟩] ∧
      SameRegsBut [HP_STAT_A] (readRegs r.addr.toNat r.len.toNat (cacheRemote r.node.toNat (remoteCmd r s) s)).2 t := by
  have hcmd : (remoteCmd r s).cmd = cRead := by
    show r.cmd.toNat = cRead
    rw [hc]
    rfl
  have hport : (readRegs r.addr.toNat r.len.toNat (cacheRemote r.node.toNat (remoteCmd r s) s)).2.hp = _ :=
    readRegs_samePort r.len.toNat r.addr.toNat (cacheRemote r.node.toNat (remoteCmd r s) s)
  have hrun : remoteRequest r s = answerNow r.node.toNat r.tag.toNat 0
      (readRegs r.addr.toNat r.len.toNat (cacheRemote r.node.toNat (remoteCmd r s) s)).1
      (moveRr r.port (readRegs r.addr.toNat r.len.toNat (cacheRemote r.node.toNat (remoteCmd r s) s)).2) := by
    rw [remoteRequest_open h, go_read h hc hl ha (le_room hfit hmax), runRemote_read hcmd, cacheRemote_moveRr, readRegs_moveRr]
    rfl
  have hreplies := congrArg HostSt.replies hport
  generalize readRegs r.addr.toNat r.len.toNat (cacheRemote r.node.toNat (remoteCmd r s) s) = ws at *
  obtain ⟨hrep, hregs⟩ := answerNow_shows r.node.toNat r.tag.toNat 0 ws.1 (moveRr r.port ws.2)
  refine ⟨_, s.runIn_on 7 (remoteRequest r) hd, ?_⟩
  rw [framed_hp, hrun]
  exact ⟨hrep.trans (congrArg (· ++ _) hreplies), (((SameRegsBut.refl _ ws.2).of_regs (moveRr_regs _ ws.2)).trans hregs).of_regs (framed_regs _ _)⟩

/-- Settles O41: STATUS, expiry and the remote requests, one after the other. -/
theorem resultsAndRemoteRequestsAreAnswered : Obligations.ResultsAndRemoteRequestsAreAnswered := by
  unfold Obligations.ResultsAndRemoteRequestsAreAnswered
  refine ⟨fun q s hd hok => ⟨fun x st data hx hres => ?_, fun hx hc => ?_⟩, fun tag s hd hx => ?_, fun tag s hd hx => ?_,
    fun tag s hd => ?_, fun r s hd hi => ?_, fun r s hd hr he hdest ho => ?_, fun r s hd hopen hb hc => ?_,
    fun r s hd hopen hc hl ha hfit hmax => ?_⟩
  · obtain ⟨hout, hslots, hack, hregs⟩ := fetch_eq (s := ackHost q.tag.toNat 0 s) hres
    refine ⟨_, exec_status hd hok, ?_⟩
    rw [hostStatus_ready (c := hostCmd cStatus q s) hx]
    exact ⟨hout, hslots, hack, hregs.of_regs (framed_regs _ _)⟩
  · obtain ⟨hout, hack, hregs, hslots⟩ := hostStatus_none (c := hostCmd cStatus q s) hx hc
    exact ⟨_, exec_status hd hok, hout, hack, hregs, hslots⟩
  · obtain ⟨hslots, hcnt, hregs⟩ := resultExpiry_due hx
    exact ⟨_, s.runIn_on 7 (resultExpiry tag.toNat) hd, hslots, hcnt, hregs.of_regs (framed_regs _ _)⟩
  · refine (s.runIn_on 7 (resultExpiry tag.toNat) hd).trans ?_
    rw [resultExpiry_none hx, framed_self s s rfl rfl rfl]
  · exact (s.runIn_on 7 (tagExpiry tag.toNat) hd).trans (congrArg _ (framed_self s _ rfl rfl rfl))
  · refine (s.runIn_on 7 (remoteRequest r) hd).trans ?_
    rw [remoteRequest_ignored hi, framed_self s s rfl rfl rfl]
  · refine (s.runIn_on 7 (remoteRequest r) hd).trans ?_
    rw [remoteRequest_refused hr he hdest ho, framed_self s (s.inc HP_CNT2_REMOTE_REF) rfl rfl rfl]
  · exact exec_broadcastWrite hd hopen hb hc
  · exact exec_remoteRead hd hopen hc hl ha hfit hmax

end Sys2Proof.Machine
end

section
/-!
PROOFS. The lock and its password, service mode, the acknowledge of the change log and the check of the configuration (R461-R464, R468,
R471).
-/
namespace Sys2Proof.Machine

/-! ### UNLOCK (R461, R462) -/

/-- The state that the password leaves: unlocked, in the operator's name. -/
def State.unlocked (s : State) (operator : Nat) : State :=
  ((s.setB CS_STAT_LOCKED false).set CS_STAT_ATTEMPTS 0).set CS_OP_OPERATOR operator

/-- A wrong password counts; the attempt shows. -/
def State.wrongTry (s : State) : State := (s.inc CS_CNT_UNLOCK_FAIL).set CS_STAT_ATTEMPTS (s.f CS_STAT_ATTEMPTS + 1)

/-- The third wrong password in a row counts twice, and takes the attempts back. -/
def State.thirdTry (s : State) : State :=
  (((s.inc CS_CNT_UNLOCK_FAIL).set CS_STAT_ATTEMPTS 0).set CS_STAT_LOCKOUT_S 600).inc CS_CNT_LOCKOUTS

/-- It locks out for 600 s. -/
def State.lockedOut3 (s : State) : State := { s.thirdTry.raiseU 0x3D8 with nv := { s.thirdTry.nv with lockTb := s.thirdTry.tb } }

theorem State.lockedOut3_regs (s : State) : s.lockedOut3.regs = s.thirdTry.regs := (rfl)

theorem State.lockedOut3_flt (s : State) : s.lockedOut3.flt = (s.thirdTry.raiseU 0x3D8).flt := (rfl)

theorem doUnlock_password {data : List Word} {s : State} (hl : s.f CS_STAT_LOCKOUT_S = 0) (hp : data.take 4 = s.nv.pwd) :
    doUnlock data s = (0, s.unlocked ((data.getD 4 0).toNat % 2 ^ 16)) := by
  unfold doUnlock
  rw [if_neg (not_not.mpr hl), if_pos hp]
  rfl

theorem doUnlock_lockout {data : List Word} {s : State} (hl : s.f CS_STAT_LOCKOUT_S ≠ 0) : doUnlock data s = (0x07, s) := if_pos hl

/-- UNLOCK_FAIL stands in a register of its own. -/
theorem attempts_inc (s : State) : (s.inc CS_CNT_UNLOCK_FAIL).f CS_STAT_ATTEMPTS = s.f CS_STAT_ATTEMPTS := s.f_inc_ne _ _ (by decide)

theorem doUnlock_wrong {data : List Word} {s : State} (hl : s.f CS_STAT_LOCKOUT_S = 0) (hp : data.take 4 ≠ s.nv.pwd)
    (hn : s.f CS_STAT_ATTEMPTS < 2) : doUnlock data s = (0x07, s.wrongTry) := by
  unfold doUnlock
  rw [if_neg (not_not.mpr hl), if_neg hp]
  simp only [attempts_inc]
  rw [if_pos (by omega)]
  rfl

theorem doUnlock_third {data : List Word} {s : State} (hl : s.f CS_STAT_LOCKOUT_S = 0) (hp : data.take 4 ≠ s.nv.pwd)
    (hn : 2 ≤ s.f CS_STAT_ATTEMPTS) : doUnlock data s = (0x07, s.lockedOut3) := by
  unfold doUnlock
  rw [if_neg (not_not.mpr hl), if_neg hp]
  simp only [attempts_inc]
  rw [if_neg (by omega)]
  rfl

theorem unlocked_shows (s : State) {operator : Nat} (h : operator < 2 ^ 16) :
    (s.unlocked operator).locked = false ∧ (s.unlocked operator).f CS_STAT_ATTEMPTS = 0 ∧
      (s.unlocked operator).f CS_OP_OPERATOR = operator ∧
      SameRegsBut [CS_STAT_A, CS_OP_OPERATOR.addr] s (s.unlocked operator) := by
  have hfits : operator < 2 ^ CS_OP_OPERATOR.width := h
  refine ⟨?_, ?_, ?_, ?_⟩
  · simp (disch := decide) only [State.locked, State.on, State.unlocked, State.setB_eq, State.f_set_ne, State.f_set_disjoint,
      State.f_set_fits]
    decide
  · simp (disch := decide) only [State.unlocked, State.f_set_ne, State.f_set_fits]
  · exact State.f_set_fits _ CS_OP_OPERATOR operator (by decide) hfits
  · exact (((SameRegsBut.refl _ s).set CS_STAT_LOCKED _ (by decide)).set CS_STAT_ATTEMPTS 0 (by decide)).set CS_OP_OPERATOR operator
      (by decide)

theorem wrongTry_shows {s : State} (h : s.f CS_STAT_ATTEMPTS < 2) :
    s.wrongTry.locked = s.locked ∧ s.wrongTry.f CS_STAT_ATTEMPTS = s.f CS_STAT_ATTEMPTS + 1 ∧
      s.wrongTry.f CS_STAT_LOCKOUT_S = s.f CS_STAT_LOCKOUT_S := by
  refine ⟨State.on_of_f ?_, State.f_set_fits _ _ _ (by decide) (by simp only [CS_STAT_ATTEMPTS] at h ⊢; omega), ?_⟩ <;>
    simp (disch := decide) only [State.wrongTry, State.f_set_disjoint, State.f_inc_ne]

theorem lockedOut3_shows (s : State) : s.lockedOut3.locked = s.locked ∧ s.lockedOut3.f CS_STAT_ATTEMPTS = 0 ∧
    s.lockedOut3.f CS_STAT_LOCKOUT_S = 600 ∧ s.lockedOut3.flt = (s.raiseU 0x3D8).flt := by
  have hf : ∀ x, s.lockedOut3.f x = s.thirdTry.f x := State.f_congr s.lockedOut3_regs
  refine ⟨State.on_of_f ?_, ?_, ?_, s.lockedOut3_flt.trans (State.raiseU_flt_congr _ rfl rfl rfl)⟩
  · simp (disch := decide) only [hf, State.thirdTry, State.f_set_disjoint, State.f_inc_ne]
  · simp (disch := decide) only [hf, State.thirdTry, State.f_set_disjoint, State.f_set_fits, State.f_inc_ne]
  · simp (disch := decide) only [hf, State.thirdTry, State.f_set_fits, State.f_inc_ne]

/-! ### Relock, service requests, service mode (R463, R464) -/

theorem relock_shows (s : State) : (relock s).locked = true ∧ (relock s).on CS_STAT_SERVICE_REQ = false ∧ (relock s).cf = s.cf ∧
    SameRegsBut [CS_STAT_A] s (relock s) := by
  refine ⟨?_, State.on_setB_same _ CS_STAT_SERVICE_REQ false (by decide) rfl, rfl, ?_⟩
  · simp (disch := decide) only [State.locked, State.on, relock, State.setB_eq, State.f_set_disjoint, State.f_set_fits]
    decide
  · exact ((SameRegsBut.refl _ s).set CS_STAT_LOCKED _ (by decide)).set CS_STAT_SERVICE_REQ _ (by decide)

theorem serviceExit_shows (s : State) : (serviceExit s).on CS_STAT_SERVICE_REQ = false ∧ (serviceExit s).cf.exitDue = true ∧
    (serviceExit s).service = s.service ∧ SameRegsBut [CS_STAT_A] s (serviceExit s) := by
  have hregs : (serviceExit s).regs = (s.setB CS_STAT_SERVICE_REQ false).regs := rfl
  refine ⟨?_, rfl, ?_, ?_⟩
  · exact (State.on_of_f (State.f_congr hregs _)).trans (s.on_setB_same CS_STAT_SERVICE_REQ false (by decide) rfl)
  · exact (State.on_of_f (State.f_congr hregs _)).trans (s.on_set_apart _ _ _ rfl (by decide))
  · exact ((SameRegsBut.refl _ s).set CS_STAT_SERVICE_REQ _ (by decide)).of_regs hregs

/-- Service mode is in force, and its request is used up. -/
def State.serviceBegun (s : State) : State :=
  (((s.setB CS_STAT_SERVICE true).setB CS_STAT_SERVICE_REQ false).setB FLT_STAT_SERVICE true).raiseU 0x3DC

theorem serviceEnter_enters {s : State} (hs : s.service = false) (hreq : s.on CS_STAT_SERVICE_REQ = true) (hok : s.serviceOk = true) :
    serviceEnter s = s.serviceBegun := if_pos (by simp [hs, hreq, hok])

theorem serviceEnter_stays {s : State} (h : s.on CS_STAT_SERVICE_REQ = false ∨ s.locked = true ∨ s.slow = false) : serviceEnter s = s := by
  refine if_neg ?_
  unfold State.serviceOk
  rcases h with h | h | h <;> simp [h]

theorem serviceBegun_shows (s : State) : s.serviceBegun.service = true ∧ s.serviceBegun.on CS_STAT_SERVICE_REQ = false ∧
    s.serviceBegun.on FLT_STAT_SERVICE = true ∧ s.serviceBegun.flt = (s.raiseU 0x3DC).flt ∧
    SameRegsBut [CS_STAT_A, FLT_STAT_A] s s.serviceBegun := by
  have hregs : s.serviceBegun.regs = (((s.setB CS_STAT_SERVICE true).setB CS_STAT_SERVICE_REQ false).setB FLT_STAT_SERVICE true).regs := rfl
  refine ⟨?_, ?_, ?_, State.raiseU_flt_congr _ rfl rfl rfl, ?_⟩
  · simp (disch := decide) only [State.service, State.on, State.f_congr hregs, State.setB_eq, State.f_set_ne, State.f_set_disjoint,
      State.f_set_fits]
    decide
  · simp (disch := decide) only [State.on, State.f_congr hregs, State.setB_eq, State.f_set_ne, State.f_set_fits]
    decide
  · simp (disch := decide) only [State.on, State.f_congr hregs, State.setB_eq, State.f_set_fits]
    decide
  · exact ((((SameRegsBut.refl _ s).set CS_STAT_SERVICE _ (by decide)).set CS_STAT_SERVICE_REQ _ (by decide)).set FLT_STAT_SERVICE _
      (by decide)).of_regs hregs

/-! ### The change log and the check (R468, R471) -/

theorem ackLog_refused {v : Nat} {s : State} (h : s.locked = true ∨ v ≤ s.f CL_ACKED_SEQ ∨ s.f CL_NEXT_SEQ ≤ v) :
    ackLog v s = (true, s) := by
  refine if_neg ?_
  rcases h with h | h | h <;> simp [h]

theorem ackLog_taken {v : Nat} {s : State} (hl : s.locked = false) (ha : s.f CL_ACKED_SEQ < v) (hn : v < s.f CL_NEXT_SEQ) :
    ackLog v s = (false, showLog (s.set CL_ACKED_SEQ v)) := if_pos (by simp [hl, ha, hn])

/-- The log after an acknowledge: fewer than 1,024 entries wait, so it is not full. -/
theorem showLog_acked {v : Nat} {s : State} (hv : v < 2 ^ 32) (h : s.f CL_NEXT_SEQ - 1 - v < 1024) :
    (showLog (s.set CL_ACKED_SEQ v)).f CL_ACKED_SEQ = v ∧
      (showLog (s.set CL_ACKED_SEQ v)).f CL_STAT_UNACK = s.f CL_NEXT_SEQ - 1 - v ∧
      (showLog (s.set CL_ACKED_SEQ v)).on CL_STAT_FULL = false ∧
      SameRegsBut [CL_ACKED_A, CL_STAT_A] s (showLog (s.set CL_ACKED_SEQ v)) := by
  have hacked : (s.set CL_ACKED_SEQ v).f CL_ACKED_SEQ = v := s.f_set_fits CL_ACKED_SEQ v (by decide) hv
  have hnext : (s.set CL_ACKED_SEQ v).f CL_NEXT_SEQ = s.f CL_NEXT_SEQ := s.f_set_ne _ _ _ (by decide)
  unfold showLog
  simp only [hacked, hnext]
  refine ⟨?_, ?_, ?_, ?_⟩
  · simp (disch := decide) only [State.setB_eq, State.f_set_ne]
    exact hacked
  · rw [State.setB_eq, State.f_set_disjoint _ _ _ _ (by decide)]
    exact State.f_set_fits _ _ _ (by decide) (by simp only [CL_STAT_UNACK]; omega)
  · rw [State.on_setB_same _ CL_STAT_FULL _ (by decide) rfl]
    exact beq_false_of_ne (by omega)
  · exact (((SameRegsBut.refl _ s).set CL_ACKED_SEQ v (by decide)).set CL_STAT_UNACK _ (by decide)).set CL_STAT_FULL _ (by decide)

theorem cfgCrcCheck_eq (same : Bool) (s : State) : cfgCrcCheck same s =
    if same && (s.word CS_CRC_A).toNat == s.cfgCrc then s.setB CS_STAT_CRC_OK true else (s.setB CS_STAT_CRC_OK false).raiseU 0x3D9 := by
  unfold cfgCrcCheck
  generalize (same && (s.word CS_CRC_A).toNat == s.cfgCrc) = ok
  cases ok <;> rfl

/-- Settles O42: the lock, service mode, the change log and the check, one after the other. -/
theorem lockAndServiceGuardTheConfiguration : Obligations.LockAndServiceGuardTheConfiguration := by
  unfold Obligations.LockAndServiceGuardTheConfiguration
  refine ⟨fun data s hl hp => ?_, fun data s hl hp => ?_, fun data s hl => doUnlock_lockout hl, fun s hd => ?_, fun s hd c hc => ?_,
    fun s hd => ?_, fun s hd => ?_, fun s hd => ?_, fun s hd hs hreq hl ht hperm hslow => ?_, fun s hd h => ?_,
    fun v s hd => ⟨fun h => ?_, fun hl ha hn hfull => ?_⟩, fun same s hd => ?_⟩
  · rw [doUnlock_password hl hp]
    exact ⟨rfl, unlocked_shows s (Nat.mod_lt _ (by decide))⟩
  · by_cases hn : s.f CS_STAT_ATTEMPTS < 2
    · obtain ⟨hlock, hatt, hlo⟩ := wrongTry_shows hn
      rw [doUnlock_wrong hl hp hn]
      exact ⟨rfl, hlock, fun _ => ⟨hatt, hlo.trans hl⟩, fun h => absurd hn (Nat.not_lt.mpr h)⟩
    · obtain ⟨hlock, hshow⟩ := lockedOut3_shows s
      rw [doUnlock_third hl hp (Nat.not_lt.mp hn)]
      exact ⟨rfl, hlock, fun h => absurd h hn, fun _ => hshow⟩
  · exact State.runIn_to (f := fun s => s.set CS_STAT_LOCKOUT_S 0) hd rfl rfl rfl rfl
  · obtain ⟨hlock, hreq, hcf, hregs⟩ := relock_shows s
    have hexec : exec c s = s.runIn 7 relock := by
      rcases List.mem_pair.mp hc with rfl | rfl <;> rfl
    exact ⟨_, hexec.trans (s.runIn_on 7 relock hd), hlock, hreq, hcf, hregs.of_regs (framed_regs _ _)⟩
  · exact State.runIn_to (f := discard) hd rfl rfl rfl rfl
  · cases hl : s.locked with
    | true => exact State.runIn_counted_refused 0x003 serviceReq hd (if_pos hl) rfl rfl rfl
    | false =>
      refine State.runIn_to (f := fun s => counted 0x003 (serviceReq s)) hd ?_ rfl rfl rfl
      rw [serviceReq, hl]
      rfl
  · obtain ⟨hreq, hdue, hserv, hregs⟩ := serviceExit_shows s
    exact ⟨_, s.runIn_on 7 serviceExit hd, hreq, hdue, hserv, hregs.of_regs (framed_regs _ _)⟩
  · have hok : s.serviceOk = true := by simp [State.serviceOk, hl, ht, hperm, hslow]
    obtain ⟨hserv, hused, hshow, hflt, hregs⟩ := serviceBegun_shows s
    exact ⟨_, State.runIn_to (f := serviceEnter) hd (serviceEnter_enters hs hreq hok) rfl rfl rfl, hserv, hused, hshow, hflt, hregs⟩
  · exact State.runIn_to (f := serviceEnter) hd (serviceEnter_stays h) rfl rfl rfl
  · exact State.runIn_counted_refused 0x003 (ackLog v.toNat) hd (ackLog_refused h) rfl rfl rfl
  · obtain ⟨hacked, hunack, hnot, hregs⟩ := showLog_acked (s := s) v.isLt (by omega)
    refine ⟨_, State.runIn_to (f := fun s => counted 0x003 (ackLog v.toNat s)) (t := showLog (s.set CL_ACKED_SEQ v.toNat)) hd ?_ rfl rfl rfl,
      hacked, hunack, hnot, hregs⟩
    rw [ackLog_taken hl ha hn]
    rfl
  · refine State.runIn_to (f := cfgCrcCheck same) hd (cfgCrcCheck_eq same s) ?_ ?_ ?_ <;> split <;> rfl

end Sys2Proof.Machine
end

section
/-!
PROOFS. The end of the negotiation window (R458), and a completed COMMIT (R466, R470): which registers its values, its log entry and its
CRCs write, and the result that its host gets.
-/
namespace Sys2Proof.Machine

/-! ### The negotiation window (R458) -/

/-- The window is closed. -/
def State.windowShut (s : State) (by_ : Nat) : State := ((s.setB FEAT_STAT_OPEN false).set FEAT_STAT_CLOSED_BY by_).set FEAT_STAT_LEFT_MS 0

/-- What is both offered and accepted is active. -/
def State.featuresAgreed (s : State) : State := s.set FEAT_ACTIVE_LO_ACTIVE (Nat.land s.offer (s.f FEAT_ACCEPT_LO_ACCEPT))

theorem judgeConflict_regs (s : State) : (judgeConflict s).regs = s.regs := rfl

theorem closeWindow_regs {s : State} (by_ : Nat) (ho : s.on FEAT_STAT_OPEN = true) :
    SameRegsBut [] (refreshSetCrc (s.windowShut by_).featuresAgreed) (closeWindow by_ s) := by
  unfold closeWindow
  split
  · next h => simp [ho] at h
  · extract_lets t u w
    have hw : SameRegsBut [] (refreshSetCrc (s.windowShut by_).featuresAgreed) w := (SameRegsBut.refl _ _).of_regs (judgeConflict_regs _)
    split
    · exact hw.of_regs (w.raise_regs _ _)
    · exact hw

theorem offer_lt (s : State) : s.offer < 2 ^ 32 := by
  unfold State.offer
  split <;> decide

theorem windowShut_shows {s : State} {by_ : Nat} (hb : by_ < 4) : (s.windowShut by_).on FEAT_STAT_OPEN = false ∧
    (s.windowShut by_).f FEAT_STAT_CLOSED_BY = by_ ∧ (s.windowShut by_).f FEAT_STAT_LEFT_MS = 0 ∧ (s.windowShut by_).offer = s.offer ∧
    SameRegsBut [FEAT_STAT_A] s (s.windowShut by_) := by
  have hfits : by_ < 2 ^ FEAT_STAT_CLOSED_BY.width := hb
  refine ⟨?_, ?_, ?_, rfl, ?_⟩
  · simp (disch := decide) only [State.on, State.windowShut, State.setB_eq, State.f_set_disjoint, State.f_set_fits]
    decide
  · simp (disch := decide) only [State.windowShut, State.setB_eq, State.f_set_disjoint]
    exact State.f_set_fits _ _ _ (by decide) hfits
  · simp (disch := decide) only [State.windowShut, State.setB_eq, State.f_set_fits]
  · exact (((SameRegsBut.refl _ s).set FEAT_STAT_OPEN _ (by decide)).set FEAT_STAT_CLOSED_BY _ (by decide)).set FEAT_STAT_LEFT_MS _
      (by decide)

theorem featuresAgreed_active (s : State) : s.featuresAgreed.f FEAT_ACTIVE_LO_ACTIVE = Nat.land s.offer (s.f FEAT_ACCEPT_LO_ACCEPT) :=
  s.f_set_fits _ _ (by decide) (lt_of_le_of_lt Nat.and_le_left (offer_lt s))

theorem featuresAgreed_regs (s : State) : SameRegsBut [FEAT_ACTIVE_LO_A] s s.featuresAgreed :=
  (SameRegsBut.refl _ s).set _ _ (List.mem_singleton_self _)

/-- The registers that the end of the window leaves. -/
theorem closeWindow_shows {s : State} {by_ : Nat} (hb : by_ < 4) (ho : s.on FEAT_STAT_OPEN = true) :
    (closeWindow by_ s).on FEAT_STAT_OPEN = false ∧ (closeWindow by_ s).f FEAT_STAT_CLOSED_BY = by_ ∧
      (closeWindow by_ s).f FEAT_STAT_LEFT_MS = 0 ∧
      (closeWindow by_ s).f FEAT_ACTIVE_LO_ACTIVE = Nat.land s.offer (s.f FEAT_ACCEPT_LO_ACCEPT) ∧
      SameRegsBut [FEAT_STAT_A, FEAT_ACTIVE_LO_A, CS_SETCRC_A] s (closeWindow by_ s) := by
  obtain ⟨hopen, hby, hleft, hoffer, hshut⟩ := windowShut_shows (s := s) hb
  have hagreed := featuresAgreed_regs (s.windowShut by_)
  have hcrc : SameRegsBut [CS_SETCRC_A] (s.windowShut by_).featuresAgreed (closeWindow by_ s) :=
    (SameRegsBut.setWord CS_SETCRC_A _ _).trans ((closeWindow_regs by_ ho).mono (List.nil_subset _))
  have hactive := featuresAgreed_active (s.windowShut by_)
  rw [hoffer, hshut.f FEAT_ACCEPT_LO_ACCEPT (by decide)] at hactive
  refine ⟨?_, ?_, ?_, (hcrc.f FEAT_ACTIVE_LO_ACTIVE (by decide)).trans hactive,
    (hshut.mono (by simp)).trans ((hagreed.mono (by simp)).trans (hcrc.mono (by simp)))⟩
  · exact ((hcrc.on FEAT_STAT_OPEN (by decide)).trans (hagreed.on _ (by decide))).trans hopen
  · exact ((hcrc.f FEAT_STAT_CLOSED_BY (by decide)).trans (hagreed.f _ (by decide))).trans hby
  · exact ((hcrc.f FEAT_STAT_LEFT_MS (by decide)).trans (hagreed.f _ (by decide))).trans hleft

theorem closeWindow_shut {s : State} (by_ : Nat) (ho : s.on FEAT_STAT_OPEN = false) : closeWindow by_ s = s := if_pos (by simp [ho])

/-! ### What a COMMIT leaves (R466) -/

/-- Registers outside Q, the host port and the power manager are as they were. -/
structure KeepsPort (Q : Nat → Prop) (s t : State) : Prop where
  regs : ChangesOnly Q s t
  hp : t.hp = s.hp
  pw : t.pw = s.pw

section KeepsPort
variable {Q : Nat → Prop} {s t u : State}

theorem KeepsPort.refl (Q : Nat → Prop) (s : State) : KeepsPort Q s s := ⟨ChangesOnly.refl Q s, rfl, rfl⟩

theorem KeepsPort.trans (h : KeepsPort Q s t) (k : KeepsPort Q t u) : KeepsPort Q s u :=
  ⟨h.regs.trans k.regs, k.hp.trans h.hp, k.pw.trans h.pw⟩

theorem KeepsPort.mono {R : Nat → Prop} (h : KeepsPort Q s t) (hQR : ∀ a, Q a → R a) : KeepsPort R s t := ⟨h.regs.mono hQR, h.hp, h.pw⟩

theorem KeepsPort.set (h : KeepsPort Q s t) (x : Fld) (v : Nat) (hx : Q x.addr) : KeepsPort Q s (t.set x v) :=
  ⟨h.regs.set x v hx, h.hp, h.pw⟩

theorem KeepsPort.setB (h : KeepsPort Q s t) (x : Fld) (b : Bool) (hx : Q x.addr) : KeepsPort Q s (t.setB x b) := h.set x _ hx

theorem KeepsPort.setWord (h : KeepsPort Q s t) (a : Nat) (w : Word) (ha : Q a) : KeepsPort Q s (t.setWord a w) :=
  ⟨h.regs.setWord a w ha, h.hp, h.pw⟩

theorem KeepsPort.of_eq (h : KeepsPort Q s t) (hr : u.regs = t.regs) (hh : u.hp = t.hp) (hp : u.pw = t.pw) : KeepsPort Q s u :=
  ⟨h.regs.of_regs hr, hh.trans h.hp, hp.trans h.pw⟩

theorem KeepsPort.setConn (h : KeepsPort Q s t) (k : Nat) (v : ConnSt) : KeepsPort Q s (t.setConn k v) := h.of_eq rfl rfl rfl

theorem KeepsPort.of_ite {c : Prop} [Decidable c] (ht : KeepsPort Q s t) (hu : KeepsPort Q s u) : KeepsPort Q s (if c then t else u) := by
  split
  · exact ht
  · exact hu

theorem KeepsPort.when (h : KeepsPort Q s t) (b : Bool) {f : State → State} (hf : KeepsPort Q t (f t)) : KeepsPort Q s (t.when b f) :=
  .of_ite (h.trans hf) h

theorem KeepsPort.each (h : KeepsPort Q s t) (l : List Nat) {f : Nat → State → State} (hf : ∀ i u, KeepsPort Q u (f i u)) :
    KeepsPort Q s (t.each l f) := State.each_ind (KeepsPort Q s) t (fun i _ u hu => hu.trans (hf i u)) h

end KeepsPort

/-- The registers that new configuration sets of itself: those of the inputs, the connections and the choppers, the budget of the axes. -/
def confRegs (a : Nat) : Prop := 0x8000 ≤ a ∨ (0x4000 ≤ a ∧ a % 0x400 = 0xb4)

/-- The status registers of the inputs stand in the pages of their interfaces. -/
theorem inpInvalid_place (k : Nat) : 0x8000 ≤ (inpInvalidF k).addr := by
  unfold inpInvalidF
  split_ifs
  · show 0x8000 ≤ CH_STAT_A k
    unfold CH_STAT_A; omega
  · show 0x8000 ≤ RES_STAT_A _
    unfold RES_STAT_A; omega
  · show 0x8000 ≤ ENC_STAT_A _
    unfold ENC_STAT_A; omega
  · show 0x8000 ≤ WS_STAT_A _
    unfold WS_STAT_A; omega

theorem inpCause_place (k : Nat) : (inpCauseF k).addr = (inpInvalidF k).addr := by
  unfold inpCauseF inpInvalidF
  split_ifs <;> rfl

theorem inpXl_place (k : Nat) : (inpXlF k).addr = (inpInvalidF k).addr := by
  unfold inpXlF inpInvalidF
  split_ifs <;> rfl

theorem inputEnabled_keepsPort (k : Nat) (s : State) : KeepsPort confRegs s (inputEnabled k s) := by
  have hplace := inpInvalid_place k
  have h0 := (((KeepsPort.refl confRegs s).set (inpInvalidF k) (b2n false) (.inl hplace)).set (inpCauseF k) 0
    (.inl (by rw [inpCause_place]; exact hplace))).set (inpXlF k) 0 (.inl (by rw [inpXl_place]; exact hplace))
  unfold inputEnabled
  refine KeepsPort.of_eq (KeepsPort.of_ite ?_ (KeepsPort.of_ite ?_ (KeepsPort.of_ite ?_ ?_))) (State.setInp_regs _ _ _) (State.setInp_hp _ _ _)
    (State.setInp_pw _ _ _)
  · exact h0.set (CH_STAT_FRZ_CNT k) 0 (.inl (by show 0x8000 ≤ CH_STAT_A k; unfold CH_STAT_A; omega))
  · exact h0.set (RES_STAT_FRZ_CNT (k - 0x60)) 0 (.inl (by show 0x8000 ≤ RES_STAT_A _; unfold RES_STAT_A; omega))
  · exact h0.set (ENC_STAT_FRZ_CNT (k - 0x68)) 0 (.inl (by show 0x8000 ≤ ENC_STAT_A _; unfold ENC_STAT_A; omega))
  · exact (h0.set (WS_EDGE_EDGES (k - 0x70)) 0 (.inl (by show 0x8000 ≤ WS_EDGE_A _; unfold WS_EDGE_A; omega))).set
      (WS_STAT_SUP_OFF (k - 0x70)) (b2n false) (.inl (by show 0x8000 ≤ WS_STAT_A _; unfold WS_STAT_A; omega))

theorem chopDrive_keepsPort (k c : Nat) (high : Bool) (s : State) : KeepsPort confRegs s (chopDrive k c high s) := by
  have haux : confRegs AUX_STAT_CHOP_ACT.addr := .inl (by decide)
  have hsup : confRegs (SUP_BSTAT_CHOP_ACT k).addr := .inl (by show 0x8000 ≤ SUP_BSTAT_A k; unfold SUP_BSTAT_A; omega)
  have hcnt : ∀ c : Nat, confRegs (if c = 0 then SUP_CHOP_ON_0 else SUP_CHOP_ON_1).addr := fun c => by split <;> exact .inl (by decide)
  unfold chopDrive
  extract_lets hi was t u
  have ht : KeepsPort confRegs s t := ((KeepsPort.refl _ s).set AUX_STAT_CHOP_ACT _ haux).set (SUP_BSTAT_CHOP_ACT k) _ hsup
  have hu : KeepsPort confRegs s u := .of_ite (ht.set _ _ (hcnt c)) ht
  exact .of_ite hu (hu.of_eq rfl rfl rfl)

theorem chopConf_keepsPort (old s : State) : KeepsPort confRegs s (chopConf old s) := by
  unfold chopConf
  extract_lets owner t
  have ht : KeepsPort confRegs s t := (KeepsPort.refl _ s).each _ fun k u => .of_ite (.refl _ u)
    (((KeepsPort.refl _ u).set (SUP_BSTAT_HOV k) (b2n false)
      (.inl (by show 0x8000 ≤ SUP_BSTAT_A k; unfold SUP_BSTAT_A; omega))).of_eq rfl rfl rfl)
  refine ht.each _ fun c u => .of_ite (.refl _ u) ?_
  extract_lets v
  have hv : KeepsPort confRegs u v := by
    unfold v
    split
    · exact chopDrive_keepsPort _ c false u
    · exact .refl _ u
  split
  · exact hv.when _ (chopDrive_keepsPort _ c true v)
  · exact hv

theorem charonCopy_keepsPort (s : State) : KeepsPort confRegs s (charonCopy s) := by
  have hfresh : KeepsPort confRegs s s.fresh.2 := (KeepsPort.refl _ s).of_eq rfl rfl rfl
  have hset : ∀ (w : Word) (n : Nat), KeepsPort confRegs s ((s.fresh.2.setWord CH_TCRC_A w).set CHN_STAT_NWIN n) := fun w n =>
    (hfresh.setWord CH_TCRC_A w (.inl (by decide))).set CHN_STAT_NWIN n (.inl (by decide))
  unfold charonCopy
  exact (hset _ _).of_eq rfl rfl rfl

/-- A connection that a COMMIT enables begins anew (R350). -/
theorem connAnew_keepsPort (k : Nat) (s : State) : KeepsPort confRegs s
    ((((s.setB (SL_CST_RUN k) false).set (SL_CST_SEQ k) 0).set (SL_CST_AGE k) 0x3FFF).setConn k {}) := by
  have hcst : confRegs (SL_CST_A k) := .inl (by unfold SL_CST_A; omega)
  exact ((((KeepsPort.refl _ s).setB (SL_CST_RUN k) false hcst).set (SL_CST_SEQ k) 0 hcst).set (SL_CST_AGE k) 0x3FFF hcst).setConn k {}

theorem configApplied_keepsPort (old s : State) : KeepsPort confRegs s (configApplied old s) := by
  unfold configApplied
  extract_lets t u v
  have ht : KeepsPort confRegs s t := (KeepsPort.refl _ s).each _ fun k w => .of_ite (inputEnabled_keepsPort k w) (.refl _ w)
  have hu : KeepsPort confRegs s u := ht.each _ fun k w => .of_ite (connAnew_keepsPort k w) (.refl _ w)
  have hwc : ∀ n : Nat, confRegs (AX_WC_A n) := fun n => .inr (by unfold AX_WC_A; omega)
  have hv : KeepsPort confRegs s v := hu.each _ fun n w => ((KeepsPort.refl _ w).set (AX_WC_PLAIN_WC n) _ (hwc n)).set (AX_WC_CODED_WC n) _ (hwc n)
  exact ((hv.trans (chopConf_keepsPort old v)).setWord SIT_SCRC_A _ (.inl (by decide))).trans (charonCopy_keepsPort _)

/-- The registers that a completed COMMIT sets beside its values: those of the new configuration, the CRCs and the change log. -/
def doneRegs (a : Nat) : Prop := confRegs a ∨ a ∈ [CS_CRC_A, CS_SETCRC_A, CL_NEXT_A, CL_STAT_A]

theorem refreshCrcs_keepsPort (s : State) : KeepsPort (· ∈ [CS_CRC_A, CS_SETCRC_A]) s (refreshCrcs s) :=
  ((KeepsPort.refl _ s).setWord CS_CRC_A _ (by decide)).setWord CS_SETCRC_A _ (by decide)

theorem showLog_keepsPort (s : State) : KeepsPort (· = CL_STAT_A) s (showLog s) := by
  unfold showLog
  extract_lets n
  exact ((KeepsPort.refl (· = CL_STAT_A) s).set CL_STAT_UNACK n rfl).setB CL_STAT_FULL _ rfl

/-- The change log with an entry at its place; its number is used up. -/
def State.logged (s : State) (entry : List Word) : State :=
  { s.set CL_NEXT_SEQ (s.f CL_NEXT_SEQ + 1) with
    nv := { s.nv with clog := smPut (fun _ => []) s.nv.clog (s.f CL_NEXT_SEQ % 1024) entry } }

theorem State.logged_keepsPort (s : State) (entry : List Word) : KeepsPort (· = CL_NEXT_A) s (s.logged entry) :=
  ((KeepsPort.refl (· = CL_NEXT_A) s).set CL_NEXT_SEQ _ rfl).of_eq rfl rfl rfl

/-- One change of a COMMIT is logged under the next number (R470). -/
theorem appendLog_eq (c : Change) (s : State) : ∃ entry, appendLog c s = showLog (s.logged entry) := ⟨_, rfl⟩

theorem appendLog_keepsPort (c : Change) (s : State) : KeepsPort (· ∈ [CL_NEXT_A, CL_STAT_A]) s (appendLog c s) := by
  obtain ⟨entry, e⟩ := appendLog_eq c s
  have hlog : KeepsPort (· ∈ [CL_NEXT_A, CL_STAT_A]) s (s.logged entry) := (s.logged_keepsPort entry).mono fun a ha => by simp [ha]
  have hshow : KeepsPort (· ∈ [CL_NEXT_A, CL_STAT_A]) (s.logged entry) (showLog (s.logged entry)) :=
    (showLog_keepsPort _).mono fun a ha => by simp [ha]
  rw [e]
  exact hlog.trans hshow

theorem appendLog_next (c : Change) {s : State} (h : s.f CL_NEXT_SEQ + 1 < 2 ^ 32) :
    (appendLog c s).f CL_NEXT_SEQ = s.f CL_NEXT_SEQ + 1 := by
  obtain ⟨entry, e⟩ := appendLog_eq c s
  have hregs : (s.logged entry).regs = (s.set CL_NEXT_SEQ (s.f CL_NEXT_SEQ + 1)).regs := rfl
  rw [e, (showLog_keepsPort _).regs.f CL_NEXT_SEQ (by decide), State.f_congr hregs]
  exact s.f_set_fits CL_NEXT_SEQ _ (by decide) h

/-- A COMMIT of one word that is no password: the word is in force, and one entry is logged. -/
theorem commitApply_one {c : CommitSt} {a : Nat} {v : Word} {s : State} (hset : c.set = [(a, v)]) (ha : isPwd a = false)
    (hn : s.f CL_NEXT_SEQ + 1 < 2 ^ 32) (hne : a ≠ CL_NEXT_A) :
    KeepsPort doneRegs (s.setWord a (mergeW (commitMask a) (s.word a) v)) (commitApply c s) ∧
      (commitApply c s).f CL_NEXT_SEQ = s.f CL_NEXT_SEQ + 1 := by
  have happly : applySet c.set s = s.setWord a (mergeW (commitMask a) (s.word a) v) := by
    rw [hset]
    exact if_neg (by simp [ha])
  unfold commitApply
  extract_lets old t eng pwd _ u w changes
  have ht : t = s.setWord a (mergeW (commitMask a) (s.word a) v) := happly
  have hu : KeepsPort doneRegs t u := (KeepsPort.refl _ t).of_eq rfl rfl rfl
  have hconf : KeepsPort doneRegs u (configApplied old u) := (configApplied_keepsPort old u).mono fun _ => .inl
  have hw : KeepsPort doneRegs t w := (hu.trans hconf).trans ((refreshCrcs_keepsPort _).mono fun b hb => .inr (by rcases List.mem_pair.mp hb with rfl | rfl <;> decide))
  have hlog : ∃ x, changes.foldl (fun t x => appendLog x t) w = appendLog x w := by
    unfold changes
    rw [hset]
    exact ⟨_, rfl⟩
  obtain ⟨x, hx⟩ := hlog
  have hnext : w.f CL_NEXT_SEQ = s.f CL_NEXT_SEQ := by
    have hcrc := (refreshCrcs_keepsPort (configApplied old u)).regs.f CL_NEXT_SEQ (by decide)
    rw [hcrc, (configApplied_keepsPort old u).regs.f CL_NEXT_SEQ (by unfold confRegs; decide), State.f_congr (s := u) (t := t) rfl, ht]
    unfold State.f
    rw [s.word_setWord_ne _ CL_NEXT_SEQ.addr _ hne.symm]
  rw [hx, ← ht]
  refine ⟨hw.trans ((appendLog_keepsPort x w).mono fun b hb => .inr (by rcases List.mem_pair.mp hb with rfl | rfl <;> decide)), ?_⟩
  rw [appendLog_next x (by rw [hnext]; exact hn), hnext]

/-! ### The end of a COMMIT (R466) -/

/-- The flash is at rest, and no COMMIT is in progress. -/
def State.nvDone (s : State) : State :=
  { s.setB CS_STAT_NV_BUSY false with cf := { s.cf with commit := none }, hp := { s.hp with commitHold := s.queueHolds } }

theorem commitOver_eq {c : CommitSt} (failed : Bool) {s : State} (hs : c.store = false) (hl : s.pw.late = none) :
    commitOver c failed s = judgeConflict (tidyPend s.nvDone) := by
  unfold commitOver
  extract_lets t _ _ x u _ z
  have hlate : (if u.committing = true then none else u.pw.late) = none := by
    have hu : u.pw.late = none := hl
    rw [hu, ite_self]
  have hz : z = u := by
    unfold z
    rw [hlate]
  rw [hs]
  exact hz

/-- The values of a COMMIT are in force, and the schedule's copy is under way. -/
def State.valuesIn (s : State) (c : CommitSt) : State := { commitApply c s with ck := { (commitApply c s).ck with copyTb := some (commitApply c s).tb } }

theorem commitDone_plain {c : CommitSt} (ok : Bool) {s : State} (hc : s.cf.commit = some c) (hs : c.store = false) (hne : c.set ≠ []) :
    commitDone ok s = completeBusy c.tag 0 ((commitOver c false (s.valuesIn c)).commitData (s.f CL_NEXT_SEQ)
      ((commitOver c false (s.valuesIn c)).f CL_NEXT_SEQ - s.f CL_NEXT_SEQ)) (commitOver c false (s.valuesIn c)) := by
  obtain ⟨tag, store, set, retried⟩ := c
  simp only at hs hne
  subst hs
  unfold commitDone
  rw [hc]
  simp only [Bool.false_and, Bool.false_eq_true, if_false, hne]
  rfl

/-- The one command in flight completes. -/
theorem completeBusy_only {tag st : Nat} {data : List Word} {s : State} (h : s.hp.slots = [⟨tag, none⟩]) (hq : s.hp.queue = []) :
    (completeBusy tag st data s).hp.slots = [⟨tag, some (st, data)⟩] ∧ (completeBusy tag st data s).hp.queue = [] ∧
      (completeBusy tag st data s).cf = s.cf ∧ SameRegsBut [HP_STAT_A] s (completeBusy tag st data s) := by
  have hopen : s.hp.slots.filter (HSlot.isOpen tag) = [⟨tag, none⟩] ∧ dropOpen tag 0 s.hp.slots = [] := by
    rw [h]
    exact open_of_new (l := []) fun _ hx => absurd hx List.not_mem_nil
  have hslots : (closeSlot 0 tag st data s).hp.slots = [⟨tag, some (st, data)⟩] := by
    unfold closeSlot
    simp only [hopen.1]
    rw [if_pos (by simp)]
    exact congrArg (· ++ [(⟨tag, some (st, data)⟩ : HSlot)]) hopen.2
  have hkeep := closeSlot_keepsBut 0 tag st data s
  exact ⟨hslots, hkeep.queue.trans hq, closeSlot_cf 0 tag st data s, hkeep.regs.of_regs rfl⟩

/-- VMAX of an axis stands beside what a COMMIT sets of itself. -/
theorem vmax_place (n : Fin 16) : ¬ doneRegs (AX_VMAX_A n) ∧ isPwd (AX_VMAX_A n) = false ∧ AX_VMAX_A n ∉ [HP_STAT_A, CS_STAT_A] ∧
    AX_VMAX_A n ≠ CL_NEXT_A := by
  revert n
  unfold doneRegs confRegs
  decide

theorem tidyPend_regs (s : State) : (tidyPend s).regs = s.regs := rfl

/-- A COMMIT of one VMAX word completes: the registers, and the port that it leaves. -/
theorem commitDone_vmax {n : Fin 16} {v : Word} {ok retried : Bool} {tag : Nat} {s : State}
    (hc : s.cf.commit = some { tag := tag, store := false, set := [(AX_VMAX_A n, v)], retried := retried }) (hq : s.hp.queue = [])
    (hslots : s.hp.slots = [⟨tag, none⟩]) (hl : s.pw.late = none) (hn : s.f CL_NEXT_SEQ + 1 < 2 ^ 32) :
    (commitDone ok s).cf.commit = none ∧ (commitDone ok s).on CS_STAT_NV_BUSY = false ∧
      (commitDone ok s).word (AX_VMAX_A n) = mergeW (commitMask (AX_VMAX_A n)) (s.word (AX_VMAX_A n)) v ∧
      (commitDone ok s).f CL_NEXT_SEQ = s.f CL_NEXT_SEQ + 1 ∧ (commitDone ok s).hp.queue = [] ∧
      (commitDone ok s).hp.slots = [⟨tag, some (0, [(commitDone ok s).word CS_CRC_A, BitVec.ofNat 32 (s.f CL_NEXT_SEQ), 1])⟩] ∧
      ∀ m, m ≠ n → (commitDone ok s).word (AX_VMAX_A m) = s.word (AX_VMAX_A m) := by
  obtain ⟨_, hpwd, _, hnext⟩ := vmax_place n
  generalize hcd : ({ tag := tag, store := false, set := [(AX_VMAX_A n, v)], retried := retried } : CommitSt) = c at hc
  have hs : c.store = false := by rw [← hcd]
  have hset : c.set = [(AX_VMAX_A n, v)] := by rw [← hcd]
  have htag : c.tag = tag := by rw [← hcd]
  obtain ⟨happ, hnum⟩ := commitApply_one hset hpwd hn hnext
  -- the state that the host's result is made of
  have hover := commitOver_eq (c := c) false (s := s.valuesIn c) hs (happ.pw ▸ hl)
  have hdone := commitDone_plain ok hc hs (by rw [hset]; exact List.cons_ne_nil _ _)
  rw [hover, htag] at hdone
  have hslots0 : (judgeConflict (tidyPend (s.valuesIn c).nvDone)).hp.slots = [⟨tag, none⟩] := (congrArg HostSt.slots happ.hp).trans hslots
  have hqueue0 : (judgeConflict (tidyPend (s.valuesIn c).nvDone)).hp.queue = [] := (congrArg HostSt.queue happ.hp).trans hq
  have hcf0 : (judgeConflict (tidyPend (s.valuesIn c).nvDone)).cf.commit = none := rfl
  have hregs0 : (judgeConflict (tidyPend (s.valuesIn c).nvDone)).regs = ((commitApply c s).setB CS_STAT_NV_BUSY false).regs := rfl
  generalize judgeConflict (tidyPend (s.valuesIn c).nvDone) = t at hdone hslots0 hqueue0 hcf0 hregs0
  have hbusy : t.on CS_STAT_NV_BUSY = false := (State.on_of_f (State.f_congr hregs0 _)).trans
    (State.on_setB_same _ CS_STAT_NV_BUSY false (by decide) rfl)
  have hnum0 : t.f CL_NEXT_SEQ = s.f CL_NEXT_SEQ + 1 := by
    rw [State.f_congr hregs0, State.setB_eq, State.f_set_ne _ _ _ _ (by decide), hnum]
  have hword : ∀ m : Fin 16, t.word (AX_VMAX_A m) = (s.setWord (AX_VMAX_A n) (mergeW (commitMask (AX_VMAX_A n)) (s.word (AX_VMAX_A n)) v)).word (AX_VMAX_A m) := by
    intro m
    obtain ⟨hplace, _, hout, _⟩ := vmax_place m
    rw [State.word_congr hregs0, State.setB_eq, State.word_set_ne _ _ _ _ fun e => hout (by rw [e]; decide), happ.regs _ hplace]
  have hdata : t.commitData (s.f CL_NEXT_SEQ) (t.f CL_NEXT_SEQ - s.f CL_NEXT_SEQ) = [t.word CS_CRC_A, BitVec.ofNat 32 (s.f CL_NEXT_SEQ), 1] := by
    rw [hnum0, Nat.add_sub_cancel_left]
    rfl
  rw [hdata] at hdone
  obtain ⟨hslots1, hqueue1, hcf1, hregs1⟩ := completeBusy_only (st := 0) (data := [t.word CS_CRC_A, BitVec.ofNat 32 (s.f CL_NEXT_SEQ), 1])
    hslots0 hqueue0
  rw [hdone]
  have hvmax : ∀ m : Fin 16, (completeBusy tag 0 [t.word CS_CRC_A, BitVec.ofNat 32 (s.f CL_NEXT_SEQ), 1] t).word (AX_VMAX_A m) = _ := fun m =>
    (hregs1 _ fun hin => (vmax_place m).2.2.1 (List.mem_cons.mpr (.inl (List.mem_singleton.mp hin)))).trans (hword m)
  refine ⟨(congrArg ConfSt.commit hcf1).trans hcf0, (hregs1.on _ (by decide)).trans hbusy, (hvmax n).trans (s.word_setWord_same _ _),
    (hregs1.f _ (by decide)).trans hnum0, hqueue1, ?_, fun m hm => (hvmax m).trans (s.word_setWord_ne _ _ _ ?_)⟩
  · rw [hregs1 CS_CRC_A (by decide)]
    exact hslots1
  · exact fun e => hm (Fin.ext (by unfold AX_VMAX_A at e; omega))

/-- Settles O43: the window's registers, and what a completed COMMIT leaves of registers, log and port. -/
theorem windowAndCommitPutValuesInForce : Obligations.WindowAndCommitPutValuesInForce := by
  unfold Obligations.WindowAndCommitPutValuesInForce
  refine ⟨fun s hd ho => ?_, fun s hd ho => ?_, fun n v ok retried tag s hd hc hq hslots hl hn => ?_, fun ok s hd hc hq => ?_⟩
  · obtain ⟨hopen, hby, hleft, hactive, hregs⟩ := closeWindow_shows (by_ := 2) (by decide) ho
    refine ⟨framed s (closeWindow 2 s), s.runIn_on 7 (closeWindow 2) hd, ?_⟩
    rw [framed_on, framed_f, framed_f, framed_f]
    exact ⟨hopen, hby, hleft, hactive, hregs.of_regs (framed_regs _ _)⟩
  · exact State.runIn_to (f := closeWindow 2) hd (closeWindow_shut 2 ho) rfl rfl rfl
  · obtain ⟨hcf, hbusy, hval, hnum, hqueue, hres, hother⟩ := commitDone_vmax (ok := ok) hc hq hslots hl hn
    refine ⟨framed s (drained (commitDone ok s)), s.runIn_on 7 (fun s => drained (commitDone ok s)) hd, ?_⟩
    rw [drained_of_queue_nil hqueue]
    simp only [framed_cf, framed_on, framed_word, framed_f, framed_hp]
    exact ⟨hcf, hbusy, hval, hnum, hres, hother⟩
  · have hnone : commitDone ok s = s := by
      unfold commitDone
      rw [hc]
    exact State.runIn_to (f := fun s => drained (commitDone ok s)) hd ((congrArg drained hnone).trans (drained_of_queue_nil hq)) rfl rfl rfl

end Sys2Proof.Machine
end

section
/-!
PROOFS. The trigger rows (R7, R8, R511): the registers that each clears, and its refusal while the block's domain is off.
-/
namespace Sys2Proof.Machine

/-- The command clears the registers of its list and nothing else. -/
def Cleared (s : State) (x : Instr × List Nat) : Prop :=
  ∃ t, exec x.1 s = .next t ∧ (∀ a ∈ x.2, t.word a = 0) ∧ SameRegsBut x.2 s t ∧ t.flt = s.flt ∧ t.hp = s.hp

theorem zero_eq (l : List Nat) (s : State) : zero l s = zeroWords l s := rfl

theorem zeroWords_flt (l : List Nat) (s : State) : (zeroWords l s).flt = s.flt :=
  List.foldlRecOn (motive := fun t : State => t.flt = s.flt) l _ rfl fun _ ht _ _ => ht

theorem zeroWords_hp (l : List Nat) (s : State) : (zeroWords l s).hp = s.hp := zero_samePort l s

theorem pageDark_of_awake {s : State} (h : s.quiet = false) (pg : Nat) : s.pageDark pg = false := by
  unfold State.pageDark
  rw [h]
  rfl

/-- The registers with a trigger rule of their own. -/
def ownTriggers : List Nat := [JAN_INJ_CTL_A, PWR_PAD_REL_A, CS_CTL_A, LOG_ACK_A, SS_CTL_A, FS_FORCE_A]

/-- The two triggers of a register without a rule of its own. -/
theorem trigReg_plain {a v : Nat} {s : State} (hlit : s.pageDark (a / 0x400) = false) (ha : a ∉ ownTriggers) :
    trigReg a v s = thenDo (bitOf v 0) (trigger0 a) (thenDo (bitOf v 1) (trigger1 a) (false, s)) := by
  simp only [ownTriggers, List.mem_cons, List.not_mem_nil, or_false, not_or] at ha
  obtain ⟨h1, h2, h3, h4, _, _⟩ := ha
  unfold trigReg
  rw [if_neg (by simp [hlit]), if_neg h1, if_neg h2, if_neg h3, if_neg h4]

theorem trigReg_clears {a : Nat} {s : State} (hlit : s.pageDark (a / 0x400) = false) (ha : a ∉ ownTriggers) :
    trigReg a 1 s = (false, clearCnt (a / 0x400) a s) := by
  rw [trigReg_plain hlit ha]
  simp only [ownTriggers, List.mem_cons, List.not_mem_nil, or_false, not_or] at ha
  obtain ⟨_, _, _, _, h5, h6⟩ := ha
  have h0 : trigger0 a s = (false, clearCnt (a / 0x400) a s) := by
    unfold trigger0
    rw [if_neg h5, if_neg h6]
  show (false || (trigger0 a s).1, (trigger0 a s).2) = _
  rw [h0]
  rfl

/-- Bit 0 of such a register clears what its page says. -/
theorem trigRow_clears {a : Nat} {s : State} (hd : s.dom 7 = true) (hlit : s.pageDark (a / 0x400) = false) (ha : a ∉ ownTriggers) :
    trigRow a 1 s = .next (framed s (clearCnt (a / 0x400) a s)) := by
  refine (s.runIn_on 7 (fun s => counted (a / 0x400) (trigReg a 1 s)) hd).trans ?_
  rw [trigReg_clears hlit ha]
  rfl

/-- A row that only writes zeros. -/
theorem cleared_of_zero {c : Instr} {a : Nat} {l : List Nat} {s : State} (hd : s.dom 7 = true) (hq : s.quiet = false) (ha : a ∉ ownTriggers)
    (hc : exec c s = trigRow a 1 s) (hz : clearCnt (a / 0x400) a s = zeroWords l s) : Cleared s (c, l) := by
  refine ⟨_, hc.trans (trigRow_clears hd (pageDark_of_awake hq _) ha), ?_⟩
  rw [hz]
  exact ⟨fun a h => zeroWords_word l s a h, (zeroWords_outside l s).of_regs (framed_regs _ _), zeroWords_flt l s, zeroWords_hp l s⟩

/-! ### The pages of groups, ports and links -/

theorem clearCnt_group {g a : Nat} (s : State) (hg : g < 8) (ha : a = BG_CLR_A g) :
    clearCnt (a / 0x400) a s = zeroWords ((List.range 6).map (fun k => HB_CNT_A (6 * g + k))) s := by
  have hpg : a / 0x400 = 0x020 + g := by rw [ha]; unfold BG_CLR_A; omega
  have hsub : 0x020 + g - 0x020 = g := by omega
  unfold clearCnt
  rw [hpg, if_pos (by omega)]
  simp only [hsub, if_pos ha]
  rfl

theorem clearCnt_unit {u a : Nat} (s : State) (hu : u < 16) (ha : a = VDU_CLR_A u) :
    clearCnt (a / 0x400) a s = zeroWords [VDU_CNT_A_A u, VDU_CNT_B_A u] s := by
  have hpg : a / 0x400 = 0x020 + u / 2 := by rw [ha]; unfold VDU_CLR_A; omega
  have hsub : 0x020 + u / 2 - 0x020 = u / 2 := by omega
  have hne : a ≠ BG_CLR_A (u / 2) := by rw [ha]; unfold VDU_CLR_A BG_CLR_A; omega
  have hself : (if a = VDU_CLR_A (2 * (u / 2)) then 2 * (u / 2) else 2 * (u / 2) + 1) = u := by
    rw [ha]
    unfold VDU_CLR_A
    split <;> omega
  unfold clearCnt
  rw [hpg, if_pos (by omega)]
  simp only [hsub, if_neg hne, hself]
  rfl

theorem clearCnt_port {p a : Nat} (s : State) (hp : p < 4) (ha : a = SP_CLR_A p) :
    clearCnt (a / 0x400) a s = zeroWords [SP_ERR_A p, SP_ERR2_A p] s := by
  have hpg : a / 0x400 = 0x041 + p := by rw [ha]; unfold SP_CLR_A; omega
  have hsub : 0x041 + p - 0x041 = p := by omega
  unfold clearCnt
  rw [hpg, if_neg (by omega), if_pos (by omega), hsub]
  rfl

theorem clearCnt_link {m a : Nat} (s : State) (hm : m < 4) (ha : a = LK_CLR_A m) :
    clearCnt (a / 0x400) a s = zeroWords [LK_ERR_A m, LK_CNT_A m] s := by
  have hpg : a / 0x400 = 0x051 + m := by rw [ha]; unfold LK_CLR_A; omega
  have hsub : 0x051 + m - 0x051 = m := by omega
  unfold clearCnt
  rw [hpg, if_neg (by omega), if_neg (by omega), if_pos (by omega), hsub]
  rfl

theorem spClr_plain (p : Fin 4) : SP_CLR_A p ∉ ownTriggers := by
  revert p
  decide

theorem exec_spClrCnt {p : Fin 4} {s : State} (h : s.part = .a ∨ p.val < 2) : exec (.spClrCnt p) s = trigRow (SP_CLR_A p) 1 s := by
  refine if_neg ?_
  rintro ⟨hs, hp⟩
  rcases h with h | h
  · rw [h] at hs
    cases hs
  · omega

/-- HOLD of the overrun counters is cleared by bit 1 (R54). -/
theorem tickClrHold_clears {s : State} (hd : s.dom 7 = true) (hq : s.quiet = false) : Cleared s (.tickClrHold, [HOLD_CNT_A]) := by
  have htrig : trigReg TICK_CLR_A 2 s = (false, zeroWords [HOLD_CNT_A] s) := by
    rw [trigReg_plain (pageDark_of_awake hq _) (by decide)]
    rfl
  refine ⟨_, s.runIn_on 7 (fun s => counted (TICK_CLR_A / 0x400) (trigReg TICK_CLR_A 2 s)) hd, ?_⟩
  rw [htrig]
  exact ⟨fun a h => zeroWords_word _ s a h, (zeroWords_outside _ s).of_regs (framed_regs _ _), zeroWords_flt _ s, zeroWords_hp _ s⟩

theorem trigger_rows_clear (u : Fin 16) (g : Fin 8) (m p : Fin 4) {s : State} (hd : s.dom 7 = true) (hq : s.quiet = false)
    (hp : s.part = .a ∨ p.val < 2) :
    ∀ x ∈ [(Instr.tickClrOvr, [TICK_OVR_A, TICK_OVR2_A, OVR_LAST_A]), (.tickClrHold, [HOLD_CNT_A]),
      (.vduClrCnt u, [VDU_CNT_A_A u, VDU_CNT_B_A u]), (.bgClrCnt g, (List.range 6).map (fun k => HB_CNT_A (6 * g + k))),
      (.auxClrCnt, [AUX_CNT_A]), (.supClrCnt, [SUP_CHOP_A, SUP_CNT_A]), (.odClrCnt, [OD_CNT_A]), (.ssClrCnt, [SS_CNT_A]),
      (.lnClrCnt, [LN_CNT_A]), (.lkClrCnt m, [LK_ERR_A m, LK_CNT_A m]), (.sitClrCnt, [SIT_CNT_X_A, SIT_CNT_Y_A, SIT_CNT2_A]),
      (.spClrCnt p, [SP_ERR_A p, SP_ERR2_A p]), (.chClrCnt, [CH_BLK_01_A, CH_BLK_23_A, CH_CNT_A]),
      (.slClrCnt, [SL_CNT_A_A, SL_CNT_B_A, SL_CNT_C_A, SL_CNT_D_A]), (.ntClrCnt, [NT_CNT_A, NT_HOLD_A]),
      (.fltClrCnt, [FLT_CNT_A]), (.logClrCnt, [LOG_CNT_A]), (.bistClrCnt, [BIST_CNT_A_A, BIST_CNT_B_A]),
      (.pwrClrCnt, PWR_CNT_A :: (List.range 8).map PWR_REF_A), (.clkClrCnt, [CLK_CNT_A]), (.hpClrCnt, [HP_CNT_A, HP_CNT2_A])],
      Cleared s x := by
  have hz : ∀ {c : Instr} {a : Nat} {l : List Nat}, a ∉ ownTriggers → exec c s = trigRow a 1 s →
      clearCnt (a / 0x400) a s = zeroWords l s → Cleared s (c, l) := fun ha hc hz => cleared_of_zero hd hq ha hc hz
  refine List.forall_mem_cons.mpr ⟨hz (a := TICK_CLR_A) (by decide) rfl rfl, ?_⟩
  refine List.forall_mem_cons.mpr ⟨tickClrHold_clears hd hq, ?_⟩
  refine List.forall_mem_cons.mpr ⟨hz (a := VDU_CLR_A u) (by revert u; decide) rfl (clearCnt_unit s u.isLt rfl), ?_⟩
  refine List.forall_mem_cons.mpr ⟨hz (a := BG_CLR_A g) (by revert g; decide) rfl (clearCnt_group s g.isLt rfl), ?_⟩
  refine List.forall_mem_cons.mpr ⟨hz (a := AUX_CLR_A) (by decide) rfl rfl, ?_⟩
  refine List.forall_mem_cons.mpr ⟨hz (a := SUP_CLR_A) (by decide) rfl rfl, ?_⟩
  refine List.forall_mem_cons.mpr ⟨hz (a := OD_CLR_A) (by decide) rfl rfl, ?_⟩
  refine List.forall_mem_cons.mpr ⟨hz (a := SS_CLR_A) (by decide) rfl rfl, ?_⟩
  refine List.forall_mem_cons.mpr ⟨hz (a := LN_CTL_A) (by decide) rfl rfl, ?_⟩
  refine List.forall_mem_cons.mpr ⟨hz (a := LK_CLR_A m) (by revert m; decide) rfl (clearCnt_link s m.isLt rfl), ?_⟩
  refine List.forall_mem_cons.mpr ⟨hz (a := SIT_CLR_A) (by decide) rfl rfl, ?_⟩
  refine List.forall_mem_cons.mpr ⟨hz (a := SP_CLR_A p) (spClr_plain p) (exec_spClrCnt hp) (clearCnt_port s p.isLt rfl), ?_⟩
  refine List.forall_mem_cons.mpr ⟨hz (a := CH_CLR_A) (by decide) rfl rfl, ?_⟩
  refine List.forall_mem_cons.mpr ⟨hz (a := SL_CLR_A) (by decide) rfl rfl, ?_⟩
  refine List.forall_mem_cons.mpr ⟨hz (a := NT_CLR_A) (by decide) rfl rfl, ?_⟩
  refine List.forall_mem_cons.mpr ⟨hz (a := FLT_CTL_A) (by decide) rfl rfl, ?_⟩
  refine List.forall_mem_cons.mpr ⟨hz (a := LOG_CTL_A) (by decide) rfl rfl, ?_⟩
  refine List.forall_mem_cons.mpr ⟨hz (a := BIST_CLR_A) (by decide) rfl rfl, ?_⟩
  refine List.forall_mem_cons.mpr ⟨hz (a := PWR_CLR_A) (by decide) rfl rfl, ?_⟩
  refine List.forall_mem_cons.mpr ⟨hz (a := CLK_CLR_A) (by decide) rfl rfl, ?_⟩
  refine List.forall_mem_cons.mpr ⟨hz (a := HP_CTL_A) (by decide) rfl rfl, ?_⟩
  exact fun x hx => absurd hx List.not_mem_nil

/-! ### Rows that clear fields beside their counters -/

/-- A counter register and one field of another register are cleared. -/
theorem clears_word_and_field {a w : Nat} {y : Fld} {c : Instr} {s : State} (hd : s.dom 7 = true) (hq : s.quiet = false)
    (ha : a ∉ ownTriggers) (hc : exec c s = trigRow a 1 s) (hz : clearCnt (a / 0x400) a s = zeroWords [w] (s.set y 0))
    (hy : y.lo + y.width ≤ 32) (hne : y.addr ≠ w) :
    ∃ t, exec c s = .next t ∧ t.word w = 0 ∧ t.f y = 0 ∧ SameRegsBut [w, y.addr] s t := by
  refine ⟨_, hc.trans (trigRow_clears hd (pageDark_of_awake hq _) ha), ?_⟩
  rw [hz]
  have hout := zeroWords_outside [w] (s.set y 0)
  have hset : SameRegsBut [w, y.addr] s (s.set y 0) := (SameRegsBut.refl _ s).set y 0 (by simp)
  refine ⟨zeroWords_word _ _ w (List.mem_singleton_self w), (hout.f y (by simpa using hne)).trans ?_,
    (hset.trans (hout.mono (by simp))).of_regs (framed_regs _ _)⟩
  rw [s.f_set_same y 0 hy, Nat.zero_mod]

/-- The counters of one crossing are cleared (R446). -/
def clearX (i : Nat) (s : State) : State :=
  let t := ((s.set (CDC_XST_TIMEOUTS i) 0).set (CDC_XST_RESETS i) 0).set (CDC_XST_MAXLAT i) 0
  { t with ck := { t.ck with clrTb := t.tb } }

theorem clearX_regs (i : Nat) (s : State) :
    (clearX i s).regs = (((s.set (CDC_XST_TIMEOUTS i) 0).set (CDC_XST_RESETS i) 0).set (CDC_XST_MAXLAT i) 0).regs := rfl

theorem clearX_outside (i : Nat) (s : State) : SameRegsBut [CDC_XST_A i] s (clearX i s) := by
  have hin : CDC_XST_A i ∈ [CDC_XST_A i] := List.mem_singleton_self _
  exact ((((SameRegsBut.refl _ s).set (CDC_XST_TIMEOUTS i) 0 hin).set (CDC_XST_RESETS i) 0 hin).set (CDC_XST_MAXLAT i) 0 hin).of_regs
    (clearX_regs i s)

theorem clearX_shows (i : Nat) (s : State) : (clearX i s).f (CDC_XST_TIMEOUTS i) = 0 ∧ (clearX i s).f (CDC_XST_RESETS i) = 0 := by
  rw [State.f_congr (clearX_regs i s), State.f_congr (clearX_regs i s)]
  constructor
  · rw [State.f_set_apart _ (CDC_XST_MAXLAT i) (CDC_XST_TIMEOUTS i) 0 rfl rfl,
      State.f_set_apart _ (CDC_XST_RESETS i) (CDC_XST_TIMEOUTS i) 0 rfl rfl]
    exact State.f_set_fits _ _ _ (Nat.le_of_ble_eq_true rfl) (Nat.two_pow_pos _)
  · rw [State.f_set_apart _ (CDC_XST_MAXLAT i) (CDC_XST_RESETS i) 0 rfl rfl]
    exact State.f_set_fits _ _ _ (Nat.le_of_ble_eq_true rfl) (Nat.two_pow_pos _)

theorem clearX_each_outside (s : State) : SameRegsBut ((List.range 18).map CDC_XST_A) s (s.each (List.range 18) clearX) :=
  State.each_ind (SameRegsBut ((List.range 18).map CDC_XST_A) s) s (fun i hi t ht =>
    ht.trans ((clearX_outside i t).mono (List.cons_subset.mpr ⟨List.mem_map_of_mem hi, List.nil_subset _⟩))) (SameRegsBut.refl _ s)

theorem clearX_each_shows {i : Nat} (s : State) (hi : i < 18) :
    (s.each (List.range 18) clearX).f (CDC_XST_TIMEOUTS i) = 0 ∧ (s.each (List.range 18) clearX).f (CDC_XST_RESETS i) = 0 := by
  refine State.each_once (fun _ => True) (fun t => t.f (CDC_XST_TIMEOUTS i) = 0 ∧ t.f (CDC_XST_RESETS i) = 0) s (List.mem_range.mpr hi)
    List.nodup_range (fun _ _ _ _ _ => trivial) (fun j _ hj t ht => ?_) (fun t _ => clearX_shows i t) trivial
  have hplace : CDC_XST_A i ∉ [CDC_XST_A j] := by
    rw [List.mem_singleton]
    unfold CDC_XST_A
    omega
  have hout := clearX_outside j t
  exact ⟨(hout.f (CDC_XST_TIMEOUTS i) hplace).trans ht.1, (hout.f (CDC_XST_RESETS i) hplace).trans ht.2⟩

theorem clrMaint_row {s : State} (hq : s.quiet = false) : trigReg LN_CTL_A 2 s = clrMaintReq s := by
  rw [trigReg_plain (pageDark_of_awake hq _) (by decide)]
  show (false || (clrMaintReq s).1, (clrMaintReq s).2) = _
  rw [Bool.false_or]

/-- In QUIET the gate array's pages are dark. -/
theorem pageDark_group {g : Nat} {s : State} (hq : s.quiet = true) (hg : g < 8) : s.pageDark (0x020 + g) = true := by
  unfold State.pageDark
  rw [hq, Bool.true_and, Bool.or_eq_true, Bool.and_eq_true, decide_eq_true_eq, decide_eq_true_eq]
  exact .inl ⟨by omega, by omega⟩

/-- Settles O44: the rows that write zeros, those that clear fields beside them, and the refusal in QUIET. -/
theorem triggersClearTheirCounters : Obligations.TriggersClearTheirCounters := by
  unfold Obligations.TriggersClearTheirCounters
  refine ⟨fun u g m p s hd hq hp x hx => trigger_rows_clear u g m p hd hq hp x hx, fun s hd hq => ⟨?_, ?_, ?_, ?_, ?_⟩, fun g s hd hq => ?_⟩
  · exact clears_word_and_field (a := BLD_CLR_A) hd hq (by decide) rfl rfl (by decide) (by decide)
  · exact clears_word_and_field (a := STR_CLR_A) hd hq (by decide) rfl rfl (by decide) (by decide)
  · exact clears_word_and_field (a := MM_CLR_A) hd hq (by decide) rfl rfl (by decide) (by decide)
  · have hexec : exec .cdcClrCnt s = .next (framed s (s.each (List.range 18) clearX)) :=
      trigRow_clears (a := CDC_CLR_A) hd (pageDark_of_awake hq _) (by decide)
    refine ⟨_, hexec, fun i hi => ?_, (clearX_each_outside s).of_regs (framed_regs _ _)⟩
    rw [framed_f, framed_f]
    exact clearX_each_shows s hi
  · have hrow : exec .clrMaint s = s.runIn 7 (fun s => counted 0x00E (trigReg LN_CTL_A 2 s)) := rfl
    cases hs : s.service with
    | true =>
      have htrig : trigReg LN_CTL_A 2 s = (false, { s with ln := { s.ln with clrMaint := true } }) := (clrMaint_row hq).trans (if_pos hs)
      exact hrow.trans (State.runIn_to (f := fun s => counted 0x00E (trigReg LN_CTL_A 2 s)) hd (by rw [htrig]; rfl) rfl rfl rfl)
    | false =>
      have htrig : trigReg LN_CTL_A 2 s = (true, s) := (clrMaint_row hq).trans (if_neg (by simp [hs]))
      exact hrow.trans (State.runIn_counted_refused 0x00E (trigReg LN_CTL_A 2) hd htrig rfl rfl rfl)
  · have hpg : BG_CLR_A g / 0x400 = 0x020 + g := by unfold BG_CLR_A; omega
    have htrig : trigReg (BG_CLR_A g) 1 s = (true, s) := by
      refine (if_pos ?_).trans rfl
      rw [hpg]
      exact pageDark_group hq g.isLt
    have hrow : exec (.bgClrCnt g) s = s.runIn 7 (fun s => counted (0x020 + g) (trigReg (BG_CLR_A g) 1 s)) := by
      rw [← hpg]
      rfl
    exact hrow.trans (State.runIn_counted_refused (0x020 + g) (trigReg (BG_CLR_A g) 1) hd htrig rfl rfl rfl)

end Sys2Proof.Machine
end

section
/-!
PROOFS. A register write by the access codes of its fields (R7-R10, R461, R466): reserved addresses, status, configuration, fault bits.
-/
namespace Sys2Proof.Machine

/-! ### Words by bits -/

theorem mergeW_and (m old new : Word) : mergeW m old new &&& m = new &&& m := by
  ext i hi
  simp only [mergeW, BitVec.getElem_and, BitVec.getElem_or, BitVec.getElem_not]
  cases m[i] <;> simp

theorem mergeW_self (m w : Word) : mergeW m w w = w := by
  ext i hi
  simp only [mergeW, BitVec.getElem_and, BitVec.getElem_or, BitVec.getElem_not]
  cases m[i] <;> simp

/-- Two words agree in what a COMMIT puts in force just when they have the same bits there. -/
theorem sameConf_iff (a : Nat) (w x : Word) : sameConf a w x = true ↔ w &&& commitMask a = x &&& commitMask a := by
  have h : (w ^^^ x) &&& commitMask a = (w &&& commitMask a) ^^^ (x &&& commitMask a) := by
    ext i hi
    simp only [BitVec.getElem_and, BitVec.getElem_xor]
    cases (commitMask a)[i] <;> simp
  unfold sameConf
  rw [beq_iff_eq, h]
  exact BitVec.xor_eq_zero_iff

/-! ### The word last written of a register that awaits only a COMMIT (R13) -/

/-- What is pending, what the COMMIT in progress takes, or what is in force. -/
theorem State.written_and {s : State} {a : Nat} (hp : isPwd a = false) (hd : a ≠ PWR_DVFS_A) (hw : ∀ p ∈ s.tk.reg ++ s.tk.cyc, p.1 ≠ a) :
    s.written a &&& commitMask a = (s.pendWord a).getD ((s.commitWord a).getD (s.word a)) &&& commitMask a := by
  simp only [State.written, hp, foldl_mergeW_of_ne a _ _ hw, if_neg hd]
  cases s.pendWord a <;> cases s.commitWord a <;> cases s.pw.late <;> simp [mergeW_and]

/-- A word that is put up for a COMMIT reads back, also where it equals what is or will be in force. -/
theorem written_putPend_and {s : State} {a : Nat} (w : Word) (hp : isPwd a = false) (hd : a ≠ PWR_DVFS_A)
    (hw : ∀ p ∈ s.tk.reg ++ s.tk.cyc, p.1 ≠ a) : (putPend a w s).written a &&& commitMask a = w &&& commitMask a := by
  have hin : s.inForce a = s.word a := by simp [State.inForce, hp]
  have hw' : ∀ p ∈ (putPend a w s).tk.reg ++ (putPend a w s).tk.cyc, p.1 ≠ a := hw
  rw [State.written_and hp hd hw', putPend_pendWord_same, hin, putPend_commitWord, putPend_word]
  split
  · next h => exact ((sameConf_iff a _ _).mp h).symm
  · rfl

/-! ### Registers without a rule of their own -/

/-- The registers whose writes have a rule of their own. -/
def ownWrites : List Nat := [SCH_IDX_A, SCH_W0_A, SCH_W1_A, SCH_W2_A, FS_CFG_A, FS_WIN_A, LOG_RPTR_A, PWR_DVFS_A]

/-- A register of the axis pages or of another page that both parts have, without a rule of its own. -/
def PlainReg (a : Nat) : Prop := (regAt a).isNone = false ∧ a / 0x400 ≠ 0x043 ∧ a / 0x400 ≠ 0x044 ∧ 0x40 ≤ a % 0x400 ∧
  isTrigger a = false ∧ isPwd a = false ∧ a ∉ ownWrites

theorem writeCore_plain {a : Nat} {s : State} (remote : Bool) (v : Word) (h : PlainReg a) (hb : s.pageBusy (a / 0x400) = false) :
    writeCore remote a v s = writePlain (s.locked || remote) a v s := by
  obtain ⟨hreg, h43, h44, hoff, htrig, hpwd, hown⟩ := h
  simp only [ownWrites, List.mem_cons, List.not_mem_nil, or_false, not_or] at hown
  obtain ⟨h1, h2, h3, h4, h5, h6, h7, h8⟩ := hown
  have hpart : ((regAt a).isNone || (s.part == .s && (a / 0x400 == 0x043 || a / 0x400 == 0x044))) = false := by
    rw [hreg, beq_false_of_ne h43, beq_false_of_ne h44, Bool.or_self, Bool.and_false, Bool.or_false]
  unfold writeCore
  extract_lets pg off lock t
  have ht : t = s := if_neg (by simp [pg, hb])
  rw [if_neg (by rw [hpart]; decide), ht, if_neg (by omega), if_neg (by simp [htrig]), if_neg (by simp [hpwd]), if_neg h1, if_neg h2,
    if_neg h3, if_neg h4, if_neg h5, if_neg h6, if_neg h7, if_neg h8]

/-- The masks of a register's fields by access code. -/
def rwMask (a : Nat) : Word := maskWhere (fun f => f.acc == .rw) (fieldsAt a)
def w1cMask (a : Nat) : Word := maskWhere (fun f => f.acc == .w1c) (fieldsAt a)
def rwnMask (a : Nat) : Word := maskWhere (fun f => f.acc == .rwn) (fieldsAt a)
def comMask (a : Nat) : Word := maskWhere (fun f => f.acc == .rwl && f.eff == .commit) (fieldsAt a)
def tickMask (a : Nat) : Word := maskWhere (fun f => f.acc == .rwl && f.eff == .tick) (fieldsAt a)

/-- All fields that software writes await a COMMIT, if there are any. -/
def ConfReg (a : Nat) : Prop := rwMask a = 0 ∧ w1cMask a = 0 ∧ rwnMask a = 0 ∧ tickMask a = 0

theorem writePlain_conf {a : Nat} {s : State} (lock : Bool) (v : Word) (h : ConfReg a) : writePlain lock a v s =
    if lock then (comMask a != 0, s)
    else (false, if comMask a = 0 then s else putPend a (mergeW (comMask a) (s.written a) (writeBits a v)) s) := by
  obtain ⟨hrw, hw1c, hrwn, htick⟩ := h
  unfold rwMask at hrw
  unfold w1cMask at hw1c
  unfold rwnMask at hrwn
  unfold tickMask at htick
  unfold writePlain
  simp only [hrw, hw1c, hrwn, htick, if_true, true_or]
  cases lock with
  | false =>
    simp [comMask]
    rfl
  | true => simp [comMask]

theorem exec_registerWrite {addr : BitVec 24} {a : Nat} (v : Word) (s : State) (ha : addr.toNat / 4 * 4 = a) :
    exec (.registerWrite addr v) s = s.runIn 7 (fun s => counted (a / 0x400) (writeCore false a v s)) := by
  subst ha
  rfl

/-- A write that is not refused leaves what it wrote. -/
theorem registerWrite_done {addr : BitVec 24} {a : Nat} {v : Word} {s t : State} (hd : s.dom 7 = true) (ha : addr.toNat / 4 * 4 = a)
    (hw : writeCore false a v s = (false, t)) (hp : t.pending = s.pending) (hq : t.part = s.part) (hv : t.powered = s.powered) :
    exec (.registerWrite addr v) s = .next t := by
  rw [exec_registerWrite v s ha]
  exact State.runIn_to (f := fun s => counted (a / 0x400) (writeCore false a v s)) hd (by rw [hw]; rfl) hp hq hv

/-! ### The axis pages -/

theorem axStat_plain (n : Fin 16) : PlainReg (AX_STAT_A n) ∧ ConfReg (AX_STAT_A n) ∧ comMask (AX_STAT_A n) = 0 := by
  revert n
  unfold PlainReg ConfReg
  decide

theorem axVmax_plain (n : Fin 16) : PlainReg (AX_VMAX_A n) ∧ ConfReg (AX_VMAX_A n) ∧ comMask (AX_VMAX_A n) ≠ 0 ∧
    comMask (AX_VMAX_A n) = commitMask (AX_VMAX_A n) ∧ isPwd (AX_VMAX_A n) = false ∧ AX_VMAX_A n ≠ PWR_DVFS_A := by
  revert n
  unfold PlainReg ConfReg
  decide

theorem axis_page (n : Fin 16) : AX_STAT_A n / 0x400 = 0x010 + n ∧ AX_VMAX_A n / 0x400 = 0x010 + n ∧ PG_FLT_A (0x010 + n) / 0x400 = 0x010 + n := by
  unfold AX_STAT_A AX_VMAX_A PG_FLT_A
  omega

/-- VMAX lies in no page of analogue inputs. -/
theorem writeBits_vmax (n : Fin 16) (v : Word) : writeBits (AX_VMAX_A n) v = v := by
  refine if_neg ?_
  rw [List.any_eq_true]
  rintro ⟨c, _, hc⟩
  rw [beq_iff_eq] at hc
  unfold CH_CFG_A AX_VMAX_A at hc
  omega

theorem axFlt_listed (n : Fin 16) : (regAt (PG_FLT_A (0x010 + n))).isNone = false := by
  revert n
  decide

/-- A fault bit is cleared by a 1, unless hardware has set it in this cycle (R9). -/
theorem writeCore_flt {n : Fin 16} {s : State} (remote : Bool) (v : Word) (hb : s.pageBusy (0x010 + n) = false) :
    writeCore remote (PG_FLT_A (0x010 + n)) v s = (false, s.setWord (PG_FLT_A (0x010 + n))
      (s.word (PG_FLT_A (0x010 + n)) &&& ~~~ (v &&& ~~~ s.hwBits (PG_FLT_A (0x010 + n))))) := by
  have hreg := axFlt_listed n
  have hpg := (axis_page n).2.2
  have hoff : PG_FLT_A (0x010 + n) % 0x400 = 0x14 := by unfold PG_FLT_A; omega
  have hpart : ((regAt (PG_FLT_A (0x010 + n))).isNone || (s.part == .s && (PG_FLT_A (0x010 + n) / 0x400 == 0x043 ||
      PG_FLT_A (0x010 + n) / 0x400 == 0x044))) = false := by
    rw [hreg, hpg, beq_false_of_ne (by omega : 0x010 + n.val ≠ 0x043), beq_false_of_ne (by omega : 0x010 + n.val ≠ 0x044), Bool.or_self,
      Bool.and_false, Bool.or_false]
  unfold writeCore
  extract_lets pg off lock t
  have ht : t = s := if_neg (by simp [pg, hpg, hb])
  have hoff' : off = 0x14 := hoff
  rw [if_neg (by rw [hpart]; decide), if_pos (by omega), ht]
  clear_value off
  subst hoff'
  rfl

/-- Settles O45: each kind of field by its rule. -/
theorem writesFollowTheirAccessCodes : Obligations.WritesFollowTheirAccessCodes := by
  unfold Obligations.WritesFollowTheirAccessCodes
  refine ⟨fun addr v s hd hreg => ?_, fun n addr v s hd hb => ⟨fun ha => ?_, fun ha hl => ?_, fun ha hl hw => ?_⟩,
    fun n addr v s hd hb ha => ?_, fun s hd => ⟨?_, ?_⟩⟩
  · refine registerWrite_done hd rfl ?_ rfl rfl rfl
    unfold writeCore
    exact if_pos (by rw [hreg, Bool.true_or])
  · obtain ⟨hplain, hconf, hcom⟩ := axStat_plain n
    have hpage := (axis_page n).1
    refine registerWrite_done (a := AX_STAT_A n) hd (by rw [ha]; unfold AX_STAT_A; omega) ?_ rfl rfl rfl
    rw [writeCore_plain false v hplain (by rw [hpage]; exact hb), writePlain_conf _ v hconf, hcom]
    split <;> rfl
  · obtain ⟨hplain, hconf, hcom, _⟩ := axVmax_plain n
    have hpage := (axis_page n).2.1
    have hcore : writeCore false (AX_VMAX_A n) v s = (true, s) := by
      rw [writeCore_plain false v hplain (by rw [hpage]; exact hb), writePlain_conf _ v hconf, hl]
      exact (if_pos rfl).trans (congrArg (·, s) (bne_iff_ne.mpr hcom))
    rw [exec_registerWrite v s (a := AX_VMAX_A n) (by rw [ha]; unfold AX_VMAX_A; omega), hpage]
    exact State.runIn_counted_refused (0x010 + n) (writeCore false (AX_VMAX_A n) v) hd hcore rfl rfl rfl
  · obtain ⟨hplain, hconf, hcom, hmask, hpwd, hdvfs⟩ := axVmax_plain n
    have hpage := (axis_page n).2.1
    have hcore : writeCore false (AX_VMAX_A n) v s =
        (false, putPend (AX_VMAX_A n) (mergeW (commitMask (AX_VMAX_A n)) (s.written (AX_VMAX_A n)) v) s) := by
      rw [writeCore_plain false v hplain (by rw [hpage]; exact hb), writePlain_conf _ v hconf, hl, if_neg (by decide), if_neg hcom,
        hmask, writeBits_vmax]
    refine ⟨_, registerWrite_done hd (by rw [ha]; unfold AX_VMAX_A; omega) hcore rfl rfl rfl, rfl, rfl, ?_⟩
    rw [written_putPend_and _ hpwd hdvfs hw, mergeW_and]
  · exact registerWrite_done hd (by rw [ha]; unfold PG_FLT_A; omega) (writeCore_flt false v hb) rfl rfl rfl
  · exact State.runIn_to (f := latchTime) hd rfl rfl rfl rfl
  · exact State.runIn_to (f := latchTick) hd rfl rfl rfl rfl

end Sys2Proof.Machine
end

section
/-!
PROOFS. PG_CTL (R508-R510): enables and modes that wait for their TICK or cycle, and SOFT_RST.
-/
namespace Sys2Proof.Machine

/-! ### Enables and modes (R508, R510) -/

theorem pageListed_of_enPage {pg : Nat} (h : enPage pg = true) : pageListed pg = true := by
  simp only [enPage, Bool.or_eq_true, Bool.and_eq_true, decide_eq_true_eq, beq_iff_eq] at h
  exact decide_eq_true (by omega)

/-- On a QX880-A every listed page is there. -/
theorem pageThere_of_a {s : State} {pg : Nat} (ha : s.part = .a) (h : pageListed pg = true) : s.pageThere pg = true := by
  unfold State.pageThere
  rw [h, ha]
  rfl

/-- The state in which a disable has taken back an enable that waited. -/
def State.enLet (s : State) (pg : Nat) (en : Bool) : State := if en then s else s.setB (PG_STAT_PENDING_EN pg) false

/-- EN waits for its TICK, of a Sitil port for its cycle start. -/
def waitEn (pg : Nat) (en : Bool) (s : State) : State :=
  if 0x041 ≤ pg ∧ pg < 0x045 then waitCycle (PG_CTL_A pg) 1 (if en then 1 else 0) s else waitTick (PG_CTL_A pg) 1 (if en then 1 else 0) s

theorem waitEn_regs (pg : Nat) (en : Bool) (s : State) : (waitEn pg en s).regs = s.regs := by
  unfold waitEn
  split <;> rfl

theorem writeEn_open {pg : Nat} {en : Bool} {s : State} (h : enPage pg = true) (hs : s.pageShut pg = false) :
    writeEn pg en s = waitEn pg en (s.enLet pg en) := by
  unfold writeEn
  rw [if_neg (by simp [h])]
  simp only [hs, Bool.false_eq_true, if_false]
  rfl

theorem writeEn_shut {pg : Nat} {en : Bool} {s : State} (h : enPage pg = true) (hs : s.pageShut pg = true) :
    writeEn pg en s = waitEn pg en (s.setB (PG_STAT_PENDING_EN pg) en) := by
  unfold writeEn
  rw [if_neg (by simp [h])]
  simp only [hs, if_true]
  rfl

theorem writeEn_fixed {pg : Nat} {en : Bool} {s : State} (h : enPage pg = false) : writeEn pg en s = s := if_pos (by simp [h])

theorem writeMode_waits (pg : Nat) (mode : Bool) (s : State) :
    writeMode pg (b2n mode) s = waitTick (PG_CTL_A pg) 0x30 (if mode then 16 else 0) s := by
  cases mode <;> rfl

/-! ### SOFT_RST (R509) -/

theorem pgCtl_place (pg : Nat) : PG_CTL_A pg / 0x400 = pg ∧ PG_CTL_A pg % 0x400 = 0x0C := by
  unfold PG_CTL_A
  omega

/-- Every listed page has its PG_CTL. -/
theorem pgCtl_listed {pg : Nat} (h : pageListed pg = true) : (regAt (PG_CTL_A pg)).isNone = false := by
  obtain ⟨hpg, hoff⟩ := pgCtl_place pg
  unfold regAt
  rw [hpg, hoff, if_pos h, if_pos (by decide)]
  rfl

theorem writeCore_soft {pg : Nat} {s : State} (ha : s.part = .a) (h : pageListed pg = true) (hb : s.pageBusy pg = false) :
    writeCore false (PG_CTL_A pg) 2 s = softStart pg s := by
  obtain ⟨hpg, hoff⟩ := pgCtl_place pg
  have hreg := pgCtl_listed h
  unfold writeCore
  extract_lets p off lock t
  have hp : p = pg := hpg
  have ht : t = s := if_neg (by simp [hp, hb])
  have hoff' : off = 0x0C := hoff
  rw [if_neg (by simp [hreg, ha]), if_pos (by omega), ht, hp]
  clear_value off
  subst hoff'
  exact if_pos (by decide)

theorem peerFlush_soft {i : Nat} (h : 2 ≤ i) (h' : i ≤ 9) (s : State) : (peerFlush i s).cf.soft = s.cf.soft := by
  have hpeer : (peerReset i s).cf.soft = s.cf.soft := rfl
  have hcons : (xConsequence i (peerReset i s)).cf.soft = (peerReset i s).cf.soft := by
    by_cases h6 : i < 6
    · rw [xConsequence_port h h6]
      unfold portFail
      extract_lets x fails hit t
      split <;> rfl
    · rw [xConsequence_link (by omega) h']
  unfold peerFlush
  extract_lets t
  rw [if_neg (by omega : ¬i = 12)]
  split
  · exact hcons.trans hpeer
  · exact hpeer

/-- Configuration and registers are as they were. -/
def SameConf (s t : State) : Prop := t.cf = s.cf ∧ t.regs = s.regs

theorem SameConf.trans {s t u : State} (h : SameConf s t) (k : SameConf t u) : SameConf s u := ⟨k.1.trans h.1, k.2.trans h.2⟩

theorem SameConf.refl (s : State) : SameConf s s := ⟨rfl, rfl⟩

theorem inputsAnew_sameConf (n k : Nat) (s : State) : SameConf s (s.each (List.range n) fun i t => t.setInp (k + i) {}) :=
  State.each_ind (SameConf s) s (fun i _ t ht => ht.trans ⟨t.setInp_cf (k + i) {}, t.setInp_regs (k + i) {}⟩) (SameConf.refl s)

theorem bridgesAnew_sameConf (n k : Nat) (s : State) : SameConf s ((List.range n).foldl (fun t i => t.setHb (k + i) {}) s) :=
  List.foldlRecOn (motive := SameConf s) _ _ (SameConf.refl s) fun t ht i _ => ht.trans ⟨t.setHb_cf (k + i) {}, t.setHb_regs (k + i) {}⟩

/-- The logic of an axis, a half-bridge group or an input block restarts beside its registers. -/
theorem softLogic_sameConf {pg : Nat} (s : State) (h : pg < 0x041) : SameConf s (softLogic pg s) := by
  have hport : ¬(0x041 ≤ pg ∧ pg < 0x045) := by omega
  have hlink : ¬(0x051 ≤ pg ∧ pg < 0x055) := by omega
  unfold softLogic
  rw [if_neg hport, if_neg hlink]
  split_ifs
  · exact ⟨s.setAxs_cf _ _, s.setAxs_regs _ _⟩
  · have hgrp : SameConf s (s.setGrp (pg - 0x020) {}) := ⟨s.setGrp_cf _ _, s.setGrp_regs _ _⟩
    exact ((hgrp.trans (bridgesAnew_sameConf 6 (6 * (pg - 0x020)) _)).trans ⟨State.setVdu_cf _ _ _, State.setVdu_regs _ _ _⟩).trans
      ⟨State.setVdu_cf _ _ _, State.setVdu_regs _ _ _⟩
  · exact inputsAnew_sameConf 16 _ s
  · exact inputsAnew_sameConf 8 _ s
  · exact inputsAnew_sameConf 8 _ s
  · exact inputsAnew_sameConf 12 _ s
  · exact SameConf.refl s

/-- What restarts leaves the list of blocks in reset. -/
theorem softLogic_soft (pg : Nat) (s : State) : (softLogic pg s).cf.soft = s.cf.soft := by
  by_cases h : pg < 0x041
  · rw [(softLogic_sameConf s h).1]
  · unfold softLogic
    rw [if_neg (by omega), if_neg (by omega), if_neg (by omega), if_neg (by omega), if_neg (by omega), if_neg (by omega)]
    by_cases hport : 0x041 ≤ pg ∧ pg < 0x045
    · rw [if_pos hport]
      exact peerFlush_soft (by omega) (by omega) _
    by_cases hlink : 0x051 ≤ pg ∧ pg < 0x055
    · rw [if_neg hport, if_pos hlink]
      exact peerFlush_soft (by omega) (by omega) _
    · rw [if_neg hport, if_neg hlink]

theorem softStart_refused {pg : Nat} {s : State} (h : s.softOk pg = false) : softStart pg s = (true, s) := if_pos (by simp [h])

/-- The block is held in reset: its page joins the list, and its logic restarts. -/
theorem softStart_holds {pg : Nat} {s : State} (h : s.softOk pg = true) (hb : s.pageBusy pg = false) :
    (softStart pg s).1 = false ∧ (softStart pg s).2.cf.soft = s.cf.soft ++ [pg] ∧ (softStart pg s).2.regs = (softLogic pg s).regs := by
  unfold softStart
  rw [if_neg (by simp [h])]
  refine ⟨rfl, ?_, rfl⟩
  have hnot : (softLogic pg s).cf.soft.contains pg = false := by rw [softLogic_soft]; exact hb
  exact (if_neg (by rw [hnot]; decide)).trans (by rw [softLogic_soft])

/-- Settles O46: enables, modes, and the reset of a block. -/
theorem pageControlsWaitForTheirTick : Obligations.PageControlsWaitForTheirTick := by
  unfold Obligations.PageControlsWaitForTheirTick
  refine ⟨fun pg en s hd ha hen hs => ?_, fun pg en s hd ha hen hs => ?_, fun pg en s hd hen => ?_, fun pg mode s hd ha hl => ?_,
    fun pg s hd ha hl hb => ⟨fun hok => ?_, fun hok => ?_⟩, fun pg s hd => ?_⟩
  · have hthere := pageThere_of_a ha (pageListed_of_enPage hen)
    have hp : (waitEn pg.toNat en (s.enLet pg.toNat en)).pending = s.pending ∧ (waitEn pg.toNat en (s.enLet pg.toNat en)).part = s.part ∧
        (waitEn pg.toNat en (s.enLet pg.toNat en)).powered = s.powered := by
      unfold waitEn
      cases en <;> split <;> exact ⟨rfl, rfl, rfl⟩
    exact (State.runIf_to (f := writeEn pg.toNat en) hd hthere (writeEn_open hen hs) hp.1 hp.2.1 hp.2.2).trans rfl
  · have hthere := pageThere_of_a ha (pageListed_of_enPage hen)
    have hset : SameRegsBut [PG_STAT_A pg.toNat] s (s.setB (PG_STAT_PENDING_EN pg.toNat) en) :=
      (SameRegsBut.refl _ s).set (PG_STAT_PENDING_EN pg.toNat) _ (List.mem_singleton_self _)
    refine ⟨framed s (writeEn pg.toNat en s), State.runIf_on s 7 _ (writeEn pg.toNat en) hd hthere, ?_, ?_⟩
    · rw [framed_on, writeEn_shut hen hs, State.on_of_f (State.f_congr (waitEn_regs _ _ _) _)]
      exact State.on_setB_same _ (PG_STAT_PENDING_EN pg.toNat) en (Nat.le_of_ble_eq_true rfl) rfl
    · rw [writeEn_shut hen hs]
      exact (hset.of_regs (waitEn_regs _ _ _)).of_regs (framed_regs _ _)
  · cases hb : s.pageThere pg.toNat with
    | false => exact (congrArg (fun b => s.runIf 7 b (writeEn pg.toNat en)) hb).trans (s.runIf_not 7 _)
    | true => exact State.runIf_to (f := writeEn pg.toNat en) hd hb (writeEn_fixed hen) rfl rfl rfl
  · exact State.runIf_to (f := writeMode pg.toNat (b2n mode)) hd (pageThere_of_a ha hl) (writeMode_waits _ mode s) rfl rfl rfl
  · have hw : writeCore false (PG_CTL_A pg.toNat) 2 s = (true, s) := (writeCore_soft ha hl hb).trans (softStart_refused hok)
    have hrow : exec (.softRst pg) s =
        s.runIn 7 (fun s => counted (PG_CTL_A pg.toNat / 0x400) (writeCore false (PG_CTL_A pg.toNat) 2 s)) := rfl
    rw [(pgCtl_place pg.toNat).1] at hrow
    exact hrow.trans (State.runIn_counted_refused pg.toNat (writeCore false (PG_CTL_A pg.toNat) 2) hd hw rfl rfl rfl)
  · obtain ⟨hfree, hsoft, hregs⟩ := softStart_holds hok hb
    have hdone : (writeReg false (PG_CTL_A pg.toNat) 2 s).2 = (softStart pg.toNat s).2 := by
      unfold writeReg
      rw [writeCore_soft ha hl hb]
      unfold counted
      exact if_neg (by rw [hfree]; decide)
    refine ⟨_, s.runIn_on 7 (fun s => (writeReg false (PG_CTL_A pg.toNat) 2 s).2) hd, ?_⟩
    rw [hdone, framed_cf, framed_regs]
    exact ⟨hsoft, fun hlow => hregs.trans (softLogic_sameConf s hlow).2⟩
  · exact State.runIn_to (f := softEnd pg.toNat) hd rfl rfl rfl rfl

end Sys2Proof.Machine
end

section
/-!
PROOFS. Events of the fault collector (O48): the statement takes the class in force from the classifier and the configuration alone, and
a source that has reached TERMINAL keeps it whatever its entry says (R370, `State.srcClass`).
-/
namespace Sys2Proof.Machine

/-- The next event of AXIS_LOST_00, which is of class DEGRADE in its entry. -/
def axisLost0 : Raised := ⟨0x010, 7, false, none, 0⟩

/-- AXIS_LOST_00 at TERMINAL, whose entry has had a lower class since (R371), with its next event raised and the first-fault latch
cleared. -/
def terminalKept : State :=
  { ((State.reset.setB FLT_TERM_TERM true).set FLT_TERM_SRC 0x010).setBit (FLT_ACT_ACTIVE 0) 0x010 true with
    flt := { raised := [axisLost0], cls := [(0x010, { c := 1, active := true, term := true })] } }

/-- The event has class DEGRADE by its classifier and entry. -/
theorem terminalKept_entryClass :
    (let c := (clsEvent (terminalKept.cls 0x010) terminalKept.tickNo (terminalKept.srcW 0x010) (terminalKept.e (fsNF 0x010)) 7).1
      if c.promoted then terminalKept.e (fsPromF 0x010) else terminalKept.e (fsBaseF 0x010)) = 1 := by
  decide +kernel

/-- The first-fault latch takes the event with class TERMINAL. -/
theorem faultEvent_terminalKept : (framed terminalKept (faultEvent terminalKept)).f FLT_FIRST_CLASS = 3 := by
  decide +kernel

/-- Refutes O48: a source at TERMINAL keeps that class where its entry names a lower one (R370), so the first-fault latch takes its next
event as TERMINAL, and not with the class of the entry. -/
theorem not_faultEventsRegister : ¬ Obligations.FaultEventsRegister := by
  unfold Obligations.FaultEventsRegister
  rintro ⟨-, hev, -⟩
  have hd : terminalKept.dom 2 = true := by decide +kernel
  obtain ⟨t, ht, -, -, -, -, hlatch, -⟩ :=
    hev axisLost0 terminalKept hd (by decide +kernel) (by decide) (by decide +kernel)
  obtain ⟨-, -, hfree, -⟩ := hlatch terminalKept_entryClass.ge
  have hclass : t.f FLT_FIRST_CLASS = 1 := (hfree (by decide +kernel)).2.1.trans terminalKept_entryClass
  have hrun : exec .faultEvent terminalKept = .next (framed terminalKept (faultEvent terminalKept)) :=
    terminalKept.runIn_on 2 faultEvent hd
  obtain rfl : framed terminalKept (faultEvent terminalKept) = t := by simpa using hrun.symm.trans ht
  exact absurd (faultEvent_terminalKept.symm.trans hclass) (by decide)

end Sys2Proof.Machine
end

section
/-!
PROOFS. Entries of the event log (O49): the statement gives LOSS to whatever entry is written next, a continuation as well, which carries
none (R381, `ringWrite`).
-/
namespace Sys2Proof.Machine

/-- A continuation entry (CONT, bit 18 of E2). -/
def contEntry : LogE := { e2 := BitVec.ofNat 32 (2 ^ 18) }

/-- The log with a continuation as its oldest buffered entry, after a loss that no entry has told of yet. -/
def contWaits : State := { State.reset with flt := { buf := [contEntry], lossNext := true } }

/-- The continuation is written without LOSS, and the loss is still to be told. -/
theorem logEntryWrite_contWaits : (framed contWaits (logEntryWrite contWaits)).flt.lossNext = true := by
  decide +kernel

/-- Refutes O49: a continuation carries no LOSS (R381), so a loss that precedes it stays to be told by a later entry. -/
theorem not_logTakesItsEntries : ¬ Obligations.LogTakesItsEntries := by
  unfold Obligations.LogTakesItsEntries
  rintro ⟨hwrite, -⟩
  have hd : contWaits.dom 2 = true := by decide +kernel
  obtain ⟨t, ht, -, -, -, -, -, hloss, -⟩ := hwrite contEntry [] contWaits hd rfl (by decide +kernel) rfl
  have hrun : exec .logEntryWrite contWaits = .next (framed contWaits (logEntryWrite contWaits)) :=
    contWaits.runIn_on 2 logEntryWrite hd
  obtain rfl : framed contWaits (logEntryWrite contWaits) = t := by simpa using hrun.symm.trans ht
  exact Bool.false_ne_true (hloss.symm.trans logEntryWrite_contWaits)

end Sys2Proof.Machine
end

section
/-!
PROOFS. The bridges' own part of the state: what a hold of the groups (R202, R373) and a unit turned off (R144) may write, and what they
leave of everything else.
-/
namespace Sys2Proof.Machine

/-- The pages of the bridge groups, with their half-bridges and units. -/
def bridgePage (a : Nat) : Prop := 0x020 * 0x400 ≤ a ∧ a < 0x028 * 0x400

/-- Only the bridges changed: the records of half-bridges, units, groups and axes, and registers of the bridge groups' pages. -/
structure BridgeOnly (s t : State) : Prop where
  only : ∃ r h v g a, t = { s with regs := r, hbs := h, vdus := v, grps := g, axes := a }
  page : ChangesOnly bridgePage s t

section BridgeOnly
variable {s t u : State}

theorem BridgeOnly.refl (s : State) : BridgeOnly s s := ⟨⟨_, _, _, _, _, rfl⟩, ChangesOnly.refl _ s⟩

theorem BridgeOnly.trans (h : BridgeOnly s t) (k : BridgeOnly t u) : BridgeOnly s u := by
  obtain ⟨_, _, _, _, _, rfl⟩ := h.only
  obtain ⟨_, _, _, _, _, rfl⟩ := k.only
  exact ⟨⟨_, _, _, _, _, rfl⟩, h.page.trans k.page⟩

theorem BridgeOnly.of_ite {c : Prop} [Decidable c] (h : BridgeOnly s t) (k : BridgeOnly s u) : BridgeOnly s (if c then t else u) := by
  split
  · exact h
  · exact k

theorem BridgeOnly.setHb (h : BridgeOnly s t) (k : Nat) (b : HbSt) : BridgeOnly s (t.setHb k b) := by
  obtain ⟨_, _, _, _, _, rfl⟩ := h.only
  exact ⟨⟨_, _, _, _, _, rfl⟩, h.page.of_regs rfl⟩

theorem BridgeOnly.setVdu (h : BridgeOnly s t) (k : Nat) (v : VduSt) : BridgeOnly s (t.setVdu k v) := by
  obtain ⟨_, _, _, _, _, rfl⟩ := h.only
  exact ⟨⟨_, _, _, _, _, rfl⟩, h.page.of_regs rfl⟩

theorem BridgeOnly.setGrp (h : BridgeOnly s t) (k : Nat) (g : GroupSt) : BridgeOnly s (t.setGrp k g) := by
  obtain ⟨_, _, _, _, _, rfl⟩ := h.only
  exact ⟨⟨_, _, _, _, _, rfl⟩, h.page.of_regs rfl⟩

theorem BridgeOnly.setAxs (h : BridgeOnly s t) (k : Nat) (a : AxisSt) : BridgeOnly s (t.setAxs k a) := by
  obtain ⟨_, _, _, _, _, rfl⟩ := h.only
  exact ⟨⟨_, _, _, _, _, rfl⟩, h.page.of_regs rfl⟩

theorem BridgeOnly.set (h : BridgeOnly s t) (x : Fld) (v : Nat) (hx : bridgePage x.addr) : BridgeOnly s (t.set x v) := by
  have hp := h.page.set x v hx
  obtain ⟨_, _, _, _, _, rfl⟩ := h.only
  exact ⟨⟨_, _, _, _, _, rfl⟩, hp⟩

theorem BridgeOnly.f (h : BridgeOnly s t) (x : Fld) (hx : ¬ bridgePage x.addr) : t.f x = s.f x := h.page.f x hx
theorem BridgeOnly.on (h : BridgeOnly s t) (x : Fld) (hx : ¬ bridgePage x.addr) : t.on x = s.on x := State.on_of_f (h.f x hx)

theorem BridgeOnly.groupGatesLow (h : BridgeOnly s t) (g : Nat) : BridgeOnly s (groupGatesLow g t) :=
  State.each_ind (BridgeOnly s) t (fun k _ _ hr => hr.setHb k _) h

theorem BridgeOnly.undoEdges (h : BridgeOnly s t) (l : List (Nat × Nat × Nat)) :
    BridgeOnly s (l.foldl (fun t p => t.setHb p.1 { t.hb p.1 with ueS := p.2.1, leS := p.2.2 }) t) := by
  induction l generalizing t with
  | nil => exact h
  | cons p l ih => exact ih (h.setHb _ _)

theorem BridgeOnly.undoShifts (h : BridgeOnly s t) (l : List (Nat × Nat)) :
    BridgeOnly s (l.foldl (fun t p => t.setVdu p.1 { t.vdu p.1 with deltaS := p.2 }) t) := by
  induction l generalizing t with
  | nil => exact h
  | cons p l ih => exact ih (h.setVdu _ _)

theorem BridgeOnly.undoCommit (h : BridgeOnly s t) (n : Nat) : BridgeOnly s (undoCommit n t) := by
  unfold Machine.undoCommit takeBackCommit State.when
  dsimp only
  exact BridgeOnly.of_ite (BridgeOnly.of_ite (((h.setAxs _ _).undoEdges _).undoShifts _) h) h

theorem BridgeOnly.reactGroup (h : BridgeOnly s t) (g : Nat) : BridgeOnly s (reactGroup g t) :=
  State.each_ind (BridgeOnly s) _ (fun n _ _ hr => hr.undoCommit n) (h.setGrp g _)

end BridgeOnly

theorem bridgePage_group {g : Nat} (hg : g < 8) : bridgePage (BG_STAT_A g) := by
  unfold bridgePage BG_STAT_A
  omega

theorem holdGroup_bridgeOnly {g : Nat} (hg : g < 8) (s : State) : BridgeOnly s (holdGroup g s) :=
  ((BridgeOnly.refl s).set (BG_STAT_HELD g) 1 (bridgePage_group hg)).groupGatesLow g

/-- The holds that are asked for write the bridges alone. -/
theorem applyHolds_bridgeOnly (s : State) : BridgeOnly s (applyHolds s) := by
  refine State.each_ind (BridgeOnly s) s (fun g hg t ht => BridgeOnly.of_ite ?_ ht) (BridgeOnly.refl s)
  exact (ht.trans (holdGroup_bridgeOnly (List.mem_range.mp hg) t)).reactGroup g

/-- A unit that is turned off for its lost current sense writes the bridges alone. -/
theorem senseOff_bridgeOnly {u : Nat} (hu : u < 16) (s : State) : BridgeOnly s (senseOff u s) := by
  have hoff : BridgeOnly s (setOff u s) := by
    refine BridgeOnly.setVdu (State.each_ind (BridgeOnly s) s (fun h hh t ht => ?_) (BridgeOnly.refl s)) u _
    have hpage : bridgePage (HB_LOOP_A h) := by
      unfold bridgePage HB_LOOP_A
      simp only [List.mem_cons, List.not_mem_nil, or_false] at hh
      omega
    obtain ⟨b, hb, -⟩ := driveHb_only h 0 ((t.setHb h { t.hb h with minRun := false }).setB (HB_LOOP_OFF h) true)
    rw [hb]
    exact ((ht.setHb h _).set (HB_LOOP_OFF h) 1 hpage).setHb h b
  refine (hoff.set (VDU_STAT_STATE u) 2 ?_).setVdu u _
  show bridgePage (VDU_STAT_A u)
  unfold bridgePage VDU_STAT_A
  omega

end Sys2Proof.Machine
end

section
/-!
PROOFS. The running self-test and the writes of the repair map (R391-R400, R406).
-/
namespace Sys2Proof.Machine

/-! ### What a confirmed failure leaves of the self-test's counts -/

/-- What a confirmed failure shows: its counts and the kind of the failed resource. -/
def bistShown : List Fld := [BIST_CNT_A_FAIL, BIST_CNT_B_CONFIRMED, BIST_LAST_KIND]

/-- The counts of failures, the last failed kind and the repetition in progress are as they were. -/
structure BistKept (s t : State) : Prop where
  shown : ∀ x ∈ bistShown, t.f x = s.f x
  rep : t.bist.rep = s.bist.rep

/-- A field written beside the counts of failures. -/
def besideBist (x : Fld) : Bool := bistShown.all x.clearOf

section BistKept
variable {s t u : State}

theorem BistKept.refl (s : State) : BistKept s s := ⟨fun _ _ => rfl, rfl⟩

theorem BistKept.trans (h : BistKept s t) (k : BistKept t u) : BistKept s u := ⟨fun x hx => (k.shown x hx).trans (h.shown x hx), k.rep.trans h.rep⟩

theorem BistKept.of_ite {c : Prop} [Decidable c] (h : BistKept s t) (k : BistKept s u) : BistKept s (if c then t else u) := by
  split
  · exact h
  · exact k

/-- Records beside the registers and the repetition do not matter. -/
theorem BistKept.of_eq (h : BistKept s t) (e : u.regs = t.regs) (b : u.bist.rep = t.bist.rep) : BistKept s u :=
  ⟨fun x hx => (State.f_congr e x).trans (h.shown x hx), b.trans h.rep⟩

theorem BistKept.set (h : BistKept s t) (x : Fld) (v : Nat) (hx : besideBist x = true) : BistKept s (t.set x v) :=
  ⟨fun y hy => (t.f_set_clear x y v (List.all_eq_true.mp hx y hy)).trans (h.shown y hy), h.rep⟩

theorem BistKept.raise (h : BistKept s t) (i d : Nat) : BistKept s (t.raise i d) := h.of_eq rfl rfl
theorem BistKept.raiseU (h : BistKept s t) (i : Nat) : BistKept s (t.raiseU i) := h.of_eq rfl rfl
theorem BistKept.withRep (h : BistKept s t) (r : RepairSt) : BistKept s { t with rep := r } := h.of_eq rfl rfl

/-- What writes the bridges alone leaves the self-test. -/
theorem BistKept.bridge (h : BistKept s t) (k : BridgeOnly t u) : BistKept s u := by
  have hb : u.bist = t.bist := by
    obtain ⟨_, _, _, _, _, rfl⟩ := k.only
    rfl
  have hout : ∀ x ∈ bistShown, ¬ bridgePage x.addr := by unfold bridgePage; decide
  exact ⟨fun x hx => (k.f x (hout x hx)).trans (h.shown x hx), (congrArg BistSt.rep hb).trans h.rep⟩

theorem BistKept.addEntry (h : BistKept s t) (st kind res spare detail : Nat) : BistKept s (addEntry st kind res spare detail t) := by
  unfold Machine.addEntry
  refine (h.raiseU _).of_ite (BistKept.raise ?_ _ _)
  unfold mapCounts
  exact (((((h.withRep _).set RP_STAT_NV_BUSY _ (by decide)).set RP_STAT_USED _ (by decide)).set RP_STAT_FULL _ (by decide)).set
    RP_STAT_FIELD _ (by decide)).set RP_PEND_PENDING _ (by decide)

theorem BistKept.lose (h : BistKept s t) (kind res detail : Nat) : BistKept s (lose kind res detail t) := (h.addEntry 2 kind res 0xFFF detail).raise _ _

theorem BistKept.showWinFree (h : BistKept s t) : BistKept s (showWinFree t) := h.set RP_SPARE_WIN_FREE _ (by decide)

theorem BistKept.holdShadow (h : BistKept s t) (j : Nat) : BistKept s (t.setBit BIST_SHADOW_HELD j true) := h.set BIST_SHADOW_HELD _ (by decide)

theorem BistKept.windowRepair (h : BistKept s t) (r step : Nat) : BistKept s (windowRepair r step t) := by
  unfold Machine.windowRepair
  split
  · exact ((h.addEntry 0 3 r _ step).holdShadow _).showWinFree
  · have hfail : BistKept s (if r < 48 then { t with rep := { t.rep with failWin := t.rep.failWin ++ [r] } } else t) :=
      (h.withRep _).of_ite h
    generalize (if r < 48 then { t with rep := { t.rep with failWin := t.rep.failWin ++ [r] } } else t) = t' at hfail
    dsimp only
    split
    · next j _ =>
      have hadd := hfail.addEntry 0 3 r j step
      exact (hadd.withRep _).showWinFree.of_ite (hadd.holdShadow j).showWinFree
    · have hlost := hfail.lose 3 r step
      split
      · next hr => exact hlost.of_ite (hlost.bridge (senseOff_bridgeOnly (by omega) _))
      · exact (hlost.withRep _).bridge (applyHolds_bridgeOnly _)

/-- The driver output has its slice cut off, which its half-bridge takes over when its edge allows it. -/
theorem BistKept.cutSlice (h : BistKept s t) (c : Prop) [Decidable c] (k : Nat) (b : HbSt) : BistKept s (if c then t.setHb k b else t) :=
  BistKept.of_ite (t := t.setHb k b) (h.of_eq rfl rfl) h

theorem BistKept.driverRepair (h : BistKept s t) (o sl step : Nat) : BistKept s (driverRepair o sl step t) := by
  unfold Machine.driverRepair
  dsimp only
  have hcut := h.cutSlice (o < 96 ∧ (sl < 7 ∨ t.rep.usedDrv.contains o = true)) (o / 2)
    (if o % 2 = 1 then { t.hb (o / 2) with pendH := (t.hb (o / 2)).pendH ++ [sl] } else { t.hb (o / 2) with pendL := (t.hb (o / 2)).pendL ++ [sl] })
  generalize (if o < 96 ∧ (sl < 7 ∨ t.rep.usedDrv.contains o = true) then _ else t) = t' at hcut ⊢
  have hlost := hcut.lose 4 (8 * o + sl) step
  have hadd := hcut.addEntry 0 4 (8 * o + sl) (8 * o + 7) step
  exact (hlost.of_ite (hlost.withRep _)).of_ite ((hadd.withRep _).set RP_SPARE_DRV_USED _ (by decide))

theorem BistKept.coreLost (h : BistKept s t) (c : Nat) : BistKept s (coreLost c t) := by
  unfold Machine.coreLost
  have hfree : BistKept s (t.setB RP_SPARE_CORE_FREE false) := h.set RP_SPARE_CORE_FREE _ (by decide)
  exact (h.withRep _).of_ite ((hfree.withRep _).of_ite hfree)

theorem BistKept.repairOf (h : BistKept s t) {kind : Nat} (hk : kind < 6) (res step : Nat) : BistKept s (repairOf kind res step t) := by
  unfold Machine.repairOf
  refine h.of_ite ?_
  match kind, hk with
  | 0, _ => exact h.lose _ _ _
  | 1, _ => exact ((h.addEntry _ _ _ _ _).set RP_SPARE_CORE_FREE _ (by decide)).of_ite ((h.lose _ _ _).coreLost _)
  | 2, _ => exact (h.lose _ _ _).withRep _
  | 3, _ => exact h.windowRepair _ _
  | 4, _ => exact h.driverRepair _ _ _
  | 5, _ => exact (h.lose _ _ _).withRep _

end BistKept

/-- The failure is counted, and shown with its kind. -/
theorem noteFailure_shows {kind : Nat} (hk : kind < 6) (res step : Nat) (s : State) :
    (noteFailure kind res step s).f BIST_CNT_A_FAIL = s.f BIST_CNT_A_FAIL ∧
      (noteFailure kind res step s).f BIST_CNT_B_CONFIRMED = satU BIST_CNT_B_CONFIRMED.width (s.f BIST_CNT_B_CONFIRMED + 1) ∧
      (noteFailure kind res step s).f BIST_LAST_KIND = kind ∧ (noteFailure kind res step s).bist = s.bist := by
  unfold noteFailure
  extract_lets s1 s2
  have h2 : s2.regs = s1.regs ∧ s2.bist = s.bist := by
    unfold s2
    split <;> exact ⟨rfl, rfl⟩
  clear_value s2
  obtain ⟨hregs, hbist⟩ := h2
  refine ⟨?_, ?_, ?_, hbist⟩
  · rw [State.f_set_clear _ _ _ _ (by decide), State.f_set_clear _ _ _ _ (by decide), State.f_set_clear _ _ _ _ (by decide), State.f_congr hregs]
    exact s.f_set_clear _ _ _ (by decide)
  · rw [State.f_set_clear _ _ _ _ (by decide), State.f_set_clear _ _ _ _ (by decide), State.f_set_clear _ _ _ _ (by decide), State.f_congr hregs]
    exact s.f_inc_same _ (by decide)
  · rw [State.f_set_clear _ _ _ _ (by decide), State.f_set_clear _ _ _ _ (by decide)]
    exact State.f_set_fits _ _ _ (by decide) (hk.trans (by decide))

theorem confirmSpare_kept (j step : Nat) (s : State) : BistKept (noteFailure 3 (spareIndex j) step s) (confirmSpare j step s) := by
  unfold confirmSpare
  dsimp only
  generalize noteFailure 3 (spareIndex j) step s = t
  have hused := (BistKept.refl t).withRep { t.rep with usedWin := t.rep.usedWin ++ [j] }
  exact (BistKept.refl t).of_ite ((hused.lose _ _ _).showWinFree.of_ite (hused.of_ite (hused.windowRepair _ _)))

/-- Items are of the six kinds that a sweep tests. -/
theorem itemAt_kind (p : Nat) : (itemAt p).kind < 6 := by
  unfold Item.kind itemAt itemOf
  split_ifs <;> simp_all

/-- A confirmed failure is counted and shown before its repair. -/
theorem confirmItem_kept (p sl : Nat) (s : State) : ∃ res, BistKept (noteFailure (itemAt p).kind res p s) (confirmItem p sl s) := by
  unfold confirmItem
  dsimp only
  split
  · next h =>
    have hk : (itemAt p).kind = 3 := by simp [Item.kind, h.1]
    rw [hk]
    exact ⟨_, confirmSpare_kept _ _ _⟩
  · exact ⟨_, (BistKept.refl _).repairOf (itemAt_kind p) _ _⟩

/-! ### Positions of the sweep -/

section Moves
variable {s t : State}

theorem BistKept.showStep (h : BistKept s t) (p : Nat) : BistKept s (showStep p t) :=
  ((h.set BIST_STAT_KIND _ (by decide)).set BIST_STAT_ITEM _ (by decide)).set BIST_STAT_STEP _ (by decide)

theorem BistKept.sweepEnd (h : BistKept s t) : BistKept s (sweepEnd t) := by
  unfold Machine.sweepEnd
  extract_lets ms t1 t2
  have h1 : BistKept s t1 := (h.set BIST_SWEEP_SWEEPS _ (by decide)).set BIST_SWEEP_LAST_MS _ (by decide)
  have h2 : BistKept s t2 :=
    ((h1.set BIST_COV_DRV_DONE _ (by decide)).set BIST_COV_WIN_DONE _ (by decide)).set BIST_COV_THR_DONE _ (by decide)
  exact h2.of_eq rfl rfl

theorem BistKept.enterStep (h : BistKept s t) (tick : Bool) (p : Nat) : BistKept s (enterStep tick p t) := by
  unfold Machine.enterStep
  extract_lets i free
  have hdrop : BistKept s { t with bist := { t.bist with drop := some (i.test, i.ord) } } := h.of_eq rfl rfl
  exact (hdrop.set BIST_CNT_B_NO_SHADOW _ (by decide)).of_ite h

theorem BistKept.goTo (h : BistKept s t) (tick : Bool) (n p : Nat) : BistKept s (goTo tick t n p) := by
  induction n generalizing t p with
  | zero => exact h.showStep p
  | succ n ih =>
    unfold Machine.goTo
    exact (h.sweepEnd.showStep 0).of_ite ((ih (h.enterStep tick _) _).of_ite ((h.enterStep tick _).showStep _))

theorem BistKept.leaveItem (h : BistKept s t) (i : Item) : BistKept s (leaveItem i t) := by
  unfold Machine.leaveItem
  split
  · exact h.of_eq rfl rfl
  · exact h.of_eq rfl rfl
  · split
    · exact h.of_eq rfl rfl
    · exact h.set BIST_CNT_B_NO_EDGE _ (by decide)
  · exact h

end Moves

/-- Where no item is passed over, no position is. -/
theorem skipOver_none {s : State} (h : s.bist.drop = none) (n p : Nat) : skipOver s n p = p := by
  cases n with
  | zero => rfl
  | succ n => simp [skipOver, State.dropped, h]

/-- The first thousand positions are steps of references and of converter cores. -/
theorem itemAt_early {p : Nat} (hp : p < 1000) : (itemAt p).test = 0 ∨ (itemAt p).test = 1 := by
  unfold itemAt itemOf
  split
  · exact .inl rfl
  · rw [if_pos (by omega)]
    exact .inr rfl

/-- The sweep goes on to the next position, where it stands among the first and has passed nothing over. -/
theorem advance_early {s : State} {p : Nat} (hp : p < 999) (hd : s.bist.drop = none) : advance p s = showStep (p + 1) s := by
  have hwin : s.windowOf (itemAt (p + 1)) = none := by
    unfold State.windowOf
    rcases itemAt_early (show p + 1 < 1000 by omega) with h | h <;> rw [if_neg (by omega), if_neg (by omega)]
  have henter : enterStep false (p + 1) s = s := by simp [enterStep, State.needsShadow, hwin]
  have hdrop : s.dropped (p + 1) = false := by simp [State.dropped, hd]
  unfold advance goTo
  simp only [skipOver_none hd, henter, hdrop, if_neg (show ¬ 16000 ≤ p + 1 by omega), Bool.false_eq_true, if_false]

theorem leaveItem_early {p : Nat} (hp : p < 1000) (s : State) : leaveItem (itemAt p) s = s := by
  unfold leaveItem
  rcases itemAt_early hp with h | h <;> simp only [h]

/-! ### Steps -/

/-- A step that runs: the sweep is on and waits for nothing. -/
structure State.StepRuns (s : State) : Prop where
  mode : s.f BIST_STAT_MODE = 1
  awake : s.bist.waits = false
  real : s.idleStep (itemAt (s.f BIST_STAT_STEP)) = false
  ready : s.stepWaits (itemAt (s.f BIST_STAT_STEP)) = false
  valid : s.stepVoid (itemAt (s.f BIST_STAT_STEP)) = false
  still : s.on PWR_DVFS_BUSY = false

/-- A step has passed: a repetition in progress has ended, raised, and an edge of the item is noted. -/
def State.stepPassed (s : State) (e : Bool) : State :=
  let i := itemAt (s.f BIST_STAT_STEP)
  let r := if s.bist.rep then s.raiseU 0x3E7 else s
  { r with bist := { r.bist with rep := false, edge := if i.test = 4 then r.bist.edge || e else r.bist.edge } }

/-- A step has failed: it is counted, and the failure noted for the lane. -/
def State.stepFailed (s : State) : State := { s.inc BIST_CNT_A_FAIL with ln := { s.ln with bistFail := true } }

/-- Item `i` is passed over from here on. -/
def State.passedOver (s : State) (i : Item) : State :=
  { s with bist := { s.bist with
    drop := if i.test = 0 then s.bist.drop else some (i.test, i.ord)
    edge := s.bist.edge || i.test == 4 } }

/-- A failed repetition: the failure is confirmed, and the rest of the item passed over. -/
def State.failConfirmed (s : State) (sl : Nat) : State :=
  let p := s.f BIST_STAT_STEP
  advance p (leaveItem (itemAt p) ((confirmItem p sl { s.stepFailed with bist := { s.bist with rep := false } }).passedOver (itemAt p)))

/-- What a step that runs comes to, by its outcome. -/
def stepRun (o : BistOut) (s : State) : State :=
  let p := s.f BIST_STAT_STEP
  let i := itemAt p
  match o with
  | .wait => { s with bist := { s.bist with waits := true } }
  | .discard => s
  | .skip c => skipStep c.toNat s
  | .pass e => advance p (if i.step + 1 = i.len then leaveItem i (s.stepPassed e) else s.stepPassed e)
  | .fail sl => if s.bist.rep then s.failConfirmed sl else { s.stepFailed with bist := { s.bist with rep := true } }

section Steps
variable {s : State}

theorem stepEnd_off (o : BistOut) (h : s.f BIST_STAT_MODE ≠ 1 ∨ s.bist.waits = true) : stepEnd o s = s := if_pos h

theorem State.on_of_mode (hm : s.f BIST_STAT_MODE = 1) (hw : s.bist.waits = false) : ¬ (s.f BIST_STAT_MODE ≠ 1 ∨ s.bist.waits = true) := by
  simp [hm, hw]

theorem stepEnd_runs (o : BistOut) (h : s.StepRuns) : stepEnd o s = stepRun o s := by
  obtain ⟨hm, hw, hi, hr, hv, hb⟩ := h
  refine (if_neg (State.on_of_mode hm hw)).trans ((if_neg (ne_true_of_eq_false hi)).trans ((if_neg (ne_true_of_eq_false hr)).trans
    ((if_neg (ne_true_of_eq_false hv)).trans ((if_neg (ne_true_of_eq_false hb)).trans ?_))))
  cases o with
  | wait => rfl
  | discard => rfl
  | skip c => rfl
  | pass e => rfl
  | fail sl => rfl

theorem stepEnd_waits (o : BistOut) (hm : s.f BIST_STAT_MODE = 1) (hw : s.bist.waits = false)
    (hi : s.idleStep (itemAt (s.f BIST_STAT_STEP)) = false) (hr : s.stepWaits (itemAt (s.f BIST_STAT_STEP)) = true) :
    stepEnd o s = { s with bist := { s.bist with waits := true } } :=
  (if_neg (State.on_of_mode hm hw)).trans ((if_neg (ne_true_of_eq_false hi)).trans (if_pos hr))

theorem stepEnd_void (o : BistOut) (hm : s.f BIST_STAT_MODE = 1) (hw : s.bist.waits = false)
    (hi : s.idleStep (itemAt (s.f BIST_STAT_STEP)) = false) (hr : s.stepWaits (itemAt (s.f BIST_STAT_STEP)) = false)
    (hv : s.stepVoid (itemAt (s.f BIST_STAT_STEP)) = true) : stepEnd o s = s :=
  (if_neg (State.on_of_mode hm hw)).trans ((if_neg (ne_true_of_eq_false hi)).trans ((if_neg (ne_true_of_eq_false hr)).trans (if_pos hv)))

theorem bistStep_early (o : BistOut) (hl : s.tk.bistLate = false) : bistStep o s = stepEnd o s := by
  simp [bistStep, hl]

/-- A passed step of the first thousand goes on to the next, where no item is passed over. -/
theorem stepRun_pass {e : Bool} (hp : s.f BIST_STAT_STEP < 999) (hd : s.bist.drop = none) :
    stepRun (.pass e) s = showStep (s.f BIST_STAT_STEP + 1) (s.stepPassed e) := by
  have hdrop : (s.stepPassed e).bist.drop = none := by
    unfold State.stepPassed
    dsimp only
    split <;> exact hd
  unfold stepRun
  dsimp only
  rw [leaveItem_early (by omega), ite_self]
  exact advance_early hp hdrop

theorem stepPassed_shows (e : Bool) (s : State) : (s.stepPassed e).bist.rep = false ∧ (s.stepPassed e).regs = s.regs ∧
    (s.stepPassed e).flt = (if s.bist.rep then s.raiseU 0x3E7 else s).flt := by
  refine ⟨rfl, ?_, rfl⟩
  unfold State.stepPassed
  dsimp only
  split <;> rfl

/-- The next position among the first is shown, and only that. -/
theorem showStep_shows {p : Nat} (hp : p < 16000) (s : State) : (showStep p s).f BIST_STAT_STEP = p ∧ SameRegsBut [BIST_STAT_A] s (showStep p s) :=
  ⟨State.f_set_fits _ BIST_STAT_STEP p (by decide) (hp.trans (by decide)),
    (((SameRegsBut.refl _ s).set BIST_STAT_KIND _ (by decide)).set BIST_STAT_ITEM _ (by decide)).set BIST_STAT_STEP _ (by decide)⟩

/-- A failed repetition is counted and shown, and none is in progress any longer. -/
theorem failConfirmed_shows (sl : Nat) (s : State) : (s.failConfirmed sl).bist.rep = false ∧
    (s.failConfirmed sl).f BIST_CNT_A_FAIL = satU BIST_CNT_A_FAIL.width (s.f BIST_CNT_A_FAIL + 1) ∧
    (s.failConfirmed sl).f BIST_CNT_B_CONFIRMED = satU BIST_CNT_B_CONFIRMED.width (s.f BIST_CNT_B_CONFIRMED + 1) ∧
    (s.failConfirmed sl).f BIST_LAST_KIND = (itemAt (s.f BIST_STAT_STEP)).kind := by
  unfold State.failConfirmed
  extract_lets p
  obtain ⟨res, hc⟩ := confirmItem_kept p sl { s.stepFailed with bist := { s.bist with rep := false } }
  have hover := BistKept.of_eq (u := (confirmItem p sl { s.stepFailed with bist := { s.bist with rep := false } }).passedOver (itemAt p)) hc rfl rfl
  have hall := (hover.leaveItem (itemAt p)).goTo false 40 (p + 1)
  obtain ⟨hfail, hconf, hkind, hb⟩ := noteFailure_shows (itemAt_kind p) res p { s.stepFailed with bist := { s.bist with rep := false } }
  refine ⟨hall.rep.trans (congrArg BistSt.rep hb), ?_, ?_, ?_⟩
  · exact (hall.shown BIST_CNT_A_FAIL (by decide)).trans (hfail.trans (s.f_inc_same BIST_CNT_A_FAIL (by decide)))
  · refine (hall.shown BIST_CNT_B_CONFIRMED (by decide)).trans (hconf.trans ?_)
    exact congrArg (fun n => satU BIST_CNT_B_CONFIRMED.width (n + 1)) (s.f_set_ne BIST_CNT_A_FAIL BIST_CNT_B_CONFIRMED _ (by decide))
  · exact (hall.shown BIST_LAST_KIND (by decide)).trans hkind

end Steps

/-! ### The commands -/

section Commands
variable {s t : State}

/-- A step outside a slice that is cut off is what its end comes to. -/
theorem exec_bistStep (o : BistOut) (hd : s.dom 2 = true) (hq : s.quiet = false) (hl : s.tk.bistLate = false) :
    exec (.bistStep o) s = .next (framed s (stepEnd o s)) := by
  refine (s.runIf_on 2 (!s.quiet) (bistStep o) hd (by simp [hq])).trans ?_
  rw [bistStep_early o hl]

theorem exec_bistStep_to {o : BistOut} (hd : s.dom 2 = true) (hq : s.quiet = false) (hl : s.tk.bistLate = false) (ht : stepEnd o s = t)
    (hp : t.pending = s.pending) (ha : t.part = s.part) (hw : t.powered = s.powered) : exec (.bistStep o) s = .next t := by
  rw [exec_bistStep o hd hq hl, ht, framed_self s t hp ha hw]

/-- No step is left in a slice that is cut off, or the sweep waits for the next slice. -/
theorem exec_bistStep_late (o : BistOut) (hd : s.dom 2 = true) (hq : s.quiet = false)
    (h : (s.tk.bistLate = true ∧ s.tk.bistLeft = 0) ∨ (s.tk.bistLate = false ∧ s.bist.waits = true)) : exec (.bistStep o) s = .next s := by
  rcases h with ⟨hl, h0⟩ | ⟨hl, hw⟩
  · exact State.runIf_to hd (by simp [hq]) (by simp [bistStep, hl, h0]) rfl rfl rfl
  · exact exec_bistStep_to hd hq hl (stepEnd_off o (.inr hw)) rfl rfl rfl

/-- The outcomes of a step that runs. -/
theorem exec_bistStep_runs (hd : s.dom 2 = true) (hq : s.quiet = false) (hl : s.tk.bistLate = false) (h : s.StepRuns) :
    exec (.bistStep .wait) s = .next { s with bist := { s.bist with waits := true } } ∧
    exec (.bistStep .discard) s = .next s ∧
    (∀ c : BitVec 3, exec (.bistStep (.skip c)) s =
      .next ((s.inc BIST_CNT_A_SKIP).setWord BIST_SKIP_A (BitVec.ofNat 32 c.toNat))) ∧
    (∀ sl : Fin 8, s.bist.rep = false → exec (.bistStep (.fail sl)) s =
      .next { s.inc BIST_CNT_A_FAIL with ln := { s.ln with bistFail := true }, bist := { s.bist with rep := true } }) ∧
    (∀ sl : Fin 8, s.bist.rep = true → exec (.bistStep (.fail sl)) s = .next (framed s (s.failConfirmed sl))) ∧
    (∀ e : Bool, exec (.bistStep (.pass e)) s = .next (framed s (stepRun (.pass e) s))) := by
  have hrun : ∀ o, exec (.bistStep o) s = .next (framed s (stepRun o s)) := fun o => by
    rw [exec_bistStep o hd hq hl, stepEnd_runs o h]
  refine ⟨hrun .wait, hrun .discard, fun c => hrun (.skip c), fun sl hrep => ?_, fun sl hrep => ?_, fun e => hrun (.pass e)⟩
  · have hfail : stepRun (.fail sl) s = { s.stepFailed with bist := { s.bist with rep := true } } := if_neg (ne_true_of_eq_false hrep)
    rw [hrun, hfail]
    rfl
  · have hfail : stepRun (.fail sl) s = s.failConfirmed sl := if_pos hrep
    rw [hrun, hfail]

/-- A sweep that does not end is reported once. -/
theorem bistStall_first (hst : s.bist.started = true) (he : s.bist.stallEp = false)
    (ht : s.e BIST_CFG_STALL * 80000000 ≤ s.tb - s.bist.startTb) :
    bistStall s = ({ s with bist := { s.bist with stallEp := true } }).raiseU 0x3E8 :=
  if_pos (by simp [hst, he, ht])

/-- The oldest waiting entry has been written. -/
def State.entryWritten (s : State) (n : Nat) : State :=
  ({ s with rep := { s.rep with unwritten := n, retried := false } }).setB RP_STAT_NV_BUSY (n != 0)

theorem entryWritten_shows (n : Nat) (s : State) : (s.entryWritten n).rep = { s.rep with unwritten := n, retried := false } ∧
    (s.entryWritten n).on RP_STAT_NV_BUSY = (n != 0) ∧ (s.entryWritten n).flt = s.flt ∧ SameRegsBut [RP_STAT_A] s (s.entryWritten n) :=
  ⟨rfl, State.on_setB_same _ _ _ (by decide) rfl, rfl, ((SameRegsBut.refl _ s).of_regs rfl).set RP_STAT_NV_BUSY _ (by decide)⟩

theorem repairWritten_ok {n : Nat} (hn : s.rep.unwritten = n + 1) : repairWritten true s = s.entryWritten n := by
  simp [repairWritten, hn, State.entryWritten]

theorem repairWritten_again {n : Nat} (hn : s.rep.unwritten = n + 1) (hr : s.rep.retried = true) :
    repairWritten false s = (s.raiseU 0x3FA).entryWritten n := by
  simp [repairWritten, hn, hr, State.entryWritten]

theorem repairWritten_failed {n : Nat} (hn : s.rep.unwritten = n + 1) (hr : s.rep.retried = false) :
    repairWritten false s = ({ s with rep := { s.rep with retried := true } }).raiseU 0x3FA := by
  simp [repairWritten, hn, hr]

end Commands

/-- Settles O50: each outcome of a step that runs, what keeps a step from running, and the writes of the map. -/
theorem selfTestAndRepairProgress : Obligations.SelfTestAndRepairProgress := by
  unfold Obligations.SelfTestAndRepairProgress
  refine ⟨?off, ?runs, ?waits, ?void, fun o s hd hq h => exec_bistStep_late o hd hq h, ?stall, ?stalled, ?idle, ?write⟩
  case off =>
    intro o s hd hq hm hl
    exact exec_bistStep_to hd hq hl (stepEnd_off o (.inl hm)) rfl rfl rfl
  case runs =>
    intro s hd hq hm hb hl hw p hi hr hv
    obtain ⟨hwait, hdisc, hskip, hfirst, hagain, hpass⟩ := exec_bistStep_runs hd hq hl ⟨hm, hw, hi, hr, hv, hb⟩
    refine ⟨hwait, hdisc, hskip, hfirst, fun sl hrep => ⟨_, hagain sl hrep, failConfirmed_shows sl s⟩, fun e hp hdr => ⟨_, hpass e, ?_⟩⟩
    obtain ⟨hrep, hregs, hflt⟩ := stepPassed_shows e s
    obtain ⟨hstep, hsame⟩ := showStep_shows (show p + 1 < 16000 by omega) (s.stepPassed e)
    rw [stepRun_pass hp hdr]
    exact ⟨hrep, hstep, hflt, (((SameRegsBut.refl _ s).of_regs hregs).trans hsame).of_regs (framed_regs _ _)⟩
  case waits =>
    intro o s hd hq hm hl hw hi hr
    exact exec_bistStep_to hd hq hl (stepEnd_waits o hm hw hi hr) rfl rfl rfl
  case void =>
    intro o s hd hq hm hl hw hi hr hv
    exact exec_bistStep_to hd hq hl (stepEnd_void o hm hw hi hr hv) rfl rfl rfl
  case stall =>
    intro s hd hst he ht
    exact State.runIn_to (f := bistStall) hd (bistStall_first hst he ht) rfl rfl rfl
  case stalled =>
    intro s hd he
    exact State.runIn_to (f := bistStall) hd (if_neg (by simp [he])) rfl rfl rfl
  case idle =>
    intro ok s hd h0
    exact State.runIn_to (f := repairWritten ok) hd (if_pos h0) rfl rfl rfl
  case write =>
    intro n s hd hn
    refine ⟨⟨_, State.runIn_to (f := repairWritten true) hd (repairWritten_ok hn) rfl rfl rfl, entryWritten_shows n s⟩, fun hr => ?_,
      fun hr => ⟨_, State.runIn_to (f := repairWritten false) hd (repairWritten_again hn hr) rfl rfl rfl, rfl, rfl⟩⟩
    exact State.runIn_to (f := repairWritten false) hd (repairWritten_failed hn hr) rfl rfl rfl

end Sys2Proof.Machine
end

section
/-!
PROOFS. LRST in a lane that has returned from POR into TERMINAL (O51, O52): its start-up runs no step (R379, R473), so LRST does not take
it to step 2 (`lrstCore`).
-/
namespace Sys2Proof.Machine

/-- A lane whose TERMINAL flag has survived the POR (R378, R379), with `held` what boundary scan says of LRST. -/
def terminalLane (held : Bool) : State :=
  { ((State.reset.setB SU_STAT_TERMINAL true).setB FLT_TERM_TERM true).set LN_STAT_STATE 4 with tap := { State.reset.tap with held := held } }

/-- LRST leaves the step of a lane in TERMINAL at its reset value. -/
theorem lrst_terminalLane : (framed (terminalLane false) (lrst (terminalLane false))).f SU_STAT_STEP = 0 := by
  decide +kernel

/-- So does the LRST at the end of an instruction that has held the lane. -/
theorem tapCurrent_terminalLane : (framed (terminalLane true) (tapCurrent 2 (terminalLane true))).f SU_STAT_STEP = 0 := by
  decide +kernel

/-- Refutes O51: a lane in TERMINAL from POR passes no start-up step (R379), and LRST does not begin one. -/
theorem not_resetsKeepWhatSurvives : ¬ Obligations.ResetsKeepWhatSurvives := by
  unfold Obligations.ResetsKeepWhatSurvives
  rintro ⟨hlrst, -⟩
  have hd : (terminalLane false).dom 2 = true := by decide +kernel
  obtain ⟨t, ht, hstep, -⟩ := hlrst (terminalLane false) hd (by decide +kernel) .lrst (by decide)
  have hrun : exec .lrst (terminalLane false) = .next (framed (terminalLane false) (lrst (terminalLane false))) :=
    State.runIn_on _ 2 lrst hd
  obtain rfl : framed (terminalLane false) (lrst (terminalLane false)) = t := by simpa using hrun.symm.trans ht
  exact absurd (lrst_terminalLane.symm.trans hstep) (by decide)

/-- Refutes O52: leaving an instruction that has held a lane in TERMINAL begins no start-up step either. -/
theorem not_pinsHoldTheLane : ¬ Obligations.PinsHoldTheLane := by
  unfold Obligations.PinsHoldTheLane
  rintro ⟨-, -, -, -, hreset, -⟩
  have hd : (terminalLane true).dom 2 = true := by decide +kernel
  obtain ⟨t, ht, -, hstep, -⟩ := (hreset (terminalLane true) hd).2 rfl (by decide +kernel)
  have hrun : exec .testLogicReset (terminalLane true) = .next (framed (terminalLane true) (tapCurrent 2 (terminalLane true))) :=
    State.runIn_on _ 2 (tapCurrent 2) hd
  obtain rfl : framed (terminalLane true) (tapCurrent 2 (terminalLane true)) = t := by simpa using hrun.symm.trans ht
  exact absurd (tapCurrent_terminalLane.symm.trans hstep) (by decide)

end Sys2Proof.Machine
end

section
/-!
PROOFS. Registers through a rebuilt register file (`smMap`): a register that the file lists once, as every write leaves it, is rebuilt
from the word it held.
-/
namespace Sys2Proof.Machine

/-! ### Sparse tables -/

section Tables
variable {α : Type} [DecidableEq α] {d : Nat → α} {f : Nat → α → α} {m : SMap α}

/-- Whatever a table lists at a key is the value read there. -/
def smOnce (d : Nat → α) (m : SMap α) (a : Nat) : Prop := ∀ v, (a, v) ∈ m → v = smGet d m a

theorem mem_smIns (k : Nat) (v : α) (m : SMap α) (p : Nat × α) : p ∈ smIns k v m ↔ p = (k, v) ∨ p ∈ m := by
  induction m with
  | nil => simp [smIns]
  | cons q m ih =>
    unfold smIns
    split
    · simp
    · rw [List.mem_cons, ih, List.mem_cons]
      tauto

theorem mem_smPut_same {k : Nat} {v w : α} (h : (k, w) ∈ smPut d m k v) : w = v := by
  unfold smPut at h
  split at h
  · simp [smErase] at h
  · rw [mem_smIns] at h
    rcases h with h | h
    · exact (Prod.mk.inj h).2
    · simp [smErase] at h

theorem mem_of_mem_smPut {k a : Nat} {v w : α} (ha : a ≠ k) (h : (a, w) ∈ smPut d m k v) : (a, w) ∈ m := by
  unfold smPut at h
  split at h
  · exact (List.mem_filter.mp h).1
  · rcases (mem_smIns k v _ _).mp h with h | h
    · exact absurd (Prod.mk.inj h).1 ha
    · exact (List.mem_filter.mp h).1

/-- A written key is listed once. -/
theorem smOnce_smPut_same (k : Nat) (v : α) : smOnce d (smPut d m k v) k := fun _ hw =>
  (mem_smPut_same hw).trans (smGet_smPut_same d m k v).symm

theorem smOnce.smPut {a : Nat} (h : smOnce d m a) (k : Nat) (v : α) : smOnce d (smPut d m k v) a := by
  by_cases ha : a = k
  · subst ha
    exact smOnce_smPut_same a v
  · intro w hw
    rw [smGet_smPut_ne d m k a v ha]
    exact h w (mem_of_mem_smPut ha hw)

theorem mem_smMap {a : Nat} {w : α} (h : (a, w) ∈ smMap d f m) : ∃ v, (a, v) ∈ m ∧ w = f a v := by
  induction m with
  | nil => exact absurd h List.not_mem_nil
  | cons q m ih =>
    obtain ⟨k, v⟩ := q
    unfold smMap at h
    split at h
    · obtain ⟨u, hu, hw⟩ := ih h
      exact ⟨u, List.mem_cons_of_mem _ hu, hw⟩
    · rcases List.mem_cons.mp h with h | h
      · obtain ⟨rfl, rfl⟩ := Prod.mk.inj h
        exact ⟨v, List.mem_cons_self .., rfl⟩
      · obtain ⟨u, hu, hw⟩ := ih h
        exact ⟨u, List.mem_cons_of_mem _ hu, hw⟩

/-- A key whose entries all hold `w` is rebuilt from it; one that is not listed stays so. -/
theorem smGet_smMap_of_all {a : Nat} {w : α} (h : ∀ v, (a, v) ∈ m → v = w) :
    smGet d (smMap d f m) a = f a w ∨ (smGet d (smMap d f m) a = d a ∧ ∀ v, (a, v) ∉ m) := by
  induction m with
  | nil => exact .inr ⟨rfl, fun v => List.not_mem_nil⟩
  | cons q m ih =>
    obtain ⟨k, v⟩ := q
    have ih := ih fun u hu => h u (List.mem_cons_of_mem _ hu)
    by_cases hk : k = a
    · subst hk
      obtain rfl : v = w := h v (List.mem_cons_self ..)
      left
      unfold smMap
      split
      · next hd =>
        rcases ih with ih | ⟨ih, -⟩
        · exact ih
        · rw [ih, hd]
      · exact if_pos rfl
    · have hget : smGet d (smMap d f ((k, v) :: m)) a = smGet d (smMap d f m) a := by
        rw [smMap]
        split
        · rfl
        · exact if_neg (Ne.symm hk)
      rw [hget]
      refine ih.imp_right fun ⟨hd, hno⟩ => ⟨hd, fun u hu => ?_⟩
      rcases List.mem_cons.mp hu with e | hu
      · exact hk (Prod.mk.inj e).1.symm
      · exact hno u hu

omit [DecidableEq α] in
theorem smGet_unlisted {a : Nat} (h : ∀ v, (a, v) ∉ m) : smGet d m a = d a := by
  induction m with
  | nil => rfl
  | cons q m ih =>
    obtain ⟨k, v⟩ := q
    have hk : a ≠ k := fun e => h v (e ▸ List.mem_cons_self ..)
    exact (if_neg hk).trans (ih fun u hu => h u (List.mem_cons_of_mem _ hu))

/-- A key that is listed once is rebuilt from its value, where the default is rebuilt as itself. -/
theorem smGet_smMap {a : Nat} (h : smOnce d m a) (hd : f a (d a) = d a) : smGet d (smMap d f m) a = f a (smGet d m a) := by
  rcases smGet_smMap_of_all (f := f) h with hget | ⟨hget, hno⟩
  · exact hget
  · rw [hget, smGet_unlisted hno, hd]

theorem smOnce.smMap {a : Nat} (h : smOnce d m a) (hd : f a (d a) = d a) : smOnce d (smMap d f m) a := fun w hw => by
  obtain ⟨v, hv, rfl⟩ := mem_smMap hw
  rw [smGet_smMap h hd, h v hv]

end Tables

/-! ### Registers -/

/-- The register file lists the register at `a` once. -/
def State.Once (s : State) (a : Nat) : Prop := smOnce porWord s.regs a

theorem State.once_setWord (s : State) (a : Nat) (w : Word) : (s.setWord a w).Once a := smOnce_smPut_same a w
theorem State.once_set (s : State) (x : Fld) (v : Nat) : (s.set x v).Once x.addr := smOnce_smPut_same x.addr _

/-- The registers at the listed addresses hold what they held, and are listed once where they were. -/
def StaysAt (l : List Nat) (s t : State) : Prop := ∀ a ∈ l, t.word a = s.word a ∧ (s.Once a → t.Once a)

section StaysAt
variable {l : List Nat} {s t u : State}

theorem StaysAt.refl (l : List Nat) (s : State) : StaysAt l s s := fun _ _ => ⟨rfl, id⟩

theorem StaysAt.trans (h : StaysAt l s t) (k : StaysAt l t u) : StaysAt l s u := fun a ha =>
  ⟨(k a ha).1.trans (h a ha).1, fun hs => (k a ha).2 ((h a ha).2 hs)⟩

theorem StaysAt.setWord (h : StaysAt l s t) (b : Nat) (w : Word) (hb : b ∉ l) : StaysAt l s (t.setWord b w) := fun a ha =>
  ⟨(t.word_setWord_ne b a w fun e => hb (e ▸ ha)).trans (h a ha).1, fun hs => ((h a ha).2 hs).smPut b w⟩

theorem StaysAt.set (h : StaysAt l s t) (x : Fld) (v : Nat) (hx : x.addr ∉ l) : StaysAt l s (t.set x v) := h.setWord x.addr _ hx

theorem StaysAt.of_regs (h : StaysAt l s t) (e : u.regs = t.regs) : StaysAt l s u := fun a ha =>
  ⟨(State.word_congr e a).trans (h a ha).1, fun hs => by
    unfold State.Once
    rw [e]
    exact (h a ha).2 hs⟩

theorem StaysAt.of_ite {c : Prop} [Decidable c] (h : StaysAt l s t) (k : StaysAt l s u) : StaysAt l s (if c then t else u) := by
  split
  · exact h
  · exact k

theorem StaysAt.f (h : StaysAt l s t) (x : Fld) (hx : x.addr ∈ l) : t.f x = s.f x := by rw [State.f, State.f, (h _ hx).1]

theorem StaysAt.mono {k : List Nat} (h : StaysAt l s t) (hkl : k ⊆ l) : StaysAt k s t := fun a ha => h a (hkl ha)

/-- A rebuild that leaves the words at the listed addresses, each of them listed once. -/
theorem StaysAt.rebuilt (h : StaysAt l s t) (g : Nat → Word → Word) (hg : ∀ a ∈ l, ∀ w, g a w = w) (hs : ∀ a ∈ l, s.Once a) :
    StaysAt l s { t with regs := smMap porWord g t.regs } := fun a ha => by
  have ht := (h a ha).2 (hs a ha)
  have hd := hg a ha (porWord a)
  exact ⟨((smGet_smMap ht hd).trans (hg a ha _)).trans (h a ha).1, fun _ => ht.smMap hd⟩

end StaysAt

end Sys2Proof.Machine
end

section
/-!
PROOFS. The abort points of an entry (R415-R418): what each one passes or gives up, and the states that an entry ends in.
-/
namespace Sys2Proof.Machine

/-- The power manager's own record replaced. -/
def State.withPw (s : State) (v : PwrSt) : State := { s with pw := v }

section WithPw
variable (s : State) (v : PwrSt)
@[simp] theorem State.withPw_pw : (s.withPw v).pw = v := (rfl)
@[simp] theorem State.withPw_regs : (s.withPw v).regs = s.regs := (rfl)
@[simp] theorem State.withPw_hp : (s.withPw v).hp = s.hp := (rfl)
@[simp] theorem State.withPw_f (x : Fld) : (s.withPw v).f x = s.f x := (rfl)
@[simp] theorem State.withPw_on (x : Fld) : (s.withPw v).on x = s.on x := (rfl)
end WithPw

section KeepsBut
variable {l : List Nat} {s t : State}
theorem KeepsBut.withPw (h : KeepsBut l s t) (v : PwrSt) : KeepsBut l s (t.withPw v) := h.of_eq (State.withPw_regs t v) (State.withPw_hp t v)
theorem KeepsBut.setB (h : KeepsBut l s t) (x : Fld) (b : Bool) (hx : x.addr ∈ l) : KeepsBut l s (t.setB x b) := h.set x _ hx
theorem KeepsBut.inc (h : KeepsBut l s t) (x : Fld) (hx : x.addr ∈ l) : KeepsBut l s (t.inc x) := h.set x _ hx
end KeepsBut

/-! ### At an abort point -/

section AtPoint
variable {s t : State} {e : PEntry} {ap : Nat} {ok : PEntry → Bool} {go : PEntry → State → State}

/-- A command of the power manager that leaves no host command waiting runs none. -/
theorem runIn_drained {f : State → State} (hd : s.dom 0 = true) (ht : f s = t) (hq : t.hp.queue = []) :
    s.runIn 0 (fun s => drained (f s)) = .next (framed s t) := by
  rw [s.runIn_on 0 _ hd, ht, drained_of_queue_nil hq]

theorem atAp_goes (he : s.pw.entry = some e) (hap : s.f PWR_STAT_AP + 1 = ap) (hok : ok e = true) (hst : s.stoppers e = []) :
    atAp ap ok go s = go e s := by
  simp [atAp, he, hap, hok, hst]

theorem atAp_stops (he : s.pw.entry = some e) (hap : s.f PWR_STAT_AP + 1 = ap) (hok : ok e = true) (hst : s.stoppers e ≠ []) :
    atAp ap ok go s = abandon e ap (s.stoppers e) s := by
  simp [atAp, he, hap, hok, hst]

end AtPoint

/-! ### An abort point passed -/

/-- Pads already held are no news. -/
theorem lor_new {held pads : Nat} (hp : pads < 2 ^ 16) : Nat.lor held (Nat.land pads (Nat.xor held 0xFFFF)) = Nat.lor held pads := by
  refine Nat.eq_of_testBit_eq fun i => ?_
  have hand : (0xFFFF : Nat).testBit i = decide (i < 16) := Nat.testBit_two_pow_sub_one 16 i
  show (held ||| (pads &&& (held ^^^ 0xFFFF))).testBit i = (held ||| pads).testBit i
  rw [Nat.testBit_or, Nat.testBit_or, Nat.testBit_and, Nat.testBit_xor, hand]
  by_cases hi : i < 16
  · cases held.testBit i <;> simp [hi]
  · have hpads : pads.testBit i = false := Nat.testBit_lt_two_pow (hp.trans_le (Nat.pow_le_pow_right (by decide) (by omega)))
    simp [hpads]

/-- The registers in which an abort point shows. -/
def apRegs : List Nat := [PWR_STAT_A, PWR_PAD_A]

/-- An abort point shown, with the pads held from here on. -/
def State.apShown (s : State) (ap held : Nat) : State := (s.set PWR_PAD_HELD held).set PWR_STAT_AP ap

theorem passAp_eq (e : PEntry) (ap pads : Nat) (s : State) : ∃ new v, new = Nat.land pads (Nat.xor (s.f PWR_PAD_HELD) 0xFFFF) ∧
    passAp e ap pads s = (s.apShown ap (Nat.lor (s.f PWR_PAD_HELD) new)).withPw { s.pw with entry := some v } := ⟨_, _, rfl, rfl⟩

theorem passAp_keepsBut (e : PEntry) (ap pads : Nat) (s : State) : KeepsBut apRegs s (passAp e ap pads s) := by
  obtain ⟨new, v, -, h⟩ := passAp_eq e ap pads s
  rw [h]
  exact (((KeepsBut.refl apRegs s).set PWR_PAD_HELD _ (by decide)).set PWR_STAT_AP ap (by decide)).withPw _

theorem passAp_ap (e : PEntry) {ap : Nat} (ha : ap < 8) (pads : Nat) (s : State) : (passAp e ap pads s).f PWR_STAT_AP = ap := by
  obtain ⟨new, v, -, h⟩ := passAp_eq e ap pads s
  rw [h, State.withPw_f]
  exact State.f_set_fits _ PWR_STAT_AP ap (by decide) ha

theorem passAp_pads (e : PEntry) (ap : Nat) {pads : Nat} (hp : pads < 2 ^ 16) (s : State) :
    (passAp e ap pads s).f PWR_PAD_HELD = Nat.lor (s.f PWR_PAD_HELD) pads := by
  obtain ⟨new, v, hnew, h⟩ := passAp_eq e ap pads s
  have hlor : Nat.lor (s.f PWR_PAD_HELD) new = Nat.lor (s.f PWR_PAD_HELD) pads := by rw [hnew, lor_new hp]
  have hfit : Nat.lor (s.f PWR_PAD_HELD) pads < 2 ^ 16 := Nat.or_lt_two_pow (s.f_lt PWR_PAD_HELD) hp
  rw [h, State.withPw_f, hlor, State.apShown, State.f_set_ne _ PWR_STAT_AP PWR_PAD_HELD ap (by decide)]
  exact s.f_set_fits PWR_PAD_HELD _ (by decide) hfit

/-! ### An entry abandoned -/

section Abandon
variable (e : PEntry) (ap : Nat) (codes : List Nat) (s : State)

/-- The wake that stops an entry is shown. -/
def State.wakeShown (s : State) (codes : List Nat) : State :=
  match codes.find? (fun c => decide (0x10 ≤ c)) with
  | some c => s.set PWR_WAKE_LAST_SRC (s.firstWake c)
  | none => s

/-- The entry is no longer shown, and counts as aborted. -/
def State.abortShown (s : State) : State := (s.setB PWR_STAT_ENTRY false).inc PWR_CNT_ABORTED

/-- The entry is no longer; the networks are still attached. -/
def State.entryDropped (s : State) (codes : List Nat) : State :=
  let t := (releaseEntryPads s).wakeShown codes
  t.abortShown.withPw { t.pw with entry := none, fired := [], cdc := false, wakeNs := 0, wakePhase := 0, sig := [] }

theorem abandon_eq (hdet : s.detached = false) : abandon e ap codes s =
    closeReq e.who (if codes.any (fun c => decide (c < 0x10)) then 2 else 3) e.tgt ap codes (s.entryDropped codes) := by
  unfold abandon
  rw [hdet]
  rfl

/-- The registers that a dropped entry writes. -/
def dropRegs : List Nat := [PWR_STAT_A, PWR_PAD_A, PWR_WAKE_A, PWR_CNT_A]

theorem State.released_keepsBut : KeepsBut [PWR_PAD_A, PWR_WAKE_A] s ((releaseEntryPads s).wakeShown codes) := by
  have hpads : KeepsBut [PWR_PAD_A, PWR_WAKE_A] s (releaseEntryPads s) := by
    unfold releaseEntryPads
    split
    · exact (KeepsBut.refl _ s).set PWR_PAD_HELD _ (by decide)
    · exact KeepsBut.refl _ s
  unfold State.wakeShown
  split
  · exact hpads.set PWR_WAKE_LAST_SRC _ (by decide)
  · exact hpads

theorem State.entryDropped_keepsBut : KeepsBut dropRegs s (s.entryDropped codes) := by
  have hrel := (s.released_keepsBut codes).mono (m := dropRegs) (by decide)
  exact ((hrel.setB PWR_STAT_ENTRY false (by decide)).inc PWR_CNT_ABORTED (by decide)).withPw _

theorem State.abortShown_shows : s.abortShown.on PWR_STAT_ENTRY = false ∧ s.abortShown.f PWR_STAT_STATE = s.f PWR_STAT_STATE ∧
    s.abortShown.f PWR_CNT_ABORTED = satU PWR_CNT_ABORTED.width (s.f PWR_CNT_ABORTED + 1) := by
  unfold State.abortShown
  refine ⟨?_, ?_, ?_⟩
  · exact (State.on_of_f (State.f_inc_ne _ PWR_CNT_ABORTED PWR_STAT_ENTRY (by decide))).trans (State.on_setB_same _ _ _ (by decide) rfl)
  · rw [State.f_inc_ne _ PWR_CNT_ABORTED PWR_STAT_STATE (by decide), State.setB_eq]
    exact s.f_set_apart PWR_STAT_ENTRY PWR_STAT_STATE _ rfl rfl
  · rw [State.f_inc_same _ PWR_CNT_ABORTED (by decide), State.setB_eq, s.f_set_ne PWR_STAT_ENTRY PWR_CNT_ABORTED _ (by decide)]

theorem State.entryDropped_shows : (s.entryDropped codes).on PWR_STAT_ENTRY = false ∧
    (s.entryDropped codes).f PWR_STAT_STATE = s.f PWR_STAT_STATE ∧
    (s.entryDropped codes).f PWR_CNT_ABORTED = satU PWR_CNT_ABORTED.width (s.f PWR_CNT_ABORTED + 1) := by
  have hrel := s.released_keepsBut codes
  obtain ⟨hentry, hstate, hcnt⟩ := State.abortShown_shows ((releaseEntryPads s).wakeShown codes)
  rw [hrel.f PWR_STAT_STATE (by decide)] at hstate
  rw [hrel.f PWR_CNT_ABORTED (by decide)] at hcnt
  obtain ⟨v, hv⟩ : ∃ v, s.entryDropped codes = ((releaseEntryPads s).wakeShown codes).abortShown.withPw v := ⟨_, rfl⟩
  rw [hv, State.withPw_on, State.withPw_f, State.withPw_f]
  exact ⟨hentry, hstate, hcnt⟩

theorem State.showLast_ap (out tgt : Nat) (ha : ap < 8) : (s.showLast out tgt ap codes).f PWR_LAST_AP = ap := by
  unfold State.showLast
  rw [State.f_set_apart _ PWR_LAST_REF_MASK PWR_LAST_AP _ rfl rfl, State.f_set_apart _ PWR_LAST_REFUSER PWR_LAST_AP _ rfl rfl]
  exact State.f_set_fits _ _ _ (by decide) ha

/-- The power manager's counts are none of the registers of an outcome. -/
theorem cnt_not_outcome : PWR_CNT_A ∉ PWR_LAST_A :: PWR_STAT_A :: HP_STAT_A :: refRegs codes := by
  have hbelow : ∀ i, PWR_CNT_A < PWR_REF_A i := fun i => by unfold PWR_CNT_A PWR_REF_A; omega
  simp only [List.mem_cons, refRegs, List.mem_map, not_or, not_exists, not_and]
  refine ⟨by decide, by decide, by decide, fun c _ e => ?_⟩
  rw [refF_addr] at e
  exact absurd e (hbelow _).ne'

/-- An entry abandoned while the networks are attached: only its outcome and its count are left of it. -/
theorem abandon_shows (hdet : s.detached = false) (ha : ap < 8) :
    (abandon e ap codes s).pw.entry = none ∧ (abandon e ap codes s).on PWR_STAT_ENTRY = false ∧
      (abandon e ap codes s).f PWR_STAT_STATE = s.f PWR_STAT_STATE ∧
      (abandon e ap codes s).f PWR_CNT_ABORTED = satU PWR_CNT_ABORTED.width (s.f PWR_CNT_ABORTED + 1) ∧
      (abandon e ap codes s).f PWR_LAST_OUTCOME = (if codes.any (fun c => decide (c < 0x10)) then 2 else 3) ∧
      (abandon e ap codes s).f PWR_LAST_AP = ap ∧ (abandon e ap codes s).hp.queue = s.hp.queue := by
  rw [abandon_eq e ap codes s hdet]
  generalize hout : (if codes.any (fun c => decide (c < 0x10)) then 2 else 3 : Nat) = out
  have ho : out < 8 := by
    rw [← hout]
    split <;> decide
  obtain ⟨hentry, hstate, hcnt⟩ := s.entryDropped_shows codes
  have hk := closeReq_keepsBut e.who out e.tgt ap codes (s.entryDropped codes)
  refine ⟨closeReq_entry .., ?_, ?_, ?_, closeReq_outcome _ _ _ _ _ _ ho, ?_, ?_⟩
  · exact (State.on_of_f (closeReq_f_stat _ _ _ _ _ _ PWR_STAT_ENTRY rfl (by decide))).trans hentry
  · exact (closeReq_state ..).trans hstate
  · exact (hk.f PWR_CNT_ABORTED (cnt_not_outcome codes)).trans hcnt
  · exact (closeReq_f_last _ _ _ _ _ _ PWR_LAST_AP rfl).trans (State.showLast_ap ap codes _ out e.tgt ha)
  · exact hk.queue.trans (s.entryDropped_keepsBut codes).queue

end Abandon

/-! ### The networks detach (AP2) -/

/-- A channel is switched off. -/
def chanOff (c : Nat) (s : State) : State := showBackoff (freshChan c (s.set (chStateF c) 0))

/-- A link's transmitter is idle. -/
def linkOff (m : Nat) (s : State) : State := (s.set (LK_STAT_STATE m) 0).setLink m {}

theorem detach_eq (s : State) : detach s = (charonClose (chanOff 1 (chanOff 0 s))).each [0, 1, 2, 3] linkOff := rfl

theorem chanOff_shows (c : Nat) (s : State) : (chanOff c s).chState c = 0 ∧ KeepsBut [SIT_STAT_A] s (chanOff c s) := by
  obtain ⟨haddr, hw, hfit, hback, -⟩ := chStateF_place c
  constructor
  · unfold State.chState chanOff
    rw [showBackoff_f _ _ hback, freshChan_f]
    exact s.set_chState c (by decide)
  · have hset : KeepsBut [SIT_STAT_A] s (s.set (chStateF c) 0) := (KeepsBut.refl _ s).set _ 0 (by rw [haddr]; exact List.mem_singleton_self _)
    exact (hset.of_eq (u := freshChan c (s.set (chStateF c) 0)) (freshChan_regs c _) rfl).set SIT_STAT_BACKOFF _ (by decide)

theorem chanOff_other {c d : Nat} (hc : c < 2) (hd : d < 2) (h : d ≠ c) (s : State) : (chanOff c s).chState d = s.chState d := by
  obtain ⟨-, -, -, hback, -⟩ := chStateF_place d
  unfold State.chState chanOff
  rw [showBackoff_f _ _ hback, freshChan_f]
  exact s.f_set_disjoint _ _ _ (chStateF_other hc hd h)

/-- The pages of the ports and of Charon. -/
def portPages (a : Nat) : Prop := 0x041 * 0x400 ≤ a ∧ a < 0x047 * 0x400

theorem charonClose_changes (s : State) : ChangesOnly portPages s (charonClose s) := by
  have hoff : ChangesOnly portPages s s.driversOff := by
    have hports : ChangesOnly portPages s (((s.setB CHN_STAT_CLOSED true).set CHN_STAT_OPEN 0).each [0, 1, 2, 3] (fun p t => t.setB (SP_STAT_OPEN p) false)) := by
      refine State.each_ind (ChangesOnly portPages s) _ (fun p hp t ht => ht.set (SP_STAT_OPEN p) _ ?_) ?_
      · have hlt : p < 4 := by
          simp only [List.mem_cons, List.not_mem_nil, or_false] at hp
          omega
        show portPages (SP_STAT_A p)
        unfold portPages SP_STAT_A
        omega
      · exact ((ChangesOnly.refl _ s).set CHN_STAT_CLOSED _ (by unfold portPages; decide)).set CHN_STAT_OPEN _ (by unfold portPages; decide)
    exact hports.set CHN_STAT_ALIGNED _ (by unfold portPages; decide)
  rw [charonClose_eq]
  refine ChangesOnly.of_ite (hoff.of_regs (State.withCn_regs _ _)) ?_
  exact (hoff.of_regs (State.withCn_regs _ _)).set CH_CNT_CLOSE _ (by unfold portPages; decide)

theorem charonClose_hp (s : State) : (charonClose s).hp = s.hp := by
  obtain ⟨r, e⟩ := s.driversOff_onlyRegs.exists
  rw [charonClose_eq, e]
  split <;> rfl

/-- The pages of the links. -/
def linkPages (a : Nat) : Prop := 0x051 * 0x400 ≤ a ∧ a < 0x055 * 0x400

theorem linksOff_shows (s : State) : ChangesOnly linkPages s (s.each [0, 1, 2, 3] linkOff) ∧ (s.each [0, 1, 2, 3] linkOff).hp = s.hp ∧
    ∀ m : Fin 4, (s.each [0, 1, 2, 3] linkOff).f (LK_STAT_STATE m) = 0 := by
  refine ⟨?_, State.each_ind (fun t => t.hp = s.hp) s (fun _ _ _ ht => ht) rfl, fun m => ?_⟩
  · refine State.each_ind (ChangesOnly linkPages s) s (fun m hm t ht => ?_) (ChangesOnly.refl _ s)
    have hlt : m < 4 := by
      simp only [List.mem_cons, List.not_mem_nil, or_false] at hm
      omega
    refine (ht.set (LK_STAT_STATE m) 0 ?_).of_regs (State.setLink_regs _ _ _)
    show linkPages (LK_STAT_A m)
    unfold linkPages LK_STAT_A
    omega
  · refine State.each_at (k := m.val) (fun t => t.f (LK_STAT_STATE m)) (fun _ => 0) s ?_ (by decide) (fun i _ hi t => ?_) (fun t => ?_)
    · have := m.isLt
      simp only [List.mem_cons, List.not_mem_nil, or_false]
      omega
    · refine (State.setLink_f _ _ _ _).trans (t.f_set_ne (LK_STAT_STATE i) (LK_STAT_STATE m) 0 ?_)
      show LK_STAT_A m ≠ LK_STAT_A i
      unfold LK_STAT_A
      omega
    · exact (State.setLink_f _ _ _ _).trans (t.f_set_fits (LK_STAT_STATE m) 0 (Nat.le_of_ble_eq_true rfl) (Nat.two_pow_pos _))

/-- With the networks detached, every channel is OFF, Charon is closed and every link DOWN; the power manager's registers stay. -/
theorem detach_shows (s : State) : (detach s).chState 0 = 0 ∧ (detach s).chState 1 = 0 ∧ (detach s).on CHN_STAT_CLOSED = true ∧
    (detach s).f CHN_STAT_OPEN = 0 ∧ (∀ m : Fin 4, (detach s).f (LK_STAT_STATE m) = 0) ∧
    (detach s).f PWR_STAT_AP = s.f PWR_STAT_AP ∧ (detach s).hp.queue = s.hp.queue := by
  obtain ⟨h0, hk0⟩ := chanOff_shows 0 s
  obtain ⟨h1, hk1⟩ := chanOff_shows 1 (chanOff 0 s)
  have hkept : (chanOff 1 (chanOff 0 s)).chState 0 = 0 := (chanOff_other (by decide) (by decide) (by decide) _).trans h0
  have hclose := charonClose_changes (chanOff 1 (chanOff 0 s))
  obtain ⟨hshut, hopen, -⟩ := charonClose_shows (chanOff 1 (chanOff 0 s))
  obtain ⟨hlinks, hhp, hdown⟩ := linksOff_shows (charonClose (chanOff 1 (chanOff 0 s)))
  rw [detach_eq]
  have hchan : ∀ c, ¬ linkPages (chStateF c).addr ∧ ¬ portPages (chStateF c).addr := fun c => by
    rw [(chStateF_place c).1]
    unfold linkPages portPages
    decide
  have hst : ∀ c, ((charonClose (chanOff 1 (chanOff 0 s))).each [0, 1, 2, 3] linkOff).chState c = (chanOff 1 (chanOff 0 s)).chState c := fun c =>
    (hlinks.f _ (hchan c).1).trans (hclose.f _ (hchan c).2)
  have hchn : ∀ x : Fld, x.addr = CHN_STAT_A → ¬ linkPages x.addr := fun x hx => by
    rw [hx]
    unfold linkPages
    decide
  refine ⟨(hst 0).trans hkept, (hst 1).trans h1, ?_, (hlinks.f _ (hchn _ rfl)).trans hopen, hdown, ?_, ?_⟩
  · exact (State.on_iff _ _).mpr ((hlinks.f _ (hchn _ rfl)).trans hshut)
  · refine (hlinks.f PWR_STAT_AP (by unfold linkPages; decide)).trans ((hclose.f PWR_STAT_AP (by unfold portPages; decide)).trans ?_)
    exact (hk1.f PWR_STAT_AP (by decide)).trans (hk0.f PWR_STAT_AP (by decide))
  · rw [hhp, charonClose_hp]
    exact hk1.queue.trans hk0.queue

/-! ### The states that an entry ends in -/

theorem answer_staysAt (w : Who) (st : Nat) (data : List Word) (s : State) : StaysAt [PWR_LAST_A] s (answer w st data s) := by
  have hshow : ∀ t p, StaysAt [PWR_LAST_A] t (showHost { t with hp := p }) := fun t p =>
    ((((StaysAt.refl _ t).of_regs (u := { t with hp := p }) rfl).set HP_STAT_IN_FLIGHT _ (by decide)).set HP_STAT_READY _ (by decide)).set
      HP_STAT_REMOTE _ (by decide)
  have hclose : ∀ i tag, StaysAt [PWR_LAST_A] s (closeSlot i tag st data s) := fun i tag => by
    unfold closeSlot
    dsimp only
    split
    · exact hshow s _
    · exact StaysAt.refl _ s
  cases w with
  | host tag =>
    obtain ⟨i, p, e, -⟩ := completeWait_shape tag st data s
    show StaysAt _ s (completeWait tag st data s)
    rw [e]
    exact (hclose i tag).of_regs rfl
  | remote node tag => exact hshow s _
  | nobody => exact StaysAt.refl _ s

theorem answer_time (w : Who) (st : Nat) (data : List Word) (s : State) : (answer w st data s).time = s.time := by
  have hclose : ∀ i tag, (closeSlot i tag st data s).time = s.time := fun i tag => by
    unfold closeSlot
    dsimp only
    split <;> rfl
  cases w with
  | host tag =>
    obtain ⟨i, p, e, -⟩ := completeWait_shape tag st data s
    show (completeWait tag st data s).time = s.time
    rw [e]
    exact hclose i tag
  | remote node tag => rfl
  | nobody => rfl

theorem State.showLast_time (s : State) (out tgt ap : Nat) (codes : List Nat) : (s.showLast out tgt ap codes).time = s.time := by
  simp only [State.showLast, State.set_time, State.setWord_time]

theorem pwrEnd_time (w : Who) (out tgt ap : Nat) (codes : List Nat) (s : State) : (pwrEnd w out tgt ap codes s).time = s.time := by
  obtain ⟨data, e⟩ := pwrEnd_eq w out tgt ap codes s
  have hcount : (countRefusers codes s).time = s.time := by
    unfold countRefusers
    split
    · exact List.foldlRecOn codes (motive := fun t : State => t.time = s.time) _ rfl fun t ht c _ => ht
    · rfl
  rw [e, answer_time, State.showLast_time, hcount]

theorem pwrEnd_once (w : Who) (out tgt ap : Nat) (codes : List Nat) (s : State) : (pwrEnd w out tgt ap codes s).Once PWR_LAST_A := by
  obtain ⟨data, e⟩ := pwrEnd_eq w out tgt ap codes s
  rw [e]
  exact (answer_staysAt w _ data _ PWR_LAST_A (List.mem_singleton_self _)).2 (State.once_set _ PWR_LAST_REF_MASK _)

/-- The pages of the domain D6. -/
def d6Pages (a : Nat) : Prop := 0x020 * 0x400 ≤ a ∧ a < 0x02B * 0x400

/-- Beside its own pages and records, D6 switched off leaves the state. -/
theorem d6Off_keeps {l : List Nat} {s : State} (hl : ∀ a ∈ l, ¬ d6Pages a) (hs : ∀ a ∈ l, s.Once a) :
    StaysAt l s (d6Off s) ∧ (d6Off s).hp = s.hp ∧ (d6Off s).pw = s.pw := by
  unfold d6Off
  extract_lets gd s1 s2
  have h1 : StaysAt l s s1 ∧ s1.hp = s.hp ∧ s1.pw = s.pw := by
    refine State.each_ind (fun t => StaysAt l s t ∧ t.hp = s.hp ∧ t.pw = s.pw) s (fun pg hpg t ht => ⟨?_, ht.2⟩) ⟨StaysAt.refl l s, rfl, rfl⟩
    refine ht.1.rebuilt _ (fun a ha w => if_neg fun h => hl a ha ?_) hs
    obtain ⟨k, hk, rfl⟩ := List.mem_map.mp hpg
    have hk : k < 11 := List.mem_range.mp hk
    unfold d6Pages
    omega
  have h2 : StaysAt l s s2 ∧ s2.hp = s.hp ∧ s2.pw = s.pw := by
    refine State.each_ind (fun t => StaysAt l s t ∧ t.hp = s.hp ∧ t.pw = s.pw) s1 (fun g hg t ht => ⟨ht.1.set (BG_STAT_GD_EN g) _ ?_, ht.2⟩) h1
    intro hmem
    have hg : g < 8 := List.mem_range.mp hg
    refine hl _ hmem ?_
    show d6Pages (BG_STAT_A g)
    unfold d6Pages BG_STAT_A
    omega
  clear_value s2
  exact ⟨h2.1.of_regs rfl, h2.2⟩

/-- QUIET as PWR_STAT and the registers of the engine's point and the self-test show it. -/
def State.quietShown (s : State) : State :=
  let s := ((s.set PWR_STAT_STATE 1).setBit PWR_STAT_DOM_ON 6 false).setB PWR_STAT_D5_PART true
  let s := (((s.set PWR_DVFS_FPT 0).set PWR_DVFS_VPT 0).setB PWR_DVFS_BUSY false).set BIST_STAT_MODE 0
  s.inc PWR_CNT_QUIET

/-- The records of the power manager and of start-up replaced. -/
def State.withPwSu (s : State) (p : PwrSt) (u : SuSt) : State := { s with pw := p, su := u }

theorem State.withPwSu_f (s : State) (p : PwrSt) (u : SuSt) (x : Fld) : (s.withPwSu p u).f x = s.f x := (rfl)
theorem State.withPwSu_pw (s : State) (p : PwrSt) (u : SuSt) : (s.withPwSu p u).pw = p := (rfl)
theorem State.withPwSu_hp (s : State) (p : PwrSt) (u : SuSt) : (s.withPwSu p u).hp = s.hp := (rfl)

theorem enterQuiet_eq (s : State) : ∃ p u, enterQuiet s = (d6Off s).quietShown.withPwSu p u ∧ p.entry = (d6Off s).pw.entry :=
  ⟨_, _, rfl, rfl⟩

theorem State.quietShown_shows (s : State) : s.quietShown.f PWR_STAT_STATE = 1 ∧ s.quietShown.fbit PWR_STAT_DOM_ON 6 = false ∧
    s.quietShown.on PWR_STAT_D5_PART = true ∧ s.quietShown.f PWR_LAST_OUTCOME = s.f PWR_LAST_OUTCOME := by
  have hdown : ∀ x : Fld, x.addr = PWR_STAT_A → s.quietShown.f x =
      (((s.set PWR_STAT_STATE 1).setBit PWR_STAT_DOM_ON 6 false).setB PWR_STAT_D5_PART true).f x := fun x hx => by
    have hne : x.addr ≠ PWR_CNT_A ∧ x.addr ≠ BIST_STAT_A ∧ x.addr ≠ PWR_DVFS_A := by
      rw [hx]
      decide
    obtain ⟨hc, hb, hv⟩ := hne
    unfold State.quietShown
    rw [State.f_inc_ne _ PWR_CNT_QUIET x hc, State.f_set_ne _ BIST_STAT_MODE x _ hb, State.setB_eq _ PWR_DVFS_BUSY,
      State.f_set_ne _ PWR_DVFS_BUSY x _ hv, State.f_set_ne _ PWR_DVFS_VPT x _ hv, State.f_set_ne _ PWR_DVFS_FPT x _ hv]
  refine ⟨?_, ?_, ?_, ?_⟩
  · rw [hdown PWR_STAT_STATE rfl, State.setB_eq, State.f_set_apart _ PWR_STAT_D5_PART PWR_STAT_STATE _ rfl rfl, State.setBit_eq,
      State.f_set_apart _ PWR_STAT_DOM_ON PWR_STAT_STATE _ rfl rfl]
    exact s.f_set_fits PWR_STAT_STATE 1 (by decide) (by decide)
  · refine (State.fbit_of_f ((hdown PWR_STAT_DOM_ON rfl).trans (State.f_set_apart _ PWR_STAT_D5_PART PWR_STAT_DOM_ON _ rfl rfl)) 6).trans ?_
    exact ((s.set PWR_STAT_STATE 1).fbit_setBit PWR_STAT_DOM_ON 6 6 false (Fld.fits rfl) (by decide)).trans (if_pos rfl)
  · exact (State.on_of_f (hdown PWR_STAT_D5_PART rfl)).trans (State.on_setB_same _ _ _ (by decide) rfl)
  · unfold State.quietShown
    simp (disch := decide) only [State.f_inc_ne, State.setB_eq, State.setBit_eq, State.f_set_ne]

/-- The entry is over, and shown with its last abort point. -/
def State.arrived (s : State) : State := ((s.setB PWR_STAT_ENTRY false).set PWR_STAT_AP 4).withPw { s.pw with entry := none, fired := [] }

theorem arrive_eq {s : State} (e : PEntry) (hf : s.pw.fired = []) : arrive e s =
    pwrNext (if e.tgt = 1 then enterQuiet (pwrEnd e.who 1 e.tgt 0 [] s.arrived) else enterDeep e.tgt (pwrEnd e.who 1 e.tgt 0 [] s.arrived)) := by
  unfold arrive
  rw [hf]
  rfl

/-- The entry's own registers, as it arrives. -/
theorem State.arrived_keepsBut (s : State) : KeepsBut [PWR_STAT_A] s s.arrived :=
  (((KeepsBut.refl _ s).setB PWR_STAT_ENTRY false (by decide)).set PWR_STAT_AP 4 (by decide)).withPw _

/-- An entry that ends: its outcome is DONE, and no host command is left waiting. -/
theorem State.arrived_ends (e : PEntry) {s : State} (hq : s.hp.queue = []) :
    (pwrEnd e.who 1 e.tgt 0 [] s.arrived).f PWR_LAST_OUTCOME = 1 ∧ (pwrEnd e.who 1 e.tgt 0 [] s.arrived).pw.entry = none ∧
      (pwrEnd e.who 1 e.tgt 0 [] s.arrived).time = s.time ∧ (pwrEnd e.who 1 e.tgt 0 [] s.arrived).hp.queue = [] := by
  refine ⟨?_, ?_, ?_, ?_⟩
  · exact (pwrEnd_f_last _ _ _ _ _ _ PWR_LAST_OUTCOME rfl).trans (State.showLast_outcome _ 1 e.tgt 0 [] (by decide))
  · rw [pwrEnd_pw]
    rfl
  · rw [pwrEnd_time]
    rfl
  · exact (pwrEnd_keepsBut _ _ _ _ _ _).queue.trans (s.arrived_keepsBut.queue.trans hq)

/-- The registers of RETAIN and DORMANT. -/
def State.deepShown (s : State) (tgt : Nat) : State :=
  ((s.inc (if tgt = 2 then PWR_CNT_RETAIN else PWR_CNT_DORMANT)).set PWR_STAT_STATE tgt).set PWR_STAT_DOM_ON (if tgt = 2 then 3 else 1)

theorem enterDeep_eq (tgt : Nat) (s : State) : enterDeep tgt s = (wakeRecord s).deepShown tgt := rfl

theorem State.deepShown_shows (s : State) {tgt : Nat} (ht : tgt = 2 ∨ tgt = 3) : (s.deepShown tgt).f PWR_STAT_STATE = tgt ∧
    (s.deepShown tgt).f PWR_STAT_DOM_ON = (if tgt = 2 then 3 else 1) ∧ (s.deepShown tgt).f PWR_LAST_OUTCOME = s.f PWR_LAST_OUTCOME ∧
    (s.deepShown tgt).pw = s.pw ∧ (s.deepShown tgt).hp = s.hp := by
  unfold State.deepShown
  refine ⟨?_, State.f_set_fits _ PWR_STAT_DOM_ON _ (by decide) (by split <;> decide), ?_, ?_, ?_⟩
  · rw [State.f_set_apart _ PWR_STAT_DOM_ON PWR_STAT_STATE _ rfl rfl]
    exact State.f_set_fits _ PWR_STAT_STATE tgt (by decide) (by rcases ht with rfl | rfl <;> decide)
  · have hcnt : PWR_LAST_OUTCOME.addr ≠ (if tgt = 2 then PWR_CNT_RETAIN else PWR_CNT_DORMANT).addr := by split <;> decide
    rw [State.f_set_ne _ PWR_STAT_DOM_ON PWR_LAST_OUTCOME _ (by decide), State.f_set_ne _ PWR_STAT_STATE PWR_LAST_OUTCOME _ (by decide),
      State.f_inc_ne _ _ PWR_LAST_OUTCOME hcnt]
  · simp only [State.set_pw, State.inc_eq]
  · simp only [State.set_hp, State.inc_eq]

theorem pwrNext_hp (s : State) : (pwrNext s).hp = s.hp := by simp only [pwrNext, State.setB_eq, State.set_hp]

/-- RETAIN and DORMANT are entered. -/
theorem arrive_deep {e : PEntry} {s : State} (hf : s.pw.fired = []) (hq : s.hp.queue = []) (ht : e.tgt = 2 ∨ e.tgt = 3) :
    (arrive e s).pw.entry = none ∧ (arrive e s).f PWR_STAT_STATE = e.tgt ∧ (arrive e s).f PWR_LAST_OUTCOME = 1 ∧
      (arrive e s).f PWR_STAT_DOM_ON = (if e.tgt = 2 then 3 else 1) ∧ (arrive e s).pw.wakeNs = s.time ∧ (arrive e s).hp.queue = [] := by
  obtain ⟨hout, hentry, htime, hqueue⟩ := s.arrived_ends e hq
  rw [arrive_eq e hf, if_neg (by omega), enterDeep_eq]
  generalize pwrEnd e.who 1 e.tgt 0 [] s.arrived = u at hout hentry htime hqueue
  obtain ⟨hstate, hdom, hlast, hpw, hhp⟩ := (wakeRecord u).deepShown_shows ht
  refine ⟨?_, ?_, ?_, ?_, ?_, ?_⟩
  · rw [pwrNext_entry, hpw]
    exact hentry
  · exact (pwrNext_f _ PWR_STAT_STATE (by decide)).trans hstate
  · exact (pwrNext_f _ PWR_LAST_OUTCOME (by decide)).trans (hlast.trans hout)
  · exact (pwrNext_f _ PWR_STAT_DOM_ON (by decide)).trans hdom
  · have hns : (pwrNext ((wakeRecord u).deepShown e.tgt)).pw.wakeNs = ((wakeRecord u).deepShown e.tgt).pw.wakeNs := rfl
    rw [hns, hpw]
    exact htime
  · rw [pwrNext_hp, hhp]
    exact hqueue

/-- QUIET is entered. -/
theorem arrive_quiet {e : PEntry} {s : State} (hf : s.pw.fired = []) (hq : s.hp.queue = []) (ht : e.tgt = 1) :
    (arrive e s).pw.entry = none ∧ (arrive e s).f PWR_STAT_STATE = 1 ∧ (arrive e s).fbit PWR_STAT_DOM_ON 6 = false ∧
      (arrive e s).on PWR_STAT_D5_PART = true ∧ (arrive e s).f PWR_LAST_OUTCOME = 1 ∧ (arrive e s).hp.queue = [] := by
  obtain ⟨hout, hentry, -, hqueue⟩ := s.arrived_ends e hq
  have honce := pwrEnd_once e.who 1 e.tgt 0 [] s.arrived
  rw [arrive_eq e hf, if_pos ht]
  generalize pwrEnd e.who 1 e.tgt 0 [] s.arrived = u at hout hentry hqueue honce
  obtain ⟨hstay, hhp, hpw⟩ := d6Off_keeps (l := [PWR_LAST_A]) (by unfold d6Pages; decide) (by simpa using honce)
  obtain ⟨hstate, hdom, hpart, hlast⟩ := (d6Off u).quietShown_shows
  obtain ⟨p, v, he, hp⟩ := enterQuiet_eq u
  have hf : ∀ x : Fld, x.addr ≠ PWR_STAT_A ∨ x.lo + x.width ≤ 23 ∨ 26 ≤ x.lo → (pwrNext (enterQuiet u)).f x = (d6Off u).quietShown.f x := fun x hx => by
    rw [pwrNext_f _ x hx, he, State.withPwSu_f]
  refine ⟨?_, (hf _ (by decide)).trans hstate, (State.fbit_of_f (hf PWR_STAT_DOM_ON (by decide)) 6).trans hdom,
    (State.on_of_f (hf PWR_STAT_D5_PART (by decide))).trans hpart, ?_, ?_⟩
  · rw [pwrNext_entry, he, State.withPwSu_pw, hp, hpw, hentry]
  · rw [hf PWR_LAST_OUTCOME (by decide), hlast, hstay.f PWR_LAST_OUTCOME (by decide), hout]
  · have hquiet : (d6Off u).quietShown.hp = (d6Off u).hp := by simp only [State.quietShown, State.setB_eq, State.setBit_eq, State.inc_eq, State.set_hp]
    rw [pwrNext_hp, he, State.withPwSu_hp, hquiet, hhp, hqueue]

/-! ### The commands -/

section Commands
variable {e : PEntry} {s : State}

theorem not_detached (he : s.pw.entry = some e) (h0 : s.f PWR_STAT_AP = 0) : s.detached = false := by
  simp [State.detached, he, h0]

/-- What AP3 leaves: the wake record of RETAIN and DORMANT, and the signatures of RETAIN. -/
def ap3Passed (e : PEntry) (s : State) : State :=
  if e.tgt = 1 then passAp e 4 0 s else wakeRecord ((passAp e 3 0 s).when (e.tgt == 2) signBanks)

theorem ap3_goes (he : s.pw.entry = some e) (hap : s.f PWR_STAT_AP = 2) (hst : s.stoppers e = []) : ap3 s = ap3Passed e s := by
  refine (atAp_goes (ok := fun _ => true) he (by rw [hap]) rfl hst).trans ?_
  unfold ap3Passed
  split <;> rfl

theorem wakeRecord_shows (s : State) : (wakeRecord s).regs = s.regs ∧ (wakeRecord s).hp = s.hp ∧ (wakeRecord s).pw.sig = s.pw.sig ∧
    (wakeRecord s).pw.wakeNs = s.time := ⟨rfl, rfl, rfl, rfl⟩

theorem signBanks_shows (s : State) : (signBanks s).regs = s.regs ∧ (signBanks s).hp = s.hp ∧ (signBanks s).time = s.time ∧
    (signBanks s).pw.sig = [Config.freeWord s.freeSeq, Config.freeWord (s.freeSeq + 1), Config.freeWord (s.freeSeq + 2)] := ⟨rfl, rfl, rfl, rfl⟩

theorem passAp_rest (e : PEntry) (ap pads : Nat) (s : State) : (passAp e ap pads s).pw.sig = s.pw.sig ∧ (passAp e ap pads s).time = s.time ∧
    (passAp e ap pads s).freeSeq = s.freeSeq := by
  obtain ⟨new, v, -, h⟩ := passAp_eq e ap pads s
  rw [h]
  exact ⟨rfl, rfl, rfl⟩

theorem ap3Passed_shows (e : PEntry) (s : State) : (ap3Passed e s).f PWR_STAT_AP = (if e.tgt = 1 then 4 else 3) ∧
    (e.tgt = 2 → (ap3Passed e s).pw.sig = [Config.freeWord s.freeSeq, Config.freeWord (s.freeSeq + 1), Config.freeWord (s.freeSeq + 2)]) ∧
    (e.tgt ≠ 2 → (ap3Passed e s).pw.sig = s.pw.sig) ∧ (e.tgt = 2 ∨ e.tgt = 3 → (ap3Passed e s).pw.wakeNs = s.time) ∧
    KeepsBut apRegs s (ap3Passed e s) := by
  have hap := fun (ap : Nat) (h : ap < 8) => passAp_ap e h 0 s
  have hk := fun ap => passAp_keepsBut e ap 0 s
  obtain ⟨hsig, htime, hseq⟩ := passAp_rest e 3 0 s
  unfold ap3Passed
  by_cases h1 : e.tgt = 1
  · rw [if_pos h1, if_pos h1]
    exact ⟨hap 4 (by decide), by omega, fun _ => (passAp_rest e 4 0 s).1, by omega, hk 4⟩
  · rw [if_neg h1, if_neg h1]
    obtain ⟨hwr, hwh, hws, hwn⟩ := wakeRecord_shows ((passAp e 3 0 s).when (e.tgt == 2) signBanks)
    rw [hws, hwn]
    by_cases h2 : e.tgt = 2
    · have hsign : (passAp e 3 0 s).when (e.tgt == 2) signBanks = signBanks (passAp e 3 0 s) := if_pos (beq_iff_eq.mpr h2)
      obtain ⟨hsr, hsh, hst, hss⟩ := signBanks_shows (passAp e 3 0 s)
      rw [hsign] at hwr hwh ⊢
      rw [hss, hst, htime, hseq]
      exact ⟨(State.f_congr (hwr.trans hsr) _).trans (hap 3 (by decide)), fun _ => rfl, fun h => absurd h2 h, fun _ => rfl,
        (hk 3).of_eq (hwr.trans hsr) (hwh.trans hsh)⟩
    · have hsign : (passAp e 3 0 s).when (e.tgt == 2) signBanks = passAp e 3 0 s := if_neg (by simp [h2])
      rw [hsign] at hwr hwh ⊢
      rw [hsig, htime]
      exact ⟨(State.f_congr hwr _).trans (hap 3 (by decide)), fun h => absurd h h2, fun _ => rfl, fun _ => rfl, (hk 3).of_eq hwr hwh⟩

theorem ap2_goes (he : s.pw.entry = some e) (hap : s.f PWR_STAT_AP = 1) (ht : e.tgt ≠ 1) (hc : e.cycled = true) (hst : s.stoppers e = []) :
    ∃ d, ap2 s = detach (passAp d 2 0xC000 s) :=
  ⟨_, (atAp_goes (ok := fun e => e.tgt == 1 || e.cycled) he (by rw [hap]) (by simp [hc]) hst).trans (if_neg ht)⟩

theorem ap4_deep (he : s.pw.entry = some e) (hap : s.f PWR_STAT_AP = 3) (ht : e.tgt = 2 ∨ e.tgt = 3) (hst : s.stoppers e = []) :
    ap4 s = arrive e s := by
  have hpoint : ap4 s = atAp 4 (fun _ => true) arrive s := by
    unfold ap4
    rw [he]
    exact if_neg (by omega)
  exact hpoint.trans (atAp_goes (ok := fun _ => true) he (by rw [hap]) rfl hst)

theorem ap4_quiet (he : s.pw.entry = some e) (hap : s.f PWR_STAT_AP = 4) (ht : e.tgt = 1) (htick : e.ticked = true) : ap4 s = arrive e s := by
  unfold ap4
  simp only [he, ht, hap, htick, if_true, and_self]

end Commands

/-- Settles O54: a point that nothing stops is passed, AP2 detaches the networks, AP4 arrives; a point that something stops gives up. -/
theorem abortPointsStopOrPass : Obligations.AbortPointsStopOrPass := by
  unfold Obligations.AbortPointsStopOrPass
  intro e s hd hq he
  refine ⟨?ap1, ?stopped, ?ap2, ?ap3, ?deep, ?quiet⟩
  case ap1 =>
    intro hap htick hst
    have hgo : ap1 s = passAp e 1 (if e.tgt = 1 then 0x1FFF else 0x2000) s := atAp_goes (ok := fun e => e.ticked) he (by rw [hap]) htick hst
    have hk := passAp_keepsBut e 1 (if e.tgt = 1 then 0x1FFF else 0x2000) s
    exact ⟨_, runIn_drained hd hgo (hk.queue.trans hq), passAp_ap e (by decide) _ s, passAp_pads e 1 (by split <;> decide) s, hk.regs⟩
  case stopped =>
    intro hap htick hst
    have hgo : ap1 s = abandon e 1 (s.stoppers e) s := atAp_stops (ok := fun e => e.ticked) he (by rw [hap]) htick hst
    obtain ⟨hentry, hon, hstate, hcnt, hout, hlast, hqueue⟩ := abandon_shows e 1 (s.stoppers e) s (not_detached he hap) (by decide)
    exact ⟨_, runIn_drained hd hgo (hqueue.trans hq), hentry, hon, hstate, hcnt, hout, hlast⟩
  case ap2 =>
    intro hap ht hc hst
    obtain ⟨d, hgo⟩ := ap2_goes he hap ht hc hst
    obtain ⟨h0, h1, hclosed, hopen, hlinks, hpoint, hqueue⟩ := detach_shows (passAp d 2 0xC000 s)
    have hk := passAp_keepsBut d 2 0xC000 s
    exact ⟨_, runIn_drained hd hgo (hqueue.trans (hk.queue.trans hq)), hpoint.trans (passAp_ap d (by decide) _ s), h0, h1, hclosed, hopen, hlinks⟩
  case ap3 =>
    intro hap hst
    obtain ⟨hpoint, hsig, hnosig, hwake, hk⟩ := ap3Passed_shows e s
    exact ⟨_, runIn_drained hd (ap3_goes he hap hst) (hk.queue.trans hq), hpoint, hsig, hnosig, hwake, hk.regs⟩
  case deep =>
    intro hap ht hst hf
    obtain ⟨hentry, hstate, hout, hdom, hwake, hqueue⟩ := arrive_deep hf hq ht
    exact ⟨_, runIn_drained hd (ap4_deep he hap ht hst) hqueue, hentry, hstate, hout, hdom, hwake⟩
  case quiet =>
    intro hap ht htick hf
    obtain ⟨hentry, hstate, hdom, hpart, hout, hqueue⟩ := arrive_quiet hf hq ht
    exact ⟨_, runIn_drained hd (ap4_quiet he hap ht htick) hqueue, hentry, beq_iff_eq.mpr hstate, hdom, hpart, hout⟩

end Sys2Proof.Machine
end

section
/-!
PROOFS. Wakes (R416, R422-R424): what a wake from QUIET, RETAIN and DORMANT shows, and which sources fire.
-/
namespace Sys2Proof.Machine

/-! ### Registers that a wake has shown -/

section StaysAt
variable {l : List Nat} {s t : State}

theorem StaysAt.setB (h : StaysAt l s t) (x : Fld) (b : Bool) (hx : x.addr ∉ l) : StaysAt l s (t.setB x b) := h.set x _ hx
theorem StaysAt.inc (h : StaysAt l s t) (x : Fld) (hx : x.addr ∉ l) : StaysAt l s (t.inc x) := h.set x _ hx

theorem StaysAt.each (h : StaysAt l s t) {m : List Nat} {f : Nat → State → State} (hf : ∀ i ∈ m, ∀ r, StaysAt l s r → StaysAt l s (f i r)) :
    StaysAt l s (t.each m f) := State.each_ind (StaysAt l s) t hf h

theorem StaysAt.setWords (h : StaysAt l s t) (m : List Nat) (g : Nat → Word) (hm : ∀ a ∈ m, a ∉ l) :
    StaysAt l s (m.foldl (fun t a => t.setWord a (g a)) t) :=
  List.foldlRecOn m (motive := StaysAt l s) _ h fun _ hr a ha => hr.setWord a _ (hm a ha)

end StaysAt

/-- Start-up's state, the wake record and the time slept. -/
def wakeShown : List Nat := [SU_STAT_A, PWR_WAKE_A, PWR_SLEEP_A]

/-- Addresses of the power manager's counters of refusers are none of these. -/
theorem pwrRef_not_shown (i : Nat) : PWR_REF_A i ∉ wakeShown := by
  unfold wakeShown PWR_REF_A SU_STAT_A PWR_WAKE_A PWR_SLEEP_A
  simp only [List.mem_cons, List.not_mem_nil, or_false]
  omega

theorem configWord_wakeShown {a : Nat} (ha : a ∈ wakeShown) (w : Word) : configWord a w = w := by
  have hbase : ∀ a ∈ wakeShown, ¬ fsBase ≤ a := by decide
  have hmask : ∀ a ∈ wakeShown, maskWhere (fun f => f.scope == .por && (f.acc == .rwl || f.acc == .rw)) (fieldsAt a) = 0 := by decide
  unfold configWord
  rw [if_neg (hbase a ha)]
  dsimp only
  rw [hmask a ha]
  show (w &&& ~~~ 0#32) ||| (porWord a &&& 0#32) = w
  rw [BitVec.and_zero, BitVec.or_zero]
  exact BitVec.and_allOnes

section Restored
variable {s t : State}

theorem StaysAt.clearLog (h : StaysAt wakeShown s t) : StaysAt wakeShown s (clearLog t) :=
  (h.setWords [LOG_STAT_A, LOG_WPTR_A, LOG_RPTR_A, LOG_TOTAL_A, LOG_CNT_A] porWord (by decide)).of_regs rfl

theorem StaysAt.clearState (h : StaysAt wakeShown s t) : StaysAt wakeShown s (clearState t) := by
  unfold Machine.clearState
  have hfirst := h.setWords [FLT_FIRST_A, FLT_FIRST_T_LO_A, FLT_FIRST_T_HI_A, FLT_FIRST_DATA_A, LN_TB_A, PWR_CNT_A] porWord (by decide)
  exact ((hfirst.setB LN_TB_BARRED _ (by decide)).set LN_ROLE_BARRED 0 (by decide)).each fun i _ _ hr => hr.setWord _ _ (pwrRef_not_shown i)

theorem StaysAt.clearConfig (h : StaysAt wakeShown s t) (hs : ∀ a ∈ wakeShown, s.Once a) : StaysAt wakeShown s (clearConfig t) :=
  h.rebuilt configWord (fun _ ha w => configWord_wakeShown ha w) hs

theorem StaysAt.startDvfs (h : StaysAt wakeShown s t) (p : Nat) : StaysAt wakeShown s (startDvfs p t) := by
  unfold Machine.startDvfs
  dsimp only
  split
  · exact (h.setB PWR_DVFS_BUSY false (by decide)).of_regs rfl
  · exact (h.setB PWR_DVFS_BUSY true (by decide)).of_regs rfl

theorem StaysAt.bufferEntry (h : StaysAt wakeShown s t) (e : LogE) : StaysAt wakeShown s (bufferEntry e t) := by
  unfold Machine.bufferEntry
  dsimp only
  have hdrop := h.inc LOG_CNT_DROP (by decide)
  split
  · split
    · exact hdrop.of_regs rfl
    · exact hdrop.of_regs rfl
  · exact h.of_regs rfl

/-- A lane that is not barred begins its start-up anew. -/
theorem StaysAt.laneFree (h : StaysAt wakeShown s t) :
    StaysAt wakeShown s (if t.on LN_TB_BARRED || t.on FLT_TERM_TERM then t else { t.set LN_STAT_STATE 0 with hold := { t.hold with lane := false } }) :=
  h.of_ite ((h.set LN_STAT_STATE 0 (by decide)).of_regs rfl)

end Restored

/-! ### What a wake from RETAIN or DORMANT keeps (R424) -/

theorem wakeRetain_stays (code slow bad : Nat) {s : State} (hs : ∀ a ∈ wakeShown, (wakeRegs code slow s (lrstCore 2 s)).Once a) :
    StaysAt wakeShown (wakeRegs code slow s (lrstCore 2 s)) (wakeRetain code slow bad s) := by
  unfold wakeRetain
  extract_lets o w s1 s2 s3 s4 t e s5 s6 s7 _ _ s8
  change ∀ a ∈ wakeShown, w.Once a at hs
  change StaysAt wakeShown w _
  have h1 : StaysAt wakeShown w s1 := (StaysAt.refl _ w).of_regs rfl
  have h2 : StaysAt wakeShown w s2 := (h1.setWord PWR_CNT_A _ (by decide)).each fun i _ _ hr => hr.setWord _ _ (pwrRef_not_shown i)
  have h3 : StaysAt wakeShown w s3 := (h2.set PWR_DVFS_FPT 0 (by decide)).set PWR_DVFS_VPT 0 (by decide)
  have h4 : StaysAt wakeShown w s4 := ((h3.clearState.set LN_TB_LANE_RET 3 (by decide)).set LN_TB_ROLE_RET 0xFF (by decide)).of_ite h3
  have h5 : StaysAt wakeShown w s5 := (h4.clearLog.bufferEntry e).of_ite h4
  have h6 : StaysAt wakeShown w s6 := ((h5.clearConfig hs).set PWR_STAT_RESTORING 4 (by decide)).of_ite h5
  have h7 : StaysAt wakeShown w s7 := h6.of_ite ((h6.setWord PWR_RET_A _ (by decide)).of_regs rfl)
  have h8 : StaysAt wakeShown w s8 := h7.laneFree
  exact h8.startDvfs 3

theorem wakeDormant_stays (code slow : Nat) {s : State} (hs : ∀ a ∈ wakeShown, (wakeRegs code slow s (lrstCore 3 s)).Once a) :
    StaysAt wakeShown (wakeRegs code slow s (lrstCore 3 s)) (wakeDormant code slow s) := by
  unfold wakeDormant
  extract_lets o w s1 s2 _ _ s3
  change ∀ a ∈ wakeShown, w.Once a at hs
  change StaysAt wakeShown w _
  have h1 : StaysAt wakeShown w s1 := (StaysAt.refl _ w).of_regs rfl
  have hpoint := (h1.set PWR_DVFS_FPT 0 (by decide)).set PWR_DVFS_VPT 0 (by decide)
  have h2 : StaysAt wakeShown w s2 := hpoint.clearLog.clearState.clearConfig hs
  have h3 : StaysAt wakeShown w s3 := h2.laneFree
  exact h3.startDvfs 3

/-- The wake record and the time slept, as a wake shows them. -/
theorem wakeRegs_shows {code : Nat} (hc : code < 32) (slow : Nat) (o s : State) : (wakeRegs code slow o s).f PWR_WAKE_LAST_SRC = code ∧
    (wakeRegs code slow o s).f PWR_SLEEP_DURATION = satU 32 slow ∧ (wakeRegs code slow o s).Once PWR_WAKE_A ∧
    (wakeRegs code slow o s).Once PWR_SLEEP_A ∧ StaysAt [SU_STAT_A] s (wakeRegs code slow o s) := by
  unfold wakeRegs setNt
  extract_lets s1 s2 s3 ns
  have h3 : ∀ t : State, t.regs = s3.regs → StaysAt [PWR_WAKE_A, PWR_SLEEP_A, SU_STAT_A] s3 ((t.set NT_STAT_STATE 0).setB NT_STAT_LOCKED
      ((0 : Nat) == 1 || (0 : Nat) == 2 || (0 : Nat) == 3)) := fun t ht =>
    ((StaysAt.of_regs (StaysAt.refl _ s3) ht).set NT_STAT_STATE 0 (by decide)).setB NT_STAT_LOCKED _ (by decide)
  have hend := h3 { s3 with time := ns, tk := { s3.tk with phase := o.pw.wakePhase } } rfl
  have hsu : StaysAt [SU_STAT_A] s s3 :=
    (((((StaysAt.refl _ s).setWord PWR_PAD_A _ (by decide)).setWord PWR_WAKE_A _ (by decide)).inc PWR_WAKE_COUNT (by decide)).set
      PWR_WAKE_LAST_SRC code (by decide)).set PWR_SLEEP_DURATION _ (by decide)
  have hsleep : StaysAt [PWR_WAKE_A] s2 s3 := (StaysAt.refl _ s2).set PWR_SLEEP_DURATION _ (by decide)
  refine ⟨?_, ?_, ?_, ?_, hsu.trans (hend.mono (by decide))⟩
  · exact (hend.f PWR_WAKE_LAST_SRC (by decide)).trans ((hsleep.f PWR_WAKE_LAST_SRC (by decide)).trans
      (State.f_set_fits _ PWR_WAKE_LAST_SRC code (by decide) hc))
  · refine (hend.f PWR_SLEEP_DURATION (by decide)).trans (State.f_set_fits _ PWR_SLEEP_DURATION _ (by decide) ?_)
    exact satU_lt 32 slow
  · exact (hend _ (by decide)).2 ((hsleep _ (by decide)).2 (State.once_set _ PWR_WAKE_LAST_SRC code))
  · exact (hend _ (by decide)).2 (State.once_set _ PWR_SLEEP_DURATION _)

/-! ### The origin of a start-up (R473) -/

/-- Start-up begins at its step, with its origin. -/
def State.suBegins (s : State) (origin : Nat) (halted : Bool) : State :=
  let s := (s.set SU_STAT_ORIGIN origin).when (!s.on SU_STAT_TERMINAL) (·.set SU_STAT_STEP 2)
  if halted then (((s.set SU_STAT_STEP 1).setB SU_STAT_HALTED true).set SU_STAT_FAIL_STEP 1).set SU_STAT_CAUSE 0x20 else s

/-- The outputs are off, and the groups held that are to be. -/
def State.outputsOff (s : State) : State :=
  ((openTq (auxInactive s)).setB HPL_STAT_HELD false).each (List.range 8) (fun g t => if t.wantsHold g then holdGroup g t else t)

theorem lrstCore_eq (origin : Nat) (s : State) : ∃ b : State, lrstCore origin s = (b.suBegins origin s.mapHalted).outputsOff := ⟨_, rfl⟩

theorem State.suBegins_shows (s : State) {origin : Nat} (ho : origin < 4) (halted : Bool) :
    (s.suBegins origin halted).f SU_STAT_ORIGIN = origin ∧ (s.suBegins origin halted).Once SU_STAT_A := by
  unfold State.suBegins
  extract_lets t
  have hbase : (s.set SU_STAT_ORIGIN origin).f SU_STAT_ORIGIN = origin := s.f_set_fits SU_STAT_ORIGIN origin (by decide) ho
  have ht : t.f SU_STAT_ORIGIN = origin ∧ t.Once SU_STAT_A := by
    unfold t State.when
    split
    · exact ⟨(State.f_set_apart _ SU_STAT_STEP SU_STAT_ORIGIN 2 rfl rfl).trans hbase, State.once_set _ SU_STAT_STEP 2⟩
    · exact ⟨hbase, State.once_set _ SU_STAT_ORIGIN origin⟩
  clear_value t
  split
  · refine ⟨?_, State.once_set _ SU_STAT_CAUSE _⟩
    simp (disch := decide) only [State.setB_eq, State.f_set_disjoint]
    exact ht.1
  · exact ht

theorem State.outputsOff_stays (s : State) : StaysAt [SU_STAT_A] s s.outputsOff := by
  have hret := ((StaysAt.refl [SU_STAT_A] s).set AUX_STAT_RET_ACT 0 (by decide)).set AUX_STAT_PK_ON 0 (by decide)
  have haux : StaysAt [SU_STAT_A] s (auxInactive s) := ((hret.set (PK_STAT_DUTY 0) 0 (by decide)).set (PK_STAT_DUTY 1) 0 (by decide)).of_regs rfl
  have htq : StaysAt [SU_STAT_A] s (openTq (auxInactive s)) := (haux.set AUX_STAT_TQ_CMD 0 (by decide)).set AUX_STAT_TQ_RB 0 (by decide)
  refine (htq.setB HPL_STAT_HELD false (by decide)).each fun g _ r hr => StaysAt.of_ite ?_ hr
  refine (hr.setB (BG_STAT_HELD g) true ?_).of_regs (groupGatesLow_regs g _)
  show BG_STAT_A g ∉ [SU_STAT_A]
  unfold BG_STAT_A SU_STAT_A
  simp only [List.mem_singleton]
  omega

theorem lrstCore_origin (s : State) {origin : Nat} (ho : origin < 4) :
    (lrstCore origin s).f SU_STAT_ORIGIN = origin ∧ (lrstCore origin s).Once SU_STAT_A := by
  obtain ⟨b, hb⟩ := lrstCore_eq origin s
  obtain ⟨horigin, honce⟩ := b.suBegins_shows ho s.mapHalted
  have hoff := (b.suBegins origin s.mapHalted).outputsOff_stays
  rw [hb]
  exact ⟨(hoff.f SU_STAT_ORIGIN (by decide)).trans horigin, (hoff _ (by decide)).2 honce⟩

/-- What a wake from a deep state shows before the banks are restored. -/
theorem wakeRegs_lrst (s : State) {code origin : Nat} (hc : code < 32) (ho : origin < 4) (slow : Nat) :
    (wakeRegs code slow s (lrstCore origin s)).f SU_STAT_ORIGIN = origin ∧ (wakeRegs code slow s (lrstCore origin s)).f PWR_WAKE_LAST_SRC = code ∧
      (wakeRegs code slow s (lrstCore origin s)).f PWR_SLEEP_DURATION = satU 32 slow ∧
      ∀ a ∈ wakeShown, (wakeRegs code slow s (lrstCore origin s)).Once a := by
  obtain ⟨horigin, honce⟩ := lrstCore_origin s ho
  obtain ⟨hsrc, hdur, hwake, hsleep, hsu⟩ := wakeRegs_shows hc slow s (lrstCore origin s)
  refine ⟨(hsu.f SU_STAT_ORIGIN (by decide)).trans horigin, hsrc, hdur, fun a ha => ?_⟩
  simp only [wakeShown, List.mem_cons, List.not_mem_nil, or_false] at ha
  rcases ha with rfl | rfl | rfl
  · exact (hsu _ (by decide)).2 honce
  · exact hwake
  · exact hsleep

theorem wakeRetain_shows (s : State) {code : Nat} (hc : code < 32) (slow bad : Nat) : (wakeRetain code slow bad s).f SU_STAT_ORIGIN = 2 ∧
    (wakeRetain code slow bad s).f PWR_WAKE_LAST_SRC = code ∧ (wakeRetain code slow bad s).f PWR_SLEEP_DURATION = satU 32 slow := by
  obtain ⟨horigin, hsrc, hdur, honce⟩ := wakeRegs_lrst s hc (show 2 < 4 by decide) slow
  have hk := wakeRetain_stays code slow bad honce
  exact ⟨(hk.f SU_STAT_ORIGIN (by decide)).trans horigin, (hk.f PWR_WAKE_LAST_SRC (by decide)).trans hsrc,
    (hk.f PWR_SLEEP_DURATION (by decide)).trans hdur⟩

theorem wakeDormant_shows (s : State) {code : Nat} (hc : code < 32) (slow : Nat) : (wakeDormant code slow s).f SU_STAT_ORIGIN = 3 ∧
    (wakeDormant code slow s).f PWR_WAKE_LAST_SRC = code ∧ (wakeDormant code slow s).f PWR_SLEEP_DURATION = satU 32 slow := by
  obtain ⟨horigin, hsrc, hdur, honce⟩ := wakeRegs_lrst s hc (show 3 < 4 by decide) slow
  have hk := wakeDormant_stays code slow honce
  exact ⟨(hk.f SU_STAT_ORIGIN (by decide)).trans horigin, (hk.f PWR_WAKE_LAST_SRC (by decide)).trans hsrc,
    (hk.f PWR_SLEEP_DURATION (by decide)).trans hdur⟩

/-- The lane returns from QUIET to RUN, with the source shown. -/
theorem toRun_wakes (s : State) {code : Nat} (hc : code < 32) : (toRun (s.set PWR_WAKE_LAST_SRC code)).f PWR_STAT_STATE = 0 ∧
    (toRun (s.set PWR_WAKE_LAST_SRC code)).f PWR_WAKE_LAST_SRC = code ∧
    (toRun (s.set PWR_WAKE_LAST_SRC code)).fbit PWR_STAT_DOM_ON 6 = true := by
  have hk := toRun_keepsBut (s.set PWR_WAKE_LAST_SRC code)
  refine ⟨(toRun_f_stat _ PWR_STAT_STATE rfl).trans (State.showRun_state _), ?_,
    (State.fbit_of_f (toRun_f_stat _ PWR_STAT_DOM_ON rfl) 6).trans (State.showRun_dom_on _)⟩
  refine (hk.f PWR_WAKE_LAST_SRC (by decide)).trans ?_
  unfold State.showRun
  rw [State.setB_eq, State.f_set_ne _ PWR_STAT_D5_PART PWR_WAKE_LAST_SRC _ (by decide), State.setBit_eq,
    State.f_set_ne _ PWR_STAT_DOM_ON PWR_WAKE_LAST_SRC _ (by decide), State.f_set_ne _ PWR_STAT_STATE PWR_WAKE_LAST_SRC _ (by decide)]
  exact s.f_set_fits PWR_WAKE_LAST_SRC code (by decide) hc

/-! ### A source fires -/

section Fires
variable {s : State} {code slow bad : Nat}

theorem wakeFires_disabled (h : s.fbit PWR_CFG_WAKE_EN (code - 0x10) = false) : wakeFires code slow bad s = s := by
  simp [wakeFires, h]

/-- An armed source in an entry is noted, once. -/
theorem wakeFires_entry (hen : s.fbit PWR_CFG_WAKE_EN (code - 0x10) = true) (he : s.pw.entry.isSome = true) (ha : s.armed code = true)
    (hf : code ∉ s.pw.fired) : wakeFires code slow bad s = noteWake code (s.withPw { s.pw with fired := s.pw.fired ++ [code] }) := by
  simp [wakeFires, hen, he, ha, hf, State.withPw]

/-- Outside an entry a source wakes the lane from the states it wakes from. -/
theorem wakeFires_wakes (hen : s.fbit PWR_CFG_WAKE_EN (code - 0x10) = true) (he : s.pw.entry = none)
    (hw : wakesFrom code (s.f PWR_STAT_STATE) = true) : wakeFires code slow bad s =
      (wakeNow code slow bad s).withPw { (wakeNow code slow bad s).pw with first := some (s.slowPeriod, code, s.f PWR_STAT_STATE) } := by
  have hfresh : wakeFires code slow bad s = wakeFresh code slow bad s := by simp [wakeFires, hen, he, hw]
  exact hfresh

theorem wakeNow_quiet (h : s.f PWR_STAT_STATE = 1) : wakeNow code slow bad s = toRun (s.set PWR_WAKE_LAST_SRC code) := by simp [wakeNow, h]
theorem wakeNow_retain (h : s.f PWR_STAT_STATE = 2) : wakeNow code slow bad s = wakeRetain code slow bad s := by simp [wakeNow, h]
theorem wakeNow_dormant (h : s.f PWR_STAT_STATE = 3) : wakeNow code slow bad s = wakeDormant code slow s := by simp [wakeNow, h]

theorem wakeFires_quiet (hc : code < 32) (hen : s.fbit PWR_CFG_WAKE_EN (code - 0x10) = true) (he : s.pw.entry = none)
    (hw : wakesFrom code 1 = true) (h : s.f PWR_STAT_STATE = 1) : (wakeFires code slow bad s).f PWR_STAT_STATE = 0 ∧
      (wakeFires code slow bad s).f PWR_WAKE_LAST_SRC = code ∧ (wakeFires code slow bad s).fbit PWR_STAT_DOM_ON 6 = true := by
  rw [wakeFires_wakes hen he (by rw [h]; exact hw), wakeNow_quiet h]
  exact toRun_wakes s hc

theorem wakeFires_retain (hc : code < 32) (hen : s.fbit PWR_CFG_WAKE_EN (code - 0x10) = true) (he : s.pw.entry = none)
    (hw : wakesFrom code 2 = true) (h : s.f PWR_STAT_STATE = 2) : (wakeFires code slow bad s).f SU_STAT_ORIGIN = 2 ∧
      (wakeFires code slow bad s).f PWR_WAKE_LAST_SRC = code ∧ (wakeFires code slow bad s).f PWR_SLEEP_DURATION = satU 32 slow := by
  rw [wakeFires_wakes hen he (by rw [h]; exact hw), wakeNow_retain h]
  exact wakeRetain_shows s hc slow bad

theorem wakeFires_dormant (hc : code < 32) (hen : s.fbit PWR_CFG_WAKE_EN (code - 0x10) = true) (he : s.pw.entry = none)
    (hw : wakesFrom code 3 = true) (h : s.f PWR_STAT_STATE = 3) : (wakeFires code slow bad s).f SU_STAT_ORIGIN = 3 ∧
      (wakeFires code slow bad s).f PWR_WAKE_LAST_SRC = code ∧ (wakeFires code slow bad s).f PWR_SLEEP_DURATION = satU 32 slow := by
  rw [wakeFires_wakes hen he (by rw [h]; exact hw), wakeNow_dormant h]
  exact wakeDormant_shows s hc slow

/-- The wake pin is armed in any entry. -/
theorem wakePin_armed (he : s.pw.entry.isSome = true) : s.armed 0x10 = true := by
  obtain ⟨e, h⟩ := Option.isSome_iff_exists.mp he
  simp [State.armed, h]

/-- A noted wake changes the power manager's record alone; the first to fire is kept as such. -/
theorem noteWake_noted (code : Nat) (s : State) : ∃ f, noteWake code s = s.withPw { s.pw with first := f } ∧
    (s.pw.first = none → f = some (s.slowPeriod, code, s.f PWR_STAT_STATE)) := by
  refine ⟨_, rfl, fun h => ?_⟩
  rw [h]

end Fires

/-- Settles O55: a source that is disabled, or not heard, changes nothing; one that fires is noted, or wakes the lane from its state. -/
theorem wakesFollowTheirArming : Obligations.WakesFollowTheirArming := by
  unfold Obligations.WakesFollowTheirArming
  refine ⟨fun slow bad s hd => ⟨?_, ?_, ?_, ?_⟩, fun wave slow s hd => ⟨?_, ?_⟩, fun p slow bad s hd => ⟨?_, ?_⟩,
    fun m slow bad s hd => ⟨?_, ?_⟩, fun w s hd => ⟨?_, ?_⟩⟩
  · intro hen
    exact State.runIn_to (f := wakeFires 0x10 slow bad.toNat) hd (wakeFires_disabled hen) rfl rfl rfl
  · intro hen he hf
    obtain ⟨first, hnote, hfirst⟩ := noteWake_noted 0x10 (s.withPw { s.pw with fired := s.pw.fired ++ [0x10] })
    have hfire := (wakeFires_entry (slow := slow) (bad := bad.toNat) hen he (wakePin_armed he) hf).trans hnote
    exact ⟨_, State.runIn_to (f := wakeFires 0x10 slow bad.toNat) hd hfire rfl rfl rfl, rfl, hfirst⟩
  · intro hen he h
    exact ⟨_, s.runIn_on 0 (wakeFires 0x10 slow bad.toNat) hd, wakeFires_quiet (by decide) hen he rfl h⟩
  · intro hen he h
    exact ⟨_, s.runIn_on 0 (wakeFires 0x10 slow bad.toNat) hd, wakeFires_retain (by decide) hen he rfl h⟩
  · intro hcode
    exact State.runIf_idle 0 (wakeFires 0x11 slow 0) (beq_eq_false_iff_ne.mpr hcode)
  · intro hcode hen he h
    exact ⟨_, s.runIf_on 0 _ (wakeFires 0x11 slow 0) hd (beq_iff_eq.mpr hcode), wakeFires_dormant (by decide) hen he rfl h⟩
  · intro hport
    exact State.runIf_idle 0 (wakeFires 0x12 slow bad.toNat) hport
  · intro hport hen he h
    obtain ⟨horigin, hsrc, -⟩ := wakeFires_retain (code := 0x12) (slow := slow) (bad := bad.toNat) (by decide) hen he rfl h
    exact ⟨_, s.runIf_on 0 _ (wakeFires 0x12 slow bad.toNat) hd hport, horigin, hsrc⟩
  · intro hlink
    exact State.runIf_idle 0 (wakeFires 0x13 slow bad.toNat) hlink
  · intro hlink hen he h
    obtain ⟨horigin, hsrc, -⟩ := wakeFires_retain (code := 0x13) (slow := slow) (bad := bad.toNat) (by decide) hen he rfl h
    exact ⟨_, s.runIf_on 0 _ (wakeFires 0x13 slow bad.toNat) hd hlink, horigin, hsrc⟩
  · intro hws
    exact State.runIf_idle 0 (wakeFires 0x14 0 0) hws
  · intro hws hen he h
    obtain ⟨hstate, hsrc, -⟩ := wakeFires_quiet (code := 0x14) (slow := 0) (bad := 0) (by decide) hen he rfl h
    exact ⟨_, s.runIf_on 0 _ (wakeFires 0x14 0 0) hd hws, hstate, hsrc⟩

end Sys2Proof.Machine
end

section
/-!
PROOFS. Pads, the engine's points and the domain supplies (R46, R411, R426-R428).
-/
namespace Sys2Proof.Machine

/-! ### Pads (R427) -/

/-- A write of PWR_PAD_REL with one bit asks for that group. -/
theorem padAsked (g : Fin 16) : (List.range 16).filter (bitOf (BitVec.ofNat 32 (2 ^ g.val)).toNat) = [g.val] := by
  revert g
  decide

theorem padRel_one (g : Fin 16) (s : State) : padRel (BitVec.ofNat 32 (2 ^ g.val)).toNat s =
    if s.padRelease g then (false, s.setBit PWR_PAD_HELD g false) else (true, s) := by
  unfold padRel
  rw [padAsked]
  cases h : s.padRelease g <;> simp [h, State.each]

/-! ### Points (R426) -/

section Points
variable {p : Nat} {s : State}

/-- A point that the loads do not fit is refused by TICK. -/
theorem dvfsRequest_unfit (hc : s.committing = false) (hl : s.loadsFit p = false) : dvfsRequest p s = (true, pwrOutcome 2 0 0 [2] s) := by
  simp [dvfsRequest, dvfsJudge, hc, hl]

theorem dvfsRequest_committing (hc : s.committing = true) : dvfsRequest p s = (false, { s with pw := { s.pw with late := some p } }) :=
  if_pos hc

/-- In RUN, after start-up, a point that fits begins its transition. -/
theorem dvfsRequest_starts (hc : s.committing = false) (hl : s.loadsFit p = true) (hr : s.f PWR_STAT_STATE = 0) (hs : s.startPoint = false) :
    dvfsRequest p s = (false, startDvfs p (s.set PWR_DVFS_POINT p)) := by
  have hstate : (s.set PWR_DVFS_POINT p).f PWR_STAT_STATE = 0 := (s.f_set_ne _ _ _ (by decide)).trans hr
  have hstart : (s.set PWR_DVFS_POINT p).startPoint = false := by
    have hstep := s.f_set_ne PWR_DVFS_POINT SU_STAT_STEP p (by decide)
    have hfast := s.on_set_ne PWR_DVFS_POINT BIST_STAT_FAST_OK p (by decide)
    unfold State.startPoint at hs ⊢
    rw [hstep, hfast]
    exact hs
  simp [dvfsRequest, dvfsJudge, hc, hl, hstate, hstart]

/-- The refusal's outcome beside the engine's point. -/
theorem pwrOutcome_refusal (s : State) : (pwrOutcome 2 0 0 [2] s).f PWR_LAST_OUTCOME = 2 ∧ (pwrOutcome 2 0 0 [2] s).f PWR_LAST_REFUSER = 2 ∧
    (pwrOutcome 2 0 0 [2] s).f PWR_DVFS_POINT = s.f PWR_DVFS_POINT ∧ (pwrOutcome 2 0 0 [2] s).pw = s.pw := by
  have hk := (countRefusers_keepsBut [2] s).mono (m := [PWR_LAST_A, PWR_REF_A 0]) (by decide)
  have hlast := ((countRefusers [2] s).showLast_keepsBut 2 0 0 [2]).mono (m := [PWR_LAST_A, PWR_REF_A 0]) (by decide)
  rw [pwrOutcome_eq]
  refine ⟨State.showLast_outcome _ 2 0 0 [2] (by decide), State.showLast_refuser _ 2 0 0 [2] (by decide),
    (hk.trans hlast).f PWR_DVFS_POINT (by decide), ?_⟩
  rw [State.showLast_pw, countRefusers_pw]

/-- A transition that starts shows BUSY and its target; the clock does not move yet. -/
theorem startDvfs_starts (s : State) (h : s.f PWR_DVFS_FPT ≠ p) :
    (startDvfs p s).on PWR_DVFS_BUSY = true ∧ (startDvfs p s).pw.dvfs = some p ∧
      (∀ x : Fld, x.addr = PWR_DVFS_A → PWR_DVFS_BUSY.apart x = true → (startDvfs p s).f x = s.f x) := by
  obtain ⟨v, hv, hdvfs⟩ : ∃ v, startDvfs p s = (s.setB PWR_DVFS_BUSY true).withPw v ∧ v.dvfs = some p := by
    unfold startDvfs
    dsimp only
    rw [if_neg (by tauto)]
    exact ⟨_, rfl, rfl⟩
  rw [hv]
  refine ⟨State.on_setB_same _ _ _ (by decide) rfl, hdvfs, fun x hx ha => ?_⟩
  rw [State.withPw_f, State.setB_eq]
  exact s.f_set_apart _ _ _ hx ha

/-! ### The clock switches -/

/-- The clock follows a voltage that has settled. -/
def State.clockRisen (s : State) (p : Nat) : State := ((s.set PWR_DVFS_VPT p).set PWR_DVFS_FPT p).setB PWR_DVFS_BUSY false

theorem dvfsSwitch_rises (hd : s.pw.dvfs = some p) (h : s.f PWR_DVFS_FPT < p) :
    dvfsSwitch s = (s.clockRisen p).withPw { s.pw with dvfs := none, rampEnd := none, switchTb := some s.tb } := by
  simp only [dvfsSwitch, hd, if_pos h]
  rfl

/-- The clock falls before the voltage. -/
theorem dvfsSwitch_falls (hd : s.pw.dvfs = some p) (h : p ≤ s.f PWR_DVFS_FPT) :
    ∃ v, dvfsSwitch s = (s.set PWR_DVFS_FPT p).withPw v ∧ v.fell = true := by
  unfold dvfsSwitch
  rw [hd]
  dsimp only
  rw [if_neg (by omega)]
  exact ⟨_, rfl, rfl⟩

theorem State.clockRisen_shows (s : State) (hp : p < 4) : (s.clockRisen p).f PWR_DVFS_FPT = p ∧ (s.clockRisen p).f PWR_DVFS_VPT = p ∧
    (s.clockRisen p).on PWR_DVFS_BUSY = false ∧ SameRegsBut [PWR_DVFS_A] s (s.clockRisen p) := by
  refine ⟨?_, ?_, State.on_setB_same _ _ _ (by decide) rfl,
    (((SameRegsBut.refl _ s).set PWR_DVFS_VPT p (by decide)).set PWR_DVFS_FPT p (by decide)).set PWR_DVFS_BUSY _ (by decide)⟩
  · rw [State.clockRisen, State.setB_eq, State.f_set_apart _ PWR_DVFS_BUSY PWR_DVFS_FPT _ rfl rfl]
    exact State.f_set_fits _ PWR_DVFS_FPT p (by decide) hp
  · rw [State.clockRisen, State.setB_eq, State.f_set_apart _ PWR_DVFS_BUSY PWR_DVFS_VPT _ rfl rfl,
      State.f_set_apart _ PWR_DVFS_FPT PWR_DVFS_VPT _ rfl rfl]
    exact State.f_set_fits _ PWR_DVFS_VPT p (by decide) hp

end Points

theorem exec_dvfsRequest {point : BitVec 2} {s t : State} (hd : s.dom 7 = true) (ht : counted 0x005 (dvfsRequest point.toNat s) = t) :
    exec (.dvfsRequest point) s = .next (framed s t) := by
  rw [← ht]
  exact s.runIn_on 7 (fun s => counted 0x005 (dvfsRequest point.toNat s)) hd

/-- Settles O56: pads by their conditions, points by their loads and the clock in force, supplies by their domain. -/
theorem padsAndPointsFollowTheirChecks : Obligations.PadsAndPointsFollowTheirChecks := by
  unfold Obligations.PadsAndPointsFollowTheirChecks
  refine ⟨?pads, ?check, fun point s hd => ⟨?late, ?unfit, ?starts⟩, fun p s hd hdvfs hp => ⟨?rises, ?falls⟩, ?tmo, ?supply⟩
  case pads =>
    intro g s hd
    refine State.runIn_to (f := fun s => counted 0x005 (padRel (BitVec.ofNat 32 (2 ^ g.val)).toNat s)) hd ?_ ?_ ?_ ?_
    · rw [padRel_one]
      split <;> rfl
    all_goals split <;> rfl
  case check =>
    intro g pass s hd
    refine State.runIn_to (f := padCheck g pass) hd rfl ?_ ?_ ?_
    all_goals split_ifs <;> rfl
  case late =>
    intro hc
    refine State.runIn_to (f := fun s => counted 0x005 (dvfsRequest point.toNat s)) hd ?_ rfl rfl rfl
    rw [dvfsRequest_committing hc]
    rfl
  case unfit =>
    intro hc hl
    obtain ⟨hout, href, hpoint, hpw⟩ := pwrOutcome_refusal s
    have hcount : counted 0x005 (dvfsRequest point.toNat s) = (pwrOutcome 2 0 0 [2] s).inc (PG_LOCK_REFUSED 0x005) := by
      rw [dvfsRequest_unfit hc hl]
      rfl
    have hf : ∀ x : Fld, x.addr ≠ (PG_LOCK_REFUSED 0x005).addr → ((pwrOutcome 2 0 0 [2] s).inc (PG_LOCK_REFUSED 0x005)).f x = (pwrOutcome 2 0 0 [2] s).f x :=
      fun x hx => State.f_inc_ne _ _ x hx
    refine ⟨_, exec_dvfsRequest hd hcount, ?_, ?_, ?_, ?_⟩
    · exact (hf PWR_DVFS_POINT (by decide)).trans hpoint
    · exact (hf PWR_LAST_OUTCOME (by decide)).trans hout
    · exact (hf PWR_LAST_REFUSER (by decide)).trans href
    · rw [framed_pw, State.inc_eq, State.set_pw, hpw]
  case starts =>
    intro hc hl hr hs hne
    have hclock : (s.set PWR_DVFS_POINT point.toNat).f PWR_DVFS_FPT = s.f PWR_DVFS_FPT := s.f_set_apart _ _ _ rfl rfl
    obtain ⟨hbusy, hdv, hkeep⟩ := startDvfs_starts (p := point.toNat) (s.set PWR_DVFS_POINT point.toNat) (by rw [hclock]; exact hne)
    have hcount : counted 0x005 (dvfsRequest point.toNat s) = startDvfs point.toNat (s.set PWR_DVFS_POINT point.toNat) := by
      rw [dvfsRequest_starts hc hl hr hs]
      rfl
    refine ⟨_, exec_dvfsRequest hd hcount, ?_, hbusy, hdv, (hkeep PWR_DVFS_FPT rfl rfl).trans hclock, ?_⟩
    · exact (hkeep PWR_DVFS_POINT rfl rfl).trans (s.f_set_fits PWR_DVFS_POINT _ (by decide) point.isLt)
    · exact (((SameRegsBut.refl [PWR_DVFS_A] s).set PWR_DVFS_POINT _ (by decide)).trans (startDvfs_keepsBut _ _).regs).of_regs (framed_regs _ _)
  case rises =>
    intro h
    obtain ⟨hf, hv, hb, hsame⟩ := s.clockRisen_shows hp
    exact ⟨_, State.runIn_to (f := dvfsSwitch) hd (dvfsSwitch_rises hdvfs h) rfl rfl rfl, hf, hv, hb, rfl, hsame.of_regs (State.withPw_regs _ _)⟩
  case falls =>
    intro h
    obtain ⟨v, hv, hfell⟩ := dvfsSwitch_falls hdvfs h
    refine ⟨_, State.runIn_to (f := dvfsSwitch) hd hv rfl rfl rfl, ?_, ?_, ?_, hfell, ?_⟩
    · exact s.f_set_fits PWR_DVFS_FPT p (by decide) hp
    · exact s.f_set_apart PWR_DVFS_FPT PWR_DVFS_VPT p rfl rfl
    · exact State.on_of_f (s.f_set_apart PWR_DVFS_FPT PWR_DVFS_BUSY p rfl rfl)
    · exact ((SameRegsBut.refl [PWR_DVFS_A] s).set PWR_DVFS_FPT p (by decide)).of_regs (State.withPw_regs _ _)
  case tmo =>
    intro s hd
    refine State.runIn_to (f := dvfsTmo) hd rfl ?_ ?_ ?_
    all_goals split <;> rfl
  case supply =>
    intro d s hd hne
    exact State.runIf_to (f := fun s => s.raise 0x343 d) hd (by simpa using hne) rfl rfl rfl rfl

end Sys2Proof.Machine
end

section
/-!
PROOFS. Clock monitoring (O57): a window of the engine clock that holds a DVFS clock switch is not judged (R436, `State.engSwitched`),
also when the transition is over and BUSY no longer shows.
-/
namespace Sys2Proof.Machine

/-- The engine clock has just switched, which ended its transition; its frequency is not yet shown as within tolerance. -/
def engineSwitched : State :=
  { State.reset.setBit CLK_STAT_IN_TOL 0 false with pw := { State.reset.pw with switchTb := some 0 } }

/-- The window that holds the switch shows that the clock is there, and says nothing of its frequency. -/
theorem clkFreq_engineSwitched :
    (framed engineSwitched (clkFreq 0 (BitVec.ofNat 32 (engineSwitched.nominal 0)).toNat engineSwitched)).fbit CLK_STAT_IN_TOL 0 = false := by
  decide +kernel

/-- Refutes O57: without BUSY, the window that holds the clock switch does not show the clock as within tolerance (R436). -/
theorem not_clockFailuresAreConfirmed : ¬ Obligations.ClockFailuresAreConfirmed := by
  unfold Obligations.ClockFailuresAreConfirmed
  rintro ⟨-, -, -, hfreq, -⟩
  have hd : engineSwitched.dom 2 = true := by decide +kernel
  obtain ⟨t, ht, -, hin, -⟩ :=
    hfreq 0 (BitVec.ofNat 32 (engineSwitched.nominal 0)) engineSwitched hd (by decide) (fun _ => by decide +kernel)
  have hshown : t.fbit CLK_STAT_IN_TOL 0 = true := (hin (by decide +kernel)).1
  have hrun : exec (.clkFreq 0 (BitVec.ofNat 32 (engineSwitched.nominal 0))) engineSwitched =
      .next (framed engineSwitched (clkFreq 0 (BitVec.ofNat 32 (engineSwitched.nominal 0)).toNat engineSwitched)) :=
    engineSwitched.runIn_on 2 _ hd
  obtain rfl : framed engineSwitched (clkFreq 0 (BitVec.ofNat 32 (engineSwitched.nominal 0)).toNat engineSwitched) = t := by
    simpa using hrun.symm.trans ht
  exact Bool.false_ne_true (clkFreq_engineSwitched.symm.trans hshown)

end Sys2Proof.Machine
end

section
/-!
PROOFS. The steps of start-up (R194, R403, R405, R473, R475): where each of them passes, and what a step that fails shows.
-/
namespace Sys2Proof.Machine

/-! ### What SU_STAT shows -/

theorem suFail_shows {k c : Nat} (hk : k < 16) (hc : c < 256) (s : State) :
    (suFail k c s).f SU_STAT_FAIL_STEP = k ∧ (suFail k c s).f SU_STAT_CAUSE = c := by
  refine ⟨?_, State.f_set_fits _ SU_STAT_CAUSE c (by decide) hc⟩
  exact (State.f_set_clear _ SU_STAT_CAUSE SU_STAT_FAIL_STEP c (by decide)).trans (s.f_set_fits SU_STAT_FAIL_STEP k (by decide) hk)

/-- A failure leaves the other fields of SU_STAT. -/
theorem suFail_step (k c : Nat) (s : State) : (suFail k c s).f SU_STAT_STEP = s.f SU_STAT_STEP :=
  (State.f_set_clear _ SU_STAT_CAUSE SU_STAT_STEP c (by decide)).trans (s.f_set_clear SU_STAT_FAIL_STEP SU_STAT_STEP k (by decide))

theorem suHalt_shows {k c : Nat} (hk : k < 16) (hc : c < 256) (s : State) :
    (suHalt k c s).on SU_STAT_HALTED = true ∧ (suHalt k c s).f SU_STAT_CAUSE = c := by
  refine ⟨State.on_of_f ?_ |>.trans (s.on_setB_same SU_STAT_HALTED true (by decide) rfl), (suFail_shows hk hc _).2⟩
  exact (State.f_set_clear _ SU_STAT_CAUSE SU_STAT_HALTED c (by decide)).trans
    (State.f_set_clear _ SU_STAT_FAIL_STEP SU_STAT_HALTED k (by decide))

theorem State.suRuns_step {s : State} {k : Nat} (h : s.suRuns k = true) : s.f SU_STAT_STEP = k := by
  simp only [State.suRuns, Bool.and_eq_true, beq_iff_eq] at h
  exact h.1.1.1

theorem State.step_passed (s : State) {k : Nat} (hk : k < 16) : (s.set SU_STAT_STEP k).f SU_STAT_STEP = k :=
  s.f_set_fits SU_STAT_STEP k (by decide) hk

/-! ### Step 0: power-up (R473) -/

/-- Domains in their windows and locked PLLs end the step. -/
theorem startPowerUp_passes {bad : Nat} {s : State} (hs : s.suRuns 0 = true) (hbad : ∀ d, 1 ≤ d → d < 8 → bitOf bad d = false)
    (hlock : s.f CLK_PLL_ST_LOCK = 7) : startPowerUp bad s = s.set SU_STAT_STEP 1 := by
  have hdom : [1, 2, 3, 4, 5, 6, 7].find? (bitOf bad) = none := by
    simp [hbad]
  have hpll : [0, 1, 2].find? (fun i => !bitOf 7 i) = none := by decide
  unfold startPowerUp
  simp only [hs, Bool.not_true, Bool.false_eq_true, if_false, hlock, hdom, hpll]

/-- The first domain outside its window is the cause. -/
theorem startPowerUp_waits {bad : Nat} {s : State} (hs : s.suRuns 0 = true) {d : Nat} (h1 : 1 ≤ d) (h8 : d < 8) (hd : bitOf bad d = true)
    (hfirst : ∀ k, 1 ≤ k → k < d → bitOf bad k = false) : startPowerUp bad s = suFail 0 d s := by
  have hdom : [1, 2, 3, 4, 5, 6, 7].find? (bitOf bad) = some d := by
    obtain ⟨l, r, hsplit, hl⟩ : ∃ l r, [1, 2, 3, 4, 5, 6, 7] = l ++ d :: r ∧ ∀ k ∈ l, 1 ≤ k ∧ k < d :=
      ⟨List.range' 1 (d - 1), List.range' (d + 1) (7 - d), by interval_cases d <;> rfl, fun k hk => by
        rw [List.mem_range'_1] at hk
        omega⟩
    rw [hsplit, List.find?_append, List.find?_eq_none.mpr fun k hk => by simp [hfirst k (hl k hk).1 (hl k hk).2]]
    simp [hd]
  unfold startPowerUp
  simp only [hs, Bool.not_true, Bool.false_eq_true, if_false, hdom]

/-! ### Step 1: the repair map (R405) -/

/-- The entries of the repair map are as they were. -/
def SameMap (s t : State) : Prop := t.rep.map = s.rep.map

theorem SameMap.of_ite {s t u : State} {c : Prop} [Decidable c] (h : SameMap s t) (k : SameMap s u) : SameMap s (if c then t else u) := by
  split
  · exact h
  · exact k

theorem SameMap.each {s t : State} (h : SameMap s t) (l : List Nat) {f : Nat → State → State} (hf : ∀ i u, SameMap u (f i u)) :
    SameMap s (t.each l f) := State.each_ind (SameMap s) t (fun i _ u hu => (hf i u).trans hu) h

theorem SameMap.set {s t : State} (h : SameMap s t) (x : Fld) (v : Nat) : SameMap s (t.set x v) := h

theorem SameMap.refl (s : State) : SameMap s s := rfl

theorem SameMap.setB {s t : State} (h : SameMap s t) (x : Fld) (b : Bool) : SameMap s (t.setB x b) := h

theorem SameMap.foldl {α : Type} {s t : State} (h : SameMap s t) (l : List α) {f : State → α → State} (hf : ∀ u a, SameMap u (f u a)) :
    SameMap s (l.foldl f t) := List.foldlRecOn l f (motive := SameMap s) h fun u hu a _ => (hf u a).trans hu

/-- The spares and the driver slices before any repair. -/
def spareStart (s : State) : State :=
  let s := [CORE_MAP_A, RP_SPARE_A, RP_SLICE_A, RP_WIN_A, JAN_FENCE_A].foldl (fun t a => t.setWord a (porWord a)) s
  let s := s.each (List.range 48) (fun h t => (t.set (HB_STAT_SLICE_H h) 0).set (HB_STAT_SLICE_L h) 0)
  s.each (List.range 8) (fun g t => (t.set (BG_STAT_LOST g) 0).setB (BG_STAT_NO_ENABLE g) false)

theorem spareStart_sameMap (s : State) : SameMap s (spareStart s) := by
  unfold spareStart
  refine SameMap.each (SameMap.each (SameMap.foldl (SameMap.refl s) _ ?_) _ ?_) _ ?_
  · exact fun u a => SameMap.refl u
  · exact fun h r => ((SameMap.refl r).set (HB_STAT_SLICE_H h) 0).set (HB_STAT_SLICE_L h) 0
  · exact fun g r => ((SameMap.refl r).set (BG_STAT_LOST g) 0).setB (BG_STAT_NO_ENABLE g) false

/-- The self-test's shadows are let go. -/
def State.shadowless (s : State) : State := (s.set BIST_SHADOW_HELD 0).set BIST_SHADOW_ACTIVE 0

theorem repairStart_eq (s : State) : repairStart s =
    { (spareStart s).shadowless with
      rep := { map := (spareStart s).shadowless.rep.map, unwritten := (spareStart s).shadowless.rep.unwritten
               retried := (spareStart s).shadowless.rep.retried }
      bist := { (spareStart s).shadowless.bist with shadow := [] } } := (rfl)

theorem State.shadowless_sameMap (s : State) : SameMap s s.shadowless := ((SameMap.refl s).set BIST_SHADOW_HELD 0).set BIST_SHADOW_ACTIVE 0

theorem repairStart_sameMap (s : State) : SameMap s (repairStart s) := by
  have hshadow := (spareStart s).shadowless_sameMap.trans (spareStart_sameMap s)
  rw [SameMap, repairStart_eq]
  dsimp only
  exact hshadow

theorem coreLost_sameMap (c : Nat) (s : State) : SameMap s (coreLost c s) := by
  unfold coreLost
  exact .of_ite rfl (.of_ite rfl rfl)

theorem applyDriver_sameMap (o sl : Nat) (lost gone : Bool) (s : State) : SameMap s (applyDriver o sl lost gone s) := by
  unfold applyDriver
  extract_lets was _ t u h x c
  have ht : SameMap s t := .of_ite rfl rfl
  have hu : SameMap s u := .of_ite ht ht
  exact .of_ite hu (.of_ite hu (.of_ite hu (.of_ite hu hu)))

theorem applyEntry_sameMap (e : Word × Word) (s : State) : SameMap s (applyEntry e s) := by
  unfold applyEntry
  extract_lets e0 lost res spare
  split
  · exact .of_ite rfl (coreLost_sameMap res s)
  · rfl
  · exact .of_ite rfl (.of_ite rfl (.of_ite rfl rfl))
  · exact applyDriver_sameMap _ _ _ _ s
  · rfl
  · split
    · exact .of_ite rfl rfl
    · rfl
  · exact .of_ite rfl (.of_ite rfl rfl)
  · rfl

theorem applyBus_sameMap (e0 : Word) (s : State) : SameMap s (applyBus e0 s) := by
  unfold applyBus
  refine .of_ite rfl (.of_ite rfl ?_)
  split <;> rfl

/-- The entries of the applied map are in force. -/
theorem applyMap_map (s : State) : (applyMap s).rep.map = s.rep.map.map entryInForce := by
  have hentries : SameMap s (s.rep.map.foldl (fun t e => applyEntry e t) (repairStart s)) :=
    List.foldlRecOn _ _ (motive := SameMap s) (repairStart_sameMap s) fun t ht e _ => (applyEntry_sameMap e t).trans ht
  have hbus := List.foldlRecOn (s.rep.map.map (·.1)) (fun t e => applyBus e t) (motive := SameMap s) hentries
    fun t ht e _ => (applyBus_sameMap e t).trans ht
  exact congrArg (List.map entryInForce) hbus

/-- The map is in force: step 2. -/
def State.mapPassed (s : State) : State := (s.setB RP_STAT_MAP_OK true).set SU_STAT_STEP 2

theorem State.mapPassed_shows (s : State) : s.mapPassed.f SU_STAT_STEP = 2 ∧ s.mapPassed.on RP_STAT_MAP_OK = true ∧
    s.mapPassed.rep = s.rep := by
  refine ⟨State.step_passed _ (by decide), ?_, rfl⟩
  exact (State.on_of_f (State.f_set_clear _ SU_STAT_STEP RP_STAT_MAP_OK 2 (by decide))).trans
    (s.on_setB_same RP_STAT_MAP_OK true (by decide) rfl)

theorem startMap_sound {s : State} (hs : s.suRuns 1 = true) : startMap true s = (applyMap s).mapPassed := by
  unfold startMap
  rw [hs]
  rfl

theorem startMap_passes {s : State} (hs : s.suRuns 1 = true) :
    (startMap true s).f SU_STAT_STEP = 2 ∧ (startMap true s).on RP_STAT_MAP_OK = true ∧
      (startMap true s).rep.map = s.rep.map.map entryInForce := by
  obtain ⟨hstep, hok, hrep⟩ := (applyMap s).mapPassed_shows
  rw [startMap_sound hs]
  exact ⟨hstep, hok, (congrArg RepairSt.map hrep).trans (applyMap_map s)⟩

theorem startMap_halts {s : State} (hs : s.suRuns 1 = true) :
    (startMap false s).on SU_STAT_HALTED = true ∧ (startMap false s).f SU_STAT_CAUSE = 0x20 ∧
      (startMap false s).on RP_STAT_MAP_OK = false ∧ (startMap false s).rep = s.rep := by
  have heq : startMap false s = suHalt 1 0x20 ((s.setB RP_STAT_MAP_OK false).raiseU 0x3FB) := by simp [startMap, hs]
  rw [heq]
  obtain ⟨hhalt, hcause⟩ := suHalt_shows (k := 1) (c := 0x20) (by decide) (by decide) ((s.setB RP_STAT_MAP_OK false).raiseU 0x3FB)
  refine ⟨hhalt, hcause, ?_, rfl⟩
  refine (State.on_of_f ?_).trans (s.on_setB_same RP_STAT_MAP_OK false (by decide) rfl)
  simp (disch := decide) only [suHalt, suFail, State.setB_eq, State.f_set_ne, State.raiseU_f]

/-! ### Step 2: configuration (R475) -/

/-- What follows from the configuration in force, with its CRCs. -/
def State.confRefreshed (s : State) : State := refreshCrcs (configApplied s s)

/-- Neither SU_STAT nor a speed limit moves with it. -/
theorem State.confRefreshed_changes (s : State) : ChangesOnly (fun a => confRegs a ∨ a ∈ [CS_CRC_A, CS_SETCRC_A]) s s.confRefreshed :=
  (((configApplied_keepsPort s s).mono fun _ => .inl).trans ((refreshCrcs_keepsPort _).mono fun _ => .inr)).regs

/-- The lane waits for a COMMIT with STORE. -/
def State.awaitsCommit (s : State) : State := { suFail 2 0x30 s with su := { s.su with confWait := true } }

theorem confInvalid_eq (s : State) : confInvalid 0x30 s = s.confRefreshed.awaitsCommit := (rfl)

theorem State.awaitsCommit_shows (s : State) : s.awaitsCommit.f SU_STAT_STEP = s.f SU_STAT_STEP ∧ s.awaitsCommit.f SU_STAT_CAUSE = 0x30 ∧
    s.awaitsCommit.f SU_STAT_FAIL_STEP = 2 ∧ s.awaitsCommit.su.confWait = true := by
  obtain ⟨hfail, hcause⟩ := suFail_shows (k := 2) (c := 0x30) (by decide) (by decide) s
  exact ⟨suFail_step 2 0x30 s, hcause, hfail, rfl⟩

theorem startConfig_invalid (ok : Bool) {s : State} (hs : s.suRuns 2 = true) (hok : s.su.confOk = false) (hwait : s.su.confWait = false)
    (ho : s.f SU_STAT_ORIGIN = 0 ∨ s.f SU_STAT_ORIGIN = 3) (himg : s.nv.image = none) : startConfig ok s = confInvalid 0x30 s := by
  have horigin : s.f SU_STAT_ORIGIN % 3 = 0 := by omega
  have himage : confFromImage ok s = confInvalid 0x30 s := by rw [confFromImage, himg]
  rw [startConfig, if_neg (by simp [hs, hok, hwait]), if_pos (.inl horigin), himage]

theorem startConfig_waits (ok : Bool) {s : State} (hs : s.suRuns 2 = true) (hok : s.su.confOk = false) (hwait : s.su.confWait = false)
    (ho : s.f SU_STAT_ORIGIN = 0 ∨ s.f SU_STAT_ORIGIN = 3) (himg : s.nv.image = none) :
    (startConfig ok s).f SU_STAT_STEP = 2 ∧ (startConfig ok s).f SU_STAT_CAUSE = 0x30 ∧ (startConfig ok s).f SU_STAT_FAIL_STEP = 2 ∧
      (startConfig ok s).su.confWait = true := by
  obtain ⟨hstep, hshown⟩ := s.confRefreshed.awaitsCommit_shows
  have hkept := s.confRefreshed_changes.f SU_STAT_STEP (by unfold confRegs; decide)
  rw [startConfig_invalid ok hs hok hwait ho himg, confInvalid_eq]
  exact ⟨(hstep.trans hkept).trans (State.suRuns_step hs), hshown⟩

/-- The tick grid begins at the next TICK. -/
def State.gridNew (s : State) : State := { s with tk := { s.tk with first := true } }

theorem confGo_eq (s : State) : confGo s s = (configPassed s.confRefreshed).gridNew := (rfl)

/-- Step 3 begins: the required set is shown, and the bank restored. -/
def State.confShown (s : State) (req : Nat) : State := ((s.set SU_GROUPS_REQ req).set SU_STAT_STEP 3).set PWR_STAT_RESTORING 0

/-- The groups that start-up requires (R478). -/
def State.required (s : State) : Nat := packBits 8 (fun g => s.on (PG_CTL_EN (0x020 + g)))

/-- The step's own record once it has passed. -/
def State.withConfOk (s : State) : State := { s with su := { s.su with confOk := true, confWait := false } }

theorem State.withConfOk_regs (s : State) : s.withConfOk.regs = s.regs := (rfl)
theorem State.withConfOk_su (s : State) : s.withConfOk.su.confOk = true := (rfl)
theorem State.gridNew_regs (s : State) : s.gridNew.regs = s.regs := (rfl)
theorem State.gridNew_su (s : State) : s.gridNew.su = s.su := (rfl)

theorem configPassed_eq (s : State) : configPassed s = (s.confShown s.required).withConfOk := (rfl)

theorem configPassed_regs (s : State) : (configPassed s).gridNew.regs = (s.confShown s.required).regs := by
  rw [State.gridNew_regs, configPassed_eq, State.withConfOk_regs]

theorem configPassed_su (s : State) : (configPassed s).gridNew.su.confOk = true := by
  rw [State.gridNew_su, configPassed_eq, State.withConfOk_su]

theorem State.gridNew_first (s : State) : s.gridNew.tk.first = true := (rfl)

theorem State.confShown_shows (s : State) (req : Nat) : (s.confShown req).f SU_STAT_STEP = 3 ∧
    SameRegsBut [SU_GROUPS_A, SU_STAT_A, PWR_STAT_A] s (s.confShown req) := by
  refine ⟨(State.f_set_clear _ PWR_STAT_RESTORING SU_STAT_STEP 0 (by decide)).trans (State.step_passed _ (by decide)), ?_⟩
  exact (((SameRegsBut.refl _ s).set SU_GROUPS_REQ req (by decide)).set SU_STAT_STEP 3 (by decide)).set PWR_STAT_RESTORING 0 (by decide)

theorem startConfig_retained (ok : Bool) {s : State} (hs : s.suRuns 2 = true) (hok : s.su.confOk = false) (hwait : s.su.confWait = false)
    (ho : s.f SU_STAT_ORIGIN = 2) (hr : s.f PWR_STAT_RESTORING < 4) : startConfig ok s = confGo s s := by
  rw [startConfig, if_neg (by simp [hs, hok, hwait]), if_neg (by omega), if_neg (by omega)]

/-- A speed limit is none of the registers that the step moves. -/
theorem vmax_apart (n : Fin 16) : AX_VMAX_A n ∉ [SU_GROUPS_A, SU_STAT_A, PWR_STAT_A] ∧
    ¬ (confRegs (AX_VMAX_A n) ∨ AX_VMAX_A n ∈ [CS_CRC_A, CS_SETCRC_A]) := by
  simp only [confRegs, List.mem_cons, List.not_mem_nil, or_false, AX_VMAX_A, SU_GROUPS_A, SU_STAT_A, PWR_STAT_A, CS_CRC_A, CS_SETCRC_A]
  omega

theorem startConfig_passes (ok : Bool) {s : State} (hs : s.suRuns 2 = true) (hok : s.su.confOk = false) (hwait : s.su.confWait = false)
    (ho : s.f SU_STAT_ORIGIN = 2) (hr : s.f PWR_STAT_RESTORING < 4) :
    (startConfig ok s).f SU_STAT_STEP = 3 ∧ (startConfig ok s).su.confOk = true ∧ (startConfig ok s).tk.first = true ∧
      ∀ n : Fin 16, (startConfig ok s).word (AX_VMAX_A n) = s.word (AX_VMAX_A n) := by
  have hreq := configPassed_regs s.confRefreshed
  obtain ⟨hstep, hregs⟩ := s.confRefreshed.confShown_shows s.confRefreshed.required
  rw [startConfig_retained ok hs hok hwait ho hr, confGo_eq]
  exact ⟨(State.f_congr hreq _).trans hstep, configPassed_su _, State.gridNew_first _, fun n =>
    ((State.word_congr hreq _).trans (hregs _ (vmax_apart n).1)).trans (s.confRefreshed_changes _ (vmax_apart n).2)⟩

/-! ### Step 3: Janus injection (R194) -/

/-- Sound rails find what every pattern must bring. -/
theorem injFails_sound : ∀ k ∈ List.range 65, injFails k none = 0 := by decide +kernel

theorem startInjection_passes {s : State} (hs : s.suRuns 3 = true) :
    startInjection [] s = ((s.setB JAN_STAT_START_OK true).set SU_STAT_STEP 4).set BIST_STAT_MODE 2 := by
  have hfind : ((List.range 65).map (fun k => (k, injFails k none))).reverse.find? (fun p => p.2 != 0) = none := by
    simp only [List.find?_eq_none, List.mem_reverse, List.mem_map, forall_exists_index, and_imp]
    rintro p k hk rfl
    simp [injFails_sound k hk]
  unfold startInjection
  simp only [hs, Bool.not_true, Bool.false_eq_true, if_false, List.find?_nil, Option.map_none, hfind]

/-- Rails that answer pattern 0 with no finding at all. -/
def muteRails : RailPair := ⟨⟨0, none⟩, ⟨0, none⟩⟩

theorem muteRails_fail : ((List.range 65).map (fun k => (k, injFails k (([(0, muteRails)].find? (fun p => p.1 == k)).map (·.2))))).reverse.find?
    (fun p => p.2 != 0) = some (0, 3) := by decide +kernel

theorem startInjection_halts {s : State} (hs : s.suRuns 3 = true) : ∃ t, startInjection [(0, muteRails)] s = suHalt 3 0x40 t := by
  unfold startInjection
  simp only [hs, Bool.not_true, Bool.false_eq_true, if_false, muteRails_fail]
  exact ⟨_, rfl⟩

/-! ### Step 4: the start-up sweep (R403) -/

/-- The sweep without a finding leaves the self-test idle. -/
def State.sweptClean (s : State) : State := (s.addSat BIST_CNT_A_FAIL 0).set BIST_STAT_MODE 0

/-- FAST_OK with its time mark. -/
def State.fastMarked (s : State) : State := (s.setB BIST_STAT_FAST_OK true).set SU_MARK_BIST_MS (satU 16 s.suMs)

theorem fastBist_clean {s : State} (hs : s.suRuns 4 = true) : fastBist [] 0 [] s =
    startDvfs (s.sweptClean.fastMarked.f PWR_DVFS_POINT) (s.sweptClean.fastMarked.set SU_STAT_STEP 5) := by
  have hraise : raiseTransients 0 (s.addSat BIST_CNT_A_FAIL 0) = s.addSat BIST_CNT_A_FAIL 0 := (rfl)
  rw [fastBist, if_neg (by simp [hs])]
  simp only [List.foldl_nil, hraise, sweepFindings, Bool.false_eq_true, if_false]
  rfl

theorem startDvfs_others (p : Nat) (s : State) : (startDvfs p s).flt = s.flt ∧ (startDvfs p s).rep = s.rep := by
  unfold startDvfs
  dsimp only
  split <;> exact ⟨rfl, rfl⟩

/-- The state that step 5 begins in. -/
theorem State.fastMarked_shows (s : State) : (s.fastMarked.set SU_STAT_STEP 5).f SU_STAT_STEP = 5 ∧
    (s.fastMarked.set SU_STAT_STEP 5).on BIST_STAT_FAST_OK = true := by
  refine ⟨State.step_passed _ (by decide), (State.on_of_f ?_).trans (s.on_setB_same BIST_STAT_FAST_OK true (by decide) rfl)⟩
  exact (State.f_set_clear _ SU_STAT_STEP BIST_STAT_FAST_OK 5 (by decide)).trans
    (State.f_set_clear _ SU_MARK_BIST_MS BIST_STAT_FAST_OK _ (by decide))

theorem State.fastMarked_others (s : State) : (s.fastMarked.set SU_STAT_STEP 5).flt = s.flt ∧ (s.fastMarked.set SU_STAT_STEP 5).rep = s.rep :=
  ⟨rfl, rfl⟩

theorem State.sweptClean_others (s : State) : s.sweptClean.flt = s.flt ∧ s.sweptClean.rep = s.rep := ⟨rfl, rfl⟩

theorem fastBist_shows {s : State} (hs : s.suRuns 4 = true) :
    (fastBist [] 0 [] s).f SU_STAT_STEP = 5 ∧ (fastBist [] 0 [] s).on BIST_STAT_FAST_OK = true ∧ (fastBist [] 0 [] s).flt = s.flt ∧
      (fastBist [] 0 [] s).rep = s.rep := by
  obtain ⟨hstep, hfast⟩ := s.sweptClean.fastMarked_shows
  obtain ⟨hflt1, hrep1⟩ := s.sweptClean_others
  obtain ⟨hflt2, hrep2⟩ := s.sweptClean.fastMarked_others
  rw [fastBist_clean hs]
  generalize s.sweptClean.fastMarked.f PWR_DVFS_POINT = p
  generalize s.sweptClean.fastMarked.set SU_STAT_STEP 5 = t at hstep hfast hflt2 hrep2
  obtain ⟨hflt, hrep⟩ := startDvfs_others p t
  have hkept := startDvfs_keepsBut p t
  exact ⟨(hkept.f SU_STAT_STEP (by decide)).trans hstep, (State.on_of_f (hkept.f BIST_STAT_FAST_OK (by decide))).trans hfast,
    (hflt.trans hflt2).trans hflt1, (hrep.trans hrep2).trans hrep1⟩

/-! ### O58 -/

/-- Settles O58: step by step, from what the check of each step finds. -/
theorem startupPassesItsSteps : Obligations.StartupPassesItsSteps := by
  unfold Obligations.StartupPassesItsSteps
  refine ⟨fun bad s hd hs => ⟨fun hbad hlock => ?_, fun d h1 hbit hfirst => ?_⟩, fun s hd hs => ⟨?_, ?_⟩,
    fun ok s hd hs hok hwait => ⟨fun ho himg => ?_, fun ho hr => ?_⟩, fun s hd hs => ⟨?_, ?_⟩, fun s hd hs => ?_⟩
  · exact State.runIn_to hd (startPowerUp_passes hs hbad hlock) rfl rfl rfl
  · obtain ⟨hfail, hcause⟩ := suFail_shows (k := 0) (c := d) (by decide) (by omega) s
    exact ⟨_, State.runIn_to hd (startPowerUp_waits hs h1 d.isLt hbit hfirst) rfl rfl rfl, (suFail_step 0 d s).trans (State.suRuns_step hs), hfail,
      hcause⟩
  · exact ⟨_, s.runIn_on 7 (startMap true) hd, startMap_passes hs⟩
  · exact ⟨_, s.runIn_on 7 (startMap false) hd, startMap_halts hs⟩
  · exact ⟨_, s.runIn_on 7 (startConfig ok) hd, startConfig_waits ok hs hok hwait ho himg⟩
  · exact ⟨_, s.runIn_on 7 (startConfig ok) hd, startConfig_passes ok hs hok hwait ho hr⟩
  · refine ⟨_, State.runIn_to hd (startInjection_passes hs) rfl rfl rfl, ?_, ?_, State.f_set_fits _ BIST_STAT_MODE 2 (by decide) (by decide),
      (((SameRegsBut.refl _ s).set JAN_STAT_START_OK _ (by decide)).set SU_STAT_STEP 4 (by decide)).set BIST_STAT_MODE 2 (by decide)⟩
    · exact (State.f_set_clear _ BIST_STAT_MODE SU_STAT_STEP 2 (by decide)).trans (State.step_passed _ (by decide))
    · refine (State.on_of_f ?_).trans (s.on_setB_same JAN_STAT_START_OK true (by decide) rfl)
      exact (State.f_set_clear _ BIST_STAT_MODE JAN_STAT_START_OK 2 (by decide)).trans (State.f_set_clear _ SU_STAT_STEP JAN_STAT_START_OK 4 (by decide))
  · obtain ⟨t, ht⟩ := startInjection_halts hs
    have hhalt := suHalt_shows (k := 3) (c := 0x40) (by decide) (by decide) t
    rw [← ht] at hhalt
    exact ⟨_, s.runIn_on 2 (startInjection [(0, muteRails)]) hd, hhalt⟩
  · exact ⟨_, s.runIn_on 2 (fastBist [] 0 []) hd, fastBist_shows hs⟩

end Sys2Proof.Machine
end

section
/-!
PROOFS. Commands of the sensors, of the lock, of TICK and of the lines SYNC_N and ALARM_N complete with their own effect (R33, R37, R62,
R66, R69, R74, R76-R78, R304-R307, R462-R464, R468, R471).
-/
namespace Sys2Proof.Machine

/-! ### Checks of one input (R76-R78) -/

theorem inpCause_width (k : Nat) : (inpCauseF k).width = 3 := by
  obtain ⟨a, -, hc⟩ := inpMark_place k
  rw [hc]

theorem State.makeInvalid_firstCause {s : State} {k c : Nat} (hc : c < 8) (h : s.on (inpInvalidF k) = false) :
    (s.makeInvalid k c).f (inpCauseF k) = c := by
  rw [s.makeInvalid_cause k c h, inpCause_width]
  exact Nat.mod_eq_of_lt hc

/-- The mark moves no event: raised after it, a source is raised as before it. -/
theorem State.makeInvalid_flt (s : State) (k c : Nat) : (s.makeInvalid k c).flt = s.flt ∧
    (∀ i, ((s.makeInvalid k c).raiseU i).flt = (s.raiseU i).flt) ∧ ∀ i d, ((s.makeInvalid k c).raise i d).flt = (s.raise i d).flt := by
  obtain ⟨r, e⟩ := s.makeInvalid_only k c
  rw [e]
  exact ⟨rfl, fun _ => rfl, fun _ _ => rfl⟩

/-- What an analog channel shows once a check has marked it. -/
theorem State.makeInvalid_channel (s : State) {k c : Nat} (hk : k < 0x60) (hc : c < 8) (hval : s.on (CH_STAT_INVALID k) = false) :
    (s.makeInvalid k c).on (CH_STAT_INVALID k) = true ∧ (s.makeInvalid k c).f (CH_STAT_CAUSE k) = c ∧
      (s.makeInvalid k c).on (CH_VAL_VALID k) = false ∧ SameRegsBut [CH_STAT_A k, CH_VAL_A k] s (s.makeInvalid k c) := by
  have hmark : inpInvalidF k = CH_STAT_INVALID k := if_pos hk
  have hcause : inpCauseF k = CH_STAT_CAUSE k := if_pos hk
  have haddr : inpStatA k = CH_STAT_A k := by rw [inpStatA, hmark]; rfl
  have hframe := s.makeInvalid_frame k c
  rw [haddr] at hframe
  rw [← hmark] at hval
  rw [← hmark, ← hcause]
  exact ⟨s.makeInvalid_on k c, State.makeInvalid_firstCause hc hval, s.makeInvalid_not_valid c hk (.inl hval), hframe⟩

/-! ### Lost current sense (R66, R144) -/

theorem senseReport_eq (u : Nat) (s : State) :
    ∃ v w, senseReport u s = (((setOff u s).set (VDU_STAT_STATE u) 2).setVdu u v).setVdu u w := ⟨_, _, rfl⟩

/-- The unit of a set whose sense is lost, and its half-bridges. -/
theorem senseReport_shows {u : Nat} (hu : u < 16) (s : State) : BridgeOnly s (senseReport u s) ∧
    (senseReport u s).f (VDU_STAT_STATE u) = 2 ∧ ∀ i, i < 3 → (senseReport u s).on (HB_LOOP_OFF (3 * u + i)) = true := by
  refine ⟨(senseOff_bridgeOnly hu s).setVdu u _, ?_⟩
  obtain ⟨v, w, heq⟩ := senseReport_eq u s
  refine ⟨?_, fun i hi => ?_⟩
  · rw [heq, State.setVdu_f, State.setVdu_f]
    exact State.f_set_fits _ (VDU_STAT_STATE u) 2 (Fld.fits rfl) (show 2 < 2 ^ 3 by decide)
  · have hoff : (setOff u s).on (HB_LOOP_OFF (3 * u + i)) = true := congrArg Prod.fst (setOff_view hi s)
    rw [heq, State.setVdu_on, State.setVdu_on, State.on_set_ne _ (VDU_STAT_STATE u) (HB_LOOP_OFF (3 * u + i)) _ (hbLoop_ne_vduStat _ _)]
    exact hoff

/-- A phase channel that is lost: its mark and its report, before the unit is turned off. -/
def State.senseMarked (s : State) (h : Nat) : State :=
  ((s.setInp h { s.inp h with rangeSaid := true }).makeInvalid h 1).raiseU (0x200 + h)

theorem State.senseMarked_shows (s : State) {h : Nat} (hh : h < 0x60) : (s.senseMarked h).on (CH_STAT_INVALID h) = true ∧
    ((s.senseMarked h).inp h).rangeSaid = true ∧ (s.on (CH_STAT_INVALID h) = false → (s.senseMarked h).f (CH_STAT_CAUSE h) = 1) := by
  have hmark : inpInvalidF h = CH_STAT_INVALID h := if_pos hh
  refine ⟨?_, by simp [State.senseMarked], fun hval => ?_⟩
  · rw [← hmark]
    exact State.makeInvalid_on _ h 1
  · exact (State.makeInvalid_channel (s.setInp h { s.inp h with rangeSaid := true }) hh (by decide) hval).2.1

/-- The registers and the record of a channel stand beside the bridges. -/
theorem BridgeOnly.channel {s t : State} (g : BridgeOnly s t) (k : Nat) : t.on (CH_STAT_INVALID k) = s.on (CH_STAT_INVALID k) ∧
    t.f (CH_STAT_CAUSE k) = s.f (CH_STAT_CAUSE k) ∧ t.inp k = s.inp k := by
  have hout : ¬ bridgePage (CH_STAT_A k) := by unfold bridgePage CH_STAT_A; omega
  refine ⟨g.on (CH_STAT_INVALID k) hout, g.f (CH_STAT_CAUSE k) hout, ?_⟩
  obtain ⟨_, _, _, _, _, rfl⟩ := g.only
  rfl

/-! ### Late channels (R62) -/

/-- CH_VAL and the record of an input are as they were. -/
def ChannelKept (k : Nat) (s t : State) : Prop := t.word (CH_VAL_A k) = s.word (CH_VAL_A k) ∧ t.inp k = s.inp k

section ChannelKept
variable {k : Nat} {s t u : State}

theorem ChannelKept.refl (k : Nat) (s : State) : ChannelKept k s s := ⟨rfl, rfl⟩

theorem ChannelKept.trans (h : ChannelKept k s t) (g : ChannelKept k t u) : ChannelKept k s u := ⟨g.1.trans h.1, g.2.trans h.2⟩

theorem ChannelKept.of_eq (h : ChannelKept k s t) (hr : u.regs = t.regs) (hi : u.afe.inp = t.afe.inp) : ChannelKept k s u :=
  ⟨(State.word_congr hr _).trans h.1, Eq.trans (by rw [State.inp, State.inp, hi]) h.2⟩

theorem ChannelKept.set (h : ChannelKept k s t) (x : Fld) (v : Nat) (hx : CH_VAL_A k ≠ x.addr) : ChannelKept k s (t.set x v) :=
  ⟨(t.word_set_ne x v _ hx).trans h.1, h.2⟩

end ChannelKept

/-- One channel at the end of the input freeze. -/
def freezeCh (late : List Nat) (k : Nat) (t : State) : State :=
  if late.contains k then lateCh k t else if (t.inp k).late = 0 then t else t.setInp k { t.inp k with late := 0 }

theorem freezeCh_beside (late : List Nat) {j k : Nat} (hj : j < 0x60) (hne : j ≠ k) (t : State) : ChannelKept k t (freezeCh late j t) := by
  unfold freezeCh
  split_ifs
  · have haddr : CH_VAL_A k ∉ [CH_RAW_A j, CH_VAL_A j, CH_STAT_A j, SNAP_STAT_A] := by
      simp only [List.mem_cons, List.not_mem_nil, or_false, CH_RAW_A, CH_VAL_A, CH_STAT_A, SNAP_STAT_A]
      omega
    exact ⟨lateCh_frame t j hj _ haddr, by rw [lateCh_inp, if_neg hne.symm]⟩
  · exact .refl k t
  · exact ⟨rfl, t.setInp_inp_ne j k _ hne.symm⟩

theorem lateSet_kept (late : List Nat) (k u : Nat) (s : State) : ChannelKept k s (lateSet late u s) := by
  unfold lateSet
  split <;> exact ⟨rfl, rfl⟩

/-- The cross-check that waited is taken up. -/
def State.xpendTaken (s : State) : State := { s with afe := { s.afe with xpend := none } }

/-- A difference found is shown, and noted for its core. -/
def State.xchkFound (s : State) (ch : Nat) (diff : Int) : State :=
  let t := (s.set XCHK_LAST_CORE (ch / 4)).setI XCHK_LAST_DIFF diff
  { t with afe := { t.afe with xchk := smPut (fun _ => 0) t.afe.xchk (ch / 4) (withBit (smGet (fun _ => 0) s.afe.xchk (ch / 4)) (ch % 4) true) } }

theorem xchkJudge_eq (late : List Nat) {s : State} {ch : Nat} {diff : Int} (h : s.afe.xpend = some (ch, diff)) :
    xchkJudge late s =
      if late.contains ch || decide (diff.natAbs ≤ s.xpendTaken.e AFE_CFG_XCHK_TOL) then s.xpendTaken
      else if popCount 4 (smGet (fun _ => 0) s.xpendTaken.afe.xchk (ch / 4)) = 2 ∧ !bitOf (smGet (fun _ => 0) s.xpendTaken.afe.xchk (ch / 4)) (ch % 4) then
        (s.xpendTaken.xchkFound ch diff).raise 0x27D (ch / 4)
      else s.xpendTaken.xchkFound ch diff := by
  unfold xchkJudge
  rw [h]
  rfl

theorem State.xchkFound_kept (s : State) (ch : Nat) (diff : Int) (k : Nat) :
    ChannelKept k s (s.xchkFound ch diff) ∧ (s.xchkFound ch diff).afe.xpend = s.afe.xpend := by
  have hlast : CH_VAL_A k ≠ XCHK_LAST_A := by unfold CH_VAL_A XCHK_LAST_A; omega
  exact ⟨(((ChannelKept.refl k s).set XCHK_LAST_CORE _ hlast).set XCHK_LAST_DIFF _ hlast).of_eq rfl rfl, rfl⟩

theorem xchkJudge_kept (late : List Nat) (k : Nat) (s : State) :
    ChannelKept k s (xchkJudge late s) ∧ (xchkJudge late s).afe.xpend = none := by
  match h : s.afe.xpend with
  | none =>
    have heq : xchkJudge late s = s := by rw [xchkJudge, h]
    rw [heq]
    exact ⟨.refl k s, h⟩
  | some (ch, diff) =>
    have htaken : ChannelKept k s s.xpendTaken ∧ s.xpendTaken.afe.xpend = none := ⟨⟨rfl, rfl⟩, rfl⟩
    obtain ⟨hkept, hnone⟩ := s.xpendTaken.xchkFound_kept ch diff k
    rw [xchkJudge_eq late h]
    split_ifs
    · exact htaken
    · exact ⟨(htaken.1.trans hkept).of_eq rfl rfl, hnone.trans htaken.2⟩
    · exact ⟨htaken.1.trans hkept, hnone.trans htaken.2⟩

theorem busTick_kept (j k : Nat) (s : State) : ChannelKept k s (busTick j s) ∧ (busTick j s).afe = s.afe := by
  have hstat : CH_VAL_A k ≠ SUP_BSTAT_A j := by unfold CH_VAL_A SUP_BSTAT_A; omega
  unfold busTick
  extract_lets u was low t
  have ht : ChannelKept k s t := ((ChannelKept.refl k s).set (SUP_BSTAT_U_BUS j) u hstat).set (SUP_BSTAT_UV j) _ hstat
  have hafe : t.afe = s.afe := rfl
  clear_value t
  exact ⟨ht.of_eq rfl rfl, hafe⟩

theorem lateBus_kept (late : List Nat) (j k : Nat) (s : State) :
    ChannelKept k s (lateBus late j s) ∧ (lateBus late j s).afe = s.afe := by
  unfold lateBus State.when
  split
  · exact busTick_kept j k s
  · exact ⟨.refl k s, rfl⟩

/-- The checks behind the channels: sums, cross-check, buses. -/
def freezeChecks (late : List Nat) (s : State) : State :=
  (xchkJudge late (s.each (List.range 16) (lateSet late))).each (List.range 4) (lateBus late)

theorem freezeChecks_kept (late : List Nat) (k : Nat) (s : State) :
    ChannelKept k s (freezeChecks late s) ∧ (freezeChecks late s).afe.xpend = none := by
  have hsets := State.each_ind (ChannelKept k s) (l := List.range 16) (f := lateSet late) s (fun u _ t ht => ht.trans (lateSet_kept late k u t))
    (.refl k s)
  obtain ⟨hjudge, hnone⟩ := xchkJudge_kept late k (s.each (List.range 16) (lateSet late))
  exact State.each_ind (fun t => ChannelKept k s t ∧ t.afe.xpend = none) (l := List.range 4) (f := lateBus late) _
    (fun j _ t ht => by
      obtain ⟨hbus, hafe⟩ := lateBus_kept late j k t
      exact ⟨ht.1.trans hbus, by rw [hafe]; exact ht.2⟩) ⟨hsets.trans hjudge, hnone⟩

theorem freezeEnd_eq (late : List Nat) (s : State) : freezeEnd late s =
    if late.any (fun k => decide (k < 96)) then (freezeChecks late (s.each (List.range 96) (freezeCh late))).raiseU 0x27C
    else freezeChecks late (s.each (List.range 96) (freezeCh late)) := (rfl)

/-- A late channel shows the value before, not VALID, and its record counts. -/
def ShownLate (k : Nat) (s t : State) : Prop :=
  t.f (CH_VAL_VALUE k) = (s.inp k).prevVal % 2 ^ 24 ∧ t.on (CH_VAL_VALID k) = false ∧ t.inp k = (s.inp k).again

theorem ShownLate.kept {k : Nat} {s t u : State} (h : ShownLate k s t) (g : ChannelKept k t u) : ShownLate k s u := by
  obtain ⟨hvalue, hvalid, hinp⟩ := h
  have hf : ∀ x : Fld, x.addr = CH_VAL_A k → u.f x = t.f x := fun x hx => by rw [State.f, State.f, hx, g.1]
  exact ⟨(hf (CH_VAL_VALUE k) rfl).trans hvalue, (State.on_of_f (hf (CH_VAL_VALID k) rfl)).trans hvalid, g.2.trans hinp⟩

theorem freezeChs_shown {late : List Nat} {k : Nat} (hk : k < 0x60) (hl : late.contains k = true) (s : State) :
    ShownLate k s (s.each (List.range 96) (freezeCh late)) := by
  refine State.each_once (fun t => t.inp k = s.inp k) (ShownLate k s) s (List.mem_range.mpr hk) List.nodup_range (fun j hj hne t ht => ?_)
    (fun j hj hne t ht => ht.kept (freezeCh_beside late (List.mem_range.mp hj) hne t)) (fun t ht => ?_) rfl
  · exact (freezeCh_beside late (List.mem_range.mp hj) hne t).2.trans ht
  · have hlate : freezeCh late k t = lateCh k t := if_pos hl
    have hshown := lateCh_shows t hk
    rw [ht] at hshown
    rw [hlate]
    exact hshown

theorem freezeEnd_shows (late : List Nat) (s : State) : (freezeEnd late s).afe.xpend = none ∧
    ∀ k, k < 0x60 → late.contains k = true → ShownLate k s (freezeEnd late s) := by
  have hnone := (freezeChecks_kept late 0 (s.each (List.range 96) (freezeCh late))).2
  have hshown : ∀ k, k < 0x60 → late.contains k = true → ShownLate k s (freezeChecks late (s.each (List.range 96) (freezeCh late))) :=
    fun k hk hl => (freezeChs_shown hk hl s).kept (freezeChecks_kept late k _).1
  rw [freezeEnd_eq]
  split
  · exact ⟨hnone, fun k hk hl => (hshown k hk hl).kept ⟨rfl, rfl⟩⟩
  · exact ⟨hnone, hshown⟩

/-- Every channel that the command names is late. -/
theorem State.lateOf_names (s : State) {late : List (Fin 96)} {k : Fin 96} (hk : k ∈ late) : (s.lateOf late).contains k.val = true := by
  rw [List.contains_iff_mem, State.lateOf]
  split
  · exact List.mem_range.mpr k.isLt
  · exact List.mem_append_left _ (List.mem_map_of_mem hk)

/-! ### Lock, service and log (R462-R464, R471) -/

theorem lockoutEnd_shows (s : State) : (s.set CS_STAT_LOCKOUT_S 0).f CS_STAT_LOCKOUT_S = 0 ∧
    (s.set CS_STAT_LOCKOUT_S 0).locked = s.locked ∧ SameRegsBut [CS_STAT_A] s (s.set CS_STAT_LOCKOUT_S 0) :=
  ⟨s.f_set_fits CS_STAT_LOCKOUT_S 0 (by decide) (by decide), State.on_of_f (s.f_set_disjoint CS_STAT_LOCKOUT_S CS_STAT_LOCKED 0 (by decide)),
    SameRegsBut.set_one s CS_STAT_LOCKOUT_S 0⟩

theorem acked_shows {v : Nat} (hv : v < 2 ^ 32) (s : State) : (showLog (s.set CL_ACKED_SEQ v)).f CL_ACKED_SEQ = v ∧
    SameRegsBut [CL_ACKED_A, CL_STAT_A] s (showLog (s.set CL_ACKED_SEQ v)) := by
  have hlog := (showLog_keepsPort (s.set CL_ACKED_SEQ v)).regs
  refine ⟨(hlog.f CL_ACKED_SEQ (by decide)).trans (s.f_set_fits CL_ACKED_SEQ v (by decide) hv), fun a ha => ?_⟩
  rw [List.mem_cons, List.mem_singleton, not_or] at ha
  exact (hlog a ha.2).trans (s.word_set_ne CL_ACKED_SEQ v a ha.1)

/-- The check shows its result, and reports a difference (R468). -/
theorem cfgCrcCheck_shows (same : Bool) (s : State) :
    (cfgCrcCheck same s).on CS_STAT_CRC_OK = (same && (s.word CS_CRC_A).toNat == s.cfgCrc) ∧ SameRegsBut [CS_STAT_A] s (cfgCrcCheck same s) ∧
      (cfgCrcCheck same s).flt = (if same && (s.word CS_CRC_A).toNat == s.cfgCrc then s else s.raiseU 0x3D9).flt := by
  have hok : ∀ b, (s.setB CS_STAT_CRC_OK b).on CS_STAT_CRC_OK = b := fun b => s.on_setB_same CS_STAT_CRC_OK b (by decide) rfl
  have hregs : ∀ b, SameRegsBut [CS_STAT_A] s (s.setB CS_STAT_CRC_OK b) := fun b => SameRegsBut.set_one s CS_STAT_CRC_OK _
  rw [cfgCrcCheck_eq]
  generalize (same && (s.word CS_CRC_A).toNat == s.cfgCrc) = ok
  cases ok with
  | true => exact ⟨hok true, hregs true, rfl⟩
  | false => exact ⟨hok false, (hregs false).of_regs rfl, State.raiseU_flt_congr _ rfl rfl rfl⟩

/-! ### TICK (R33, R42, R511) -/

/-- After a TICK the pages are ready from step 2 on. -/
theorem tickTail_ready (s : State) (h : 2 ≤ (tickTail s).f SU_STAT_STEP) : (tickTail s).cf.ready = true := by
  unfold tickTail at h ⊢
  dsimp only at h ⊢
  generalize suTick _ = t at h ⊢
  have hstep : 2 ≤ t.f SU_STAT_STEP := h
  simp [hstep]

theorem tickAll_ready (x : Snap) (s : State) (h : 2 ≤ (tickAll x s).f SU_STAT_STEP) : (tickAll x s).cf.ready = true := by
  unfold tickAll at h ⊢
  split at h
  · next hq =>
    rw [if_pos hq]
    exact tickTail_ready _ h
  · next hq =>
    rw [if_neg hq]
    exact tickTail_ready _ h

/-! ### SYNC_N and ALARM_N (R37, R304-R307) -/

/-- An edge that comes while the module drives the line, or meets one that does, is a conflict. -/
def State.conflictNoted (s : State) (off : Int) : State :=
  let driving := s.on MM_STAT_SYNC_DRV
  let conflict := (driving || s.mm.conflictEp) && decide (off < -50)
  let newEp := conflict && driving && !s.mm.conflictEp && !s.mm.conflictNow
  let s := { s with mm := { s.mm with conflictNow := s.mm.conflictNow || conflict } }
  if newEp then (s.inc MM_CNT_SYNC_CONF).raiseU 0x306 else s

/-- With a conflict or without, an edge is measured. -/
theorem syncEdge_measured (off : Int) (s : State) : syncEdge off s =
    if 2000 < off.natAbs then (s.conflictNoted off).measured (-(off + ((s.conflictNoted off).f MM_CFG_SYNC_DLY : Nat)))
    else ((s.conflictNoted off).measured (-(off + ((s.conflictNoted off).f MM_CFG_SYNC_DLY : Nat)))).syncPresent := (rfl)

theorem State.conflictNoted_delay (s : State) (off : Int) : (s.conflictNoted off).f MM_CFG_SYNC_DLY = s.f MM_CFG_SYNC_DLY := by
  unfold State.conflictNoted
  extract_lets driving conflict newEp _ t
  have ht : t.f MM_CFG_SYNC_DLY = s.f MM_CFG_SYNC_DLY := rfl
  clear_value t
  split
  · exact (t.f_inc_ne MM_CNT_SYNC_CONF MM_CFG_SYNC_DLY (by decide)).trans ht
  · exact ht

theorem syncEdge_offset (off : Int) (s : State) :
    (off.natAbs ≤ 2000 → (syncEdge off s).on MM_STAT_SYNC_OK = true ∧ (syncEdge off s).mm.syncEdge = true ∧ (syncEdge off s).mm.syncMiss = 0) ∧
      (syncEdge off s).fI TICK_ALIGN_OFFSET = satSigned 16 (-(off + (s.f MM_CFG_SYNC_DLY : Nat))) := by
  rw [syncEdge_measured, s.conflictNoted_delay off]
  generalize -(off + (s.f MM_CFG_SYNC_DLY : Nat)) = o
  generalize s.conflictNoted off = t
  have hoff : (t.measured o).fI TICK_ALIGN_OFFSET = satSigned 16 o :=
    (State.fI_of_f (State.f_congr (t.measured_keeps o).1 _)).trans (t.offsetShown_fI o)
  split
  · next hfar => exact ⟨fun hn => absurd hn (by omega), hoff⟩
  · exact ⟨fun _ => ⟨State.syncPresent_ok _, rfl, rfl⟩, (State.fI_of_f (State.syncPresent_f _ _ (by decide))).trans hoff⟩

/-- The ring master's tick is no longer shown. -/
def State.syncGone (s : State) : State := { (s.setB MM_STAT_SYNC_OK false) with mm := { s.mm with syncLossEp := true } }

theorem syncLoss_eq {s : State} (h : 3 ≤ s.mm.syncMiss) :
    syncLoss s = if s.mm.syncLossEp then s.syncGone else s.syncGone.raiseU 0x305 := if_pos h

theorem syncLoss_shows {s : State} (h : 3 ≤ s.mm.syncMiss) : (syncLoss s).on MM_STAT_SYNC_OK = false ∧ (syncLoss s).mm.syncLossEp = true ∧
    SameRegsBut [MM_STAT_A] s (syncLoss s) ∧ (s.mm.syncLossEp = false → (syncLoss s).flt = (s.raiseU 0x305).flt) := by
  have hok : s.syncGone.on MM_STAT_SYNC_OK = false := s.on_setB_same MM_STAT_SYNC_OK false (by decide) rfl
  have hregs : SameRegsBut [MM_STAT_A] s s.syncGone := (SameRegsBut.set_one s MM_STAT_SYNC_OK 0).of_regs rfl
  rw [syncLoss_eq h]
  split
  · next hep => exact ⟨hok, rfl, hregs, fun hno => absurd hep (by simp [hno])⟩
  · exact ⟨hok, rfl, hregs.of_regs rfl, fun _ => State.raiseU_flt_congr _ rfl rfl rfl⟩

theorem alarmSeen_shows (s : State) : (alarmSeen s).mm = s.mm ∧
    (alarmSeen s).on MM_STAT_ALARM_IN = (s.mm.alarmPin && !s.on MM_STAT_ALARM_OUT) ∧ SameRegsBut [MM_STAT_A] s (alarmSeen s) := by
  unfold alarmSeen
  extract_lets low was t
  have hin : t.on MM_STAT_ALARM_IN = low := s.on_setB_same MM_STAT_ALARM_IN low (by decide) rfl
  have hregs : SameRegsBut [MM_STAT_A] s t := SameRegsBut.set_one s MM_STAT_ALARM_IN _
  have hmm : t.mm = s.mm := rfl
  clear_value t
  split
  · exact ⟨hmm, hin, hregs.of_regs rfl⟩
  · exact ⟨hmm, hin, hregs⟩

/-! ### O60 -/

/-- Settles O60: every command by the law of its operation. -/
theorem sensorLockTickAndLineCommandsComplete : Obligations.SensorLockTickAndLineCommandsComplete := by
  unfold Obligations.SensorLockTickAndLineCommandsComplete
  refine ⟨fun r s hd hq hen hc => ?excitation, fun w s hd hen hc => ⟨?wsOpen, ?wsShort⟩, fun k s hd hq hk hen hrun hval => ?range,
    fun k s hd hq hfrz hval => ?freeze, fun k s hd hq hn hpos hsaid hthree hval => ?crossLane, fun h s hd hq hen hrun hsaid => ?sense,
    fun late s hd hq => ?late, fun s hd => ⟨?lockout, ?idle, ?lock, ?discard, ?exit, fun same => ?crc⟩, fun s hd hl => ?request,
    fun s hd hs hreq hl ht hperm hslow => ?service, fun v s hd hl ha hn => ?ack, fun x s hd hl => ?tick, fun off s hd => ?edge,
    fun s hd => ?pulse, fun s hd hmiss => ?loss, fun s hd => ⟨?alarmLow, ?alarmHigh⟩⟩
  case excitation => exact ⟨_, exec_resExcitationFault hd hq hen hc, by simp, rfl, rfl⟩
  case wsOpen => exact ⟨_, exec_wsOpen hd hen hc, by simp, rfl, rfl⟩
  case wsShort =>
    exact ⟨_, exec_wsShort hd hen hc, by simp [State.setB_eq], State.on_setB_same _ (WS_STAT_SUP_OFF w) true (Fld.fits rfl) rfl,
      (SameRegsBut.set_one _ (WS_STAT_SUP_OFF w) 1).of_regs rfl, rfl⟩
  case range =>
    obtain ⟨hinv, hcause, hvalid, hregs⟩ := s.makeInvalid_channel (c := 1) k.isLt (by decide) hval
    exact ⟨_, exec_chRange hd hq hk hen hrun hval, hinv, hcause, hvalid, hregs.of_regs rfl, (s.makeInvalid_flt k 1).2.1 _⟩
  case freeze =>
    exact ⟨_, exec_fbFreeze hd hq hfrz hval, s.makeInvalid_on k _, State.makeInvalid_firstCause (by split <;> decide) hval,
      (s.makeInvalid_flt k _).2.2 _ _⟩
  case crossLane =>
    refine ⟨_, exec_fbXchk hd hq hn hpos hsaid hthree, by simp, State.makeInvalid_on _ k _, State.makeInvalid_firstCause (by split <;> decide) hval,
      (State.makeInvalid_flt _ k _).1⟩
  case sense =>
    obtain ⟨hinv, hsaidNow, hcause⟩ := s.senseMarked_shows (h := h) (by omega)
    obtain ⟨hbridge, hstate, hlegs⟩ := senseReport_shows (u := h / 3) (by omega) (s.senseMarked h)
    obtain ⟨hinv', hcause', hinp⟩ := hbridge.channel h
    have hexec : exec (.senseLost h) s = .next (framed s (senseReport (h / 3) (s.senseMarked h))) := exec_senseLost hd hq hen hrun hsaid
    generalize senseReport (h / 3) (s.senseMarked h) = t at *
    exact ⟨_, hexec, hinv'.trans hinv, by rw [framed_inp]; exact (congrArg InpSt.rangeSaid hinp).trans hsaidNow,
      fun hval => hcause'.trans (hcause hval), hstate, hlegs⟩
  case late =>
    obtain ⟨hnone, hshown⟩ := freezeEnd_shows (s.lateOf late) s
    refine ⟨_, exec_inputFreezeEnd hd hq late, hnone, fun k hk => ?_⟩
    obtain ⟨hvalue, hvalid, hinp⟩ := hshown k k.isLt (s.lateOf_names hk)
    exact ⟨hvalue, hvalid, by rw [framed_inp, hinp]; rfl, by rw [framed_inp, hinp]; rfl⟩
  case lockout => exact ⟨_, s.runIn_on 7 (fun s => s.set CS_STAT_LOCKOUT_S 0) hd, lockoutEnd_shows s⟩
  case idle =>
    obtain ⟨hlock, hreq, -, hregs⟩ := relock_shows s
    exact ⟨_, s.runIn_on 7 relock hd, hlock, hreq, hregs⟩
  case lock =>
    obtain ⟨hlock, hreq, -, hregs⟩ := relock_shows s
    exact ⟨_, s.runIn_on 7 relock hd, hlock, hreq, hregs⟩
  case discard => exact ⟨_, s.runIn_on 7 discard hd, rfl, rfl⟩
  case exit =>
    obtain ⟨hreq, hdue, -, hregs⟩ := serviceExit_shows s
    exact ⟨_, s.runIn_on 7 serviceExit hd, hreq, hdue, hregs⟩
  case crc => exact ⟨_, s.runIn_on 7 (cfgCrcCheck same) hd, cfgCrcCheck_shows same s⟩
  case request =>
    have hreq : counted 0x003 (serviceReq s) = s.setB CS_STAT_SERVICE_REQ true := by
      rw [serviceReq, hl]
      rfl
    exact ⟨_, State.runIn_to (f := fun s => counted 0x003 (serviceReq s)) hd hreq rfl rfl rfl,
      s.on_setB_same CS_STAT_SERVICE_REQ true (by decide) rfl, SameRegsBut.set_one s CS_STAT_SERVICE_REQ 1⟩
  case service =>
    have hok : s.serviceOk = true := by simp [State.serviceOk, hl, ht, hperm, hslow]
    obtain ⟨hserv, hused, hshow, -, hregs⟩ := serviceBegun_shows s
    exact ⟨_, State.runIn_to (f := serviceEnter) hd (serviceEnter_enters hs hreq hok) rfl rfl rfl, hserv, hshow, hused, hregs⟩
  case ack =>
    have hlog : counted 0x003 (ackLog v.toNat s) = showLog (s.set CL_ACKED_SEQ v.toNat) := by
      rw [ackLog_taken hl ha hn]
      rfl
    exact ⟨_, State.runIn_to (f := fun s => counted 0x003 (ackLog v.toNat s)) hd hlog rfl rfl rfl, acked_shows v.isLt s⟩
  case tick =>
    have hexec : exec (.tick x) s = .next (framed s (tickAll x s)) := s.runIf_on 2 (!s.inLrst) (tickAll x) hd (by rw [hl]; rfl)
    refine ⟨_, hexec, fun hq => ?_, fun hq => ?_, tickAll_ready x s, rfl, rfl⟩
    · rw [tickAll, hq]
      rfl
    · rw [tickAll, hq]
      rfl
  case edge => exact ⟨_, s.runIn_on 4 (syncEdge off) hd, syncEdge_offset off s⟩
  case pulse => exact ⟨_, s.runIn_on 4 (fun s => { s with mm := { s.mm with pulse := false } }) hd, rfl, rfl⟩
  case loss => exact ⟨_, s.runIn_on 4 syncLoss hd, syncLoss_shows hmiss⟩
  case alarmLow =>
    obtain ⟨hmm, hin, hregs⟩ := alarmSeen_shows (s.alarmPin true)
    exact ⟨_, s.runIn_on 4 (fun s => alarmSeen (s.alarmPin true)) hd, by rw [framed_mm, hmm]; rfl, hin, hregs⟩
  case alarmHigh =>
    obtain ⟨hmm, hin, hregs⟩ := alarmSeen_shows (s.alarmPin false)
    exact ⟨_, s.runIn_on 4 (fun s => alarmSeen (s.alarmPin false)) hd, by rw [framed_mm, hmm]; rfl, hin, hregs⟩

end Sys2Proof.Machine
end
